-- ==== Sys2Proof/Word.lean ====
section
/-! DEFINITION. The word, byte and table types every other file uses (R8: registers are 32 bits wide). -/

namespace Sys2Proof

/-- A register value (R8). -/
abbrev Word := BitVec 32

/-- One byte of a frame, descriptor or memory. -/
abbrev Byte := BitVec 8

/-- A frame, packet, descriptor or payload, first byte first. -/
abbrev Bytes := List Byte

/-- A sparse table: keys strictly rising, no entry equal to its key's default (see Machine/Tab.lean). -/
abbrev Tab (α : Type) := List (Nat × α)

end Sys2Proof
end

