-- ==== Sys2Proof/Syntax.lean ====
section
/-! DEFINITION. The commands the module takes and the plain data their operands are made of. -/

namespace Sys2Proof

/-- The paths by which a register access arrives (R90). -/
inductive APath where
  /-- BAR0 through host port h -/
  | bar0 (h : Nat)
  /-- the VF BAR of VI v -/
  | vfBar (v : Nat)
  /-- Halyard engine e over its ring stop -/
  | engine (e : Nat)
  /-- the management port, in a session opened by the fabric manager -/
  | session
  /-- the management controller's own firmware -/
  | firmware
  /-- the Lanyard link, from the twin -/
  | lanyard
  /-- the write of an executing Zynken command of origin o; it never arrives from outside -/
  | command (o : Nat)
deriving DecidableEq, Repr

/-- The origin ID that a path gives an access (R15 R90). -/
def APath.origin : APath → Nat
  | .bar0 h => 0x10 + h
  | .vfBar v => 0x1000 + v
  | .engine e => 0x100 + e
  | .session => 1
  | .firmware => 0
  | .lanyard => 0x200
  | .command o => o

/-- A narrow or unaligned access: its path, and whether it writes. -/
structure Narrow where
  path : APath
  write : Bool
deriving DecidableEq, Repr

/-- One register write as it arrives: its path, the address (BAR0 offset, or 0x1000_0000 + v * 0x1_0000 + offset for the
VF BAR of VI v) and the value. -/
structure RegWrite where
  path : APath
  addr : Nat
  value : Word
deriving DecidableEq, Repr

/-- The origin of a write, which its path alone gives (R90). -/
def RegWrite.origin (w : RegWrite) : Nat := w.path.origin

/-- One set of readings of the MGMT sensors (R38 R41 R42). -/
structure ThermalReading where
  /-- 48 V rail in 10 mV -/
  v48 : Nat
  /-- 12 V auxiliary rail in 10 mV -/
  v12 : Nat
  /-- 48 V current in 10 mA -/
  i48 : Nat
  /-- power in W -/
  watts : Nat
  outlet : Nat
  inlet : Nat
  flow : Nat
  opteMax : Nat
  dieMax : Nat
deriving DecidableEq, Repr

/-- What a lane's receiver saw in the tick that ends (R141-R147). -/
structure LaneObs where
  port : Nat
  lane : Nat
  /-- codewords received, symbols corrected and codewords uncorrectable -/
  codewords : Nat
  corrected : Nat
  uncorrectable : Nat
  /-- eye figure of merit measured, 0-255 -/
  eye : Nat
  /-- received optical power, R160's units -/
  power : Nat
  /-- the clock recovery is locked -/
  locked : Bool
deriving DecidableEq, Repr

/-- What is observed at a tick boundary: the lanes; the jobs 0-8 whose run is still in progress, and the journalling
shares, as 16 + share; the core cycle in which each completed job ended; and the audit pools whose compare did not end in
its window, numbered as AUDIT_FAIL0 [30:0] names them (R577). -/
structure TickObs where
  lanes : List LaneObs
  late : List Nat
  ends : List (Nat × Nat)
  unread : List Nat
deriving DecidableEq, Repr

/-- The path a Zynken frame arrives by (R111 R112). -/
inductive ZPath where
  | mgmt
  | host (h : Nat)
  | engine (e : Nat)
  | lanyard
deriving DecidableEq, Repr

/-- The CXL.mem requests of R483. -/
inductive CxlKind where
  | readShared
  | readExclusive
  | write
deriving DecidableEq, Repr

/-- What a host-port link carries once it is up (R425-R430): CXL, lanes, rate code and the configuration the host
wrote into the function headers. -/
structure HostCfg where
  cxl : Bool
  lanes : Nat
  rate : Nat
  numVfs : Nat
  vfEnable : Bool
  ari : Bool
  tag10 : Bool
  atomicReq : Bool
  pfBme : Bool
  /-- ATS Enable of the VFs -/
  ats : Bool
  mps : Nat
  mrrs : Nat
deriving DecidableEq, Repr

/-- A node of the tree that firmware lays out for a group (R382-R384): router, index of its parent node in the
list (none for the root) and the ranks of its local members, in slot order. -/
structure TreeNode where
  router : Nat
  parent : Option Nat
  members : List Nat
deriving DecidableEq, Repr


/-- The commands, one constructor for each row of the command table, in the table's order of families. -/
inductive Instr where
  /-- STAGE2_MATE (Power) -/
  | stage2Mate (filterLow : Bool)
  /-- PRESENCE_MATE (Power) -/
  | presenceMate (contactB : Bool)
  /-- PRESENCE_DEBOUNCED (Power) -/
  | presenceDebounced (contactB : Bool)
  /-- PRSNT_SKEW_TIMEOUT (Power) -/
  | prsntSkewTimeout
  /-- MAIN_EN_ASSERT (Power) -/
  | mainEnAssert (lowMs : Nat)
  /-- HOT_SWAP_CLOSE (Power) -/
  | hotSwapClose
  /-- MAIN_GOOD (Power) -/
  | mainGood
  /-- POWER_ON_STEP (Power) -/
  | powerOnStep
  /-- PLL_LOCK_TIMEOUT (Power) -/
  | pllLockTimeout
  /-- POST_COMPLETE (Power) -/
  | postComplete (failed : List Nat)
  /-- PRESENCE_LOSS (Power) -/
  | presenceLoss (contactB : Bool)
  /-- MAIN_EN_DEASSERT (Power) -/
  | mainEnDeassert
  /-- UNDER_VOLTAGE (Power) -/
  | underVoltage
  /-- OVER_VOLTAGE (Power) -/
  | overVoltage
  /-- AUX_RAIL_LOSS (Power) -/
  | auxRailLoss
  /-- AUXILIARY_POWER_UP (Power) -/
  | auxiliaryPowerUp
  /-- THERMAL_SAMPLE (Power) -/
  | thermalSample (t : ThermalReading)
  /-- TEMPERATURE_TRIP (Power) -/
  | temperatureTrip
  /-- CRIT_POWER_OFF (Power) -/
  | critPowerOff
  /-- LEAK (Power) -/
  | leak (asserted : Bool)
  /-- ATTN_REQ (Power) -/
  | attnReq (asserted : Bool)
  /-- REF_INPUT_GOOD (Clock) -/
  | refInputGood (inputB : Bool)
  /-- REF_INPUT_LOSS (Clock) -/
  | refInputLoss (inputB : Bool)
  /-- HOLDOVER_TIMEOUT (Clock) -/
  | holdoverTimeout
  /-- REFSEL_WRITE (Clock) -/
  | refselWrite (w : RegWrite)
  /-- TICK_BOUNDARY (Tick) -/
  | tickBoundary (o : TickObs)
  /-- TICK_MARKER_RECEIVE (Clock) -/
  | tickMarkerReceive (port : Nat) (frame : Bytes) (arrival : Int)
  /-- CLEARANCE_SCHEDULING (Xpt) -/
  | clearanceScheduling (unit : Nat) (reach : Nat) (endCc : Nat)
  /-- ADAPTIVE_WEIGHT_UPDATE (Routing) -/
  | adaptiveWeightUpdate (endCc : Nat)
  /-- WEIGHTS_IN_FORCE (Routing) -/
  | weightsInForce
  /-- PAIRED_JOURNALLING (Lanyard) -/
  | pairedJournalling (share : Nat) (endCc : Nat)
  /-- REGISTER_WRITE (Access) -/
  | registerWrite (ws : List RegWrite)
  /-- NARROW_ACCESS (Access) -/
  | narrowAccess (access : Narrow) (addr : Nat)
  /-- PAIR_LO_READ (Access) -/
  | pairLoRead (path : APath) (addr : Nat)
  /-- PAIR_LO_WRITE (Access) -/
  | pairLoWrite (w : RegWrite)
  /-- PAIR_HI_COMMIT (Access) -/
  | pairHiCommit (ws : List RegWrite)
  /-- READ_CLEAR (Access) -/
  | readClear (path : APath) (addr : Nat)
  /-- BLK_ENABLE_WRITE (Collar) -/
  | blkEnableWrite (w : RegWrite)
  /-- SOFT_RESET (Collar) -/
  | softReset (w : RegWrite)
  /-- FENCE_REQUEST (Collar) -/
  | fenceRequest (w : RegWrite)
  /-- FENCE_COMPLETE (Collar) -/
  | fenceComplete (page : Nat)
  /-- FENCE_RELEASE (Collar) -/
  | fenceRelease (w : RegWrite)
  /-- FENCE_TIMEOUT (Collar) -/
  | fenceTimeout (page : Nat)
  /-- BLK_ERRINJ_WRITE (Collar) -/
  | blkErrinjWrite (w : RegWrite)
  /-- ERROR_INJECTION_RAISE (Collar) -/
  | errorInjectionRaise (page : Nat)
  /-- SELF_TEST_START (Collar) -/
  | selfTestStart (w : RegWrite)
  /-- SELF_TEST_VERDICT (Collar) -/
  | selfTestVerdict (page : Nat) (verdict : Nat) (fails : Nat)
  /-- JOURNAL_RECORD_WRITE (Journal) -/
  | journalRecordWrite
  /-- JOURNAL_SIZE_WRITE (Journal) -/
  | journalSizeWrite (w : RegWrite)
  /-- JOURNAL_RECORD_READ (Journal) -/
  | journalRecordRead (path : APath) (word : Nat)
  /-- MIRROR_RECORD_WRITE (Journal) -/
  | mirrorRecordWrite (port : Nat)
  /-- ROUTE_COMMIT (Zynken) -/
  | routeCommit (path : ZPath) (frame : Bytes)
  /-- SVC_STATE (Zynken) -/
  | svcState (path : ZPath) (frame : Bytes)
  /-- VI_CREATE (Zynken) -/
  | viCreate (path : ZPath) (frame : Bytes)
  /-- VI_DESTROY (Zynken) -/
  | viDestroy (path : ZPath) (frame : Bytes)
  /-- KEY_UPDATE (Zynken) -/
  | keyUpdate (path : ZPath) (frame : Bytes)
  /-- KEY_PENDING_EFFECT (Zynken) -/
  | keyPendingEffect (slot : Nat)
  /-- KEY_LOAD_INITIAL (Zynken) -/
  | keyLoadInitial (path : ZPath) (frame : Bytes)
  /-- FW_ACTIVATE (Zynken) -/
  | fwActivate (path : ZPath) (frame : Bytes)
  /-- FW_IMAGE_CHECK_END (Firmware) -/
  | fwImageCheckEnd (kind : Nat)
  /-- CLEAT_RELEASE (Zynken) -/
  | cleatRelease (path : ZPath) (frame : Bytes)
  /-- TICK_ELECT (Zynken) -/
  | tickElect (path : ZPath) (frame : Bytes)
  /-- PAIR_FAILOVER (Zynken) -/
  | pairFailover (path : ZPath) (frame : Bytes)
  /-- DUMP_TRIGGER (Zynken) -/
  | dumpTrigger (path : ZPath) (frame : Bytes)
  /-- OWNER_CHANGE (Zynken) -/
  | ownerChange (path : ZPath) (frame : Bytes)
  /-- REG_WRITE_KEYED (Zynken) -/
  | regWriteKeyed (path : ZPath) (frame : Bytes)
  /-- SESSION_OPEN (Zynken) -/
  | sessionOpen (path : ZPath) (frame : Bytes)
  /-- SESSION_CLOSE (Zynken) -/
  | sessionClose (path : ZPath) (frame : Bytes)
  /-- REG_READ (Zynken) -/
  | regRead (path : ZPath) (frame : Bytes)
  /-- REG_WRITE (Zynken) -/
  | regWrite (path : ZPath) (frame : Bytes)
  /-- SESSION_IDLE_TIMEOUT (Zynken) -/
  | sessionIdleTimeout
  /-- MGMT_LINK_LOSS (Zynken) -/
  | mgmtLinkLoss
  /-- HWM_PERSISTED (Zynken) -/
  | hwmPersisted (origin : Nat)
  /-- ZCMD_GO (Zynken) -/
  | zcmdGo (w : RegWrite) (frame : Bytes)
  /-- RETRAIN (Lanes) -/
  | retrain (w : RegWrite)
  /-- LTF_RECEIVE (Lanes) -/
  | ltfReceive (port : Nat) (lane : Nat) (ltf : Bytes)
  /-- STEP_CHANGE (Lanes) -/
  | stepChange (port : Nat)
  /-- BOND_FORMED (Lanes) -/
  | bondFormed (port : Nat) (skewNs : Nat)
  /-- LANE_QUALIFIED (Lanes) -/
  | laneQualified (port : Nat) (lane : Nat)
  /-- TRAIN_TIMEOUT (Lanes) -/
  | trainTimeout (port : Nat) (lane : Nat)
  /-- STEP_TIMEOUT (Lanes) -/
  | stepTimeout (port : Nat) (lane : Nat)
  /-- LANE_ERROR_BURST (Lanes) -/
  | laneErrorBurst (port : Nat) (lane : Nat)
  /-- LANE_TEST_END (Lanes) -/
  | laneTestEnd (port : Nat) (lane : Nat) (errors : Nat) (bits : Nat)
  /-- LANE_TEST_TIMEOUT (Lanes) -/
  | laneTestTimeout (port : Nat) (lane : Nat)
  /-- LOS_ASSERT (Lanes) -/
  | losAssert (port : Nat) (lane : Nat)
  /-- LOS_CLEAR (Lanes) -/
  | losClear (port : Nat) (lane : Nat)
  /-- LOL_ASSERT (Lanes) -/
  | lolAssert (port : Nat) (lane : Nat)
  /-- LOL_CLEAR (Lanes) -/
  | lolClear (port : Nat) (lane : Nat)
  /-- AUTOMATIC_POWER_CONTROL (Optics) -/
  | automaticPowerControl (opte : Nat) (diode : Nat) (set : Nat) (reached : Nat) (pout : Nat)
  /-- SHORTFALL_LASTING (Optics) -/
  | shortfallLasting (opte : Nat) (wave : Nat)
  /-- FORCE_SPARE (Optics) -/
  | forceSpare (w : RegWrite)
  /-- SPARE_SELECTOR_MOVE (Optics) -/
  | spareSelectorMove (opte : Nat) (wave : Nat) (pout : Nat)
  /-- PORT_UP (Link) -/
  | portUp (port : Nat)
  /-- DATA_FRAME_RECEIVE (Link) -/
  | dataFrameReceive (port : Nat) (frame : Bytes)
  /-- ACK_FRAME_RECEIVE (Link) -/
  | ackFrameReceive (port : Nat) (frame : Bytes)
  /-- IDENT_FRAME_RECEIVE (Link) -/
  | identFrameReceive (port : Nat) (frame : Bytes)
  /-- IDENT_RESEND_TIMER (Link) -/
  | identResendTimer (port : Nat)
  /-- FRAME_BOUNDARY (Link) -/
  | frameBoundary (port : Nat) (underrun : Bool)
  /-- REPLAY_TIMER_EXPIRY (Link) -/
  | replayTimerExpiry (port : Nat)
  /-- EMPTY_ACK_TIMER (Link) -/
  | emptyAckTimer (port : Nat)
  /-- ERROR_WINDOW_EXCEEDED (Link) -/
  | errorWindowExceeded (port : Nat)
  /-- HOLD_EXPIRY (Link) -/
  | holdExpiry (port : Nat)
  /-- ROUTE_DECISION (Routing) -/
  | routeDecision (tile : Nat) (input : Nat) (vc : Nat)
  /-- CROSSING_ROUND (Switch) -/
  | crossingRound
  /-- PACKET_BUFFER_ECC_ERROR (Switch) -/
  | packetBufferEccError (tile : Nat) (row : Nat) (corrected : Bool) (victim : Nat)
  /-- ALLOTMENT_WRITE (Switch) -/
  | allotmentWrite (w : RegWrite)
  /-- REEF_WRITE (Switch) -/
  | reefWrite (w : RegWrite)
  /-- ROUTE_TABLE_WINDOW_WRITE (Routing) -/
  | routeTableWindowWrite (path : APath) (offset : Nat) (value : Word)
  /-- ROUTE_COPY (Routing) -/
  | routeCopy (w : RegWrite)
  /-- COPY_COMPLETE (Routing) -/
  | copyComplete
  /-- COMMIT_DEADLINE (Routing) -/
  | commitDeadline
  /-- TELLTALE_RECEIVE (Routing) -/
  | telltaleReceive (port : Nat) (frame : Bytes)
  /-- ROUTE_REPLICA_RELOAD (Routing) -/
  | routeReplicaReload (tile : Nat) (done : Bool)
  /-- PACKET_ADMIT (Xpt) -/
  | packetAdmit (unit : Nat) (data : Bytes)
  /-- WILUTH_DATA_RECEIVE (XptRx) -/
  | wiluthDataReceive (pkt : Bytes)
  /-- INTENT_RECEIVE (XptRx) -/
  | intentReceive (unit : Nat)
  /-- GRANT_RECEIVE (XptRx) -/
  | grantReceive (unit : Nat)
  /-- WILUTH_ACK_RECEIVE (XptRx) -/
  | wiluthAckReceive (pkt : Bytes)
  /-- RESET_RECEIVE (XptRx) -/
  | resetReceive (pkt : Bytes)
  /-- NOTICE_RECEIVE (XptRx) -/
  | noticeReceive (unit : Nat)
  /-- CLOSE_RECEIVE (XptRx) -/
  | closeReceive (pkt : Bytes)
  /-- GAP_FILL_RECEIVE (XptRx) -/
  | gapFillReceive (pkt : Bytes)
  /-- RETRANSMIT_TIMER_EXPIRY (Xpt) -/
  | retransmitTimerExpiry (loc : Nat) (rem : Nat) (seq : Nat)
  /-- GIVEUP_EXPIRY (Xpt) -/
  | giveupExpiry (loc : Nat) (rem : Nat) (seq : Nat)
  /-- CONTEXT_IDLE_CLOSE (Xpt) -/
  | contextIdleClose (loc : Nat) (rem : Nat)
  /-- TOMBSTONE_EXPIRY (Xpt) -/
  | tombstoneExpiry (loc : Nat) (rem : Nat)
  /-- REOPEN_DELAY_END (Xpt) -/
  | reopenDelayEnd (loc : Nat) (rem : Nat)
  /-- NOP (Rma) -/
  | nop (vi : Nat) (queue : Nat)
  /-- PUT (Rma) -/
  | put (vi : Nat) (queue : Nat)
  /-- PUT_SIGNAL (Rma) -/
  | putSignal (vi : Nat) (queue : Nat)
  /-- GET (Rma) -/
  | get (vi : Nat) (queue : Nat)
  /-- ATOMIC (Rma) -/
  | atomic (vi : Nat) (queue : Nat) (operand : Bytes)
  /-- WIN_REGISTER (Windows) -/
  | winRegister (vi : Nat) (queue : Nat)
  /-- WIN_REVOKE (Windows) -/
  | winRevoke (vi : Nat) (queue : Nat)
  /-- PUT_PACKET_RECEIVE (Mwu) -/
  | putPacketReceive (unit : Nat)
  /-- GET_REQ_RECEIVE (Mwu) -/
  | getReqReceive (unit : Nat)
  /-- GET_RSP_RECEIVE (Mwu) -/
  | getRspReceive (unit : Nat)
  /-- SIGNAL_RECEIVE (Mwu) -/
  | signalReceive (unit : Nat)
  /-- ATOMIC_RECEIVE (Mwu) -/
  | atomicReceive (unit : Nat)
  /-- ATOMIC_RSP_RECEIVE (Mwu) -/
  | atomicRspReceive (unit : Nat)
  /-- ATOMICOP_ERROR_COMPLETION (Mwu) -/
  | atomicopErrorCompletion (access : Nat)
  /-- ACCESS_DISPOSED (Mwu) -/
  | accessDisposed (access : Nat) (data : Bytes)
  /-- FENCE_DEADLINE (Mwu) -/
  | fenceDeadline (window : Nat)
  /-- DESCRIPTOR_ECC_ERROR (Mwu) -/
  | descriptorEccError (window : Nat) (corrected : Bool) (row : Nat)
  /-- MSEND (Matching) -/
  | msend (vi : Nat) (queue : Nat)
  /-- MRECV (Matching) -/
  | mrecv (vi : Nat) (queue : Nat)
  /-- PROBE (Matching) -/
  | probe (vi : Nat) (queue : Nat)
  /-- RECV_CLAIMED (Matching) -/
  | recvClaimed (vi : Nat) (queue : Nat)
  /-- CANCEL (Matching) -/
  | cancel (vi : Nat) (queue : Nat)
  /-- MATCH_RESUME (Matching) -/
  | matchResume (vi : Nat) (queue : Nat)
  /-- MSEND_ARRIVAL (Matching) -/
  | msendArrival (unit : Nat)
  /-- MDATA_ARRIVAL (Matching) -/
  | mdataArrival (unit : Nat)
  /-- BOUNCE_COPY_DONE (Matching) -/
  | bounceCopyDone (vi : Nat) (copy : Nat)
  /-- MATCH_ECC_ERROR (Matching) -/
  | matchEccError (vi : Nat) (corrected : Bool) (row : Nat)
  /-- GROUP_CREATE (CollGroup) -/
  | groupCreate (vi : Nat) (queue : Nat) (table : Bytes) (tree : List TreeNode)
  /-- GROUP_LEAVE (CollGroup) -/
  | groupLeave (vi : Nat) (queue : Nat)
  /-- GROUP_CLOSE (CollGroup) -/
  | groupClose (vi : Nat) (queue : Nat)
  /-- COLL_STEP (CollStep) -/
  | collStep (vi : Nat) (queue : Nat)
  /-- JOIN (CollGroup) -/
  | join (unit : Nat) (index : Nat)
  /-- JOINED (CollGroup) -/
  | joined (unit : Nat)
  /-- GCTL_COMMIT (CollGroup) -/
  | gctlCommit (unit : Nat) (root : Nat) (places : List (Nat × Nat))
  /-- ABORT (CollGroup) -/
  | abort (unit : Nat)
  /-- REPAIR (CollGroup) -/
  | repair (unit : Nat)
  /-- REPAIRED (CollGroup) -/
  | repaired (unit : Nat)
  /-- GCTL_CLOSE (CollGroup) -/
  | gctlClose (unit : Nat)
  /-- STEP_OPEN_RECEIVE (CollStep) -/
  | stepOpenReceive (unit : Nat)
  /-- LOCAL_SEGMENT_READ (CollStep) -/
  | localSegmentRead (group : Nat) (slot : Nat) (data : Bytes)
  /-- UP_RECEIVE (CollStep) -/
  | upReceive (unit : Nat)
  /-- DOWN_RECEIVE (CollStep) -/
  | downReceive (unit : Nat)
  /-- DIRECT_RECEIVE (CollStep) -/
  | directReceive (unit : Nat)
  /-- CREDIT_RECEIVE (CollStep) -/
  | creditReceive (unit : Nat)
  /-- DONE_RECEIVE (CollStep) -/
  | doneReceive (unit : Nat)
  /-- DEPART_RECEIVE (CollStep) -/
  | departReceive (unit : Nat) (orphaned : List Nat) (repairs : List (Nat × Nat))
  /-- EPOCH_RECEIVE (CollStep) -/
  | epochReceive (unit : Nat)
  /-- COLL_HEARTBEAT (CollStep) -/
  | collHeartbeat (group : Nat) (slot : Nat)
  /-- REPAIR_TIMEOUT (CollGroup) -/
  | repairTimeout (group : Nat)
  /-- QUARANTINE_EXPIRY (CollGroup) -/
  | quarantineExpiry (group : Nat)
  /-- COLL_ECC_ERROR (CollGroup) -/
  | collEccError (group : Nat) (corrected : Bool) (row : Nat)
  /-- PERST (HostReset) -/
  | perst (port : Nat)
  /-- PF_FLR (HostReset) -/
  | pfFlr (port : Nat)
  /-- VF_FLR (HostReset) -/
  | vfFlr (vi : Nat)
  /-- VF_BUS_MASTER_CLEAR (HostReset) -/
  | vfBusMasterClear (vi : Nat)
  /-- VF_ENABLE_CLEAR (HostReset) -/
  | vfEnableClear (port : Nat)
  /-- HOST_LINK_DOWN (HostReset) -/
  | hostLinkDown (port : Nat)
  /-- HOST_LINK_UP (HostReset) -/
  | hostLinkUp (port : Nat) (cfg : HostCfg)
  /-- VI_ENABLE_WRITE (Vi) -/
  | viEnableWrite (w : RegWrite)
  /-- ENABLING_END (Vi) -/
  | enablingEnd (vi : Nat)
  /-- VI_STOP_END (Vi) -/
  | viStopEnd (vi : Nat)
  /-- XLATE_COMMIT (Vi) -/
  | xlateCommit (w : RegWrite)
  /-- CMDQ_ENABLE (Queues) -/
  | cmdqEnable (w : RegWrite)
  /-- CPLQ_ENABLE (Queues) -/
  | cplqEnable (w : RegWrite)
  /-- DB_TAIL (Queues) -/
  | dbTail (vi : Nat) (queue : Nat) (value : Word)
  /-- DB_HEAD (Queues) -/
  | dbHead (vi : Nat) (queue : Nat) (value : Word)
  /-- DB_ARM (Queues) -/
  | dbArm (vi : Nat) (queue : Nat) (value : Word)
  /-- DESCRIPTOR_FETCH (Queues) -/
  | descriptorFetch (port : Nat) (data : Bytes)
  /-- COMPLETION_WRITE (Queues) -/
  | completionWrite (vi : Nat)
  /-- COMPLETION_TIMEOUT (HostReset) -/
  | completionTimeout (port : Nat)
  /-- ATS_INVALIDATE (HostReset) -/
  | atsInvalidate (port : Nat) (fn : Nat) (base : Nat) (len : Nat)
  /-- PARTITION_COMMIT (Memory) -/
  | partitionCommit (w : RegWrite)
  /-- CXL_MEM_REQUEST (Memory) -/
  | cxlMemRequest (port : Nat) (kind : CxlKind) (dpa : Nat) (data : Bytes)
  /-- BIRSP (Memory) -/
  | birsp (line : Nat) (port : Nat) (data : Bytes)
  /-- BIRSP_TIMEOUT (Memory) -/
  | birspTimeout (line : Nat) (port : Nat)
  /-- CLUSTER_RELOAD (Firmware) -/
  | clusterReload (cluster : Nat)
  /-- CLUSTER_RELOAD_COMPLETE (Firmware) -/
  | clusterReloadComplete (cluster : Nat) (failed : List Nat)
  /-- RELOAD_TIMEOUT (Firmware) -/
  | reloadTimeout (cluster : Nat)
  /-- TRIGGER_COUNTER_CHANGE (Trigger) -/
  | triggerCounterChange (cluster : Nat)
  /-- CHAIN_ENTRY_BEGIN (Trigger) -/
  | chainEntryBegin (vi : Nat) (slot : Nat) (engine : Nat)
  /-- CHAIN_FIRING_COMPLETE (Trigger) -/
  | chainFiringComplete (vi : Nat) (slot : Nat)
  /-- CHAIN_ARM (Trigger) -/
  | chainArm (vi : Nat) (queue : Nat) (list : Bytes)
  /-- CHAIN_DISARM (Trigger) -/
  | chainDisarm (vi : Nat) (queue : Nat)
  /-- CTR_SET (Trigger) -/
  | ctrSet (vi : Nat) (queue : Nat)
  /-- CTR_ADD (Trigger) -/
  | ctrAdd (vi : Nat) (queue : Nat)
  /-- CTR_READ (Trigger) -/
  | ctrRead (vi : Nat) (queue : Nat)
  /-- ENGINE_WATCHDOG (Trigger) -/
  | engineWatchdog (engine : Nat)
  /-- CLEAT_READ (Cleats) -/
  | cleatRead (path : APath) (addr : Nat)
  /-- CLEAT_WRITE (Cleats) -/
  | cleatWrite (path : APath) (addr : Nat) (value : Word)
  /-- CLEAT_STALL_END (Cleats) -/
  | cleatStallEnd (stall : Nat)
  /-- DUMP_COMPLETE (Dump) -/
  | dumpComplete (holes : Bool)
  /-- DUMP_LIMIT_EXPIRY (Dump) -/
  | dumpLimitExpiry
  /-- DUMP_HOST_COPY_END (Dump) -/
  | dumpHostCopyEnd (gap : Nat)
  /-- PAIRING_ENABLE (Lanyard) -/
  | pairingEnable (w : RegWrite)
  /-- JOURNAL_FRAME_RECEIVE (Lanyard) -/
  | journalFrameReceive (port : Nat)
  /-- SYNC_DONE_RECEIVE (Lanyard) -/
  | syncDoneReceive (port : Nat)
  /-- TAKEOVER_RECEIVE (Lanyard) -/
  | takeoverReceive (port : Nat)
  /-- TWIN_LOST (Lanyard) -/
  | twinLost
  /-- SHARE_UNCOVERED (Lanyard) -/
  | shareUncovered (share : Nat)
  /-- CONTEXT_ADOPTION (Lanyard) -/
  | contextAdoption (share : Nat) (payloads : List Bytes)
  /-- CTR_CLEAR (Access) -/
  | ctrClear (w : RegWrite)
  /-- SNAP_ENABLE (Access) -/
  | snapEnable (w : RegWrite)
  /-- MC_RESET (Service) -/
  | mcReset
  /-- MC_WATCHDOG (Service) -/
  | mcWatchdog
  /-- MC_RESET_COMPLETE (Service) -/
  | mcResetComplete
  /-- SERVICE_DRAIN_COMPLETE (Service) -/
  | serviceDrainComplete (page : Nat)
  /-- GLB_DRAIN_END (Service) -/
  | glbDrainEnd
  /-- DRAIN_LIMIT (Service) -/
  | drainLimit (page : Nat)
  /-- FW_STAGE (Firmware) -/
  | fwStage (w : RegWrite)
  /-- STAGE_DATA (Firmware) -/
  | stageData (w : RegWrite)
  /-- STAGING_END (Firmware) -/
  | stagingEnd (image : Bytes)
  /-- CFG_PARITY_ERROR (Errors) -/
  | cfgParityError (page : Nat)
  /-- ENGINE_MEMORY_ECC_ERROR (Errors) -/
  | engineMemoryEccError (engine : Nat) (corrected : Bool)
  /-- BUS_LANE_PARITY_ERROR (Errors) -/
  | busLaneParityError (tile : Nat) (element : Nat)
  /-- RING_HOP_PARITY_ERROR (Errors) -/
  | ringHopParityError (stop : Nat) (element : Nat)
  /-- HBM_ECC_ERROR (Errors) -/
  | hbmEccError (stack : Nat) (row : Nat) (corrected : Bool)
  /-- ROUTING_UNIT_ECC_ERROR (Errors) -/
  | routingUnitEccError (row : Nat) (corrected : Bool)
  /-- CONTEXT_CACHE_ECC_ERROR (Errors) -/
  | contextCacheEccError (row : Nat) (corrected : Bool)
  /-- REPLAY_BUFFER_ECC_ERROR (Errors) -/
  | replayBufferEccError (port : Nat) (row : Nat) (corrected : Bool) (seq : Nat)
  /-- RAIL_OUT_OF_LIMITS (Power) -/
  | railOutOfLimits (rail12 : Bool)
  /-- PCIE_ERROR_DETECTED (Errors) -/
  | pcieErrorDetected (port : Nat) (kind : Nat)
deriving DecidableEq, Repr

end Sys2Proof
end

