-- ==== Sys2Proof/Machine/Bytes.lean ====
section
/-! DEFINITION. Bit fields, byte order (R9: most significant byte first on links and the management port, least
significant byte first in memory) and small list helpers. -/

namespace Sys2Proof

/-- Bits hi:lo of a number. -/
def fld (n hi lo : Nat) : Nat := (n / 2 ^ lo) % 2 ^ (hi + 1 - lo)

/-- Bit b of a number. -/
def bit (n b : Nat) : Bool := (n / 2 ^ b) % 2 = 1

/-- A number with bits hi:lo replaced. -/
def setFld (n hi lo v : Nat) : Nat :=
  n / 2 ^ (hi + 1) * 2 ^ (hi + 1) + v % 2 ^ (hi + 1 - lo) * 2 ^ lo + n % 2 ^ lo

/-- 1 or 0. -/
def b2n (b : Bool) : Nat := if b then 1 else 0

/-- A number from bytes, first byte most significant (R9). -/
def beNat : Bytes → Nat
  | [] => 0
  | b :: t => b.toNat * 256 ^ t.length + beNat t

/-- A number from bytes, first byte least significant (R9). -/
def leNat : Bytes → Nat
  | [] => 0
  | b :: t => b.toNat + 256 * leNat t

/-- `n` bytes of a number, least significant first. -/
def leBytes : Nat → Nat → Bytes
  | 0, _ => []
  | n + 1, v => BitVec.ofNat 8 v :: leBytes n (v / 256)

/-- `n` bytes of a number, most significant first. -/
def beBytes (n v : Nat) : Bytes := (leBytes n v).reverse

/-- `len` bytes from offset `off`; bytes beyond the end read 0. -/
def slice (b : Bytes) (off len : Nat) : Bytes :=
  let t := (b.drop off).take len
  t ++ List.replicate (len - t.length) 0

/-- Big-endian number of `n` bytes at offset `off`. -/
def beAt (b : Bytes) (off n : Nat) : Nat := beNat (slice b off n)

/-- Little-endian number of `n` bytes at offset `off`. -/
def leAt (b : Bytes) (off n : Nat) : Nat := leNat (slice b off n)

/-- Bytes `p` written over `b` at offset `off`. -/
def patch (b : Bytes) (off : Nat) (p : Bytes) : Bytes := slice b 0 off ++ p ++ b.drop (off + p.length)

/-- `n` bytes: `b` cut or filled with zeros. -/
def padTo (b : Bytes) (n : Nat) : Bytes := slice b 0 n

/-- `n` zero bytes. -/
def zeros (n : Nat) : Bytes := List.replicate n 0

/-- Quotient rounded up. -/
def ceilDiv (a b : Nat) : Nat := (a + b - 1) / b

/-- The first element that satisfies `p` is replaced by its image. -/
def updFirst {α : Type} (p : α → Bool) (f : α → α) : List α → List α
  | [] => []
  | a :: t => if p a then f a :: t else a :: updFirst p f t

/-- The first element that satisfies `p` is removed. -/
def delFirst {α : Type} (p : α → Bool) : List α → List α
  | [] => []
  | a :: t => if p a then t else a :: delFirst p t

/-- `n` counted down `k`, not below 0, and cut to `w` bits as a wrapping counter. -/
def wrapAdd (w a b : Nat) : Nat := (a + b) % 2 ^ w

/-- Distance from `b` up to `a` modulo 2^w. -/
def wrapSub (w a b : Nat) : Nat := (a + 2 ^ w - b % 2 ^ w) % 2 ^ w

/-- Signed reading of `w` bits. -/
def signed (w n : Nat) : Int := if n % 2 ^ w < 2 ^ (w - 1) then (n % 2 ^ w : Nat) else ((n % 2 ^ w : Nat) : Int) - (2 ^ w : Nat)

/-- The w-bit two's complement of an integer. -/
def unsigned (w : Nat) (i : Int) : Nat := (i % (2 ^ w : Nat)).toNat

end Sys2Proof
end

