-- ==== Sys2Proof/Machine/Crypto.lean ====
section
/-! DEFINITION. The checks of the formats: CRC16 (R137), CRC-32 (R166), CRC-32C (R270), and the hashes the spec
names: HMAC-SHA-256 (R114 R126) and SHA-384 (R492). PRESUMED (log 11): SHA-2 and HMAC are those of FIPS 180-4 and FIPS 198-1,
which the spec names and does not repeat. -/

namespace Sys2Proof

/-- `n` shifts of a CRC register that takes the most significant bit first. -/
def crcUp (w poly : Nat) : Nat → Nat → Nat
  | 0, r => r
  | n + 1, r => crcUp w poly n (if bit r (w - 1) then Nat.xor (r * 2 % 2 ^ w) poly else r * 2 % 2 ^ w)

/-- `n` shifts of a reflected CRC register. -/
def crcDown (poly : Nat) : Nat → Nat → Nat
  | 0, r => r
  | n + 1, r => crcDown poly n (if r % 2 = 1 then Nat.xor (r / 2) poly else r / 2)

/-- CRC16 of R137: polynomial 0x1021, initial value 0xFFFF, not reflected, no final XOR. -/
def crc16 (b : Bytes) : Nat := b.foldl (fun r x => crcUp 16 0x1021 8 (Nat.xor r (x.toNat * 256))) 0xFFFF

/-- CRC-32 of R166 (reflected form of polynomial 0x04C1_1DB7). -/
def crc32 (b : Bytes) : Nat :=
  Nat.xor 0xFFFFFFFF (b.foldl (fun r x => crcDown 0xEDB88320 8 (Nat.xor r x.toNat)) 0xFFFFFFFF)

/-- CRC-32C of R270 (reflected form of polynomial 0x1EDC_6F41). -/
def crc32c (b : Bytes) : Nat :=
  Nat.xor 0xFFFFFFFF (b.foldl (fun r x => crcDown 0x82F63B78 8 (Nat.xor r x.toNat)) 0xFFFFFFFF)

/-- The largest r whose k-th power is at most n, found bit by bit from bit `i` down. -/
def rootFrom (k n : Nat) : Nat → Nat → Nat
  | 0, r => r
  | i + 1, r => rootFrom k n i (if (r + 2 ^ i) ^ k ≤ n then r + 2 ^ i else r)

/-- The first 64 bits of the fractional part of the k-th root of a number below 2^9. -/
def rootFraction (k n : Nat) : Nat := rootFrom k (n * 2 ^ (64 * k)) 69 0 % 2 ^ 64

/-- The primes below 410, of which FIPS 180-4 takes its constants. -/
def shaPrimes : List Nat :=
  (List.range 410).filter (fun n => decide (2 ≤ n) && (List.range 19).all (fun d => decide (n ≤ d + 2 ∨ n % (d + 2) ≠ 0)))

/-- Round constants of the variants with 64-bit words: cube roots of the first 80 primes. -/
def k512 : List Nat := shaPrimes.map (rootFraction 3)

/-- Round constants of SHA-256: the upper halves of the first 64 of those. -/
def k256 : List Nat := (k512.take 64).map (· / 2 ^ 32)

/-- Initial value of SHA-256: square roots of the first eight primes. -/
def h256 : List Nat := (shaPrimes.take 8).map (fun p => rootFraction 2 p / 2 ^ 32)

/-- Initial value of SHA-384: square roots of the ninth to sixteenth prime. -/
def h384 : List Nat := ((shaPrimes.drop 8).take 8).map (rootFraction 2)

/-- Rotation right of a w-bit word. -/
def rotr (w n x : Nat) : Nat := x / 2 ^ n + x % 2 ^ n * 2 ^ (w - n)

/-- Rotation and shift amounts of a SHA-2 variant: Σ0, Σ1, σ0, σ1. -/
structure ShaPar where
  w : Nat
  s0 : Nat × Nat × Nat
  s1 : Nat × Nat × Nat
  g0 : Nat × Nat × Nat
  g1 : Nat × Nat × Nat
  rounds : Nat
  ks : List Nat

/-- SHA-256. -/
def sha256Par : ShaPar := ⟨32, (2, 13, 22), (6, 11, 25), (7, 18, 3), (17, 19, 10), 64, k256⟩

/-- SHA-384. -/
def sha384Par : ShaPar := ⟨64, (28, 34, 39), (14, 18, 41), (1, 8, 7), (19, 61, 6), 80, k512⟩

/-- Three rotations XORed. -/
def bigSigma (w : Nat) (r : Nat × Nat × Nat) (x : Nat) : Nat :=
  Nat.xor (Nat.xor (rotr w r.1 x) (rotr w r.2.1 x)) (rotr w r.2.2 x)

/-- Two rotations and a shift XORed. -/
def smallSigma (w : Nat) (r : Nat × Nat × Nat) (x : Nat) : Nat :=
  Nat.xor (Nat.xor (rotr w r.1 x) (rotr w r.2.1 x)) (x / 2 ^ r.2.2)

/-- The message schedule, newest word first, extended by `n` words. -/
def shaSched (p : ShaPar) : Nat → List Nat → List Nat
  | 0, ws => ws
  | n + 1, ws =>
    let x := (smallSigma p.w p.g1 (ws.getD 1 0) + ws.getD 6 0 + smallSigma p.w p.g0 (ws.getD 14 0) + ws.getD 15 0) % 2 ^ p.w
    shaSched p n (x :: ws)

/-- The rounds of one block: working variables a..h, then (constant, word) pairs. -/
def shaRounds (p : ShaPar) : List (Nat × Nat) → List Nat → List Nat
  | [], v => v
  | (k, x) :: t, [a, b, c, d, e, f, g, h] =>
    let ones := 2 ^ p.w - 1
    let ch := Nat.xor (Nat.land e f) (Nat.land (Nat.xor e ones) g)
    let maj := Nat.xor (Nat.xor (Nat.land a b) (Nat.land a c)) (Nat.land b c)
    let t1 := h + bigSigma p.w p.s1 e + ch + k + x
    let t2 := bigSigma p.w p.s0 a + maj
    shaRounds p t [(t1 + t2) % 2 ^ p.w, a, b, c, (d + t1) % 2 ^ p.w, e, f, g]
  | _ :: _, v => v

/-- One block taken into the hash value. -/
def shaBlock (p : ShaPar) (h : List Nat) (block : Bytes) : List Nat :=
  let ws := (List.range 16).map (fun i => beAt block (i * (p.w / 8)) (p.w / 8))
  let sched := (shaSched p (p.rounds - 16) ws.reverse).reverse
  List.zipWith (fun a b => (a + b) % 2 ^ p.w) h (shaRounds p (p.ks.zip sched) h)

/-- The hash of a message: padded to whole blocks of 2w bytes, `n` blocks taken in turn. -/
def sha (p : ShaPar) (h0 : List Nat) (outLen : Nat) (m : Bytes) : Bytes :=
  let bl := 2 * p.w
  let lenBytes := p.w / 4
  let k := (2 * bl - (m.length + 1 + lenBytes) % bl) % bl
  let padded := m ++ [0x80#8] ++ zeros k ++ beBytes lenBytes (8 * m.length)
  let h := (List.range (padded.length / bl)).foldl (fun h i => shaBlock p h (slice padded (i * bl) bl)) h0
  (h.map (beBytes (p.w / 8))).flatten.take outLen

/-- SHA-256. -/
def sha256 (m : Bytes) : Bytes := sha sha256Par h256 32 m

/-- SHA-384. -/
def sha384 (m : Bytes) : Bytes := sha sha384Par h384 48 m

/-- Bytes XORed one by one. -/
def xorBytes (a b : Bytes) : Bytes := List.zipWith (fun x y => x ^^^ y) a b

/-- HMAC-SHA-256 under a key of at most 64 bytes. -/
def hmacSha256 (key m : Bytes) : Bytes :=
  let k := padTo key 64
  sha256 (xorBytes k (List.replicate 64 0x5c#8) ++ sha256 (xorBytes k (List.replicate 64 0x36#8) ++ m))

end Sys2Proof
end

