-- ==== Sys2Proof/Config.lean ====
section
/-! DEFINITION. What the spec leaves open: opaque constants, so that nothing can be proved about their values. -/

namespace Sys2Proof

/-- A value the spec leaves undefined, by the counter that State.freeCtr supplies (log 7). -/
opaque Config.freeNat : Nat → Nat

/-- Verification of an ECDSA P-384 signature under key number `key` over the signed bytes (R492 R493); the curve and
Olbante's public keys are outside the spec's text (log 8). -/
opaque Config.sigOk (key : Nat) (signed signature : Bytes) : Bool

/-- Calibrated drive setting of diode d of optical engine k, in 0.5 mA (R153 R161; log 14). -/
opaque Config.laserSet (opte diode : Nat) : Nat

/-- Calibrated target output power of diode d of optical engine k, as POUT codes it (R150 R153 R161; log 14). -/
opaque Config.laserTargetCode (opte diode : Nat) : BitVec 16

/-- That target in 0.01 dBm. -/
def Config.laserTarget (opte diode : Nat) : Int := (Config.laserTargetCode opte diode).toInt

/-- The remote level of a minimal candidate whose every other dimension has its AVOID bit set: R240 names no value
(log 9). -/
opaque Config.noRemoteLevel : Nat

/-- Entries of an input queue of a ring stop (R468 R543 leave the queue depth open). -/
opaque Config.ringDepth : Nat

/-- Redundant lanes of the UCIe links that end at ring stop `stop` (R486 R547; log 10). -/
opaque Config.ucieSpare (stop : Nat) : Nat

/-- Spare rows of HBM stack `stack`: those of the HBM4 stack (R553; log 10). -/
opaque Config.hbmSpareRows (stack : Nat) : Nat

end Sys2Proof
end

