-- ==== Sys2Proof/Machine/RegMap.lean ====
section
/-! DEFINITION. The register map: block classes (R80), the collar (R83 R84), each register's fields by access code
(R5) and its reset value. A register of a field the spec gives no reset value resets to 0 there (DESIGN CHOICE, log 1);
`keep` marks the fields of the persistent store, which no reset changes (log 2). -/

namespace Sys2Proof.Machine

/-- Block classes of R80, and the VF pages of R443. -/
inductive Cls where
  | glb
  | zyn
  | tick
  | jrnl
  | psto
  | mgmt
  | port
  | opte
  | tile
  | route
  | xpt
  | mwu
  | mtch
  | coll
  | eng
  | clu
  | noc
  | hbmc
  | host
  | cleat
  | pmon
  | lany
  | vi
  | vf
deriving DecidableEq, Repr

/-- A register page: class, instance, page of the instance. -/
structure PageRef where
  cls : Cls
  inst : Nat
  page : Nat
deriving DecidableEq, Repr

/-- A row of R80: class code, base, instances, pages and default owner. -/
structure ClsRow where
  cls : Cls
  code : Nat
  base : Nat
  count : Nat
  pages : Nat
  owner : Nat

/-- R80. HOST and VI control pages have the owner that `defaultOwner` gives. -/
def classTable : List ClsRow :=
  [
    ⟨.glb, 0x1, 0x0, 1, 16, 0⟩,
    ⟨.zyn, 0x2, 0x10000, 1, 16, 0⟩,
    ⟨.tick, 0x3, 0x20000, 1, 4, 0⟩,
    ⟨.jrnl, 0x4, 0x30000, 1, 4, 0⟩,
    ⟨.psto, 0x5, 0x40000, 1, 4, 0⟩,
    ⟨.mgmt, 0x6, 0x50000, 1, 16, 0⟩,
    ⟨.port, 0x10, 0x100000, 512, 2, 1⟩,
    ⟨.opte, 0x11, 0x500000, 16, 4, 1⟩,
    ⟨.tile, 0x12, 0x580000, 64, 1, 1⟩,
    ⟨.route, 0x13, 0x600000, 1, 1, 1⟩,
    ⟨.xpt, 0x20, 0x700000, 8, 4, 0⟩,
    ⟨.mwu, 0x21, 0x780000, 4, 4, 0⟩,
    ⟨.mtch, 0x22, 0x7c0000, 4, 4, 0⟩,
    ⟨.coll, 0x23, 0x800000, 2, 16, 0⟩,
    ⟨.eng, 0x30, 0x880000, 128, 1, 0⟩,
    ⟨.clu, 0x31, 0x900000, 16, 1, 0⟩,
    ⟨.noc, 0x40, 0xa00000, 64, 1, 0⟩,
    ⟨.hbmc, 0x41, 0xb00000, 6, 4, 0⟩,
    ⟨.host, 0x50, 0xb80000, 16, 4, 0⟩,
    ⟨.cleat, 0x60, 0xc00000, 1, 8, 0⟩,
    ⟨.pmon, 0x70, 0xc80000, 1, 4, 0⟩,
    ⟨.lany, 0x71, 0xd00000, 1, 4, 1⟩,
    ⟨.vi, 0x80, 0x1000000, 4096, 1, 0⟩]

/-- Base of the VF BARs in the model's addresses (each 64 KiB, R443). -/
def vfBase : Nat := 0x10000000

/-- The row of a class. -/
def clsRow : Cls → ClsRow
  | .glb => ⟨.glb, 0x1, 0x0, 1, 16, 0⟩
  | .zyn => ⟨.zyn, 0x2, 0x10000, 1, 16, 0⟩
  | .tick => ⟨.tick, 0x3, 0x20000, 1, 4, 0⟩
  | .jrnl => ⟨.jrnl, 0x4, 0x30000, 1, 4, 0⟩
  | .psto => ⟨.psto, 0x5, 0x40000, 1, 4, 0⟩
  | .mgmt => ⟨.mgmt, 0x6, 0x50000, 1, 16, 0⟩
  | .port => ⟨.port, 0x10, 0x100000, 512, 2, 1⟩
  | .opte => ⟨.opte, 0x11, 0x500000, 16, 4, 1⟩
  | .tile => ⟨.tile, 0x12, 0x580000, 64, 1, 1⟩
  | .route => ⟨.route, 0x13, 0x600000, 1, 1, 1⟩
  | .xpt => ⟨.xpt, 0x20, 0x700000, 8, 4, 0⟩
  | .mwu => ⟨.mwu, 0x21, 0x780000, 4, 4, 0⟩
  | .mtch => ⟨.mtch, 0x22, 0x7c0000, 4, 4, 0⟩
  | .coll => ⟨.coll, 0x23, 0x800000, 2, 16, 0⟩
  | .eng => ⟨.eng, 0x30, 0x880000, 128, 1, 0⟩
  | .clu => ⟨.clu, 0x31, 0x900000, 16, 1, 0⟩
  | .noc => ⟨.noc, 0x40, 0xa00000, 64, 1, 0⟩
  | .hbmc => ⟨.hbmc, 0x41, 0xb00000, 6, 4, 0⟩
  | .host => ⟨.host, 0x50, 0xb80000, 16, 4, 0⟩
  | .cleat => ⟨.cleat, 0x60, 0xc00000, 1, 8, 0⟩
  | .pmon => ⟨.pmon, 0x70, 0xc80000, 1, 4, 0⟩
  | .lany => ⟨.lany, 0x71, 0xd00000, 1, 4, 1⟩
  | .vi => ⟨.vi, 0x80, 0x1000000, 4096, 1, 0⟩
  | .vf => ⟨.vf, 0x81, vfBase, 4096, 4, 0⟩

/-- Address of a page (R80); VF pages lie 64 KiB apart. -/
def pageAddr (c : Cls) (inst page : Nat) : Nat :=
  match c with
  | .vf => vfBase + inst * 0x10000 + page * 0x1000
  | c => (clsRow c).base + (inst * (clsRow c).pages + page) * 0x1000

/-- The page an address lies in and the offset in it: R80 for BAR0, R443 for a VF BAR. -/
def locate (a : Nat) : Option (PageRef × Nat) :=
  if vfBase ≤ a then
    let v := (a - vfBase) / 0x10000
    let o := a % 0x10000
    if v < 4096 ∧ o < 0x4000 then some (⟨.vf, v, o / 0x1000⟩, o % 0x1000) else none
  else
    match classTable.find? (fun r => decide (r.base ≤ a ∧ a < r.base + r.count * r.pages * 0x1000)) with
    | some r => let n := (a - r.base) / 0x1000; some (⟨r.cls, n / r.pages, n % r.pages⟩, a % 0x1000)
    | none => none

/-- The PAGE code of a journal record (R103). -/
def pageCode (p : PageRef) : Nat :=
  match p.cls with
  | .vf => 0x8000 + 4 * p.inst + p.page
  | _ => pageAddr p.cls p.inst p.page / 0x1000

/-- The page a PAGE code names. -/
def pageOfCode (c : Nat) : Option PageRef :=
  if 0x8000 ≤ c ∧ c < 0xC000 then some ⟨.vf, (c - 0x8000) / 4, c % 4⟩ else (locate (c * 0x1000)).map Prod.fst

/-- One register, or `count` registers `stride` bytes apart: masks of the fields with each access code, the reset
value, and the persistent fields. -/
structure RegRow where
  page : Nat
  off : Nat
  count : Nat := 1
  stride : Nat := 4
  rw : Nat := 0
  w1c : Nat := 0
  w1s : Nat := 0
  rc : Nat := 0
  wo : Nat := 0
  wk : Nat := 0
  reset : Nat := 0
  keep : Nat := 0
  /-- each origin has its own copy -/
  perOrigin : Bool := false
  /-- present in instance 0 only -/
  only0 : Bool := false

/-- Registers of the mgmt pages. -/
def rows_mgmt : List RegRow :=
  [
    -- PWR_STAT R41
    { page := 3, off := 0x40, w1c := 0x1700, wk := 0x800, reset := 0x8, keep := 0x1000 },
    -- PWR_V48 R41/register
    { page := 3, off := 0x44 },
    -- PWR_I48 register
    { page := 3, off := 0x48 },
    -- PWR_W register
    { page := 3, off := 0x4c },
    -- COOL_STAT R42
    { page := 3, off := 0x50 },
    -- THERM_STAT R42
    { page := 3, off := 0x54, w1c := 0x6, keep := 0x4 },
    -- MC_RST R611
    { page := 0, off := 0x40, wk := 0x1 }]

/-- Registers of the tick pages. -/
def rows_tick : List RegRow :=
  [
    -- COUNT_LO R59
    { page := 0, off := 0x40 },
    -- COUNT_HI R59
    { page := 0, off := 0x44 },
    -- CTL R76
    { page := 0, off := 0x48, rw := 0xfb, reset := 0x68 },
    -- STAT R77
    { page := 0, off := 0x4c, w1c := 0x3, reset := 0x1fff0000 },
    -- MASTER R78
    { page := 0, off := 0x50, wk := 0x801fffff },
    -- OFFSET R66
    { page := 0, off := 0x54 },
    -- JOBSTATj R78
    { page := 1, off := 0x40, count := 9, stride := 0x4, rc := 0x7ff0000 },
    -- PORTDLYp R78
    { page := 2, off := 0x100, count := 512, stride := 0x4 },
    -- PORTDLY_LANYARD R78
    { page := 2, off := 0x900, count := 2, stride := 0x4 }]

/-- Registers of the jrnl pages. -/
def rows_jrnl : List RegRow :=
  [
    -- CTL R107
    { page := 0, off := 0x40, rw := 0x1f, reset := 0x14 },
    -- WR_LO R107
    { page := 0, off := 0x48 },
    -- WR_HI R107
    { page := 0, off := 0x4c },
    -- START_LO R107
    { page := 0, off := 0x50 },
    -- START_HI R107
    { page := 0, off := 0x54 },
    -- RD_LO R107
    { page := 1, off := 0x40, rw := 0xffffffff, perOrigin := true },
    -- RD_HI R107
    { page := 1, off := 0x44, rw := 0xffffffff, perOrigin := true },
    -- RDSTAT R107
    { page := 1, off := 0x48 },
    -- RECk R107
    { page := 1, off := 0x60, count := 8, stride := 0x4 }]

/-- Registers of the host pages. -/
def rows_host : List RegRow :=
  [
    -- JMIR_BASE_LO R109
    { page := 3, off := 0x800, rw := 0xffffffff },
    -- JMIR_BASE_HI R109
    { page := 3, off := 0x804, rw := 0xffffffff },
    -- JMIR_CTL R109
    { page := 3, off := 0x808, rw := 0x8000001f, reset := 0x8 },
    -- JMIR_WR_LO R109
    { page := 3, off := 0x810 },
    -- JMIR_WR_HI R109
    { page := 3, off := 0x814 },
    -- JMIR_RD_LO R109
    { page := 3, off := 0x818, rw := 0xffffffff },
    -- JMIR_RD_HI R109
    { page := 3, off := 0x81c, rw := 0xffffffff },
    -- JMIR_DROP R109
    { page := 3, off := 0x820, rc := 0xffffffff },
    -- ZCMD_ADDR_LO R112
    { page := 2, off := 0x40, rw := 0xffffffff },
    -- ZCMD_ADDR_HI R112
    { page := 2, off := 0x44, rw := 0xffffffff },
    -- ZRPL_ADDR_LO R112
    { page := 2, off := 0x48, rw := 0xffffffff },
    -- ZRPL_ADDR_HI R112
    { page := 2, off := 0x4c, rw := 0xffffffff },
    -- ZCMD_CTL R112
    { page := 2, off := 0x50, rw := 0x1ff, w1s := 0x80000000 },
    -- ZCMD_STAT R112
    { page := 2, off := 0x54 },
    -- CFG R430
    { page := 0, off := 0x40, rw := 0xf3801ff, reset := 0x7000100 },
    -- LINK_STAT R430
    { page := 0, off := 0x44 },
    -- FEAT R430
    { page := 0, off := 0x48, reset := 0x40 },
    -- PF_EVENT R430
    { page := 0, off := 0x4c, w1c := 0x3f },
    -- PF_EVMASK R430
    { page := 0, off := 0x50, rw := 0x3f },
    -- VI_ON R430
    { page := 0, off := 0x54 },
    -- CXL_POOL_BASE R489
    { page := 1, off := 0x40, rw := 0x3ffff },
    -- CXL_POOL_SIZE R489
    { page := 1, off := 0x44, rw := 0x3ffff },
    -- CXL_STAT R489
    { page := 1, off := 0x48 }]

/-- Registers of the zyn pages. -/
def rows_zyn : List RegRow :=
  [
    -- CTL R131
    { page := 0, off := 0x40, rw := 0x1f, reset := 0x16 },
    -- STAT R131
    { page := 0, off := 0x44, w1c := 0x100, reset := 0x100, keep := 0x1 },
    -- SLOTk R131
    { page := 1, off := 0x40, wk := 0xc00fffff, keep := 0xc00fffff, reset := 0x10000 },
    { page := 1, off := 0x48, count := 7, stride := 0x8, wk := 0xc00fffff, keep := 0xc00fffff },
    -- KEYIDk R131
    { page := 1, off := 0x44, count := 8, stride := 0x8, wk := 0xffffffff, keep := 0xffffffff },
    -- HWMi_LO R131
    { page := 2, off := 0x100, count := 147, stride := 0x8, keep := 0xffffffff },
    -- HWMi_HI R131
    { page := 2, off := 0x104, count := 147, stride := 0x8, keep := 0xffffffff }]

/-- Registers of the port pages. -/
def rows_port : List RegRow :=
  [
    -- LANE_CTL R159
    { page := 1, off := 0x40, rw := 0xffff0c, w1s := 0x2, reset := 0x3a440c },
    -- LANE_THR R159
    { page := 1, off := 0x44, rw := 0xffffff, reset := 0x85040 },
    -- LANE_BOND R159
    { page := 1, off := 0x48 },
    -- LANEl_STAT R160
    { page := 1, off := 0x80, count := 2, stride := 0x20, w1c := 0x700 },
    -- LANEl_FOM R160
    { page := 1, off := 0x84, count := 2, stride := 0x20, rc := 0xff0000, reset := 0xff0100 },
    -- LANEl_TXEQ R160
    { page := 1, off := 0x88, count := 2, stride := 0x20, reset := 0xfc38fc },
    -- LANEl_RXPWR R160
    { page := 1, off := 0x8c, count := 2, stride := 0x20, reset := 0x8000 },
    -- LINK R193
    { page := 0, off := 0x40, rw := 0xfff300, reset := 0x10d300 },
    -- LINK_THR R193
    { page := 0, off := 0x44, rw := 0xffff003f, reset := 0x40a80008 },
    -- HOLD R193
    { page := 0, off := 0x48, rw := 0x3ff, reset := 0x40 },
    -- LINK_STAT R193
    { page := 0, off := 0x4c, w1c := 0x80 },
    -- PEER_EXP R193
    { page := 0, off := 0x50, rw := 0xbfffffff },
    -- PEER_ID R193
    { page := 0, off := 0x54 },
    -- PEER_SERIAL_LO R192
    { page := 0, off := 0x58 },
    -- PEER_SERIAL_HI R192
    { page := 0, off := 0x5c },
    -- LINK_TXSEQ R193
    { page := 0, off := 0x60 },
    -- LINK_RXSEQ R193
    { page := 0, off := 0x64 },
    -- CRv R193
    { page := 0, off := 0x80, count := 16, stride := 0x4 },
    -- SHAPE_CFG R541
    { page := 0, off := 0x100, rw := 0x870fffff, reset := 0x7006400 },
    -- SHAPE_BURST R541
    { page := 0, off := 0x104, rw := 0xffffff, reset := 0x8200 },
    -- SHAPE_LEVEL R541
    { page := 0, off := 0x108, reset := 0x8200 },
    -- SHAPE_HELD R541
    { page := 0, off := 0x10c, rc := 0xffffffff }]

/-- Registers of the opte pages. -/
def rows_opte : List RegRow :=
  [
    -- LASER_CTL R161
    { page := 1, off := 0x40, rw := 0xf0f00, w1s := 0xf, reset := 0xe0f00 },
    -- LASER_STAT R161
    { page := 1, off := 0x44, w1c := 0xf0, keep := 0xff00000 },
    -- BIASd R161
    { page := 1, off := 0x60, count := 8, stride := 0x4, rw := 0xff },
    -- POUTd R161
    { page := 1, off := 0x80, count := 8, stride := 0x4 }]

/-- Registers of the tile pages. -/
def rows_tile : List RegRow :=
  [
    -- CFG R222
    { page := 0, off := 0x40, rw := 0xffffff, reset := 0x100400 },
    -- COLCFG R222
    { page := 0, off := 0x44, rw := 0x3fff00ff, reset := 0x10000048 },
    -- POOL_TOTAL R222
    { page := 0, off := 0x48, reset := 0x10000 },
    -- POOL_FREE R222
    { page := 0, off := 0x4c, reset := 0x10000 },
    -- POOL_RESV R222
    { page := 0, off := 0x50 },
    -- POOL_USED R222
    { page := 0, off := 0x54 },
    -- POOL_SHARED R222
    { page := 0, off := 0x58, reset := 0x4400 },
    -- VC_ALLOTv R222/R201
    { page := 0, off := 0x80, count := 16, stride := 0x4, rw := 0x3fff, reset := 0x80 },
    -- GW_ALLOTc R222
    { page := 0, off := 0xc0, count := 4, stride := 0x4 },
    -- OCCq_c R222
    { page := 0, off := 0x100, count := 36, stride := 0x4 }]

/-- Registers of the route pages. -/
def rows_route : List RegRow :=
  [
    -- CTL R261
    { page := 0, off := 0x40, rw := 0x2, w1s := 0x4 },
    -- STAT R261
    { page := 0, off := 0x44 },
    -- WEIGHT R261
    { page := 0, off := 0x48, rw := 0xff0f0f0f, reset := 0x40040204 },
    -- LIMITS R261
    { page := 0, off := 0x4c, rw := 0xff00ff0f, reset := 0xc0000802 },
    -- COMMIT_CID R261
    { page := 0, off := 0x50 },
    -- COMMIT_TICK R261
    { page := 0, off := 0x54 },
    -- INFLIGHT R261
    { page := 0, off := 0x58 },
    -- BANK_ID R261
    { page := 0, off := 0x5c },
    -- ADMITk R261
    { page := 0, off := 0x100, count := 16, stride := 0x4 }]

/-- Registers of the xpt pages. -/
def rows_xpt : List RegRow :=
  [
    -- CTL R306
    { page := 0, off := 0x40, rw := 0xfff1ff, reset := 0x880e2 },
    -- RTO R306
    { page := 0, off := 0x44, rw := 0x7fffff0, reset := 0x48c20d0 },
    -- LIMITS R306
    { page := 0, off := 0x48, rw := 0x3ffff1f, reset := 0x3c01010 },
    -- CTX_CAP R306
    { page := 0, off := 0x4c, reset := 0x40000 },
    -- CTX_USED R306
    { page := 0, off := 0x50 },
    -- RESEQ_CAP R306
    { page := 1, off := 0x40 },
    -- RESEQ_USED R306
    { page := 1, off := 0x44 },
    -- CLR_CFGj R306
    { page := 2, off := 0x40, count := 2, stride := 0x10, rw := 0xfffff0f, reset := 0x2001e02 },
    -- CLR_STATj R306
    { page := 2, off := 0x44, count := 2, stride := 0x10 },
    -- CLR_OUTj R306
    { page := 2, off := 0x48, count := 2, stride := 0x10 }]

/-- Registers of the mwu pages. -/
def rows_mwu : List RegRow :=
  [
    -- CTL R342
    { page := 0, off := 0x40, rw := 0xff0000, reset := 0x40000 },
    -- WIN_CAP R342
    { page := 0, off := 0x44, reset := 0x100000 },
    -- WIN_USED R342
    { page := 0, off := 0x48 },
    -- GEN_SEED R342
    { page := 0, off := 0x4c, keep := 0x3ff03ff },
    -- REGCAPk R342
    { page := 0, off := 0x50, count := 4, stride := 0x4, rw := 0x7ffffff, reset := 0x4000000 },
    -- REGUSEDk R342
    { page := 0, off := 0x60, count := 4, stride := 0x4 },
    -- FENCE_STAT R342
    { page := 0, off := 0x70 }]

/-- Registers of the mtch pages. -/
def rows_mtch : List RegRow :=
  [
    -- POST_CAP R379
    { page := 0, off := 0x40, reset := 0x80000 },
    -- POST_USED R379
    { page := 0, off := 0x44 },
    -- UNEXP_CAP R379
    { page := 0, off := 0x48, reset := 0x80000 },
    -- UNEXP_USED R379
    { page := 0, off := 0x4c },
    -- BOUNCE_CAP R379
    { page := 0, off := 0x50 },
    -- BOUNCE_USED R379
    { page := 0, off := 0x54 },
    -- STOPPED_VIS R379
    { page := 0, off := 0x58 },
    -- VI_SEL R379
    { page := 1, off := 0x40, rw := 0x3ff, perOrigin := true },
    -- VI_STAT R379
    { page := 1, off := 0x44 },
    -- VI_UNEXP R379
    { page := 1, off := 0x48 },
    -- VI_BOUNCE R379
    { page := 1, off := 0x4c },
    -- VI_POSTMAX R379
    { page := 1, off := 0x50 }]

/-- Registers of the coll pages. -/
def rows_coll : List RegRow :=
  [
    -- CFG R422
    { page := 0, off := 0x40, rw := 0xf1f1f, reset := 0x81113 },
    -- GRP_CAP R422
    { page := 0, off := 0x44, reset := 0x800 },
    -- GRP_USED R422
    { page := 0, off := 0x48 },
    -- BUF_CAP R422
    { page := 0, off := 0x4c },
    -- BUF_USED R422
    { page := 0, off := 0x50 },
    -- GSEL R422
    { page := 1, off := 0x40, rw := 0x7ff, perOrigin := true },
    -- GSTAT R422
    { page := 1, off := 0x44 },
    -- GSTEP R422
    { page := 1, off := 0x48 },
    -- GPARENT R422
    { page := 1, off := 0x4c, reset := 0xfff00000 },
    -- GMEMBERS R422
    { page := 1, off := 0x50 }]

/-- Registers of the vi pages. -/
def rows_vi : List RegRow :=
  [
    -- CTL R437
    { page := 0, off := 0x40, rw := 0x3 },
    -- STAT R437
    { page := 0, off := 0x44 },
    -- KR_CEIL R437
    { page := 0, off := 0x48, rw := 0xffffffff },
    -- XLATE_CTL R437
    { page := 0, off := 0x4c, w1s := 0x1 },
    -- XLATE_STAT R437
    { page := 0, off := 0x50 },
    -- TBb_VBASE_LO R437
    { page := 0, off := 0x400, count := 32, stride := 0x20, rw := 0xffff0000 },
    -- TBb_VBASE_HI R437
    { page := 0, off := 0x404, count := 32, stride := 0x20, rw := 0xffffffff },
    -- TBb_LEN_LO R437
    { page := 0, off := 0x408, count := 32, stride := 0x20, rw := 0xffff0000 },
    -- TBb_LEN_HI R437
    { page := 0, off := 0x40c, count := 32, stride := 0x20, rw := 0xffffffff },
    -- TBb_PBASE_LO R437
    { page := 0, off := 0x410, count := 32, stride := 0x20, rw := 0xffff0000 },
    -- TBb_PBASE_HI R437
    { page := 0, off := 0x414, count := 32, stride := 0x20, rw := 0xffffffff },
    -- TBb_ATTR R437
    { page := 0, off := 0x418, count := 32, stride := 0x20, rw := 0xcf000003 },
    -- SHAPEc_CFG R540
    { page := 0, off := 0x800, count := 4, stride := 0x10, rw := 0x800fffff },
    -- SHAPEc_BURST R540
    { page := 0, off := 0x804, count := 4, stride := 0x10, rw := 0xffffff, reset := 0x4100 },
    -- SHAPEc_LEVEL R540
    { page := 0, off := 0x808, count := 4, stride := 0x10, reset := 0x4100 }]

/-- Registers of the vf pages. -/
def rows_vf : List RegRow :=
  [
    -- SELF R444
    { page := 0, off := 0x40 },
    -- STATE R444
    { page := 0, off := 0x44 },
    -- DOMAIN R444
    { page := 0, off := 0x48 },
    -- WIN_FIRST R444
    { page := 0, off := 0x4c },
    -- WIN_COUNT R444
    { page := 0, off := 0x50 },
    -- CMDQq_BASE_LO R445
    { page := 2, off := 0x100, count := 64, stride := 0x10, rw := 0xfffff000 },
    -- CMDQq_BASE_HI R445
    { page := 2, off := 0x104, count := 64, stride := 0x10, rw := 0xffffffff },
    -- CMDQq_CTL R445
    { page := 2, off := 0x108, count := 64, stride := 0x10, rw := 0x801f0f00, reset := 0x40100 },
    -- CMDQq_KEYRIGHTS R445
    { page := 2, off := 0x10c, count := 64, stride := 0x10, rw := 0xffffffff, reset := 0x3 },
    -- CPLQq_BASE_LO R445
    { page := 3, off := 0x100, count := 64, stride := 0x10, rw := 0xfffff000 },
    -- CPLQq_BASE_HI R445
    { page := 3, off := 0x104, count := 64, stride := 0x10, rw := 0xffffffff },
    -- CPLQq_CTL R445
    { page := 3, off := 0x108, count := 64, stride := 0x10, rw := 0x801f803f, reset := 0x40000 }]

/-- Registers of the noc pages. -/
def rows_noc : List RegRow :=
  [
    -- CFG R486
    { page := 0, off := 0x40, rw := 0xbf1f0f, reset := 0xf06 },
    -- STAT R486
    { page := 0, off := 0x44 },
    -- INFO R486
    { page := 0, off := 0x48 }]

/-- Registers of the hbmc pages. -/
def rows_hbmc : List RegRow :=
  [
    -- CFG R488
    { page := 0, off := 0x40, rw := 0x1f, reset := 0xa },
    -- SF_USED R488
    { page := 0, off := 0x44 },
    -- PART_CTL R488
    { page := 1, off := 0x40, w1s := 0x1, only0 := true },
    -- PART_STAT R488
    { page := 1, off := 0x44, only0 := true },
    -- PART_MASK R488
    { page := 1, off := 0x48, rw := 0x3f3f, reset := 0x83f, only0 := true },
    -- PART_RESEQ R488
    { page := 1, off := 0x4c, rw := 0x1ffff, reset := 0x4000, only0 := true },
    -- PART_BOUNCE R488
    { page := 1, off := 0x50, rw := 0xfffff, reset := 0x40000, only0 := true },
    -- PART_SIZES R488
    { page := 1, off := 0x54, rw := 0xffff00ff, reset := 0x10000002, only0 := true }]

/-- Registers of the eng pages. -/
def rows_eng : List RegRow :=
  [
    -- ENG_ROLE R513
    { page := 0, off := 0x40, rw := 0xf, reset := 0xf },
    -- ENG_STAT R513
    { page := 0, off := 0x44 },
    -- ENG_WD R513
    { page := 0, off := 0x48, rw := 0x1f, reset := 0x4 }]

/-- Registers of the clu pages. -/
def rows_clu : List RegRow :=
  [
    -- CL_FW R513
    { page := 0, off := 0x40, w1c := 0x4, keep := 0xffffff01 },
    -- CL_SHARE R513
    { page := 0, off := 0x44 },
    -- CL_TRIG R513
    { page := 0, off := 0x48 }]

/-- Registers of the cleat pages. -/
def rows_cleat : List RegRow :=
  [
    -- GCFGg R526
    { page := 0, off := 0x40, count := 64, stride := 0x4, rw := 0x1ff, reset := 0x80 },
    -- INSPECT_SEL R526
    { page := 0, off := 0x140, rw := 0xfff, perOrigin := true },
    -- INSPECT R526
    { page := 0, off := 0x144 },
    -- INSPECT_HOLDER R526
    { page := 0, off := 0x148 },
    -- INSPECT_TAG R526
    { page := 0, off := 0x14c },
    -- STALL_USED R526
    { page := 0, off := 0x150 }]

/-- Registers of the glb pages. -/
def rows_glb : List RegRow :=
  [
    -- AUDIT_FAIL0 R577
    { page := 4, off := 0x40 },
    -- EXPECT R577
    { page := 4, off := 0x44 },
    -- FOUND R577
    { page := 4, off := 0x48 },
    -- FAIL_TICK_LO R577
    { page := 4, off := 0x4c },
    -- FAIL_TICK_HI R577
    { page := 4, off := 0x50 },
    -- AUDIT_LAST R577
    { page := 4, off := 0x54 },
    -- FATAL R578
    { page := 5, off := 0x40 },
    -- FATAL_TICK_LO R578
    { page := 5, off := 0x44 },
    -- FATAL_TICK_HI R578
    { page := 5, off := 0x48 },
    -- DUMP_CTL R578
    { page := 5, off := 0x4c, rw := 0xc0f0ffff, reset := 0x400000c8 },
    -- DUMP_HOST_LO R578
    { page := 5, off := 0x50, rw := 0xfff00000 },
    -- DUMP_HOST_HI R578
    { page := 5, off := 0x54, rw := 0xffffffff },
    -- DUMP_HOST_LEN R578
    { page := 5, off := 0x58, rw := 0xffff },
    -- DUMP_STAT R578
    { page := 5, off := 0x5c, w1c := 0x80000000 },
    -- ERRLOG_WR R579
    { page := 6, off := 0x40 },
    -- ERRLOG_SEL R579
    { page := 6, off := 0x44, rw := 0xff, perOrigin := true },
    -- E0_E3 R579
    { page := 6, off := 0x48, count := 4, stride := 0x4 },
    -- SERIAL_LO R610
    { page := 0, off := 0x40, keep := 0xffffffff },
    -- SERIAL_HI R610
    { page := 0, off := 0x44, keep := 0xffffffff },
    -- INIT_STAT R610
    { page := 0, off := 0x48 },
    -- SVC_CFG R610
    { page := 0, off := 0x4c, rw := 0x1f, reset := 0x10 }]

/-- Registers of the lany pages. -/
def rows_lany : List RegRow :=
  [
    -- CFG R580
    { page := 0, off := 0x40, rw := 0xffcfffff, reset := 0x2800000 },
    -- STAT R580
    { page := 0, off := 0x44, rw := 0xff000000, reset := 0x30000000 },
    -- TWIN_SERIAL_LO R580
    { page := 0, off := 0x48, rw := 0xffffffff },
    -- TWIN_SERIAL_HI R580
    { page := 0, off := 0x4c, rw := 0xffffffff },
    -- ADOPTED R580
    { page := 0, off := 0x50 },
    -- TXCTR_LO R580
    { page := 0, off := 0x58, keep := 0xffffffff },
    -- TXCTR_HI R580
    { page := 0, off := 0x5c, keep := 0xffffffff },
    -- SHAREc R580
    { page := 1, off := 0x40, count := 16, stride := 0x4 }]

/-- Registers of the pmon pages. -/
def rows_pmon : List RegRow :=
  [
    -- SNAP_CTL R592
    { page := 0, off := 0x40, rw := 0x8f1f1f7f, reset := 0xa0800 },
    -- SNAP_BASE_LO R592
    { page := 0, off := 0x48, rw := 0xffffffff },
    -- SNAP_BASE_HI R592
    { page := 0, off := 0x4c, rw := 0xffffffff },
    -- SNAP_WR_LO R592
    { page := 0, off := 0x50 },
    -- SNAP_WR_HI R592
    { page := 0, off := 0x54 },
    -- SNAP_RD_LO R592
    { page := 0, off := 0x58, rw := 0xffffffff },
    -- SNAP_RD_HI R592
    { page := 0, off := 0x5c, rw := 0xffffffff },
    -- SNAP_DROP R592
    { page := 0, off := 0x60, rc := 0xffffffff },
    -- SNAP_LISTk R592
    { page := 0, off := 0x100, count := 64, stride := 0x4, rw := 0xc0001fff }]

/-- Registers of the psto pages. -/
def rows_psto : List RegRow :=
  [
    -- STAGE_CTL R611
    { page := 1, off := 0x40, rw := 0x1f31, w1s := 0x80000000, reset := 0x10 },
    -- STAGE_ADDR_LO R611
    { page := 1, off := 0x48, rw := 0xffffffff },
    -- STAGE_ADDR_HI R611
    { page := 1, off := 0x4c, rw := 0xffffffff },
    -- STAGE_LEN R611
    { page := 1, off := 0x50, rw := 0x1fffff },
    -- STAGE_OFS R611
    { page := 1, off := 0x54, rw := 0xffffc },
    -- STAGE_DATA R611
    { page := 1, off := 0x58, wo := 0xffffffff },
    -- STAGE_STAT R611
    { page := 1, off := 0x5c, w1c := 0x40000000 },
    -- FW_MC R611
    { page := 1, off := 0x60, w1c := 0x4, keep := 0xffff0003 }]

/-- The block registers of a class. -/
def blockRows : Cls → List RegRow
  | .glb => rows_glb
  | .zyn => rows_zyn
  | .tick => rows_tick
  | .jrnl => rows_jrnl
  | .psto => rows_psto
  | .mgmt => rows_mgmt
  | .port => rows_port
  | .opte => rows_opte
  | .tile => rows_tile
  | .route => rows_route
  | .xpt => rows_xpt
  | .mwu => rows_mwu
  | .mtch => rows_mtch
  | .coll => rows_coll
  | .eng => rows_eng
  | .clu => rows_clu
  | .noc => rows_noc
  | .hbmc => rows_hbmc
  | .host => rows_host
  | .cleat => rows_cleat
  | .pmon => rows_pmon
  | .lany => rows_lany
  | .vi => rows_vi
  | .vf => rows_vf

/-- Counters present on a page, one bit each; none on a page without counters (R586 and the rules it names). -/
def ctrMask (p : PageRef) : Option Nat :=
  match p.cls, p.page with
  | .glb, 4 => some 0x1fff
  | .zyn, 0 => some 0x7f
  | .tick, 1 => some 0x3fff
  | .psto, 1 => some 0xf
  | .port, 1 => some 0x1fff
  | .port, 0 => some 0xffff
  | .opte, 1 => some 0x3f
  | .tile, 0 => some 0x7fff
  | .route, 0 => some 0xffff
  | .xpt, 0 => some 0xffff
  | .xpt, 1 => some 0x1fff
  | .xpt, 2 => some 0xff
  | .mwu, 0 => some 0x7fff
  | .mwu, 1 => some 0xff
  | .mtch, 0 => some 0xffff
  | .mtch, 1 => some 0x3ff
  | .coll, 0 => some 0xffff
  | .coll, 1 => some 0xff
  | .eng, 0 => some 0x7f
  | .clu, 0 => some 0x3ff
  | .noc, 0 => some 0xffff
  | .hbmc, 0 => some 0x1ff
  | .host, 0 => some 0x7fff
  | .cleat, 0 => some 0xfff
  | .pmon, 0 => some 0xf
  | .lany, 0 => some 0x3ff
  | .vi, 0 => some 0xffff
  | .vf, 1 => some 0xffff
  | _, _ => none

/-- Pages of the auxiliary domain (R17). -/
def auxPage (p : PageRef) : Bool :=
  match p.cls with
  | .zyn => true
  | .psto => true
  | .mgmt => true
  | .glb => decide (4 ≤ p.page ∧ p.page ≤ 6)
  | _ => false

/-- Pages without a fence (R476 R595): FENCE reads 0 and ignores the value written. The ring stops among them are those
of the management controller, the cleat array and the six gateways. -/
def noFence (p : PageRef) : Bool :=
  match p.cls with
  | .glb => true
  | .zyn => true
  | .tick => true
  | .jrnl => true
  | .psto => true
  | .mgmt => true
  | .route => true
  | .lany => true
  | .pmon => true
  | .cleat => true
  | .vi => true
  | .noc => decide (p.inst ∈ [0, 1, 2, 18, 32, 33, 49, 63])
  | _ => false

/-- Classes that report ACTIVE while their domain is powered (R602). -/
def alwaysActive (c : Cls) : Bool :=
  match c with
  | .zyn => true
  | .tick => true
  | .jrnl => true
  | .psto => true
  | .mgmt => true
  | .route => true
  | .lany => true
  | .pmon => true
  | .noc => true
  | .cleat => true
  | _ => false

/-- Default owner of a page (R80, R443 for VF pages). -/
def defaultOwner (p : PageRef) : Nat :=
  match p.cls with
  | .host => 0x10 + p.inst
  | .vi => 0x10 + p.inst / 256
  | .vf => 0x1000 + p.inst
  | c => (clsRow c).owner

/-- The BLK_CTL row of a page: EN and SVC_REQ on page 0 (R85), FENCE where the class has one, REEF on TILE and PORT
port pages (R84); on VF pages nothing (R443). -/
def ctlRow (p : PageRef) : RegRow :=
  match p.cls with
  | .vf => { page := p.page, off := 8 }
  | _ =>
    { page := p.page, off := 8,
      rw := (if p.page = 0 then 1 else 0) + (if noFence p then 0 else 8) +
            (if p.cls = .tile ∨ (p.cls = .port ∧ p.page = 0) then 4 else 0),
      w1s := 2, wk := if p.page = 0 then 0xF0 else 0,
      reset := if p.page = 0 ∧ (p.cls = .glb ∨ p.cls = .zyn ∨ p.cls = .psto ∨ p.cls = .mgmt) then 1 else 0 }

/-- The collar and counter registers of a page (R83 R84 R581), by offset. -/
def commonRow (p : PageRef) (off : Nat) : Option RegRow :=
  match off with
  | 0x00 => some { page := p.page, off := 0 }
  | 0x04 => some { page := p.page, off := 4 }
  | 0x08 => some (ctlRow p)
  | 0x0C => some { page := p.page, off := 0xC, reset := if alwaysActive p.cls ∧ p.page = 0 then 0x20 else 0 }
  | 0x10 => some { page := p.page, off := 0x10, w1c := 0xFFFF007F }
  | 0x14 => some { page := p.page, off := 0x14, rw := 0xFFFFFFFF }
  | 0x18 => some { page := p.page, off := 0x18, w1s := 0xFFFF0020 }
  | 0x1C => some { page := p.page, off := 0x1C, rc := 0xFFFFFFFF }
  | 0x20 => some { page := p.page, off := 0x20, wk := 0xFFFFFFFF,
                   reset := (if p.cls = .mgmt ∧ p.page = 3 then 0x00010000 else 0xFFFF0000) + defaultOwner p }
  | 0x24 => some { page := p.page, off := 0x24 }
  | 0x28 => some { page := p.page, off := 0x28 }
  | 0x2C => some { page := p.page, off := 0x2C, w1s := 0x80000000 }
  | _ =>
    match ctrMask p with
    | none => none
    | some m =>
      if 0xC00 ≤ off ∧ off < 0xC80 then some { page := p.page, off := off }
      else if off = 0xC80 then some { page := p.page, off := off, rw := 0x7FFF }
      else if off = 0xC84 then some { page := p.page, off := off, w1s := 0xFFFF }
      else if off = 0xC88 then some { page := p.page, off := off, w1c := Nat.land 0xFFFF m }
      else none

/-- Whether a row of a page covers an offset of it. -/
def RegRow.covers (r : RegRow) (p : PageRef) (off : Nat) : Bool :=
  decide (r.page = p.page ∧ r.off ≤ off ∧ (off - r.off) % r.stride = 0 ∧ (off - r.off) / r.stride < r.count ∧
    (r.only0 = false ∨ p.inst = 0))

/-- The tile that carries gateway g (R196). -/
def gatewayTiles : List Nat := [8, 32, 48, 15, 39, 55]

/-- The register at an offset of a page, if the spec defines one there. -/
def regRow (p : PageRef) (off : Nat) : Option RegRow :=
  match commonRow p off with
  | some r => some r
  | none =>
    match (blockRows p.cls).find? (fun r => r.covers p off) with
    | none => none
    | some r =>
      if p.cls = .tile ∧ 0xC0 ≤ off ∧ off < 0xD0 ∧ p.inst ∈ gatewayTiles then some { r with rw := 0x3FFF } else some r

/-- Cells of allotment v at reset (R201). -/
def allotReset (v : Nat) : Nat :=
  match v / 4, v % 4 with
  | 0, 0 => 1024
  | 0, 1 => 384
  | 1, 0 => 1024
  | 1, 1 => 384
  | 2, 0 => 512
  | 2, 1 => 256
  | _, _ => 128

/-- Reset value of a register: its row's, but for what differs between instances of a class: the allotments, the
gateway tiles' registers (R201 R222), a ring stop's number (R486), and the calibrated current of a diode, which every reset
loads again (R161). -/
def resetAt (p : PageRef) (off : Nat) (r : RegRow) : Nat :=
  match p.cls with
  | .tile =>
    if 0x80 ≤ off ∧ off < 0xC0 then allotReset ((off - 0x80) / 4)
    else if p.inst ∈ gatewayTiles then
      if off = 0x40 then setFld r.reset 27 24 (gatewayTiles.idxOf p.inst + 1)
      else if 0xC0 ≤ off ∧ off < 0xD0 then 1024
      else if off = 0x58 then 13312
      else r.reset
    else r.reset
  | .noc => if off = 0x48 then setFld 0 13 8 p.inst else r.reset
  | .opte => if p.page = 1 ∧ 0x60 ≤ off ∧ off < 0x80 then Config.laserSet p.inst ((off - 0x60) / 4) % 256 else r.reset
  | _ => r.reset

/-- What the register at an address reads as after reset; 0 where the spec defines none (R7). -/
def regDefault (a : Nat) : Word :=
  match locate a with
  | none => 0
  | some (p, off) =>
    match regRow p off with
    | none => 0
    | some r => BitVec.ofNat 32 (resetAt p off r)

/-- The persistent fields of the register at an address (log 2). -/
def regKeep (a : Nat) : Nat :=
  match locate a with
  | none => 0
  | some (p, off) => match regRow p off with | none => 0 | some r => r.keep

/-- Mask of every field software can change by a write. -/
def RegRow.writable (r : RegRow) : Nat := Nat.lor (Nat.lor (Nat.lor r.rw r.w1c) (Nat.lor r.w1s r.wo)) r.wk

end Sys2Proof.Machine
end

