-- ==== Sys2Proof/Machine/StatePlat.lean ====
section
/-! DEFINITION. Plain data of the platform blocks: module power and pins, persistent store, reference clock and
tick, Zynken unit, change journal, firmware, service, dump and error handling (chapters 02-05, 16, 19-21). -/

namespace Sys2Proof.Machine

/-- A key slot's pending change (R126). -/
structure KeyPend where
  /-- the change erases the slot -/
  erase : Bool
  key : Bytes
  keyId : Nat
  bindBase : Nat
  bindMask : Nat
  /-- tick from which it takes effect -/
  boundary : Nat
deriving DecidableEq, Repr

/-- The latest tick marker of a port (R64-R66). -/
structure Marker where
  count : Nat
  hops : Nat
  aligned : Bool
  master : Nat
  stamp : Nat
  arrival : Int
  /-- tick in which it arrived -/
  tick : Nat
  bytes : Bytes
deriving DecidableEq, Repr

/-- A dump being written (R557 R562). -/
structure DumpRun where
  live : Bool
  origin : Nat
  /-- a host copy follows (R561) -/
  host : Bool
  /-- tick and cycle of entry, or of the trigger -/
  start : Nat
  cycle : Nat
  /-- both headers are written, and the copy to host memory runs -/
  done : Bool
deriving DecidableEq, Repr

/-- A section of a dump (19 R558 R559). -/
structure DumpSec where
  typ : Nat
  inst : Nat
  /-- 0 complete, 1 truncated, 2 skipped, 3 holes, 4 not written in time -/
  status : Nat
  /-- offset from the start of the dump -/
  off : Nat
  /-- tick in which it was latched -/
  tick : Nat
  data : Bytes
deriving DecidableEq, Repr

/-- A firmware activation in progress (R494-R497). -/
structure FwAct where
  bank : Nat
  raiseSvn : Bool
  /-- the image check has ended well -/
  checked : Bool
  /-- the activation has begun, at the boundary after the check -/
  begun : Bool
  /-- clusters still to reload, in order -/
  todo : List Nat
  /-- the command's frame and path, and the tick in which it executed, for its reply -/
  frame : Bytes
  path : ZPath
  tick : Nat
deriving DecidableEq, Repr

/-- Module power, pins and presence (02_module_power_insertion.md). -/
structure Power where
  /-- auxiliary 12 V rail within limits, so the auxiliary domain runs | 1 | 02 R17 R35 | true -/
  aux : Bool
  /-- main domain powered (hot-swap switch conducting) | 1 | 02 R41 HS_ON | false -/
  main : Bool
  /-- presence contact A mated | 1 | 02 R29 R51 | false -/
  matedA : Bool
  /-- presence contact B mated | 1 | 02 R29 R51 | false -/
  matedB : Bool
  /-- stage 2 mated on an input filter below 90% before the auxiliary domain came up | 1 | 02 R45 | false -/
  lowMate : Bool
  /-- ramp from closing until the main domain is fully powered | 1 | 02 R46 | false -/
  ramp : Bool
  /-- a UV or OV turn-off that waits for a MAIN_EN cycle of 100 ms | 1 | 02 R36 R43 | false -/
  ovuvPending : Bool
  /-- an abandoned ramp waits for a MAIN_EN cycle | 1 | 02 R46 | false -/
  rampPending : Bool
  /-- closing permitted under R607: after auxiliary power-up, a MAIN_EN cycle, or GLB DOCK from OUT | 1 | 21 R607 | true -/
  closePermit : Bool
  /-- CRIT entered, main domain to power off | 1 | 02 R38 | false -/
  critPending : Bool
deriving DecidableEq, Repr

/-- The persistent store (PSTO; survives loss of both rails). -/
structure Persist where
  /-- a surprise-removal record not yet acknowledged | 1 | 02 R41 R51 | false -/
  surprise : Bool
  /-- a TRIP record | 1 | 02 R42 | false -/
  trip : Bool
  /-- persisted high-water mark per Zynken origin index 0-146 | 64 | 05 R122 | 0 -/
  hwm : Tab Nat
  /-- key of slot k, 32 bytes | 256 | 05 R124 | DESIGN CHOICE empty (log 2) -/
  keys : Tab Bytes
  /-- pending change of slot k: erase, key, bind base, bind mask, key id, boundary tick | - | 05 R126 | none -/
  keyPend : Tab (Option KeyPend)
  /-- retired elements: (page key, element, ext) | - | 19 R551 | none -/
  retired : List (Nat × Nat × Nat)
  /-- spare rows, bus lanes or diodes used, by page key and kind | 16 | 19 R551 R553 | 0 -/
  sparesUsed : Tab Nat
  /-- firmware image in bank 2*(KIND-1)+BANK | 1 MiB | 16 R492 | empty -/
  fwBank : Tab Bytes
  /-- a staging of the bank was interrupted | 1 | 21 R608 | false -/
  fwBroken : Tab Bool
  /-- MIN_SVN of KIND 1 and 2 | 32 | 16 R493 | 0 -/
  minSvn : Tab Nat
  /-- signing key k revoked | 1 | 16 R493 | false -/
  revoked : Tab Bool
deriving DecidableEq, Repr

/-- Reference inputs, PLL, tick and tick jobs (03_reference_and_tick.md). -/
structure Tick where
  /-- TICK runs (step 1 of R597 has locked) | 1 | 03 R59, 05 R121 | false -/
  running : Bool
  /-- TICK.COUNT | 64 | 03 R59 | DESIGN CHOICE 0 (log 1) -/
  count : Nat
  /-- core cycle within the tick, 0-1534 | 11 | 03 R61, 04 R103 | 0 -/
  cc : Nat
  /-- the input monitors run (step 1 of R597 begun) | 1 | 03 R57 | false -/
  monitors : Bool
  /-- the PLL has made its first lock since the main-domain reset | 1 | 03 R58 | false -/
  locked : Bool
  /-- tick in which holdover was entered | 64 | 03 R58 | 0 -/
  holdStart : Nat
  /-- latest tick marker of each port | - | 03 R64-R66 | none -/
  marker : Tab (Option Marker)
  /-- offsets measured from the parent, newest first, in 1/64 cc | 32 | 03 R66 | empty -/
  offsets : List Int
  /-- core-clock phase moved by tracking, in 1/64 cc | - | 03 R67 | 0 -/
  phase : Int
  /-- the module has had a parent since the main-domain reset | 1 | 03 R60 R70 | false -/
  hadParent : Bool
  /-- job j is still running from an earlier tick | 1 | 03 R73 | false -/
  busy : Tab Bool
  /-- job j of this tick was skipped | 1 | 03 R73 | false -/
  skipped : Tab Bool
  /-- registers as they stood at cc 0, for the tick jobs | - | 03 R74 | empty -/
  cfg0 : Tab Word
  /-- ticks whose refill was skipped since the last completed one | 16 | 18 R532, 03 R73 | 0 -/
  missedRefills : Nat
  /-- a run of job 6: the next core cycle whose shapers it refills, and the ticks that a refill stands for | - | 18 R532 | none -/
  refill : Option (Nat × Nat)
deriving DecidableEq, Repr

/-- Who holds or asks for a cleat (R516): a local origin, or a remote VI through a window. -/
inductive CleatHolder where
  | origin (id : Nat)
  | remote (src vi window : Nat)
deriving DecidableEq, Repr

/-- A queued critical command (05_zynken_commands.md R119). -/
structure ZCmd where
  path : ZPath
  frame : Bytes
  /-- first tick in which it is due -/
  due : Nat
  /-- core cycle and tick of acceptance -/
  carried : Bool
  /-- holder and SEQ captured for CLEAT_RELEASE (R523) -/
  captured : Option (CleatHolder × Nat)
  /-- commands that it has superseded in this tick, to be answered when it executes (R119 R613) -/
  losers : List (ZPath × Bytes)
  /-- last of the cycles that it occupies in this tick's window (R613) -/
  last : Option Nat
deriving DecidableEq, Repr

/-- The mailbox of a host port (R112): a transfer waits for its frame to be read, or owes a frame its reply. -/
inductive ZBox where
  | idle
  | reading
  | owed (frame : Bytes)
deriving DecidableEq, Repr

/-- The Zynken unit. -/
structure Zyn where
  /-- accepted critical commands in queue order | 64 entries | 05 R119 R117 | empty -/
  queue : List ZCmd
  /-- high-water mark in force per origin index | 64 | 05 R122 R123 | DESIGN CHOICE 2^20 (persisted 0 plus reserve; log 2) -/
  hwm : Tab Nat
  /-- origin indexes whose mark a frame has raised and the store does not hold yet | - | 05 R122 | empty -/
  dirty : List Nat
  /-- open management-port session: origin and slot | - | 05 R128 | none -/
  session : Option (Nat × Nat)
  /-- tick of the last valid frame of the session, or 0 when TICK has started since | 64 | 05 R129 | 0 -/
  sessTick : Nat
  /-- ticks of the session's idle time before TICK stopped last | 64 | 05 R129 | 0 -/
  sessSpent : Nat
  /-- TICK has not run at some time since that frame | 1 | 05 R129 | false -/
  sessOff : Bool
  /-- management controller resetting, no frame accepted | 1 | 21 R596 | false -/
  mcReset : Bool
  /-- a reset by MC_RST.GO is due | 1 | 21 R596 | false -/
  mcResetDue : Bool
  /-- session reads of cleat words that stall: stall and frame | - | 05 R130, 17 R521 | empty -/
  reads : List (Nat × Bytes)
  /-- mailbox of host port h | - | 05 R112 | idle -/
  mailbox : Tab ZBox
deriving DecidableEq, Repr

/-- The change journal (04_register_model.md R102-R110, 21 R599). -/
structure Jrnl where
  /-- index of the next record of the ring | 64 | 04 R107 | 0 -/
  wr : Nat
  /-- index of the restart record | 64 | 04 R107 R108 | 0 -/
  start : Nat
  /-- records in the ring, by index | 32 bytes each | 04 R103 R106 | none -/
  ring : Tab Bytes
  /-- records made and not yet written to the ring, oldest first | 32 bytes each | 04 R105 | empty -/
  pendingRec : List Bytes
  /-- held records, oldest first | 4096 x 32 bytes | 21 R599 | empty -/
  held : List Bytes
  /-- records the held buffer overwrote while the ring was stopped | 32 | 04 R108 | 0 -/
  overwritten : Nat
  /-- records waiting for mirror h, oldest first | - | 04 R109 R110 | empty -/
  mirror : Tab (List Bytes)
deriving DecidableEq, Repr

/-- An error log entry (19 R579). -/
structure ErrEntry where
  tick : Nat
  page : Nat
  element : Nat
  bit : Nat
  kind : Nat
  verdict : Nat
  action : Nat
  ext : Nat
deriving DecidableEq, Repr

/-- A targeted or full test of an instance (19 R547-R549). -/
structure Test where
  /-- page key of the page that reported the error -/
  page : Nat
  element : Nat
  ext : Nat
  bit : Nat
  kind : Nat
  /-- aborted once already -/
  again : Bool
deriving DecidableEq, Repr

/-- Error classification, the fatal state and the dump (19_reliability.md). -/
structure Relia where
  /-- test running on the instance with page-0 key k | - | 19 R549 | none -/
  running : Tab (Option Test)
  /-- tests queued on the instance | 8 entries | 19 R549 | empty -/
  queued : Tab (List Test)
  /-- error log ring by slot | 256 entries | 19 R579 | zero -/
  log : Tab ErrEntry
  /-- audit skips in a row per pool number | 2 | 19 R546 | 0 -/
  auditSkips : Tab Nat
  /-- rows withdrawn of tile t, taking effect at the next cc 0 | - | 19 R548 | 0 -/
  withdrawing : Tab Nat
  /-- dump being written or copied: live flag, origin, host copy wanted, tick and cycle of start | - | 19 R557-R562 | none -/
  dump : Option DumpRun
  /-- dump header of die d with its section table, as last written | 128 bytes and 32 each | 19 R557 R558 | none -/
  dumpHdr : Tab Bytes
  /-- sections of die d's dump | - | 19 R557 R559 | none -/
  dumpSecs : Tab (List DumpSec)
deriving DecidableEq, Repr

/-- Engine firmware, activation and staging (16, 21). -/
structure Fw where
  /-- activation of KIND k in progress | - | 16 R495-R497 | none -/
  act : Tab (Option FwAct)
  /-- reload of cluster c in progress: tick it began, bank, and whether its timeout has been raised | - | 16 R496 | none -/
  reload : Tab (Option (Nat × Nat × Bool))
  /-- bank cluster c loads when it next passes through DOCK | - | 16 R497 | none -/
  pendBank : Tab (Option Nat)
  /-- bank whose SVN is to become MIN_SVN when every cluster runs it | 1 | 16 R495 | none -/
  raiseBank : Option Nat
  /-- bytes written through STAGE_DATA by offset | 1 MiB | 21 R608 R611 | empty -/
  stage : Tab (BitVec 32)
deriving DecidableEq, Repr

/-- Service transitions (21 R601-R606). -/
structure Svc where
  /-- requested state of a transition in progress, by page-0 key | 4 | 21 R601 | none -/
  target : Tab (Option Nat)
  /-- tick in which DRAINING began | 64 | 21 R604 | 0 -/
  drainStart : Tab Nat
  /-- the instance stands in DOCK entered with VERDICT 1 | 1 | 21 R601 | false -/
  dockPass : Tab Bool
  /-- the drain limit of this DRAINING has been reported | 1 | 21 R604 | false -/
  drainTold : Tab Bool
  /-- tick in which FENCE was requested plus 1; 0 when its timeout is not awaited | 64 | 15 R475 | 0 -/
  fenceStart : Tab Nat
deriving DecidableEq, Repr

end Sys2Proof.Machine
end

