-- ==== Sys2Proof/Machine/StateEnd.lean ====
section
/-! DEFINITION. Plain data of the service dies: Wiluth transport, windows, matching, collectives, VIs, memory,
trigger stages, cleats and the Lanyard pair (chapters 10-19). -/

namespace Sys2Proof.Machine

/-- A sequenced packet not yet acknowledged (10 R278-R284). -/
structure UPkt where
  pkt : Bytes
  seq : Nat
  /-- tick in which the first copy left, and the last -/
  first : Nat
  last : Nat
  /-- copies sent -/
  copies : Nat
  /-- current retransmission interval in ticks -/
  interval : Nat
  /-- ticks held under R302, which count toward no limit -/
  heldTicks : Nat
  /-- those of them since the last copy left -/
  stalled : Nat
deriving DecidableEq, Repr

/-- What an initiated message is (10 R288-R298, 11 R327-R331). -/
inductive MsgKind where
  | put | putSignal | signal | get | atomic | fetch | msend
deriving DecidableEq, Repr

/-- A read request whose answer has not arrived (10 R295). -/
structure RdReq where
  /-- MSG_OFS, READ_LEN and sequence number -/
  ofs : Nat
  len : Nat
  seq : Nat
  /-- its clearance token is still out -/
  token : Bool
deriving DecidableEq, Repr

/-- An outgoing message of a transmit half. -/
structure TxMsg where
  /-- MSG_ID -/
  id : Nat
  /-- issuing VI and descriptor number -/
  vi : Nat
  desc : Nat
  kind : MsgKind
  len : Nat
  /-- its packets' fabric and Wiluth headers, without length and sequence -/
  hdr : Bytes
  /-- local buffer, and the key-rights its accesses use (14 R441) -/
  laddr : Nat
  keys : Nat
  /-- a get-with-fence (11 R335) -/
  fence : Bool
  /-- bytes of read requests sent so far -/
  ofs : Nat
  /-- tick of the last read request (10 R295) -/
  paced : Option Nat
  reads : List RdReq
  /-- the fetched value has not arrived -/
  fetching : Bool
  /-- status noted by a NOTICE, a refusing GRANT or a local failure -/
  status : Option Nat
  /-- sequence numbers of its packets not yet passed by DONE_NEXT -/
  seqs : List Nat
  /-- every packet of it has been sent for the first time -/
  allSent : Bool
  /-- announced by an INTENT, bytes granted -/
  announced : Bool
  granted : Nat
  /-- MSG record of a message adopted from the failed twin (19 R574); empty for the module's own -/
  adopt : Bytes := []
deriving DecidableEq, Repr

/-- States of a transmit half (10 R276); CLOSED is its absence. -/
inductive TxState where
  | syn | opened | closing
deriving DecidableEq, Repr

/-- The transmit half of a peer context (10 R271-R301). -/
structure TxHalf where
  state : TxState
  cgen : Nat
  txNext : Nat
  unacked : List UPkt
  /-- 8*SRTT and 4*RTTVAR in ticks (R282) -/
  srtt8 : Nat
  rttvar4 : Nat
  msgs : List TxMsg
  nextMsg : Nat
  /-- DONE_NEXT and NOTE_NEXT of ACKs whose notices have not all arrived (R298) -/
  acks : List (Nat × Option Nat)
  /-- tick since which it has had nothing unacknowledged and nothing queued -/
  idleSince : Nat
  /-- Lanyard ceiling (19 R566) -/
  ceil : Option Nat
  /-- freed packets that left after some unacknowledged one: sequence number and tick of the last copy (R281) -/
  gone : List (Nat × Nat) := []
  /-- ticks of the last 65,536 in which copies left, with RETX (R282) -/
  sent : List (Nat × Bool) := []
deriving DecidableEq, Repr

/-- An announced incoming message (10 R291-R294). -/
structure Ann where
  msg : Nat
  vi : Nat
  len : Nat
  /-- INTENT packet -/
  intent : Bytes
  accepted : Bool
  /-- bytes granted and the limit on them (12 R361) -/
  granted : Nat
  limit : Nat
  /-- status of the refusing GRANT still to be sent -/
  refuse : Option Nat
  /-- GRANT offsets whose token is outstanding -/
  tokens : List Nat
  /-- tick and cycle from which it is eligible -/
  since : Nat
  /-- its refusing GRANT has been sent, or its last GRANT -/
  past : Bool
deriving DecidableEq, Repr

/-- The receive half of a peer context (10 R274-R287). -/
structure RxHalf where
  cgen : Nat
  rcvNext : Nat
  /-- sequence numbers received at or beyond RCV_NEXT -/
  received : List Nat
  /-- ORD packets held in the resequencing store -/
  held : List Bytes
  /-- sequence numbers presented and not yet disposed of -/
  undisposed : List Nat
  /-- sequence number of the CLOSE received -/
  closeSeq : Option Nat
  /-- change not yet reported by an ACK -/
  ackDue : Bool
  /-- packets accepted in order since the last ACK -/
  inOrder : Nat
  anns : List Ann
  /-- messages presented without their LAST packet: MSG_ID -/
  openMsgs : List Nat
  /-- messages whose first packet was rejected: MSG_ID and status (12 R372) -/
  rejected : List (Nat × Nat)
  gapped : Bool
deriving DecidableEq, Repr

/-- A peer context record (10 R271 R272). -/
structure Ctx where
  /-- agents: 16*address, plus 1 for a collective unit -/
  loc : Nat
  rem : Nat
  tx : Option TxHalf
  rx : Option RxHalf
  /-- tombstone: CLOSE_CGEN and expiry tick (R277) -/
  tomb : Option (Nat × Nat)
  /-- RCV_NEXT at the end of the last receive half, and the tick (R298) -/
  passed : Option (Nat × Nat) := none
  /-- adopted from the failed twin, crossed (19 R572-R575) -/
  adopted : Bool
  crossed : Bool
  /-- tick of its last change -/
  touched : Nat
deriving DecidableEq, Repr

/-- A packet that waits for admission (18 R535-R537). -/
structure TxReq where
  vi : Nat
  cls : Nat
  loc : Nat
  rem : Nat
  /-- MSG_ID -/
  msg : Nat
  /-- fabric and Wiluth headers, without sequence; for class 2, a whole packet of the unit's own -/
  pkt : Bytes
  /-- payload to read from the VI's memory: address and key-rights -/
  read : Option (Nat × Nat)
  /-- payload otherwise -/
  data : Bytes
  /-- last packet of its message -/
  last : Bool
  /-- its wait for the shaper, and for the window, has been counted -/
  waited : Bool
  windowed : Bool
  /-- its wait at the Lanyard ceiling has been counted -/
  ceiled : Bool
  /-- its wait for the allowance, and for a record or the reopen delay, has been counted (10 R304) -/
  allowed : Bool := false
  late : Bool := false
deriving DecidableEq, Repr

/-- One XPT unit beyond its registers. -/
structure Xpt where
  /-- context records | 262144 | 10 R272 | empty -/
  ctxs : List Ctx
  /-- directions closed: local agent, remote agent, tick | - | 10 R273 | empty -/
  closed : List (Nat × Nat × Nat)
  /-- sources answered by a RESET, and the tick | - | 10 R300 | empty -/
  resets : List (Nat × Nat)
  /-- receive halves that ended, still to be followed up: local agent, remote agent, CGEN | - | 12 R368, 13 R416, 17 R524 | empty -/
  ended : List (Nat × Nat × Nat)
  /-- eager payload delivered to host port j in this tick and the last | 32 | 10 R292 | 0 -/
  eager : Tab Nat
  eagerLast : Tab Nat
  /-- clearances issued to host port j in this tick | 8 | 10 R292 | 0 -/
  issued : Tab Nat
  /-- clearance round-robin position of host port j | - | 10 R291 | 0 -/
  rr : Tab Nat
  /-- the clearance run of this tick has taken place | 1 | 10 R291 | false -/
  ran : Bool
  /-- packets waiting for admission, oldest first | 64 messages per VI and class | 18 R535-R537 | empty -/
  waiting : List TxReq
  /-- (VI, class) pair served last | 14 | 18 R537 | 0 -/
  lastPair : Nat
  /-- packets presented to upper-layer units and not yet handled | - | 10 R286 | empty -/
  presented : List Bytes
  /-- packets that a gateway has ejected to this unit and that it has not yet taken | - | 08 R199, 10 R271 | empty -/
  arrived : List Bytes
  /-- those of them that came over the Lanyard | - | 19 R575 | empty -/
  overLany : List Bytes
deriving DecidableEq, Repr

/-- A piece of a translated access: protection key and attributes of its block, bus address, bytes (14 R438). -/
structure Piece where
  pkey : Nat
  /-- [1] No Snoop, [0] Relaxed Ordering -/
  attr : Nat
  bus : Nat
  len : Nat
deriving DecidableEq, Repr

/-- A window descriptor (11 R311). -/
structure Win where
  /-- 0 FREE, 1 VALID, 2 POISONED | 2 | 11 R311 | 0 -/
  state : Nat
  /-- times the generation has advanced since GEN_SEED was set (R312) -/
  advances : Nat
  base : Nat
  len : Nat
  rights : Nat
  attr : Nat
  owner : Nat
  eq : Nat
  kr : Nat
  ctr : Nat
  srcAddr : Nat
  srcPlen : Nat
  srcVi : Nat
  srcFlags : Nat
  regTick : Nat
  revTick : Nat
deriving DecidableEq, Repr

/-- Where an access goes (11 R332, 17 R525). -/
inductive Place where
  /-- host memory of the owner VI, in pieces translated at the check -/
  | host (pieces : List Piece)
  /-- the HBM pool, at an offset -/
  | pool (off : Nat)
  /-- a cleat -/
  | cleat (k : Nat)
deriving DecidableEq, Repr

/-- An access in flight (11 R316 R326 R335). -/
structure Access where
  id : Nat
  window : Nat
  /-- owner VI and the descriptor's fields when it was checked -/
  vi : Nat
  win : Win
  pkt : Bytes
  place : Place
  /-- its window has been revoked: tick and cycle (tick*1024+cc) of its deadline, and the revoke -/
  deadline : Option (Nat × Nat)
  /-- a fenced GET waits for these sequence numbers of its receive half -/
  waits : List Nat
  /-- the value a cleat has returned -/
  reply : Option Nat
deriving DecidableEq, Repr

/-- A revoke whose fence has not ended. -/
structure Revoke where
  id : Nat
  window : Nat
  vi : Nat
  /-- descriptor whose completion is owed; none for a revoke-all -/
  desc : Option Nat
  deadline : Nat
deriving DecidableEq, Repr

/-- One MWU beyond its registers. -/
structure Mwu where
  /-- accesses that have passed their checks and are not disposed of | - | 11 R316 | empty -/
  accesses : List Access
  /-- revokes whose fences have not ended | - | 11 R316 | empty -/
  revokes : List Revoke
  /-- violation events posted to VI v in this tick | 32 | 11 R338 | 0 -/
  violNow : Tab Nat
  /-- violation events left out since the last one posted to VI v | 32 | 11 R338 | 0 -/
  violLost : Tab Nat
deriving DecidableEq, Repr

/-- A posted entry (12 R352). -/
structure Posted where
  buf : Nat
  bufLen : Nat
  comm : Nat
  srcRank : Nat
  anySrc : Bool
  anyTag : Bool
  tag : Nat
  cq : Nat
  queue : Nat
  stamp : Nat
  cookie : Nat
  desc : Nat
  postTick : Nat
deriving DecidableEq, Repr

/-- An unexpected entry (12 R353). -/
structure Unexp where
  stamp : Nat
  /-- entry index within the MTCH -/
  index : Nat
  msgLen : Nat
  comm : Nat
  srcRank : Nat
  tag : Nat
  claimed : Bool
  complete : Bool
  announced : Bool
  src : Nat
  srcVi : Nat
  msgId : Nat
  cgen : Nat
  /-- bounce slots taken and their contents -/
  slots : Nat
  data : Bytes
  arrTick : Nat
deriving DecidableEq, Repr

/-- A receive that has matched and is placing data (12 R358-R363). -/
structure Placing where
  id : Nat
  posted : Posted
  /-- source endpoint, VI, message number, generation -/
  src : Nat
  srcVi : Nat
  msgId : Nat
  cgen : Nat
  srcRank : Nat
  tag : Nat
  msgLen : Nat
  placed : Nat
  status : Nat
  /-- data still comes from the fabric -/
  announced : Bool
  /-- bounce slots to copy: slots, data, and the data's offset in the message -/
  copySlots : Nat
  copyData : Bytes
  copyOfs : Nat
  /-- the second eager packet has not arrived -/
  awaitSecond : Bool
  /-- RECV_CLAIMED rather than MRECV -/
  claimed : Bool
deriving DecidableEq, Repr

/-- Match state of a VI (12 R349-R376). -/
structure Match where
  postStamp : Nat
  arrStamp : Nat
  /-- posted entries in stamp order -/
  posted : List Posted
  /-- unexpected entries in arrival order, claimed ones included -/
  unexp : List Unexp
  placing : List Placing
  /-- STOPPED with cause 1-5, 0 when running -/
  stopCause : Nat
deriving DecidableEq, Repr

/-- A slot of a collective tree node (13 R396). -/
structure Slot where
  /-- KIND (1 local member, 2 child router), ID, REF and FROM_STEP as an unwrapped step number -/
  kind : Nat
  id : Nat
  ref : Nat
  fromStep : Nat
  /-- excused from this step on (R413 R416) -/
  excused : Option Nat
  /-- up segments of the edge consumed (R400) -/
  upDone : Nat
  /-- down segments of the edge sent, and the child's CUM -/
  downNext : Nat
  downCum : Nat
  /-- next step that the local member or the child opens -/
  opened : Nat
  /-- tick of the last packet heard from the child -/
  heard : Nat
deriving DecidableEq, Repr

/-- Step parameters (13 R387). -/
structure StepPar where
  kind : Nat
  op : Nat
  typ : Nat
  mode : Nat
  count : Nat
  root : Nat
deriving DecidableEq, Repr

/-- A packet's worth of a slot's segment (13 R393 R398). -/
structure Part where
  slot : Nat
  seg : Nat
  contrib : Nat
  /-- first element, and the elements -/
  first : Nat
  data : Bytes
  /-- last packet of the segment, and segment the last of the step -/
  whole : Bool
  lastSeg : Bool
deriving DecidableEq, Repr

/-- A step at a node that holds no DONE for it, or has not finished it (13 R397-R402). -/
structure CStep where
  /-- step number, unwrapped -/
  k : Nat
  par : Option StepPar
  /-- the node has opened it -/
  isOpen : Bool
  parts : List Part
  /-- next segment to combine or forward -/
  next : Nat
  /-- lowest CONTRIB so far (root) -/
  low : Nat
  /-- every segment has been combined (R398) -/
  combined : Bool
  /-- EPOCH and MEMBERS at the combine point (root) -/
  verdict : Option (Nat × Nat)
  /-- result segments to be delivered: segment, last flag, data -/
  results : List (Nat × Bool × Bytes)
  /-- how many of them, from the front, have gone to the children -/
  handed : Nat
  /-- DONE payload held -/
  done : Option Bytes
  /-- DONE has gone to the children -/
  doneSent : Bool
  /-- a departure lies between its open and combine points (root) -/
  changed : Bool
  /-- segment starts already counted as delayed, up and down, plus 1 -/
  upWait : Nat
  downWait : Nat
  started : Nat
deriving DecidableEq, Repr

/-- A member's outstanding step (13 R388 R402). -/
structure MStep where
  vi : Nat
  slot : Nat
  queue : Nat
  desc : Nat
  k : Nat
  inAddr : Nat
  outAddr : Nat
  /-- segments of IN read -/
  read : Nat
  /-- DIRECT elements written -/
  directDone : Nat
  /-- its next read's wait for the shaper has been counted -/
  waited : Bool
deriving DecidableEq, Repr

/-- A group record (13 R396 R422). -/
structure Group where
  /-- 0 FREE, 1 JOINING, 2 LIVE, 3 REPAIR_WAIT, 4 QUARANTINE | 3 | 13 R422 | 0 -/
  state : Nat
  ctag : Nat
  creator : Nat
  epoch : Nat
  members : Nat
  /-- size at creation -/
  n : Nat
  /-- parent's router and local index -/
  parent : Option (Nat × Nat)
  /-- the root's router, and at the root where each rank lies: 4096*router + local index, slot -/
  root : Nat
  places : List (Nat × Nat)
  /-- edge to the parent: up segments sent, parent's CUM, down segments consumed -/
  upNext : Nat
  upCum : Nat
  downDone : Nat
  slots : List Slot
  /-- next step to open, and lowest step without DONE -/
  next : Nat
  doneNext : Nat
  steps : List CStep
  msteps : List MStep
  /-- tick of the quarantine's or the repair wait's end -/
  deadline : Nat
  bufUnits : Nat
  /-- repair in progress at the root: routers that owe a REPAIRED, and FIRST_STEP -/
  repair : Option (List Nat × Nat)
  /-- first step after the last repair of this node as an orphan -/
  firstStep : Nat
  /-- ranks departed (root) -/
  gone : List Nat
  /-- tick of the last packet heard from the parent -/
  heard : Nat
  /-- DEPART payloads held while the node waits for a new parent -/
  owed : List Bytes
deriving DecidableEq, Repr

/-- A GROUP_CREATE in progress at the leader (13 R384). -/
structure Creation where
  ctag : Nat
  vi : Nat
  desc : Nat
  /-- member table, and the tree that firmware laid out -/
  entries : List Nat
  tree : List TreeNode
  /-- the leader's own local index -/
  own : Nat
  /-- answers: router, local index, status -/
  answers : List (Nat × Nat × Nat)
deriving DecidableEq, Repr

/-- A translation block of the active set (14 R437-R439). -/
structure TBlock where
  index : Nat
  vbase : Nat
  len : Nat
  pbase : Nat
  pkey : Nat
  /-- [1] No Snoop, [0] Relaxed Ordering -/
  attr : Nat
deriving DecidableEq, Repr

/-- A fetched descriptor not yet completed (14 R449 R451). -/
structure Desc where
  num : Nat
  queue : Nat
  bytes : Bytes
  /-- CMDQq_KEYRIGHTS when fetched -/
  keys : Nat
  begun : Bool
  /-- the firing of a chain it belongs to (16 R506) -/
  firing : Option Nat
  /-- held back under R536 -/
  held : Bool
  /-- a chain's entry whose deferral has been counted (10 R304) -/
  counted : Bool := false
  /-- its place in the order of fetching, over all VIs (11 R314) -/
  stamp : Nat := 0
deriving DecidableEq, Repr

/-- A command queue of a VI (14 R445-R448). -/
structure CmdQ where
  head : Nat
  tail : Nat
  /-- ERR_CAUSE, 0 while ERROR is 0 -/
  error : Nat
  /-- the head descriptor is held under R304, R371 or R536 -/
  deferred : Bool
deriving DecidableEq, Repr

/-- A completion queue of a VI (14 R446-R450). -/
structure CplQ where
  head : Nat
  tail : Nat
  error : Bool
  armed : Bool
  evLost : Nat
deriving DecidableEq, Repr

/-- A chain slot (16 R502-R508). -/
structure Chain where
  /-- 0 FREE, 1 ARMED, 2 FIRING -/
  state : Nat
  entries : List Bytes
  queue : Nat
  rearm : Bool
  orderAll : Bool
  ctr : Nat
  /-- DONE_CTR when DONE_EN is 1 -/
  doneCtr : Option Nat
  threshold : Nat
  stride : Nat
  /-- next entry to begin -/
  next : Nat
  /-- firing in progress -/
  firing : Nat
  /-- firings since the arm -/
  firings : Nat
deriving DecidableEq, Repr

/-- A firing of a chain (16 R507). -/
structure Firing where
  id : Nat
  slot : Nat
  /-- entries of it that have not completed -/
  left : Nat
  /-- every completed entry ended OK -/
  ok : Bool
  doneCtr : Option Nat
deriving DecidableEq, Repr

/-- A virtual interface beyond its registers (14 R433-R463). -/
structure Vi where
  /-- VI_CREATE values | 22 | 14 R433 | 0 -/
  winFirst : Nat
  /-- window indexes of the VI | 17 | 14 R433 | 0 -/
  winCount : Nat
  /-- match domain | 16 | 14 R433 | 0 -/
  domain : Nat
  /-- posted-entry quota | 20 | 14 R433 | 0 -/
  postMax : Nat
  /-- unexpected-entry quota | 20 | 14 R433 | 0 -/
  unexpMax : Nat
  /-- bounce-slot quota | 20 | 14 R433 | 0 -/
  bounceMax : Nat
  /-- first cleat of the allotment | 12 | 14 R433 | 0 -/
  cleatFirst : Nat
  /-- cleats in the allotment | 13 | 14 R433 | 0 -/
  cleatCount : Nat
  /-- pool allotment, in units of 2 MiB | 18 | 14 R433 | 0 -/
  poolBase : Nat
  /-- length of the pool allotment, in units of 2 MiB | 18 | 14 R433 | 0 -/
  poolLen : Nat
  /-- the active set of translation blocks | 32 blocks | 14 R438 R439 | empty -/
  blocks : List TBlock
  /-- the VF's Bus Master Enable | 1 | 14 R458 R462 | false -/
  bme : Bool
  /-- the VF's ATS Enable | 1 | 14 R442 | false -/
  ats : Bool
  /-- command queues | 64 | 14 R446 | HEAD and TAIL 0 -/
  cmdq : Tab CmdQ
  /-- completion queues | 64 | 14 R446 | HEAD and TAIL 0 -/
  cplq : Tab CplQ
  /-- fetched descriptors not yet completed, in fetch order | - | 14 R449 | empty -/
  descs : List Desc
  /-- number of the next descriptor fetched (the model's own) | - | - | 0 -/
  nextDesc : Nat
  /-- completions waiting for room: completion queue and entry | - | 14 R450 | empty -/
  waiting : List (Nat × Bytes)
  /-- weighted round robin: queue being served, descriptors left of its turn | 6, 4 | 14 R449 | 0 -/
  wrrQueue : Nat
  /-- descriptors left of that queue's turn | 4 | 14 R449 | 0 -/
  wrrLeft : Nat
  /-- VI_DESTROY has been executed and the stop has not ended | 1 | 14 R435 | false -/
  destroy : Bool
  /-- a stop has revoked the VI's windows, and waits for their fences | 1 | 14 R459 | false -/
  fencing : Bool := false
  /-- trigger counters | 4096 x 64 | 16 R502 | 0 -/
  ctrs : Tab Nat
  /-- chain slots | 64 | 16 R502 | FREE -/
  chains : Tab Chain
  /-- firings whose entries have not all completed | - | 16 R507 | empty -/
  firings : List Firing
  /-- match state | - | 12 R349 | empty -/
  mtch : Match
deriving DecidableEq, Repr

/-- What a message of the ring network is (15 R466 R467 R472 R473). -/
inductive NocKind where
  | request | writeGo | writeData | readData | response | recall | slotsBack | grant | snoop | snoopRsp | snoopData
deriving DecidableEq, Repr

/-- A message on the rings. Its flits travel as one. -/
structure NocMsg where
  kind : NocKind
  /-- network: 0 request, 1 response, 2 snoop, 3 data; ring of it; clockwise loop -/
  net : Nat
  ring : Nat
  cw : Bool
  /-- VC class R of a data loop -/
  rd : Bool
  src : Nat
  dst : Nat
  /-- its transaction -/
  txn : Nat
  /-- the stop it is at, or has left on the hop it is on -/
  pos : Nat
  /-- cycles left of that hop; 0 at a stop -/
  hop : Nat
  /-- it has crossed the date line: VC D1 -/
  d1 : Bool
  /-- number of the hop credits of which it holds one -/
  hold : Option Nat
deriving DecidableEq, Repr

/-- How far a transaction has come (15 R467). -/
inductive NocPhase where
  | asked | going | sending | serving | reading | answered
deriving DecidableEq, Repr

/-- An on-chip transaction whose response has not arrived (15 R467-R471). -/
structure NocTxn where
  id : Nat
  src : Nat
  dst : Nat
  level : Nat
  wr : Bool
  bytes : Nat
  /-- ring of its data -/
  ring : Nat
  /-- bytes of read data for which the initiator has reserved space, beside its response -/
  space : Nat
  /-- what serves it holds it until that has ended: a packet (0, local and remote agent, sequence number) or a stalled read
  (1, its identity) -/
  held : Bool
  hold : List Nat
  phase : NocPhase
deriving DecidableEq, Repr

/-- The ring network (15 R464-R474). -/
structure Noc where
  /-- messages on the rings, oldest first | - | 15 R466 | empty -/
  msgs : List NocMsg
  txns : List NocTxn
  /-- hop credits in use, by stop, network, ring, direction, class and VC | - | 15 R468 R543 | 0 -/
  lent : Tab Nat
  /-- request slots in use, by target, initiator and level | 4 each | 15 R471 | 0 -/
  taken : Tab Nat
  /-- the data ring of a stop's next transaction | 3 | 15 R466 | DESIGN CHOICE 0 (log 147) -/
  rr : Tab Nat
  /-- stops that recall their slots; what has come of a recall, by fencing stop and other stop | - | 15 R473 | empty -/
  fencing : List Nat
  closed : Tab Nat
  /-- requests that wait for a slot: initiator, target, level | - | 15 R471 | empty -/
  waits : List (Nat × Nat × Nat)
deriving DecidableEq, Repr

/-- A snoop in progress for a pool line (15 R483-R485). -/
structure Snoop where
  line : Nat
  /-- ports whose BIRsp has not arrived -/
  owed : List Nat
  /-- those of them to which no snoop has gone yet: no snoop slot was free (R472); and whether it asks for data -/
  unsent : List (Nat × Bool)
  start : Nat
  /-- accesses waiting, oldest first: CXL requests of a port -/
  waiting : List (Nat × CxlKind × Bytes)
deriving DecidableEq, Repr

/-- The partition in force (R477-R480). -/
structure Partition where
  stackSet : Nat
  devGib : Nat
  reseq : Nat
  bounce : Nat
  collMib : Nat
  dumpGib : Nat
deriving DecidableEq, Repr

/-- Fabric memory (15_rings_and_memory.md). -/
structure Mem where
  /-- application pool bytes by pool offset | 378 GiB | 15 R480 | DESIGN CHOICE 0 (log 3) -/
  pool : Tab Byte
  /-- snoop filter: line -> holders, exclusive | 6 x 1048576 | 15 R483 | empty -/
  filter : Tab (List Nat × Bool)
  snoops : List Snoop
  /-- partition in force: STACKS, DEV_GIB, RESEQ_SLOTS, BOUNCE_SLOTS, COLL_BUF_MIB, DUMP_GIB -/
  part : Option Partition
  /-- CXL.mem requests of port h are answered with poison until PERST# -/
  poisoned : List Nat
  /-- ATC entries, oldest first: port, function, page | 4096 per port | 14 R442 | empty -/
  atc : List (Nat × Nat × Nat)
deriving DecidableEq, Repr

/-- A cleat (17 R516-R520). -/
structure Cleat where
  /-- holder: none when FREE -/
  holder : Option CleatHolder
  seq : Nat
  tag : Nat
  abandoned : Bool
deriving DecidableEq, Repr

/-- A stalled cleat read (17 R521 R522). -/
structure Stall where
  id : Nat
  cleat : Nat
  agent : CleatHolder
  /-- address of a local read -/
  addr : Nat
  /-- tick*1024+cc of its start, and its greatest length in cc -/
  start : Nat
  limit : Nat
  /-- MWU and access of a remote read -/
  access : Option (Nat × Nat)
deriving DecidableEq, Repr

/-- A journal run of a share whose COMMIT the link layer has not acknowledged (19 R566 R567). -/
structure LanyRun where
  tick : Nat
  /-- records of the share's whole state at the run -/
  recs : List Bytes
  /-- ceilings it sets: local agent, peer, CEIL -/
  ceils : List (Nat × Nat × Nat)
deriving DecidableEq, Repr

/-- The Lanyard pair (19 R563-R576). -/
structure Lany where
  /-- counter LANY.TXCTR is a register; shares committed: tick of the last committed run | 64 | 19 R567 | 0 -/
  committed : Tab Nat
  /-- shares fully journalled since SYNCING began | 16 | 19 R565 | empty -/
  synced : List Nat
  /-- SYNC_DONE received since EN was set | 1 | 19 R565 R570 | false -/
  syncDone : Bool
  /-- shares of the twin whose COMMIT has been taken since its pairing began | 16 | 19 R565 R567 | empty -/
  got : List Nat
  /-- runs of share c that await the acknowledgement of their COMMIT, oldest first | - | 19 R566 | empty -/
  awaiting : Tab (List LanyRun)
  /-- records of share c's state as of its last committed run | - | 19 R567 | empty -/
  journalled : Tab (List Bytes)
  /-- mirror of the twin's share c: CTX, PKT and MSG records applied at COMMIT | - | 19 R567 | empty -/
  mirror : Tab (List Bytes)
  /-- records received of a run of the twin's share c that is not yet committed | - | 19 R567 | empty -/
  staged : Tab (List Bytes)
  /-- the mirror is frozen by a failover | 1 | 19 R572 | false -/
  frozen : Bool
  /-- tick since which no JOURNAL frame has been acknowledged, or of the takeover | 64 | 19 R565 R572 | 0 -/
  lostSince : Nat
deriving DecidableEq, Repr

/-- Events that are no completion-queue record: what they report. -/
inductive Ev where
  /-- BLK_ERR bit `b` of the page of code `page` set while its mask bit is 0 (R84) -/
  | err (page b : Nat)
  /-- a temperature level is exceeded (R38) -/
  | thermal
  /-- coolant flow low or inlet high (R39) -/
  | coolant
  /-- ATTN_REQ# changed (R49) -/
  | attn
  /-- a verdict was given on the page of this code (R550) -/
  | verdict (page : Nat)
  /-- an instance exceeded the drain limit (R604) -/
  | drainLimit (page : Nat)
  /-- the state of a fabric port's lanes or link changed -/
  | port (p : Nat)
  /-- an event of a pair (R565-R576) -/
  | pair (kind : Nat)
  /-- the module entered the fatal state with a cause (R555) -/
  | fatal (cause : Nat)
  /-- firmware or a route commit ended with a result -/
  | result (kind result : Nat)
deriving DecidableEq, Repr

/-- What leaves the module (the model's own record of outputs). -/
inductive Out where
  /-- a link frame leaves fabric port p -/
  | frame (port : Nat) (bytes : Bytes)
  /-- a training frame leaves on a lane -/
  | lane (port lane : Nat) (bytes : Bytes)
  /-- PRBS31 starts on a lane at the peer's request -/
  | prbs (port lane : Nat)
  /-- a posted write to the host behind port h; attr: [0] Relaxed Ordering, [1] No Snoop, [2] translated -/
  | hostWrite (port addr attr : Nat) (bytes : Bytes)
  /-- a PCI Express AtomicOp to the host behind port h: AOP code and operand image -/
  | atomicOp (port addr op : Nat) (operand : Bytes)
  /-- MSI-X vector of the PF (fn 0) or of VF fn of port h -/
  | msix (port fn vector : Nat)
  /-- an event, by the origin ID of who receives it -/
  | event (target : Nat) (ev : Ev)
  /-- a Zynken reply on its path -/
  | reply (path : ZPath) (bytes : Bytes)
  /-- a value read by an origin -/
  | value (origin addr : Nat) (v : Word)
  /-- a back-invalidate snoop to host port h: line, and whether it asks for data -/
  | snoop (port line : Nat) (data : Bool)
  /-- a CXL.mem response to port h -/
  | cxl (port : Nat) (bytes : Bytes) (poison : Bool)
deriving DecidableEq, Repr

end Sys2Proof.Machine
end

