-- ==== Sys2Proof/Machine/StateFab.lean ====
section
/-! DEFINITION. Plain data of the switch die: lanes, links, tiles and routing (chapters 06-09). -/

namespace Sys2Proof.Machine

/-- One serial lane beyond its registers (06_lanes_and_optics.md), by 2*port+lane. -/
structure Lane where
  /-- own receiver qualified at the current step | 1 | 06 R137 R142 | false -/
  rxReady : Bool
  /-- RX_READY of the peer's last LTF | 1 | 06 R137 R138 | false -/
  peerReady : Bool
  /-- state code of the peer's last LTF | 4 | 06 R137 | 0 -/
  peerState : Nat
  /-- BOND_PROP of the peer's last LTF | 2 | 06 R137 R156 | 0 -/
  peerProp : Nat
  /-- COUNTDOWN of the peer's last LTF | 8 | 06 R137 | 255 -/
  peerCount : Nat
  /-- consecutive LTFs with the same BOND_PROP | 3 | 06 R156 | 0 -/
  propRun : Nat
  /-- answer owed to the last TAP_REQ: tap and result | 5 | 06 R137 | 0 -/
  tapResp : Nat
  /-- tick in which TRAIN, STEP or TEST was entered | 64 | 06 R136 | 0 -/
  since : Nat
  /-- consecutive ticks with FOM at or above QUAL | 7 | 06 R142 | 0 -/
  qualRun : Nat
  /-- consecutive bad ticks | 4 | 06 R143 | 0 -/
  badRun : Nat
  /-- corrected and received symbols per tick, newest first | 4096 ticks | 06 R141 | empty -/
  window : List (Nat × Nat)
  /-- the transmitter sends PRBS31 at the peer's request | 1 | 06 R144 | false -/
  prbs : Bool
  /-- step to restore when STEP times out | 2 | 06 R136 | 0 -/
  oldStep : Nat
  /-- LTFs sent with the proposal of the re-bond in progress, up to 4 | 3 | 06 R156 | 0 -/
  propSent : Nat
  /-- bytes already sent of the 256-byte repetition of the LTF | 8 | 06 R136 | 0 -/
  txPos : Nat
  /-- consecutive ticks with received power below -14.0 dBm, and with it above -12.0 dBm | 16 | 06 R146 | 0 -/
  lowRun : Nat
  highRun : Nat
  /-- consecutive ticks with the clock recovery unlocked | 16 | 06 R146 | 0 -/
  unlockRun : Nat
  /-- no FOM has been computed since FOM_MIN was last read | 1 | 06 R160 | true -/
  minFresh : Bool
deriving DecidableEq, Repr

/-- The lane layer of one port. -/
structure LanePort where
  /-- step limit of R139, 0 for none | 2 | 06 R138 R139 | 0 -/
  limit : Nat
  /-- own countdown to a step change or bond, 255 for none | 8 | 06 R138 | 255 -/
  countdown : Nat
  /-- own proposed bond | 2 | 06 R137 R156 | 0 -/
  prop : Nat
  /-- MAX_STEP taken at the start of bring-up | 2 | 06 R159 | 3 -/
  maxStep : Nat
  /-- the lanes are not OFF | 1 | 06 R136 | false -/
  live : Bool
  /-- the LTF with COUNTDOWN 0 has been sent | 1 | 06 R138 | false -/
  zeroSent : Bool
  /-- lane under test and the port's BLK_ERR bit that asked for it, 0 in a full test | - | 06 R144 R145, 21 R605 | none -/
  test : Option (Nat × Nat)
  /-- lane tests that wait, likewise | 2 lanes | 19 R547, 21 R605 | empty -/
  want : List (Nat × Nat)
  /-- lanes that have failed in the full test in progress | 2 | 21 R605 | 0 -/
  fullFails : Nat
  /-- a peer asked for TEST_REQ during a spare switch | 2 | 06 R152 | 0 -/
  prbsWait : Nat
deriving DecidableEq, Repr

/-- Spare switches of one optical engine. -/
structure Spare where
  /-- wavelength switching and the tick it started | - | 06 R153 R154 | none -/
  active : Option (Nat × Nat)
  /-- wavelengths waiting | 4 | 06 R154 | empty -/
  waiting : List Nat
  /-- tick in which HEADROOM of wavelength w set | 64 | 06 R152 | 0 -/
  since : Tab Nat
  /-- tick of the last run of power control for diode d | 64 | 06 R150 | none -/
  apc : Tab (Option Nat)
deriving DecidableEq, Repr

/-- A frame in the replay buffer (07_link_layer.md R174). -/
structure RFrame where
  seq : Nat
  typ : Nat
  vc : Nat
  cells : Bytes
  stomp : Bool
  /-- times it has begun a replay as the oldest frame -/
  count : Nat
deriving DecidableEq, Repr

/-- The link layer of one port beyond its registers. -/
structure Link where
  /-- a session is held | 1 | 07 R182 | false -/
  session : Bool
  /-- TX_NEXT | 12 | 07 R168 | 0 -/
  txNext : Nat
  /-- RX_NEXT | 12 | 07 R168 | 0 -/
  rxNext : Nat
  /-- replay buffer, oldest first | 2048 slots | 07 R174 | empty -/
  replay : List RFrame
  /-- replay in progress: next sequence number to send and the ACK_SEQ it began from | 12 | 07 R170 R173 | none -/
  replaying : Option (Nat × Nat)
  /-- a NAK is due in the next frame | 1 | 07 R170 | false -/
  nakDue : Bool
  /-- cycle of the NAK sent with no frame accepted since | - | 07 R170 | none -/
  nakAt : Option Nat
  /-- S_v | 16 x 16 | 07 R176 | 0 -/
  sent : Tab Nat
  /-- F_v | 16 x 16 | 07 R176 | 0 -/
  freed : Tab Nat
  /-- F'_v | 16 x 16 | 07 R176 | 0 -/
  peerFreed : Tab Nat
  /-- LIMIT_v advertised by the peer | 16 x 16 | 07 R176 | 0 -/
  limit : Tab Nat
  /-- LIMIT_v advertised to the peer | 16 x 16 | 08 R201 R202 | 0 -/
  ownLimit : Tab Nat
  /-- A_v, cells written into the input allotment | 16 x 16 | 19 R543 | 0 -/
  arrived : Tab Nat
  /-- cells of v held in the allotment | 16 x 14 | 07 R182, 19 R543 | 0 -/
  heldCells : Tab Nat
  /-- VCs whose F_v changed since last reported | 16 | 07 R178 | empty -/
  changed : List Nat
  /-- next VC of the report rotation | 4 | 07 R178 | 0 -/
  rot : Nat
  /-- an acceptance or returned credit not yet reported | 1 | 07 R172 | false -/
  unreported : Bool
  /-- marker, telltale, IDENT and ACK frames due, as cells | - | 07 R173 | none -/
  markerDue : Option Bytes
  telltaleDue : Option Bytes
  identDue : Bool
  ackDue : Bool
  /-- an identity exchange is in progress | 1 | 07 R181 | false -/
  exch : Bool
  /-- own check of the peer's IDENT passed in this exchange | 1 | 07 R181 | false -/
  checkOk : Bool
  /-- a valid IDENT has been received in this exchange | 1 | 07 R180 R181 | false -/
  identRx : Bool
  /-- IDENT with ACK_IDENT and IDENT_OK received | 1 | 07 R181 | false -/
  peerDone : Bool
  /-- last IDENT received, as its two cells | 128 bytes | 07 R180 | empty -/
  peerIdent : Bytes
  /-- epoch proposed for a new session | 8 | 07 R180 | 0 -/
  proposal : Nat
  /-- failed frames in the current window | 32 | 07 R183 | 0 -/
  errors : Nat
  /-- tick of the last mode 1 retrain | 64 | 07 R184 | none -/
  lastRetrain : Option Nat
  /-- port shaper LEVEL is the register; a frame was held this tick | 1 | 18 R541 | false -/
  shapeHeld : Bool
  /-- frame begun cut-through whose last cell has not left | - | 08 R213 R214 | none -/
  begun : Option Nat
  /-- LANY frames waiting, as cells | - | 07 R163, 19 R564 | empty -/
  lanyOut : List Bytes
  /-- LANY frames received and not yet handled | - | 19 R564 | empty -/
  lanyIn : List Bytes
  /-- LIMIT_v that the exchange in progress advertises | 16 x 16 | 08 R202 | 0 -/
  advLimit : Tab Nat
  /-- bytes of the frame that is arriving | 4180 bytes | 07 R166 R167 | empty -/
  rxBuf : Bytes
  /-- packet of that frame whose cells have entered the input allotment | - | 07 R167, 08 R203 | none -/
  rxPkt : Option Nat
deriving DecidableEq, Repr

/-- The output a route decision names (08 R199, 09 R238). -/
structure Hop where
  /-- egress tile -/
  tile : Nat
  /-- local output 0-8 -/
  output : Nat
  /-- VC of the hop -/
  vc : Nat
deriving DecidableEq, Repr

/-- A packet in an input queue of a tile (08 R207). -/
structure InPkt where
  id : Nat
  /-- local input 0-8 -/
  input : Nat
  /-- VC of arrival; a gateway's class queue c is VC 4c -/
  vc : Nat
  pkt : Bytes
  /-- cells of the packet not yet crossed -/
  left : Nat
  /-- cells of it that have not yet arrived -/
  absent : Nat
  /-- its input frame has passed its frame check (08 R213 R215) -/
  checked : Bool
  hop : Option Hop
  age : Nat
  /-- decisions without a credit-eligible candidate (09 R243) -/
  noCand : Nat
  /-- rounds since the decision without a grant (09 R243) -/
  waited : Nat
  /-- the first chunk has been granted -/
  started : Bool
deriving DecidableEq, Repr

/-- A packet in a column buffer of its egress tile (08 R204-R214). -/
structure ColPkt where
  id : Nat
  /-- column buffer 0-7 -/
  buf : Nat
  output : Nat
  vc : Nat
  pkt : Bytes
  cells : Nat
  /-- cells written, the rest are RESV -/
  written : Nat
  /-- cells taken from the shared region -/
  shared : Nat
  age : Nat
  /-- its output has begun its frame -/
  begun : Bool
  /-- a frame of it was ended stomped: it waits until all of its cells are USED (08 R214) -/
  again : Bool
  /-- port of arrival, 512 for a gateway, and VC of arrival -/
  inPort : Nat
  inVc : Nat
  /-- its input frame has passed its frame check (08 R213 R215) -/
  checked : Bool
  /-- re-dispatch decisions without a credit-eligible candidate (09 R243) -/
  noCand : Nat
deriving DecidableEq, Repr

/-- One switch tile beyond its registers. -/
structure Tile where
  /-- packets in the input allotments, oldest first | 65536 cells | 08 R203 R207 | empty -/
  ins : List InPkt
  /-- packets in the column buffers, oldest first | 65536 cells | 08 R206 R207 | empty -/
  cols : List ColPkt
  /-- packets that wait at the gateway for room in its allotment, by class | - | 08 R200 | empty -/
  wait : List Bytes
  /-- index last granted by the nominator | 11 | 08 R211 | 0 -/
  lastNom : Nat
  /-- index last granted by the tile's junction | 11 | 08 R211 | 0 -/
  lastJun : Nat
  /-- index last granted by the output arbiter of output q | 8 | 08 R211 | 0 -/
  lastOut : Tab Nat
  /-- its route replica is reloading | 1 | 09 R262 | false -/
  reloading : Bool
  /-- cells queued for the gateway output at the end of the previous round | 14 | 08 R199 | 0 -/
  ejectOcc : Nat
deriving DecidableEq, Repr

/-- A route-table commit in progress (09 R252-R258). -/
structure Commit where
  /-- every router is in S -/
  all : Bool
  /-- router indexes of S when not all -/
  dests : List Nat
  immediate : Bool
  deadline : Nat
  /-- trunks 32k+x that have had an admitted member since it was armed -/
  linked : List Nat
deriving DecidableEq, Repr

/-- The routing unit beyond its registers (09_routing.md). -/
structure Route where
  /-- bank 0, by window offset | 131072 bytes | 09 R229-R234 | 0 -/
  bank0 : Tab Word
  /-- bank 1, by window offset | 131072 bytes | 09 R229-R234 | 0 -/
  bank1 : Tab Word
  /-- armed commit | - | 09 R252 | none -/
  commit : Option Commit
  /-- latest telltale of trunk 32d+x | 160 bytes | 09 R247 | none -/
  telltale : Tab (Option Bytes)
  /-- detour table in force, key 32d+t, value y+1 or 0 | 6 | 09 R242 | 0 -/
  detour : Tab Nat
  /-- detour table computed and not yet in force | 6 | 09 R242 R72 | none -/
  detourNext : Option (Tab Nat)
  /-- member slot last chosen, key 4*(32d+x)+class | 4 | 09 R241 | 0 -/
  lastMember : Tab Nat
  /-- telltale commit byte fields: CID and COMMIT byte now sent | 24 | 09 R246 R254-R256 | 0 -/
  ttCid : Nat
  ttCommit : Nat
deriving DecidableEq, Repr

end Sys2Proof.Machine
end

