-- ==== Sys2Proof/Machine/State.lean ====
section
/-! DEFINITION. The state of the module, its fault and refusal reasons, and the state after reset. -/

namespace Sys2Proof.Machine

/-- A read latch of an origin on a page (R91 R584): the offset of the pair read last and the values it holds, by
offset. -/
structure Latch where
  off : Nat
  words : List (Nat × Word)
deriving DecidableEq, Repr

/-- A change of a trigger counter that a cluster's trigger stage has still to apply (R503): VI, counter, whether the
value is set rather than added, and the value. -/
structure TrigChange where
  vi : Nat
  ctr : Nat
  set : Bool
  value : Nat
deriving DecidableEq, Repr

/-- Everything the spec gives the module, and the queue of waiting commands. -/
structure State where
  /-- registers by address (register map, R80 R443), each listed where it differs from its reset value | 32 each | 04 R80-R84 | none listed -/
  regs : Tab Word
  /-- registers with a copy per origin, by 65536*address + origin | 32 each | 04 R107, 12 R379, 13 R422, 17 R526, 19 R579 | none listed -/
  orig : Tab Word
  /-- read latches by 65536*page code + origin | 64-128 | 04 R91, 20 R584 | none -/
  latches : Tab (Option Latch)
  /-- held low halves by 65536*(address/4) + origin | 32 | 04 R92 | none -/
  heldLo : Tab (Option Word)
  pwr : Power
  psto : Persist
  tick : Tick
  zyn : Zyn
  jrnl : Jrnl
  relia : Relia
  fw : Fw
  svc : Svc
  /-- lane l of port p at 2p+l | - | 06 R136 | reset lanes -/
  lanes : Tab Lane
  /-- lane layer of port p | - | 06 R136 | reset ports -/
  lports : Tab LanePort
  /-- spare switches of optical engine k | - | 06 R153 | none -/
  spares : Tab Spare
  /-- link layer of port p | - | 07 R163 | reset links -/
  links : Tab Link
  /-- switch tile t | - | 08 R196 | empty -/
  tiles : Tab Tile
  route : Route
  /-- XPT unit u | - | 10 R271 | empty -/
  xpts : Tab Xpt
  /-- window descriptor by global index | 64 bytes each | 11 R309 R311 | FREE -/
  wins : Tab Win
  /-- MWU u | - | 11 R316 | empty -/
  mwus : Tab Mwu
  /-- VI v | - | 14 R433 | NONE -/
  vis : Tab Vi
  /-- HOST.CFG of port h as the last PERST# took it | 32 | 14 R426 | as HOST.CFG -/
  hostCfg : Tab Word
  /-- VI of port h whose descriptor was fetched last | 12 | 18 R537 | DESIGN CHOICE 0 (log 26) -/
  hostRr : Tab Nat
  /-- ATS Enable that the host gives the VFs of port h as it brings them up | 1 | 14 R442 | false -/
  hostAts : Tab Bool
  /-- collective group of local index g | - | 13 R396 | FREE -/
  groups : Tab Group
  /-- group creations in progress at this leader | - | 13 R384 | empty -/
  creations : List Creation
  mem : Mem
  noc : Noc
  /-- cleat k | - | 17 R516 | FREE -/
  cleats : Tab Cleat
  /-- stalled cleat reads, oldest first | 512 | 17 R521 R522 | empty -/
  stalls : List Stall
  lany : Lany
  /-- changes waiting at the trigger stage of cluster c | - | 16 R503 | empty -/
  trig : Tab (List TrigChange)
  /-- the model's own: identities given to packets, accesses, placements and stalls (log 100) | - | - | DESIGN CHOICE 0 -/
  nextId : Nat
  /-- the model's own: counter that the free values are applied to (log 7) | - | - | DESIGN CHOICE 0 -/
  freeCtr : Nat
  /-- the model's own: what has left the module, oldest first (log 6) | - | - | empty -/
  out : List Out
  /-- the commands that wait, first in first out | - | - | empty -/
  pending : List Instr
deriving DecidableEq, Repr

/-- Why the machine stops. -/
inductive Fault where
  /-- an access to an offset beyond the application pool, raised by the pool operations; safe: the machine stops -/
  | poolHole (offset : Nat)
deriving DecidableEq, Repr

/-- Why a command has no meaning. -/
inductive Refusal where
  /-- raised by `exec` for a command the model has no meaning for; safe: the machine stops -/
  | notModelled (mnemonic : String)
deriving DecidableEq, Repr

/-- The module right after auxiliary power-up (R594) with a factory persistent store and the main domain off. -/
def State.reset : State where
  regs := []
  orig := []
  latches := []
  heldLo := []
  pwr := { aux := true, main := false, matedA := false, matedB := false, lowMate := false, ramp := false,
           ovuvPending := false, rampPending := false, closePermit := true, critPending := false }
  psto := { surprise := false, trip := false, hwm := [], keys := [], keyPend := [], retired := [], sparesUsed := [],
            fwBank := [], fwBroken := [], minSvn := [], revoked := [] }
  tick := { running := false, count := 0, cc := 0, monitors := false, locked := false, holdStart := 0, marker := [],
            offsets := [], phase := 0, hadParent := false, busy := [], skipped := [], cfg0 := [], missedRefills := 0, refill := none }
  zyn := { queue := [], hwm := [], dirty := [], session := none, sessTick := 0, sessSpent := 0, sessOff := false, mcReset := false, mcResetDue := false,
           reads := [], mailbox := [] }
  jrnl := { wr := 0, start := 0, ring := [], pendingRec := [], held := [], overwritten := 0, mirror := [] }
  relia := { running := [], queued := [], log := [], auditSkips := [], withdrawing := [],
             dump := none, dumpHdr := [], dumpSecs := [] }
  fw := { act := [], reload := [], pendBank := [], raiseBank := none, stage := [] }
  svc := { target := [], drainStart := [], dockPass := [], drainTold := [], fenceStart := [] }
  lanes := []
  lports := []
  spares := []
  links := []
  tiles := []
  route := { bank0 := [], bank1 := [], commit := none, telltale := [], detour := [], detourNext := none,
             lastMember := [], ttCid := 0, ttCommit := 0 }
  xpts := []
  wins := []
  mwus := []
  vis := []
  hostCfg := []
  hostRr := []
  hostAts := []
  groups := []
  creations := []
  mem := { pool := [], filter := [], snoops := [], part := none, poisoned := [], atc := [] }
  noc := { msgs := [], txns := [], lent := [], taken := [], rr := [], fencing := [], closed := [], waits := [] }
  cleats := []
  stalls := []
  lany := { committed := [], synced := [], syncDone := false, got := [], awaiting := [], journalled := [], mirror := [],
            staged := [],
            frozen := false, lostSince := 0 }
  trig := []
  nextId := 0
  freeCtr := 0
  out := []
  pending := []

end Sys2Proof.Machine
end

