-- ==== Sys2Proof/Machine/Tab.lean ====
section
/-! DEFINITION. Sparse tables in one canonical form: keys strictly rising, and no entry equal to what its key
reads as when it is not listed. `d` is that reading: the value an unlisted key has. -/

namespace Sys2Proof

/-- The entry listed for a key. -/
def Tab.find {α : Type} : Tab α → Nat → Option α
  | [], _ => none
  | (k, v) :: t, j => if k = j then some v else Tab.find t j

/-- What a key reads as. -/
def Tab.get {α : Type} (d : Nat → α) (t : Tab α) (k : Nat) : α := (Tab.find t k).getD (d k)

/-- Removes a key's entry. -/
def Tab.del {α : Type} : Tab α → Nat → Tab α
  | [], _ => []
  | (k, v) :: t, j => if k = j then t else (k, v) :: Tab.del t j

/-- Lists an entry at its place among the rising keys. -/
def Tab.ins {α : Type} : Tab α → Nat → α → Tab α
  | [], j, x => [(j, x)]
  | (k, v) :: t, j, x =>
    if j < k then (j, x) :: (k, v) :: t
    else if k = j then (j, x) :: t
    else (k, v) :: Tab.ins t j x

/-- Writes a key, keeping the canonical form. -/
def Tab.set {α : Type} [DecidableEq α] (d : Nat → α) (t : Tab α) (k : Nat) (v : α) : Tab α :=
  if v = d k then Tab.del t k else Tab.ins t k v

/-- Applies a change to what a key reads as. -/
def Tab.upd {α : Type} [DecidableEq α] (d : Nat → α) (t : Tab α) (k : Nat) (f : α → α) : Tab α :=
  Tab.set d t k (f (Tab.get d t k))

/-- Changes every listed entry, dropping those that become their key's reading. -/
def Tab.mapKV {α : Type} [DecidableEq α] (d : Nat → α) (f : Nat → α → α) : Tab α → Tab α
  | [] => []
  | (k, v) :: t => if f k v = d k then Tab.mapKV d f t else (k, f k v) :: Tab.mapKV d f t

/-- Every key after the head is above `lo`, the keys rise, and no entry equals its key's reading. -/
def Tab.wfFrom {α : Type} [DecidableEq α] (d : Nat → α) : Option Nat → Tab α → Bool
  | _, [] => true
  | lo, (k, v) :: t => (match lo with | none => true | some l => decide (l < k)) && decide (v ≠ d k) && Tab.wfFrom d (some k) t

/-- The canonical form. -/
def Tab.wf {α : Type} [DecidableEq α] (d : Nat → α) (t : Tab α) : Bool := Tab.wfFrom d none t

/-- The keys listed. -/
def Tab.keys {α : Type} (t : Tab α) : List Nat := t.map Prod.fst

end Sys2Proof
end

