-- ==== Sys2Proof/Machine/Ops.lean ====
section
/-! DEFINITION. The shared operations: registers and their fields, counters, errors, outputs, and the records of the
change journal. -/

namespace Sys2Proof.Machine

/-- A core cycle with no command: TICK's cycle advances, up to the longest tick of R61, while TICK runs (log 4). -/
def idleCycle (s : State) : State :=
  if s.tick.running ∧ s.tick.cc < 1534 then { s with tick := { s.tick with cc := s.tick.cc + 1 } } else s

/-- Rank of an origin, the lower origin first within one (R98). -/
def rankKey (o : Nat) : Nat :=
  let r := if o = 0 then 1 else if o = 1 then 2 else if 0x10 ≤ o ∧ o < 0x20 then 3 else if o = 0x200 then 4
    else if 0x100 ≤ o ∧ o < 0x180 then 5 else 6
  65536 * r + o

/-- An access by a path reaches an address: a VF BAR access its own VI's 64 KiB (R443), an access of BAR0 or of a ring
stop the BAR0 offsets, and the module's own accesses every page (R90 R103). -/
def pathReaches : APath → Nat → Bool
  | .bar0 h, a => decide (h < 16 ∧ a < vfBase)
  | .vfBar v, a => decide (v < 4096 ∧ vfBase + 0x10000 * v ≤ a ∧ a < vfBase + 0x10000 * (v + 1))
  | .engine e, a => decide (e < 128 ∧ a < vfBase)
  | .lanyard, a => decide (a < vfBase)
  | .session, _ => true
  | .firmware, _ => true
  | .command _, _ => true

/-! Registers. -/

/-- Address of a page. -/
def PageRef.addr (p : PageRef) : Nat := pageAddr p.cls p.inst p.page

/-- The value a register holds. -/
def State.reg (s : State) (a : Nat) : Word := Tab.get regDefault s.regs a

/-- Puts a value into a register. -/
def State.setReg (s : State) (a : Nat) (w : Word) : State := { s with regs := Tab.set regDefault s.regs a w }

/-- Register at offset `off` of page `p`, as a number. -/
def State.get (s : State) (p : PageRef) (off : Nat) : Nat := (s.reg (p.addr + off)).toNat

/-- Puts a number into the register at offset `off` of page `p`. -/
def State.put (s : State) (p : PageRef) (off v : Nat) : State := s.setReg (p.addr + off) (BitVec.ofNat 32 v)

/-- Field hi:lo of a register. -/
def State.fget (s : State) (p : PageRef) (off hi lo : Nat) : Nat := fld (s.get p off) hi lo

/-- Bit b of a register. -/
def State.bget (s : State) (p : PageRef) (off b : Nat) : Bool := bit (s.get p off) b

/-- Writes field hi:lo of a register. -/
def State.fput (s : State) (p : PageRef) (off hi lo v : Nat) : State := s.put p off (setFld (s.get p off) hi lo v)

/-- Writes bit b of a register. -/
def State.bput (s : State) (p : PageRef) (off b : Nat) (v : Bool) : State := s.fput p off b b (b2n v)

/-- A 64-bit pair. -/
def State.get64 (s : State) (p : PageRef) (off : Nat) : Nat := s.get p off + 2 ^ 32 * s.get p (off + 4)

/-- Writes a 64-bit pair. -/
def State.put64 (s : State) (p : PageRef) (off v : Nat) : State :=
  (s.put p off (v % 2 ^ 32)).put p (off + 4) (v / 2 ^ 32)

/-- A register as it stood at cc 0 of this tick (R74). -/
def State.cfg (s : State) (p : PageRef) (off : Nat) : Nat := (Tab.get regDefault s.tick.cfg0 (p.addr + off)).toNat

/-- A field as it stood at cc 0 of this tick (R74). -/
def State.cfgf (s : State) (p : PageRef) (off hi lo : Nat) : Nat := fld (s.cfg p off) hi lo

/-- Adds to a field that saturates at its greatest value. -/
def State.satAdd (s : State) (p : PageRef) (off hi lo k : Nat) : State :=
  s.fput p off hi lo (min (s.fget p off hi lo + k) (2 ^ (hi + 1 - lo) - 1))

/-- Pages by name. -/
def glbPg (n : Nat) : PageRef := ⟨.glb, 0, n⟩
def zynPg (n : Nat) : PageRef := ⟨.zyn, 0, n⟩
def tickPg (n : Nat) : PageRef := ⟨.tick, 0, n⟩
def jrnlPg (n : Nat) : PageRef := ⟨.jrnl, 0, n⟩
def pstoPg (n : Nat) : PageRef := ⟨.psto, 0, n⟩
def mgmtPg (n : Nat) : PageRef := ⟨.mgmt, 0, n⟩
def portPg (p : Nat) : PageRef := ⟨.port, p, 0⟩
def lanePg (p : Nat) : PageRef := ⟨.port, p, 1⟩
def optePg (k n : Nat) : PageRef := ⟨.opte, k, n⟩
def tilePg (t : Nat) : PageRef := ⟨.tile, t, 0⟩
def routePg : PageRef := ⟨.route, 0, 0⟩
def xptPg (u n : Nat) : PageRef := ⟨.xpt, u, n⟩
def mwuPg (u n : Nat) : PageRef := ⟨.mwu, u, n⟩
def mtchPg (u n : Nat) : PageRef := ⟨.mtch, u, n⟩
def collPg (u n : Nat) : PageRef := ⟨.coll, u, n⟩
def engPg (e : Nat) : PageRef := ⟨.eng, e, 0⟩
def cluPg (c : Nat) : PageRef := ⟨.clu, c, 0⟩
def nocPg (k : Nat) : PageRef := ⟨.noc, k, 0⟩
def hbmcPg (k n : Nat) : PageRef := ⟨.hbmc, k, n⟩
def hostPg (h n : Nat) : PageRef := ⟨.host, h, n⟩
def cleatPg (n : Nat) : PageRef := ⟨.cleat, 0, n⟩
def pmonPg : PageRef := ⟨.pmon, 0, 0⟩
def lanyPg (n : Nat) : PageRef := ⟨.lany, 0, n⟩
def viPg (v : Nat) : PageRef := ⟨.vi, v, 0⟩
def vfPg (v n : Nat) : PageRef := ⟨.vf, v, n⟩

/-- Page 0 of the page's instance, which holds EN and the service state (R85). -/
def PageRef.zero (p : PageRef) : PageRef := { p with page := 0 }

/-- Whether the page's power domain is on (R17). -/
def State.powered (s : State) (p : PageRef) : Bool := if auxPage p then s.pwr.aux else s.pwr.main

/-- EN of the page's instance (R85). -/
def State.en (s : State) (p : PageRef) : Bool := s.bget p.zero 8 0

/-- SVC_STATE of the page's instance (R84 R85). -/
def State.svcState (s : State) (p : PageRef) : Nat := s.fget p.zero 0xC 7 4

/-- SVC_STATE values (R84). -/
def svcOut : Nat := 0
def svcDock : Nat := 1
def svcActive : Nat := 2
def svcDraining : Nat := 3
def svcRetired : Nat := 4
def svcSelftest : Nat := 5

/-- BLK_STAT.ACTIVE: EN is 1 and SVC_STATE is ACTIVE (R85). -/
def State.active (s : State) (p : PageRef) : Bool := s.en p && decide (s.svcState p = svcActive)

/-- A powered instance that is neither OUT nor RETIRED; the others do no work (R552 R601). -/
def State.works (s : State) (p : PageRef) : Bool :=
  s.powered p && decide (s.svcState p ≠ svcOut ∧ s.svcState p ≠ svcRetired)

/-! Counters (R581-R585). -/

/-- Counter n of a page. -/
def State.ctr (s : State) (p : PageRef) (n : Nat) : Nat := s.get p (0xC00 + 8 * n) + 2 ^ 32 * s.fget p (0xC04 + 8 * n) 15 0

/-- Puts a 48-bit value into counter n. -/
def State.putCtr (s : State) (p : PageRef) (n v : Nat) : State := s.put64 p (0xC00 + 8 * n) v

/-- Adds k to counter n; a wrap goes to the chained counter n + 1 or sets OVF (R582 R583). -/
def State.addCtr (p : PageRef) (mask : Nat) : Nat → Nat → Nat → State → State
  | 0, _, _, s => s
  | f + 1, n, k, s =>
    let t := s.ctr p n + k
    let s := s.putCtr p n (t % 2 ^ 48)
    if t < 2 ^ 48 then s
    else if s.bget p 0xC80 n && bit mask (n + 1) then State.addCtr p mask f (n + 1) (t / 2 ^ 48) s
    else s.bput p 0xC88 n true

/-- k events of counter n of a page: counted unless the counter is reserved (R582) or counts only the wraps of the
counter below it (R583). -/
def State.bump (s : State) (p : PageRef) (n k : Nat) : State :=
  match ctrMask p with
  | none => s
  | some m =>
    if k = 0 ∨ bit m n = false ∨ (0 < n ∧ s.bget p 0xC80 (n - 1) = true) then s
    else State.addCtr p m 16 n k s

/-- An event of VI v (R587). -/
def State.bumpVf (s : State) (v n k : Nat) : State := s.bump (vfPg v 1) n k

/-! Outputs, errors and events. -/

/-- Records an output. -/
def State.emit (s : State) (o : Out) : State := { s with out := s.out ++ [o] }

/-- An event to an origin. -/
def State.event (s : State) (target : Nat) (e : Ev) : State := s.emit (.event target e)

/-- Sets BLK_ERR bit b of a page, counts it, and raises an event unless masked (R84). -/
def State.raise (s : State) (p : PageRef) (b : Nat) : State :=
  let s := (s.bput p 0x10 b true).satAdd p 0x1C 31 0 1
  if s.bget p 0x14 b then s else s.event (s.fget p 0x20 15 0) (.err (pageCode p) b)

/-- Sets a PF_EVENT bit of host port h and signals its MSI-X vector unless masked (R430). -/
def State.pfEvent (s : State) (h n : Nat) : State :=
  let s' := s.bput (hostPg h 0) 0x4C n true
  if s.bget (hostPg h 0) 0x50 n then s' else s'.emit (.msix h 0 n)

/-- The fatal state (R554 R578). -/
def State.fatal (s : State) : Bool := s.bget (glbPg 5) 0x40 31

/-- A posted write to the memory behind host port h, which the fatal state holds back (R555); HOST counter 0 counts it
in units of 64 bytes. -/
def State.hostWriteAttr (s : State) (h addr attr : Nat) (b : Bytes) : State :=
  if s.fatal then s else (s.emit (.hostWrite h addr attr b)).bump (hostPg h 0) 0 (ceilDiv b.length 64)

/-- An untranslated posted write without attributes. -/
def State.hostWrite (s : State) (h addr : Nat) (b : Bytes) : State := s.hostWriteAttr h addr 0 b

/-- A value the spec leaves open: the next free value, and the state with the counter advanced (log 7). -/
def State.free (s : State) : Nat × State := (Config.freeNat s.freeCtr, { s with freeCtr := s.freeCtr + 1 })

/-- A new identity for a packet, access or stall (the model's own). -/
def State.fresh (s : State) : Nat × State := (s.nextId, { s with nextId := s.nextId + 1 })

/-! The change journal (R102-R110, R599). -/

/-- TICK.COUNT and the core cycle, which are 0 while TICK is not running (R121). -/
def State.nowTick (s : State) : Nat := if s.tick.running then s.tick.count else 0
def State.nowCc (s : State) : Nat := if s.tick.running then s.tick.cc else 0

/-- A record of R103. -/
structure JRec where
  tick : Nat
  cycle : Nat
  origin : Nat
  page : Nat
  off : Nat
  status : Nat
  kind : Nat
  winner : Nat
  chgseq : Nat
  a : Nat
  b : Nat
deriving DecidableEq, Repr

/-- The 32 bytes of a record, least significant byte first (R103 R9). -/
def JRec.bytes (r : JRec) : Bytes :=
  leBytes 8 r.tick ++ leBytes 2 r.cycle ++ leBytes 2 r.origin ++ leBytes 2 r.page ++ leBytes 2 r.off ++
    leBytes 1 r.status ++ leBytes 1 r.kind ++ leBytes 2 r.winner ++ leBytes 4 r.chgseq ++ leBytes 4 r.a ++ leBytes 4 r.b

/-- The ring runs while JRNL EN and PART_STAT.VALID are both 1 (R105). -/
def State.ringOn (s : State) : Bool :=
  s.pwr.main && s.en (jrnlPg 0) && s.bget (hbmcPg 0 1) 0x44 0

/-- A record goes toward the ring, or, while the ring is stopped, into the buffer of 4,096 records (R599). -/
def State.keepRec (s : State) (b : Bytes) : State :=
  if s.ringOn then { s with jrnl := { s.jrnl with pendingRec := s.jrnl.pendingRec ++ [b] } }
  else if s.jrnl.held.length < 4096 then { s with jrnl := { s.jrnl with held := s.jrnl.held ++ [b] } }
  else { s with jrnl := { s.jrnl with held := s.jrnl.held.drop 1 ++ [b],
                                      overwritten := min (s.jrnl.overwritten + 1) 0xFFFFFFFF } }

/-- Whether mirror h receives a record: by its origin, or by the owner of its page (R109). -/
def State.mirrors (s : State) (h : Nat) (r : JRec) : Bool :=
  s.bget (hostPg h 3) 0x808 31 &&
    (decide (r.origin = 0x10 + h) || decide (0x1000 ≤ r.origin ∧ r.origin < 0x2000 ∧ (r.origin - 0x1000) / 256 = h) ||
      (match pageOfCode r.page with
       | some p => decide (s.fget p 0x20 15 0 = 0x10 + h)
       | none => false))

/-- A record joins the queue of every mirror that receives it (R109). -/
def State.mirrorOut (s : State) (r : JRec) : State :=
  let m := (List.range 16).foldl
    (fun t h => if s.mirrors h r then Tab.upd (fun _ => ([] : List Bytes)) t h (fun q => q ++ [r.bytes]) else t) s.jrnl.mirror
  { s with jrnl := { s.jrnl with mirror := m } }

/-- Writes a record: to the ring's stream and to every mirror that receives it. -/
def State.record (s : State) (r : JRec) : State := (s.keepRec r.bytes).mirrorOut r

/-- A record made now for a register of a page. -/
def State.jrec (s : State) (origin : Nat) (p : PageRef) (off status kind winner a b : Nat) : JRec :=
  { tick := s.nowTick, cycle := s.nowCc, origin := origin, page := pageCode p, off := off, status := status,
    kind := kind, winner := winner, chgseq := s.get p 0x24, a := a, b := b }

/-- A change the module makes on its own account: KIND 3 (R102 R103). -/
def State.record3 (s : State) (p : PageRef) (off before after : Nat) : State :=
  s.record (s.jrec 0 p off 0 3 0xFFFF before after)

/-- Enters a service state, journalled as KIND 3 (R102 R601). -/
def State.setSvc (s : State) (p : PageRef) (st : Nat) : State :=
  if s.svcState p = st then s
  else
    let before := s.get p.zero 0xC
    let s := s.fput p.zero 0xC 7 4 st
    s.record3 p.zero 0xC before (s.get p.zero 0xC)

/-- Accepted change of a page: CHGSEQ and CHGTICK (R104). -/
def State.chg (s : State) (p : PageRef) : State :=
  (s.put p 0x24 ((s.get p 0x24 + 1) % 2 ^ 32)).put p 0x28 (s.nowTick % 2 ^ 32)

/-! Resets of registers. -/

/-- A register's value after a reset of the registers `sel` selects: its reset value, but for the persistent fields
(R594). -/
def resetWord (sel : PageRef → Nat → Bool) (a : Nat) (w : Word) : Word :=
  match locate a with
  | none => w
  | some (p, off) =>
    if sel p off then
      let k := BitVec.ofNat 32 (regKeep a)
      (w &&& k) ||| (regDefault a &&& ~~~k)
    else w

/-- The registers that `sel` selects return to their reset values. -/
def State.resetRegs (s : State) (sel : PageRef → Nat → Bool) : State :=
  { s with regs := Tab.mapKV regDefault (resetWord sel) s.regs }

/-- Status codes of R13. -/
def stOk : Nat := 0x00
def stBusy : Nat := 0x01
def stKeyMismatch : Nat := 0x10
def stGenStale : Nat := 0x11
def stBounds : Nat := 0x12
def stRights : Nat := 0x13
def stPkeyDeny : Nat := 0x14
def stXlateMiss : Nat := 0x15
def stUnreachable : Nat := 0x20
def stTimeout : Nat := 0x21
def stPeerReset : Nat := 0x22
def stEpochChanged : Nat := 0x30
def stGroupClosed : Nat := 0x31
def stNotOwner : Nat := 0x40
def stSuperseded : Nat := 0x41
def stAuthFail : Nat := 0x42
def stStaleCounter : Nat := 0x43
def stAbandoned : Nat := 0x50
def stCleatTimeout : Nat := 0x51
def stViStopping : Nat := 0x60
def stFatal : Nat := 0x7F

end Sys2Proof.Machine
end

