-- ==== Sys2Proof/Machine/Shaper.lean ====
section
/-! DEFINITION. The refill of the shapers, tick job 6 (18_shaping_overload.md R532-R534). -/

namespace Sys2Proof.Machine

/-- One refill (R532 R533): `cfg` and `burst` are the shaper's CFG and BURST, `n` the ticks since the last refill. -/
def refillLevel (cfg burst n : Nat) (level : Int) : Int :=
  let rate := fld cfg 19 0
  let b := max (fld burst 23 0) (max rate 4160)
  if bit cfg 31 then min (b : Int) (level + ((if rate = 0 then 64 else rate) * n : Nat)) else (b : Int)

/-- Pages that list a register in a range: the others hold the registers' reset values, which a refill keeps. -/
def State.listedIn (s : State) (c : Cls) (lo hi : Nat) : List (Nat × Nat) :=
  (s.regs.filterMap (fun e => match locate e.1 with
    | some (p, off) => if p.cls = c ∧ p.page = 0 ∧ lo ≤ off ∧ off < hi then some (p.inst, off) else none
    | none => none)).eraseDups

/-- VI shapers, and port shapers, that may differ from their reset. -/
def State.viShapers (s : State) : List (Nat × Nat) := ((s.listedIn .vi 0x800 0x840).map (fun e => (e.1, (e.2 - 0x800) / 16))).eraseDups
def State.portShapers (s : State) : List Nat := ((s.listedIn .port 0x100 0x10C).map Prod.fst).eraseDups

/-- The refill of the shaper whose CFG lies at an offset of a page, under the values in force at cc 0 (R534). -/
def State.refillOne (s : State) (p : PageRef) (off n : Nat) : State :=
  s.put p (off + 8) (unsigned 32 (refillLevel (s.cfg p off) (s.cfg p (off + 4)) n (signed 32 (s.get p (off + 8)))))

/-- The cycle of a tick in which the shaper of a VI and class, and that of a port, is refilled (R532). -/
def viRefillCc (v c : Nat) : Nat := (4 * (v % 512) + c) / 16
def portRefillCc (p : Nat) : Nat := p / 4

/-- Refills every shaper whose cycle has come by core cycle `cc` of a tick whose job 6 runs; the fatal state ends the job
(R532 R556). -/
def State.refillTo (s : State) (cc : Nat) : State :=
  match s.tick.refill with
  | none => s
  | some (k, n) =>
    if s.fatal then { s with tick := { s.tick with refill := none } }
    else if cc < k then s
    else
      let due (i : Nat) : Bool := decide (k ≤ i ∧ i ≤ cc)
      let s' := (s.viShapers.filter (fun e => due (viRefillCc e.1 e.2))).foldl (fun s e => s.refillOne (viPg e.1) (0x800 + 16 * e.2) n) s
      let s' := (s.portShapers.filter (fun p => due (portRefillCc p))).foldl (fun s p => s.refillOne (portPg p) 0x100 n) s'
      { s' with tick := { s'.tick with refill := if 255 ≤ cc then none else some (cc + 1, n) } }

/-- Job 6 begins: n is 1 but for skipped refills (R532). -/
def State.refillJob (s : State) : State :=
  ({ s with tick := { s.tick with refill := some (0, s.tick.missedRefills + 1), missedRefills := 0 } }).refillTo 0

end Sys2Proof.Machine
end

