-- ==== Sys2Proof/Machine/NocLib.lean ====
section
/-! DEFINITION. The ring network: stops, networks, ring credits, transactions and their slots
(15_rings_and_memory.md R464-R475, R486, R487). -/

namespace Sys2Proof.Machine

/-! Ring stops (R464). -/

def xptStop (u : Nat) : Nat := [11, 12, 27, 28, 42, 43, 58, 59].getD u 0
def mwuStop (u : Nat) : Nat := [13, 29, 44, 60].getD u 0
def mtchStop (u : Nat) : Nat := [14, 30, 45, 61].getD u 0
def hbmcStop (k : Nat) : Nat := [15, 17, 31, 46, 48, 62].getD k 0
def collStop (u : Nat) : Nat := [16, 47].getD u 0
def hostStop (h : Nat) : Nat := [3, 19, 34, 50].getD (h / 4) 0 + h % 4
def cluStop (c : Nat) : Nat := [7, 23, 38, 54].getD (c / 4) 0 + c % 4
/-- Stops of the management controller and of the cleat array. -/
def mcStop : Nat := 0
def cleatStop : Nat := 1

/-! Tables of the network. -/

def zeroAt : Nat → Nat := fun _ => 0

/-- Key of the slots of a level that a target holds for an initiator (R471). -/
def reqKey (tgt src level : Nat) : Nat := (tgt * 64 + src) * 4 + level

/-- Slots of a level at a target that an initiator holds. -/
def State.slotsTaken (s : State) (src tgt level : Nat) : Nat := Tab.get zeroAt s.noc.taken (reqKey tgt src level)

/-- How far a stop has given its slots at a fencing stop back: 0 not, 1 it issues no further request, 2 its unused slots
have returned (R473). -/
def State.recalled (s : State) (tgt src : Nat) : Nat := Tab.get zeroAt s.noc.closed (tgt * 64 + src)

/-- A request may be issued: a slot of its level at the target is free and not recalled, and its own stop, when it is
being fenced, issues none on its own account (R471 R473). -/
def State.slotFree (s : State) (src tgt level : Nat) : Bool :=
  decide (s.slotsTaken src tgt level < 4) && decide (s.recalled tgt src = 0) && (decide (level ≠ 0) || decide (src ∉ s.noc.fencing))

/-- Stops that have not yet returned their slots at a fencing stop (R473 R486). -/
def State.recallPend (s : State) (k : Nat) : Nat :=
  if k ∈ s.noc.fencing then
    ((List.range 64).filter (fun j => decide (j ≠ k) && (decide (s.recalled k j < 2) ||
      (List.range 4).any (fun v => decide (s.slotsTaken j k v ≠ 0))))).length
  else 0

/-- Transactions of a stop as initiator; requests that hold its slots. -/
def State.nocOut (s : State) (k : Nat) : Nat := (s.noc.txns.filter (fun t => decide (t.src = k))).length
def State.nocIn (s : State) (k : Nat) : Nat := (s.noc.txns.filter (fun t => decide (t.dst = k))).length

/-! Routes on the rings (R465 R466 R468). -/

/-- A message travels clockwise: that way has fewer hops, or both have 32 (R465). -/
def clockwise (src dst : Nat) : Bool := decide ((dst + 64 - src) % 64 ≤ 32)

/-- The stop a hop further on. -/
def hopTo (cw : Bool) (k : Nat) : Nat := (if cw then k + 1 else k + 63) % 64

/-- A hop over the date line, between stops 63 and 0 (R468). -/
def dateLine (cw : Bool) (k : Nat) : Bool := if cw then decide (k = 63) else decide (k = 0)

/-- Cycles of a hop: 8 on the crossings between the dies, else 1 (R465). -/
def hopCycles (cw : Bool) (k : Nat) : Nat :=
  let low := if cw then k else hopTo cw k
  if low = 32 ∨ low = 63 then 8 else 1

/-- Number of a loop: network, ring and direction (R466). -/
def NocMsg.loop (m : NocMsg) : Nat := (m.net * 8 + m.ring) * 2 + b2n m.cw

/-- Number of the hop credits of a stop for the VC that a message takes on its outgoing hop (R468 R543). -/
def NocMsg.pool (m : NocMsg) : Nat := ((m.pos * 64 + m.loop) * 2 + b2n m.rd) * 2 + b2n (m.d1 || dateLine m.cw m.pos)

/-- The network of a kind of message (R466). -/
def NocKind.net : NocKind → Nat
  | .request => 0
  | .writeData | .readData | .snoopData => 3
  | .snoop => 2
  | .writeGo | .response | .recall | .slotsBack | .grant | .snoopRsp => 1

/-- A message enters the network at its stop, on D0; data takes its transaction's ring, a snoop the one ring it has, and
the rest ring (source + destination) mod 2 (R466 R468). -/
def State.nocSend (s : State) (kind : NocKind) (src dst ring txn : Nat) : State :=
  let ring := if kind.net = 3 then ring else if kind.net = 2 then 0 else (src + dst) % 2
  let m : NocMsg := { kind := kind, net := kind.net, ring := ring, cw := clockwise src dst,
                      rd := decide (kind = .readData ∨ kind = .snoopData), src := src, dst := dst, txn := txn,
                      pos := src, hop := 0, d1 := false, hold := none }
  { s with noc := { s.noc with msgs := s.noc.msgs ++ [m] } }

/-! One cycle of the rings. -/

/-- One message in a cycle: on a hop it goes on; at a stop it takes the next hop against a credit of that hop's VC, one
message of a loop in a cycle (R468). The credit it held goes back to the stop it came from when it leaves the queue that
it occupied. `used` are the hops taken in this cycle. -/
def moveMsg (lent : Tab Nat) (used : List Nat) (m : NocMsg) : Tab Nat × List Nat × NocMsg :=
  if 1 < m.hop then (lent, used, { m with hop := m.hop - 1 })
  else if m.hop = 1 then (lent, used, { m with hop := 0, pos := hopTo m.cw m.pos, d1 := m.d1 || dateLine m.cw m.pos })
  else
    let k := m.pool
    let busy := Tab.get zeroAt lent k
    if m.pos = m.dst ∨ (m.pos * 64 + m.loop) ∈ used ∨ (busy ≠ 0 ∧ Config.ringDepth ≤ busy) then (lent, used, m)
    else
      let lent := match m.hold with
        | some h => Tab.upd zeroAt lent h (· - 1)
        | none => lent
      (Tab.upd zeroAt lent k (· + 1), (m.pos * 64 + m.loop) :: used, { m with hop := hopCycles m.cw m.pos, hold := some k })

/-- Every message moves, the oldest first: `done` are those that have moved. -/
def moveAll : List NocMsg → Tab Nat → List Nat → List NocMsg → Tab Nat × List NocMsg
  | [], lent, _, moved => (lent, moved)
  | m :: ms, lent, used, moved =>
    let r := moveMsg lent used m
    moveAll ms r.1 r.2.1 (moved ++ [r.2.2])

def NocMsg.arrived (m : NocMsg) : Bool := decide (m.hop = 0 ∧ m.pos = m.dst)

def State.nocTxnOf (s : State) (id : Nat) : Option NocTxn := s.noc.txns.find? (fun t => decide (t.id = id))
def State.updNocTxn (s : State) (id : Nat) (f : NocTxn → NocTxn) : State :=
  { s with noc := { s.noc with txns := updFirst (fun t => decide (t.id = id)) f s.noc.txns } }

/-- The target answers a transaction that it has served: read data precedes the response (R467). -/
def State.nocServed (s : State) (t : NocTxn) : State :=
  if !t.wr && decide (0 < t.bytes) then
    (s.updNocTxn t.id (fun t => { t with phase := .reading })).nocSend .readData t.dst t.src t.ring t.id
  else (s.updNocTxn t.id (fun t => { t with phase := .answered })).nocSend .response t.dst t.src t.ring t.id

/-- The target has a whole request: it serves it, at once unless what serves it holds it (R471). -/
def State.nocServe (s : State) (t : NocTxn) : State :=
  if t.held then s.updNocTxn t.id (fun t => { t with phase := .serving }) else s.nocServed t

/-- The response has arrived: the slot returns, and the transaction is counted at its initiator (R471 R487). Its latency is
a free value, since the time that serving takes is left out. -/
def State.nocDone (s : State) (t : NocTxn) : State :=
  let s := { s with noc := { s.noc with
    txns := delFirst (fun x => decide (x.id = t.id)) s.noc.txns,
    taken := Tab.upd zeroAt s.noc.taken (reqKey t.dst t.src t.level) (· - 1) } }
  let p := nocPg t.src
  if s.bget p 0x40 23 && !decide (s.fget p 0x40 21 16 = t.dst) then s
  else
    let (l, s) := s.free
    let l := l % 2 ^ 32
    let sh := s.fget p 0x40 3 0
    let bin := if l < 2 ^ sh then 0 else min 7 (Nat.log2 (l / 2 ^ sh) + 1)
    (((s.bump p (b2n t.wr) 1).bump p (2 + b2n t.wr) (ceilDiv t.bytes 64)).bump p (4 + b2n t.wr) l).bump p (6 + bin) 1

/-- What a message does at its destination (R467 R473 R474). A fence's messages carry the fencing stop. -/
def State.nocArrive (s : State) (m : NocMsg) : State :=
  let s := match m.hold with
    | some h => { s with noc := { s.noc with lent := Tab.upd zeroAt s.noc.lent h (· - 1) } }
    | none => s
  let close (s : State) (tgt src n : Nat) : State :=
    { s with noc := { s.noc with closed := Tab.set zeroAt s.noc.closed (tgt * 64 + src) n } }
  match m.kind with
  | .recall => (close s m.src m.dst 1).nocSend .slotsBack m.dst m.src 0 0
  | .slotsBack => if m.dst ∈ s.noc.fencing ∧ s.recalled m.dst m.src = 1 then close s m.dst m.src 2 else s
  | .grant => close s m.src m.dst 0
  | .snoop | .snoopRsp | .snoopData => s
  | kind =>
    match s.nocTxnOf m.txn with
    | none => s
    | some t =>
      match kind, t.phase with
      | .request, .asked =>
        if t.wr && decide (0 < t.bytes) then
          (s.updNocTxn t.id (fun t => { t with phase := .going })).nocSend .writeGo t.dst t.src t.ring t.id
        else s.nocServe t
      | .writeGo, .going => (s.updNocTxn t.id (fun t => { t with phase := .sending })).nocSend .writeData t.src t.dst t.ring t.id
      | .writeData, .sending => s.nocServe t
      | .readData, .reading =>
        (s.updNocTxn t.id (fun t => { t with phase := .answered })).nocSend .response t.dst t.src t.ring t.id
      | .response, .answered => s.nocDone t
      | _, _ => s

/-- Requests that wait at their stops have waited for another cycle (R487); one that finds a slot waits no more. -/
def State.nocWaits (s : State) : State :=
  let still := s.noc.waits.filter (fun w => !s.slotFree w.1 w.2.1 w.2.2)
  let s := { s with noc := { s.noc with waits := still } }
  still.foldl (fun s w =>
    let p := nocPg w.1
    if s.bget p 0x40 23 && !decide (s.fget p 0x40 21 16 = w.2.1) then s else s.bump p 14 1) s

/-- A core cycle of the rings. -/
def State.nocTick (s : State) : State :=
  let r := moveAll s.noc.msgs s.noc.lent [] []
  let s := { s with noc := { s.noc with lent := r.1, msgs := r.2.filter (fun m => !m.arrived) } }
  ((r.2.filter NocMsg.arrived).foldl State.nocArrive s).nocWaits

/-- Cycles pass until no message of a transaction is on the rings, or, for none, until they carry nothing; at most `n`. -/
def State.nocRun : Nat → Option Nat → State → State
  | 0, _, s => s
  | n + 1, id, s =>
    if s.noc.msgs.any (fun m => match id with | some i => decide (m.txn = i) | none => true) then
      State.nocRun n id s.nocTick
    else s

/-- Cycles that a transaction's messages take at most while the rings are not full. -/
def nocFuel : Nat := 1024

/-! Transactions (R466-R471). -/

/-- A request waits for a slot at its stop. -/
def State.nocWait (s : State) (src tgt level : Nat) : State :=
  if (src, tgt, level) ∈ s.noc.waits then s else { s with noc := { s.noc with waits := s.noc.waits ++ [(src, tgt, level)] } }

/-- A request that finds a slot is issued (R466 R469-R471): it takes the slot, its stop has reserved space for the response
and for all read data, and its data's ring is the stop's next in turn. -/
def State.nocAsk (s : State) (src tgt level : Nat) (wr : Bool) (bytes : Nat) (hold : List Nat) : Nat × State :=
  let (id, s) := s.fresh
  let ring := Tab.get zeroAt s.noc.rr src
  let t : NocTxn := { id := id, src := src, dst := tgt, level := level, wr := wr, bytes := bytes, ring := ring,
                      space := if wr then 0 else bytes, held := !hold.isEmpty, hold := hold, phase := .asked }
  let s := { s with noc := { s.noc with
    txns := s.noc.txns ++ [t],
    taken := Tab.upd zeroAt s.noc.taken (reqKey tgt src level) (· + 1),
    rr := Tab.set zeroAt s.noc.rr src ((ring + 1) % 8) } }
  (id, s.nocSend .request src tgt ring id)

/-- A slot for a request, once what is on its way has returned; without one the request waits. -/
def State.nocSlot (s : State) (src tgt level : Nat) : Bool × State :=
  let s := if s.slotFree src tgt level then s else s.nocRun nocFuel none
  if s.slotFree src tgt level then (true, s) else (false, s.nocWait src tgt level)

/-- A request that its target holds until `hold` is answered: whether it could be issued, and the state with it served. -/
def State.nocHand (s : State) (src tgt level : Nat) (wr : Bool) (bytes : Nat) (hold : List Nat) : Bool × State :=
  let (ok, s) := s.nocSlot src tgt level
  if ok then
    let (id, s) := s.nocAsk src tgt level wr bytes hold
    (true, s.nocRun nocFuel (some id))
  else (false, s)

/-- What held a request has ended: its target answers it. -/
def State.nocAnswer (s : State) (hold : List Nat) : State :=
  match s.noc.txns.find? (fun t => t.held && decide (t.hold = hold ∧ t.phase = .serving)) with
  | some t => (s.updNocTxn t.id (fun t => { t with held := false })).nocServed t
  | none => s

/-- One transaction of at most 4,096 bytes, to its end. -/
def State.nocOne (s : State) (src tgt level : Nat) (wr : Bool) (bytes : Nat) : State :=
  let (ok, s) := s.nocSlot src tgt level
  if ok then
    let (id, s) := s.nocAsk src tgt level wr bytes []
    s.nocRun nocFuel (some id)
  else s

/-- The transactions that carry `n` bytes between a unit's stop and a target, at most 4,096 bytes each (R466). -/
def State.nocTxn (s : State) (src tgt level : Nat) (wr : Bool) (n : Nat) : State :=
  (List.range (max 1 (ceilDiv n 4096))).foldl (fun s i => s.nocOne src tgt level wr (min 4096 (n - 4096 * i))) s

/-! Fences (R473 R474). -/

/-- A stop recalls its slots from every other stop. -/
def State.nocRecall (s : State) (k : Nat) : State :=
  if k ∈ s.noc.fencing then s
  else
    let s := { s with noc := { s.noc with fencing := s.noc.fencing ++ [k] } }
    ((List.range 64).filter (fun j => decide (j ≠ k))).foldl (fun s j => s.nocSend .recall k j 0 0) s

/-- A stop grants its slots to every other stop again. -/
def State.nocGrant (s : State) (k : Nat) : State :=
  if k ∈ s.noc.fencing then
    let s := { s with noc := { s.noc with fencing := s.noc.fencing.filter (fun j => decide (j ≠ k)) } }
    ((List.range 64).filter (fun j => decide (j ≠ k))).foldl (fun s j => s.nocSend .grant k j 0 0) s
  else s

end Sys2Proof.Machine
end

