-- ==== Sys2Proof/Machine/Packet.lean ====
section
/-! DEFINITION. Packets: the fabric header (R265), the Wiluth header (R266 R269) and the end-to-end check (R270). A
packet is held as 64 header bytes and LEN payload bytes. -/

namespace Sys2Proof.Machine

/-- Fabric header fields (R265). -/
def pkVer (p : Bytes) : Nat := fld (beAt p 0 1) 7 4
def pkClass (p : Bytes) : Nat := fld (beAt p 0 1) 3 2
def pkAgent (p : Bytes) : Nat := fld (beAt p 0 1) 1 0
def pkHops (p : Bytes) : Nat := beAt p 1 1
def pkLen (p : Bytes) : Nat := fld (beAt p 2 2) 12 0
def pkDest (p : Bytes) : Nat := beAt p 4 3
def pkPlane (p : Bytes) : Nat := fld (beAt p 7 1) 7 7
def pkSrc (p : Bytes) : Nat := beAt p 8 3
def pkSrcAgent (p : Bytes) : Nat := fld (beAt p 0xB 1) 1 0
def pkTxTick (p : Bytes) : Nat := beAt p 0xC 4
def pkCrc (p : Bytes) : Nat := beAt p 0x1C 4

/-- Wiluth header fields (R266). -/
def pkType (p : Bytes) : Nat := beAt p 0x20 1
def pkFlag (p : Bytes) (b : Nat) : Bool := bit (beAt p 0x21 1) b
def pkOrd (p : Bytes) : Bool := pkFlag p 7
def pkSyn (p : Bytes) : Bool := pkFlag p 6
def pkFirst (p : Bytes) : Bool := pkFlag p 5
def pkLast (p : Bytes) : Bool := pkFlag p 4
def pkRetx (p : Bytes) : Bool := pkFlag p 3
def pkAckv (p : Bytes) : Bool := pkFlag p 2
def pkVoid (p : Bytes) : Bool := pkFlag p 1
def pkGranted (p : Bytes) : Bool := pkFlag p 0
def pkCgen (p : Bytes) : Nat := beAt p 0x22 2
def pkSeq (p : Bytes) : Nat := beAt p 0x24 3
def pkSrcVi (p : Bytes) : Nat := beAt p 0x27 1
def pkAckSeq (p : Bytes) : Nat := beAt p 0x28 3
def pkDstVi (p : Bytes) : Nat := beAt p 0x2B 1
def pkMsg (p : Bytes) : Nat := beAt p 0x2C 4

/-- The ULP area (R268), offsets as the spec gives them from the Wiluth header's start. -/
def pkOfs (p : Bytes) : Nat := beAt p 0x30 4
def pkUlp (p : Bytes) (off n : Nat) : Nat := beAt p (0x20 + off) n
def pkOpcode (p : Bytes) : Nat := beAt p 0x34 1
def pkPayload (p : Bytes) : Bytes := slice p 64 (pkLen p)

/-- Cells of a packet (R264). -/
def pkCells (p : Bytes) : Nat := 1 + ceilDiv (pkLen p) 64

/-- E2E_CRC of a packet (R270): HOPS and the field itself taken as zero, then the Wiluth header, then the payload. -/
def e2eCrc (p : Bytes) : Nat :=
  crc32c (patch (patch (slice p 0 (64 + pkLen p)) 1 (zeros 1)) 0x1C (zeros 4))

/-- The packet with its E2E_CRC filled in. -/
def withCrc (p : Bytes) : Bytes := patch p 0x1C (beBytes 4 (e2eCrc p))

/-- Builds the fabric header (R265): HOPS and TX_TICK zero. -/
def fabricHdr (cls agent len dest plane src srcAgent : Nat) : Bytes :=
  beBytes 1 (0x10 + cls % 4 * 4 + agent % 4) ++ zeros 1 ++ beBytes 2 len ++ beBytes 3 dest ++ beBytes 1 (plane % 2 * 128) ++
    beBytes 3 src ++ beBytes 1 (srcAgent % 4) ++ zeros 20

/-- Builds a Wiluth header (R266): SEQ, CGEN, SYN, ACKV and ACK_SEQ are filled in when the packet is sequenced. -/
def wiluthHdr (typ flags srcVi dstVi msg ofs : Nat) (ulp : Bytes) : Bytes :=
  beBytes 1 typ ++ beBytes 1 flags ++ zeros 5 ++ beBytes 1 srcVi ++ zeros 3 ++ beBytes 1 dstVi ++ beBytes 4 msg ++
    beBytes 4 ofs ++ padTo ulp 12

end Sys2Proof.Machine
end

