-- ==== Sys2Proof/Machine/ViLib.lean ====
section
/-! DEFINITION. What every VI operation shares: translation and key-rights (R438-R442), completions and events
(R446-R455), descriptors, and the trigger counters and chain slots (R502-R508). -/

namespace Sys2Proof.Machine

/-- A VI that does not exist, or has just been created, with nothing given it. -/
def viInit : Vi :=
  { winFirst := 0, winCount := 0, domain := 0, postMax := 0, unexpMax := 0, bounceMax := 0, cleatFirst := 0,
    cleatCount := 0, poolBase := 0, poolLen := 0, blocks := [], bme := false, ats := false, cmdq := [], cplq := [],
    descs := [], nextDesc := 0, waiting := [], wrrQueue := 0, wrrLeft := 0, destroy := false, ctrs := [],
    chains := [], firings := [],
    mtch := { postStamp := 0, arrStamp := 0, posted := [], unexp := [], placing := [], stopCause := 0 } }

def viD : Nat → Vi := fun _ => viInit
def cmdqD : Nat → CmdQ := fun _ => ⟨0, 0, 0, false⟩
def cplqD : Nat → CplQ := fun _ => ⟨0, 0, false, false, 0⟩
def chainInit : Chain :=
  { state := 0, entries := [], queue := 0, rearm := false, orderAll := false, ctr := 0, doneCtr := none,
    threshold := 0, stride := 0, next := 0, firing := 0, firings := 0 }
def chainD : Nat → Chain := fun _ => chainInit

/-- A chain slot made FREE: the number of firings since its last arm stays (R508). -/
def freed (c : Chain) : Chain := { chainInit with firings := c.firings }

/-- VI v's record. -/
def State.vi (s : State) (v : Nat) : Vi := Tab.get viD s.vis v

/-- Changes VI v's record. -/
def State.updVi (s : State) (v : Nat) (f : Vi → Vi) : State := { s with vis := Tab.upd viD s.vis v f }

/-- Host port of VI v (R428). -/
def viPort (v : Nat) : Nat := v / 256

/-- VF number of VI v on its port (R428). -/
def viFn (v : Nat) : Nat := v % 256 + 1

/-- VI.STAT.STATE values (R437). -/
def viNone : Nat := 0
def viOff : Nat := 1
def viEnabling : Nat := 2
def viOn : Nat := 3
def viStopping : Nat := 4

/-- VI.STAT.STATE. -/
def State.viState (s : State) (v : Nat) : Nat := s.fget (viPg v) 0x44 2 0

/-- STOP_CAUSE. -/
def State.viCause (s : State) (v : Nat) : Nat := s.fget (viPg v) 0x44 11 8

/-- Enters a VI state, journalled as KIND 3 (R456). -/
def State.setViState (s : State) (v st : Nat) : State :=
  let before := s.get (viPg v) 0x44
  let s := s.fput (viPg v) 0x44 2 0 st
  s.record3 (viPg v) 0x44 before (s.get (viPg v) 0x44)

/-! Translation and key-rights. -/

/-- Byte-by-byte translation through the active set, in pieces of one block each; none when a byte lies in no block
(R438). -/
def xlatePieces (bs : List TBlock) : Nat → Nat → Nat → Option (List Piece)
  | _, _, 0 => some []
  | 0, _, _ => none
  | f + 1, a, len =>
    match bs.find? (fun b => decide (b.vbase ≤ a ∧ a < b.vbase + b.len)) with
    | none => none
    | some b =>
      let n := min len (b.vbase + b.len - a)
      (xlatePieces bs f (a + n) (len - n)).map (⟨b.pkey, b.attr, b.pbase + (a - b.vbase), n⟩ :: ·)

/-- E = K AND KR_CEIL grants the access to every block touched (R440). -/
def keyOk (e : Nat) (rd wr : Bool) (ps : List Piece) : Bool :=
  ps.all (fun p => (!rd || bit e (2 * p.pkey)) && (!wr || bit e (2 * p.pkey + 1)))

/-- An access of VI v to host memory: the pieces, or the status it fails with (R438 R440 R442). `k` is the key-rights
value of R441, none for queue rings, completions and events. -/
def State.viAccess (s : State) (v a len : Nat) (k : Option Nat) (rd wr : Bool) : Except Nat (List Piece) :=
  if s.bget (viPg v) 0x40 1 then
    match xlatePieces (s.vi v).blocks 33 a len with
    | none => .error stXlateMiss
    | some ps =>
      match k with
      | none => .ok ps
      | some k => if keyOk (Nat.land k (s.get (viPg v) 0x48)) rd wr ps then .ok ps else .error stPkeyDeny
  else .ok [⟨0, 0, a, len⟩]

/-- ATS: with ATS Enable set and XLATE_EN 0, the pages an access uses are translated by the host and cached, up to
4,096 entries per port, the oldest making room (R442). -/
def State.atsFill (s : State) (v : Nat) (ps : List Piece) : State :=
  if s.bget (viPg v) 0x40 1 || !(s.vi v).ats then s
  else
    ps.foldl (fun s p =>
      let e : Nat × Nat × Nat := (viPort v, viFn v, p.bus / 4096)
      if e ∈ s.mem.atc then s
      else
        let mine := s.mem.atc.filter (fun x => decide (x.1 = viPort v))
        let atc := if 4096 ≤ mine.length then delFirst (fun x => decide (x.1 = viPort v)) s.mem.atc else s.mem.atc
        { (s.bump (hostPg (viPort v) 0) 10 1) with mem := { s.mem with atc := atc ++ [e] } }) s

/-- Writes bytes through translated pieces. -/
def State.writePieces (s : State) (v : Nat) : List Piece → Bytes → State
  | [], _ => s
  | p :: ps, b =>
    let at' := if s.bget (viPg v) 0x40 1 || !(s.vi v).ats then p.attr else p.attr + 4
    State.writePieces (s.hostWriteAttr (viPort v) p.bus at' (b.take p.len)) v ps (b.drop p.len)

/-- A write of VI v into its host memory: done, or refused with a status. -/
def State.viWrite (s : State) (v a : Nat) (k : Option Nat) (b : Bytes) : Except Nat State :=
  match s.viAccess v a b.length k false true with
  | .ok ps => .ok ((s.atsFill v ps).writePieces v ps b)
  | .error e => .error e

/-- A read of VI v from its host memory that returned `len` bytes: the status it fails with, or the state after the
request and its completion (R425 R432). -/
def State.viRead (s : State) (v a len : Nat) (k : Option Nat) : Except Nat State :=
  match s.viAccess v a len k true false with
  | .ok ps =>
    .ok (((s.atsFill v ps).bump (hostPg (viPort v) 0) 2 ps.length).bump (hostPg (viPort v) 0) 1 (ceilDiv len 64))
  | .error e => .error e

/-! Completion queues. -/

/-- SIZE_LOG2 of a queue: below 4 acts as 4, above 16 as 16 (R445). -/
def qSize (ctl : Nat) : Nat := max 4 (min 16 (fld ctl 20 16))

/-- CPLQq_CTL. -/
def State.cplCtl (s : State) (v q : Nat) : Nat := s.get (vfPg v 3) (0x108 + 16 * q)

/-- CMDQq_CTL. -/
def State.cmdCtl (s : State) (v q : Nat) : Nat := s.get (vfPg v 2) (0x108 + 16 * q)

def State.cq (s : State) (v q : Nat) : CplQ := Tab.get cplqD (s.vi v).cplq q
def State.cmq (s : State) (v q : Nat) : CmdQ := Tab.get cmdqD (s.vi v).cmdq q

def State.updCq (s : State) (v q : Nat) (f : CplQ → CplQ) : State :=
  s.updVi v (fun x => { x with cplq := Tab.upd cplqD x.cplq q f })

def State.updCmq (s : State) (v q : Nat) (f : CmdQ → CmdQ) : State :=
  s.updVi v (fun x => { x with cmdq := Tab.upd cmdqD x.cmdq q f })

/-- A completion queue takes entries: EN = 1 and ERROR = 0 (R450). -/
def State.cqLive (s : State) (v q : Nat) : Bool := bit (s.cplCtl v q) 31 && !(s.cq v q).error

/-- A completion queue is full (R447). -/
def State.cqFull (s : State) (v q : Nat) : Bool :=
  decide (wrapSub 32 (s.cq v q).tail (s.cq v q).head = 2 ^ qSize (s.cplCtl v q))

/-- Whether the module may still write to the VI's memory: not after a stop with cause 2, 3 or 4 began (R460), and
not while the VI is NONE, OFF or ENABLING (R458: its queues are disabled). -/
def State.viMayWrite (s : State) (v : Nat) : Bool :=
  !s.fatal && (s.viState v = viOn || (s.viState v = viStopping && s.viCause v = 1))

/-- Counts a written entry: a completion in HOST counter 6 and VF counter 1, in VF counter 2 as well when its status is
not OK; an event in HOST counter 7 and VF counter 3. -/
def State.countEntry (s : State) (v : Nat) (b : Bytes) : State :=
  if leAt b 0 1 = 1 then
    ((s.bump (hostPg (viPort v) 0) 6 1).bumpVf v 1 1).bumpVf v 2 (b2n (decide (leAt b 1 1 ≠ 0)))
  else (s.bump (hostPg (viPort v) 0) 7 1).bumpVf v 3 1

/-- Writes an entry at TAIL with its PHASE, advances TAIL, and interrupts when armed; a failed translation sets ERROR
and discards the entry (R446 R448 R450). -/
def State.putEntry (s : State) (v q : Nat) (b : Bytes) : State :=
  let ctl := s.cplCtl v q
  let i := (s.cq v q).tail
  let n := qSize ctl
  let phase := 1 - (i / 2 ^ n) % 2
  let b := patch b 3 [BitVec.ofNat 8 phase]
  match s.viWrite v (s.get64 (vfPg v 3) (0x100 + 16 * q) + 64 * (i % 2 ^ n)) none b with
  | .error _ => (s.updCq v q (fun c => { c with error := true })).raise (vfPg v 0) 17
  | .ok s =>
    let s := (s.countEntry v b).updCq v q (fun c => { c with tail := wrapAdd 32 c.tail 1 })
    if bit ctl 15 && (s.cq v q).armed then
      (s.updCq v q (fun c => { c with armed := false })).emit (.msix (viPort v) (viFn v) (fld ctl 5 0))
    else s

/-- Writes a completion now: HEAD of its command queue and the tick are those of the write (R454). -/
def State.putCompletion (s : State) (v q : Nat) (b : Bytes) : State :=
  let cmd := leAt b 4 1
  let b := patch (patch b 8 (leBytes 4 (s.cmq v cmd).head)) 0xC (leBytes 4 s.nowTick)
  s.putEntry v q b

/-- A completion to a queue: discarded when the queue is disabled or in ERROR, kept waiting when it is full, else
written (R450). -/
def State.postCompletion (s : State) (v q : Nat) (b : Bytes) : State :=
  if !s.viMayWrite v then s
  else if !s.cqLive v q then s.bump (hostPg (viPort v) 0) 8 1
  else if s.cqFull v q || (s.vi v).waiting.any (fun w => decide (w.1 = q)) then
    s.updVi v (fun x => { x with waiting := x.waiting ++ [(q, b)] })
  else s.putCompletion v q b

/-- The 64 bytes of a completion (R454), PHASE, HEAD and tick left for the write; `ext` stands from 0x18. -/
def cplBytes (status opcode queue cookie : Nat) (ext : Bytes) : Bytes :=
  leBytes 1 1 ++ leBytes 1 status ++ leBytes 1 opcode ++ zeros 1 ++ leBytes 1 queue ++ zeros 11 ++
    leBytes 8 cookie ++ padTo ext 40

/-- An event to a VI's queue: written, or dropped when the queue is full, or discarded (R450 R455). -/
def State.postEvent (s : State) (v q status event : Nat) (body : Bytes) : State :=
  if !s.viMayWrite v then s
  else if !s.cqLive v q then (s.bump (hostPg (viPort v) 0) 8 1).bumpVf v 4 1
  else if s.cqFull v q then
    (((s.updCq v q (fun c => { c with evLost := min (c.evLost + 1) 0xFFFF })).bump (hostPg (viPort v) 0) 8 1).bumpVf
      v 4 1).raise (vfPg v 0) 18
  else
    let b := leBytes 1 2 ++ leBytes 1 status ++ leBytes 1 event ++ zeros 1 ++ leBytes 4 (s.cq v q).evLost ++
      leBytes 8 s.nowTick ++ padTo body 48
    let s := s.updCq v q (fun c => { c with evLost := 0 })
    s.putEntry v q b

/-! Descriptors. -/

/-- Fields of a descriptor's header (R451). -/
def dOpcode (b : Bytes) : Nat := leAt b 0 1
def dFlags (b : Bytes) : Nat := leAt b 1 1
def dCplq (b : Bytes) : Nat := leAt b 2 1 % 64
def dCookie (b : Bytes) : Nat := leAt b 8 8

/-- The fetched descriptor of a number. -/
def State.desc (s : State) (v n : Nat) : Option Desc := (s.vi v).descs.find? (fun d => decide (d.num = n))

/-- A pending counter change at the trigger stage of the VI's cluster (R503). -/
def State.pushTrig (s : State) (v ctr : Nat) (set : Bool) (value : Nat) : State :=
  { s with trig := Tab.upd (fun _ => ([] : List TrigChange)) s.trig (viPort v) (fun q => q ++ [⟨v, ctr, set, value⟩]) }

/-- A completed entry of a firing (R507). -/
def State.firingEntryDone (s : State) (v id : Nat) (ok : Bool) : State :=
  let g := updFirst (fun (f : Firing) => decide (f.id = id)) (fun f => { f with left := f.left - 1, ok := f.ok && ok })
  s.updVi v (fun x => { x with firings := g x.firings })

/-- The descriptor of a number completes with a status: its completion is posted unless it is QUIET and the status is
OK (R451), and a chain's firing counts it (R507). -/
def State.complete (s : State) (v n status : Nat) (ext : Bytes) : State :=
  match s.desc v n with
  | none => s
  | some d =>
    let s := s.updVi v (fun x => { x with descs := delFirst (fun e => decide (e.num = n)) x.descs })
    let s := match d.firing with
      | some id => s.firingEntryDone v id (decide (status = stOk))
      | none => s
    if bit (dFlags d.bytes) 0 && decide (status = stOk) then s
    else s.postCompletion v (dCplq d.bytes) (cplBytes status (dOpcode d.bytes) d.queue (dCookie d.bytes) ext)

/-! Trigger counters and chain slots. -/

def State.chain (s : State) (v slot : Nat) : Chain := Tab.get chainD (s.vi v).chains slot

def State.updChain (s : State) (v slot : Nat) (f : Chain → Chain) : State :=
  s.updVi v (fun x => { x with chains := Tab.upd chainD x.chains slot f })

def State.trigCtr (s : State) (v c : Nat) : Nat := Tab.get (fun _ => 0) (s.vi v).ctrs c

/-- An engine's self-check runs: it is out of use and drains (R510 R548). -/
def State.engChecks (s : State) (e : Nat) : Bool := (Tab.get (fun _ => none) s.relia.running (pageCode (engPg e))).isSome

/-- An ACTIVE engine, not in its self-check, whose ENG_ROLE in force has a bit set: 0 TICK, 1 TRIG, 2 SVC, 3 DUMP (R498 R501
R513 R548). -/
def State.engRole (s : State) (e role : Nat) : Bool :=
  s.active (engPg e) && !s.engChecks e && bit (s.cfg (engPg e) 0x40) role

/-- Whether an engine of the cluster is ACTIVE with TRIG set and the cluster is not reloading. -/
def State.canFire (s : State) (c : Nat) : Bool :=
  !s.bget (cluPg c) 0x40 1 && (List.range 8).any (fun e => s.engRole (8 * c + e) 1)

/-- Engines that may take a service task (R496 R498 R511). -/
def State.svcEngines (s : State) : List Nat :=
  (List.range 128).filter (fun e => s.engRole e 2 && !s.bget (cluPg (e / 8)) 0x40 1)

/-- A service task has been done: one of the engines that may, no rule says which, counts it (R498 R515). -/
def State.svcTask (s : State) : State :=
  let (n, t) := s.free
  let es := s.svcEngines
  match es[n % max 1 es.length]? with
  | some e => t.bump (engPg e) 3 1
  | none => s

/-- Shares that an engine holds and whose run is in progress (R499 R500). -/
def State.sharesRun (s : State) (e : Nat) : List Nat :=
  (List.range 16).filter (fun c => decide (s.get (cluPg c) 0x44 % 128 = e) && !s.bget (cluPg c) 0x44 8 &&
    Tab.get (fun _ => false) s.tick.busy (16 + c))

/-- Chain slots of a port's VIs that are in a state (R513). -/
def State.slotsIn (s : State) (c st : Nat) : Nat :=
  (s.vis.filter (fun e => decide (viPort e.1 = c))).foldl
    (fun n e => n + (e.2.chains.filter (fun x => decide (x.2.state = st))).length) 0

/-- Tests a slot: an ARMED slot whose counter is at or above THRESHOLD becomes FIRING, and with REARM its THRESHOLD
grows by STRIDE (R506 R507). -/
def State.testSlot (s : State) (v slot : Nat) : State :=
  let c := s.chain v slot
  if c.state = 1 ∧ c.threshold ≤ s.trigCtr v c.ctr then
    let (id, s) := s.fresh
    let th := if c.rearm then wrapAdd 64 c.threshold c.stride else c.threshold
    let s := s.updChain v slot (fun c =>
      { c with state := 2, next := 0, firing := id, firings := c.firings + 1, threshold := th })
    let s := s.updVi v (fun x => { x with firings := x.firings ++ [⟨id, slot, c.entries.length, true, c.doneCtr⟩] })
    s.bump (cluPg (viPort v)) 2 1
  else s

/-- The last entry of a slot's firing has begun: FREE, or with REARM ARMED again and tested (R507). -/
def State.chainBegun (s : State) (v id : Nat) : State :=
  match (s.vi v).chains.find? (fun e => decide (e.2.state = 2 ∧ e.2.firing = id ∧ e.2.entries.length ≤ e.2.next)) with
  | none => s
  | some (slot, c) =>
    if c.rearm then
      (s.updChain v slot (fun c => { c with state := 1, next := 0 })).testSlot v slot
    else s.updChain v slot freed

/-- Applies a counter change and tests the slots that wait on the counter (R503 R506). -/
def State.applyTrig (s : State) (t : TrigChange) : State :=
  let old := s.trigCtr t.vi t.ctr
  let new := if t.set then t.value % 2 ^ 64 else wrapAdd 64 old t.value
  let s := s.updVi t.vi (fun x => { x with ctrs := Tab.set (fun _ => 0) x.ctrs t.ctr new })
  let s := s.bump (cluPg (viPort t.vi)) 0 1
  (List.range 64).foldl
    (fun s slot => if (s.chain t.vi slot).ctr = t.ctr then s.testSlot t.vi slot else s) s

/-- Applies every change that waits at a cluster's trigger stage, in the order they reached it (R503). -/
def State.drainTrig (s : State) (c : Nat) : State :=
  let q := Tab.get (fun _ => ([] : List TrigChange)) s.trig c
  q.foldl State.applyTrig { s with trig := Tab.set (fun _ => ([] : List TrigChange)) s.trig c [] }

end Sys2Proof.Machine
end

