-- ==== Sys2Proof/Machine/ZynLib.lean ====
section
/-! DEFINITION. Zynken frames, keys, counters and replies (05_zynken_commands.md). -/

namespace Sys2Proof.Machine

/-- Fields of the command frame's header (R113). -/
def zVersion (f : Bytes) : Nat := beAt f 0 1
def zOp (f : Bytes) : Nat := beAt f 2 2
def zOrigin (f : Bytes) : Nat := beAt f 4 2
def zSlot (f : Bytes) : Nat := beAt f 6 1
def zCtr (f : Bytes) : Nat := beAt f 8 8
def zAct (f : Bytes) : Nat := beAt f 0x10 8
def zSerial (f : Bytes) : Nat := beAt f 0x18 8
def zObj (f : Bytes) : Nat := beAt f 0x20 4
def zPlen (f : Bytes) : Nat := beAt f 0x24 2
def zTag (f : Bytes) : Nat := beAt f 0x26 2
def zPayload (f : Bytes) : Bytes := slice f 64 (zPlen f)
def zMac (f : Bytes) : Bytes := slice f (64 + zPlen f) 16

/-- OBJECT in the page or instance layout: class code, instance, page (R115). -/
def oClass (o : Nat) : Nat := fld o 31 24
def oInst (o : Nat) : Nat := fld o 23 12
def oPage (o : Nat) : Nat := fld o 11 0

/-- The class of a class code that has instances in BAR0. -/
def clsOfCode (c : Nat) : Option Cls := (classTable.find? (fun r => decide (r.code = c))).map ClsRow.cls

/-- Factory serial number (R610). -/
def State.serial (s : State) : Nat := s.get64 (glbPg 0) 0x40

/-- Index of an origin's high-water mark (R131). -/
def hwmIdx (o : Nat) : Option Nat :=
  if o = 0 then some 0
  else if o = 1 then some 1
  else if 0x10 ≤ o ∧ o < 0x20 then some (o - 0x10 + 2)
  else if 0x100 ≤ o ∧ o < 0x180 then some (o - 0x100 + 18)
  else if o = 0x200 then some 146
  else none

/-- The mark in force reads 2^20 until a frame raises it: a persisted value of 0 plus the reserve (R123). -/
def hwmD : Nat → Nat := fun _ => 2 ^ 20

/-- HWM in force for an origin. -/
def State.hwm (s : State) (o : Nat) : Nat :=
  match hwmIdx o with
  | some i => Tab.get hwmD s.zyn.hwm i
  | none => 0

/-- Raises the HWM of an origin (R118). -/
def State.setHwm (s : State) (o v : Nat) : State :=
  match hwmIdx o with
  | some i =>
    { s with zyn := { s.zyn with hwm := Tab.set hwmD s.zyn.hwm i v,
                                 dirty := if i ∈ s.zyn.dirty then s.zyn.dirty else s.zyn.dirty ++ [i] } }
  | none => s

/-- Writes an origin's raised HWM to the persistent store (R122). -/
def State.persistHwm (s : State) (i : Nat) : State :=
  if i ∈ s.zyn.dirty then
    { s with psto := { s.psto with hwm := Tab.set (fun _ => 0) s.psto.hwm i (Tab.get hwmD s.zyn.hwm i) },
             zyn := { s.zyn with dirty := s.zyn.dirty.filter (fun j => decide (j ≠ i)) } }
  else s

/-- Loads every HWM as its persisted value plus 2^20, saturating (R123); the store keeps what it held until a frame raises
the mark (log 141). -/
def State.loadHwms (s : State) : State :=
  let hwm := (List.range 147).foldl
    (fun t i => Tab.set hwmD t i (min (Tab.get (fun _ => 0) s.psto.hwm i + 2 ^ 20) (2 ^ 64 - 1))) []
  { s with zyn := { s.zyn with hwm := hwm, dirty := [] } }

/-- SLOTk fields: STATE 0 EMPTY, 1 ACTIVE, 2 PENDING; the binding; the key. -/
def State.slotState (s : State) (k : Nat) : Nat := s.fget (zynPg 1) (0x40 + 8 * k) 31 30
def State.slotKey (s : State) (k : Nat) : Bytes := Tab.get (fun _ => []) s.psto.keys k

/-- A slot's binding covers an origin: they agree above the low BIND_MASK bits; slot 0 is always bound to base 0 with
mask 1 (R124). -/
def State.slotCovers (s : State) (k o : Nat) : Bool :=
  let r := s.get (zynPg 1) (0x40 + 8 * k)
  let m := if k = 0 then 1 else fld r 19 16
  decide ((if k = 0 then 0 else fld r 15 0) / 2 ^ m = o / 2 ^ m)

/-- A key checks the slot's frames: the slot is ACTIVE, or PENDING with the key it had before (R117 R126). -/
def State.slotChecks (s : State) (k : Nat) : Bool := decide (s.slotState k ≠ 0 ∧ s.slotKey k ≠ [])

/-- Sets a slot's state, binding, key and identifier (R124 R131). -/
def State.setSlot (s : State) (k st base mask keyId : Nat) (key : Bytes) : State :=
  let s := (s.put (zynPg 1) (0x40 + 8 * k) (st * 2 ^ 30 + mask % 16 * 2 ^ 16 + base % 2 ^ 16)).put (zynPg 1) (0x44 + 8 * k) keyId
  let s := { s with psto := { s.psto with keys := Tab.set (fun _ => []) s.psto.keys k key } }
  if k = 0 then s.bput (zynPg 0) 0x44 0 (decide (st = 1)) else s

/-- The MAC of a frame or reply under a key: the first 16 bytes of HMAC-SHA-256 (R114 R130). -/
def zynMac (key m : Bytes) : Bytes := (hmacSha256 key m).take 16

/-- The MAC of a frame verifies under a key (R114). -/
def macOk (key f : Bytes) : Bool := decide (zynMac key (f.take (64 + zPlen f)) = zMac f)

/-- A reply (R130) with EXEC_TICK `tick`, its MAC under a key: zero where there is none, as when the frame failed check 1
or 2. -/
def State.replyAt (s : State) (tick : Nat) (f : Bytes) (status winner result : Nat) (key : Option Bytes) : Bytes :=
  let b := beBytes 1 1 ++ beBytes 1 status ++ beBytes 2 (zOp f) ++ beBytes 2 (zOrigin f) ++ beBytes 1 (zSlot f) ++
    zeros 1 ++ beBytes 8 (zCtr f) ++ beBytes 8 (s.hwm (zOrigin f)) ++ beBytes 8 tick ++ beBytes 8 s.serial ++
    beBytes 2 (zTag f) ++ beBytes 2 winner ++ beBytes 4 result
  b ++ (match key with | some k => zynMac k b | none => zeros 16)

/-- A reply to a frame that executes or is refused now. -/
def State.replyBytes (s : State) (f : Bytes) (status winner result : Nat) (key : Option Bytes) : Bytes :=
  s.replyAt s.nowTick f status winner result key

/-- The key that a reply to an authenticated frame is made under: its slot's, or the one that a KEY_LOAD_INITIAL carries
(R125 R130). -/
def State.replyKey (s : State) (f : Bytes) : Option Bytes :=
  if zOp f = 6 then some (zPayload f) else if s.slotChecks (zSlot f) then some (s.slotKey (zSlot f)) else none

/-- The Lanyard ports (R563 R580). -/
def State.lanyPorts (s : State) : List Nat := [s.fget (lanyPg 0) 0x40 9 0, s.fget (lanyPg 0) 0x40 19 10]

/-- Link layer of port p with nothing sent or received. -/
def linkInit : Link :=
  { session := false, txNext := 0, rxNext := 0, replay := [], replaying := none, nakDue := false, nakAt := none,
    sent := [], freed := [], peerFreed := [], limit := [], ownLimit := [], arrived := [], heldCells := [],
    changed := [], rot := 0, unreported := false, markerDue := none, telltaleDue := none, identDue := false,
    ackDue := false, exch := false, checkOk := false, identRx := false, peerDone := false, peerIdent := [], proposal := 0, errors := 0,
    lastRetrain := none, shapeHeld := false, begun := none, lanyOut := [], lanyIn := [], advLimit := [], rxBuf := [],
    rxPkt := none }
def linkD : Nat → Link := fun _ => linkInit
def State.link (s : State) (p : Nat) : Link := Tab.get linkD s.links p
def State.updLink (s : State) (p : Nat) (f : Link → Link) : State := { s with links := Tab.upd linkD s.links p f }

/-- LINK_STAT.STATE values (R193). -/
def lkDown : Nat := 0
def lkIdent : Nat := 1
def lkUp : Nat := 2
def lkHold : Nat := 3
def lkFail : Nat := 4
def State.linkState (s : State) (p : Nat) : Nat := s.fget (portPg p) 0x4C 3 0

/-- A Lanyard port that is UP (R564). -/
def State.lanyUp (s : State) : Option Nat :=
  if s.bget (lanyPg 0) 0x40 31 then s.lanyPorts.find? (fun p => decide (s.linkState p = lkUp)) else none

/-- Queues a LANY frame on an UP Lanyard port: its 16-byte header, then the records (R564). -/
def State.sendLany (s : State) (sub arg : Nat) (body : Bytes) : State :=
  match s.lanyUp with
  | none => s
  | some p =>
    let f := beBytes 1 sub ++ beBytes 1 arg ++ beBytes 2 body.length ++ beBytes 8 s.serial ++ zeros 4 ++ body
    s.updLink p (fun l => { l with lanyOut := l.lanyOut ++ [padTo f (64 * ceilDiv f.length 64)] })

/-- LANY.STAT.STATE values (R565). -/
def laUnpaired : Nat := 0
def laSyncing : Nat := 1
def laPaired : Nat := 2
def laLost : Nat := 3
def laTaken : Nat := 4
def State.lanyState (s : State) : Nat := s.fget (lanyPg 0) 0x44 2 0

/-- A Zynken frame built by the module itself: PAIR_FAILOVER toward its twin under slot LANY.CFG.SLOT with counter
LANY.TXCTR (R576 R570). -/
def State.failoverFrame (s : State) (ctr : Nat) : Bytes :=
  let slot := s.fget (lanyPg 0) 0x40 29 27
  let hdr := beBytes 1 1 ++ zeros 1 ++ beBytes 2 0x000A ++ beBytes 2 0x200 ++ beBytes 1 slot ++ zeros 1 ++
    beBytes 8 ctr ++ beBytes 8 0 ++ beBytes 8 (s.get64 (lanyPg 0) 0x48) ++ beBytes 4 0x71000000 ++ beBytes 2 8 ++
    beBytes 2 0 ++ zeros 24 ++ beBytes 8 s.serial
  hdr ++ zynMac (s.slotKey slot) hdr

/-- The failover request of R576: none when the slot is EMPTY or the management controller is resetting (R596). -/
def State.sendFailover (s : State) : State :=
  if s.slotChecks (s.fget (lanyPg 0) 0x40 29 27) = false ∨ s.zyn.mcReset then s
  else
    let ctr := wrapAdd 64 (s.get64 (lanyPg 0) 0x58) 1
    (s.put64 (lanyPg 0) 0x58 ctr).sendLany 2 0 (s.failoverFrame ctr)

/-- Step 5 of R555: each fetched descriptor that has not completed completes with INTERNAL_FATAL. -/
def State.failDescs (s : State) : State :=
  if s.bget (glbPg 5) 0x4C 30 then
    s.vis.foldl (fun s e => e.2.descs.foldl (fun s d => s.complete e.1 d.num stFatal []) s) s
  else s

/-- Enters the fatal state (R555), or counts a later cause (R554 R578). Step 3, the outputs that stop, and the jobs and
doorbells of R555 and R556 that stop, are tests of FATAL where each of them acts. -/
def State.enterFatal (s : State) (cause : Nat) : State :=
  if s.fatal then s.satAdd (glbPg 5) 0x40 15 8 1
  else
    let s := if (s.lanyState = laPaired ∨ s.lanyState = laLost) ∧ cause ≠ 9 then s.sendFailover else s
    let s := (List.range 16).foldl (fun s h => s.pfEvent h 0) s
    let s := s.failDescs
    let s := s.put (glbPg 5) 0x40 (2 ^ 31 + cause)
    let s := (s.put64 (glbPg 5) 0x44 s.nowTick).bump (glbPg 4) 12 1
    let s := s.event 1 (.fatal cause)
    { s with relia := { s.relia with dump := some ⟨false, 0xFFFF, s.bget (glbPg 5) 0x4C 31, s.nowTick, s.nowCc, false⟩ } }

end Sys2Proof.Machine
end

