-- ==== Sys2Proof/Machine/RouteLib.lean ====
section
/-! DEFINITION. Route tables, usable ports and the route decision (09_routing.md R225-R250). -/

namespace Sys2Proof.Machine

/-- Initial tile: nothing queued. -/
def tileInit : Tile :=
  { ins := [], cols := [], wait := [], lastNom := 0, lastJun := 0, lastOut := [], reloading := false, ejectOcc := 0 }
def tileD : Nat → Tile := fun _ => tileInit
def State.tile (s : State) (t : Nat) : Tile := Tab.get tileD s.tiles t
def State.updTile (s : State) (t : Nat) (f : Tile → Tile) : State := { s with tiles := Tab.upd tileD s.tiles t f }

/-- A word of the active or the shadow bank, by window offset (R229 R230). -/
def State.bankWord (s : State) (active : Bool) (off : Nat) : Nat :=
  let b1 := if active then s.bget routePg 0x44 9 else !s.bget routePg 0x44 9
  (Tab.get (fun _ => (0 : Word)) (if b1 then s.route.bank1 else s.route.bank0) off).toNat

/-- A bank has been active since reset (R231 R261). -/
def State.bankValid (s : State) : Bool := s.bget routePg 0x44 8

/-- D, n_d and SELF of a bank (R231); n_d is 1 for d ≥ D (R225). -/
def State.rtD (s : State) (act : Bool) : Nat := fld (s.bankWord act 8) 2 0
def State.rtN (s : State) (act : Bool) (d : Nat) : Nat :=
  if d < s.rtD act then fld (s.bankWord act 0xC) (8 * d + 7) (8 * d) else 1
def State.rtSelf (s : State) (act : Bool) : Nat := fld (s.bankWord act 4) 19 0

/-- Coordinate d of a router address (R227), and the address with that coordinate replaced. -/
def coord (a d : Nat) : Nat := fld a (5 * d + 4) (5 * d)
def withCoord (a d x : Nat) : Nat := setFld a (5 * d + 4) (5 * d) x

/-- An address names a router of the fabric (R228). -/
def State.inFabric (s : State) (act : Bool) (a : Nat) : Bool :=
  (List.range 4).all (fun d => decide (coord a d < s.rtN act d))

/-- Router index (R228). -/
def State.rIndex (s : State) (act : Bool) (a : Nat) : Nat :=
  coord a 0 + s.rtN act 0 * (coord a 1 + s.rtN act 1 * (coord a 2 + s.rtN act 2 * coord a 3))

/-- Routers of the fabric (R225). -/
def State.routers (s : State) (act : Bool) : Nat := s.rtN act 0 * s.rtN act 1 * s.rtN act 2 * s.rtN act 3

/-- Coordinate entry (d, x) (R232) and exception entry i, which is ignored for the router itself and beyond the fabric
(R234). -/
def State.cent (s : State) (act : Bool) (d x : Nat) : Nat := s.bankWord act (0x1000 + 4 * (32 * d + x))
def State.exc (s : State) (act : Bool) (i : Nat) : Nat :=
  if i = s.rIndex act (s.rtSelf act) ∨ s.routers act ≤ i then 0 else s.bankWord act (0x10000 + 4 * i)

/-- RING_POS of (d, x). -/
def State.ringPos (s : State) (act : Bool) (d x : Nat) : Nat := fld (s.cent act d x) 20 16

/-- Port of member slot k of trunk (d, x) (R230 R233). -/
def State.member (s : State) (act : Bool) (d x k : Nat) : Nat :=
  let w := s.bankWord act (0x2000 + 32 * (32 * d + x) + 4 * (k / 2))
  if k % 2 = 0 then fld w 9 0 else fld w 25 16

/-- Enabled members of trunk (d, x): slot and port (R232 R233). -/
def State.members (s : State) (act : Bool) (d x : Nat) : List (Nat × Nat) :=
  ((List.range 16).filter (fun k => bit (s.cent act d x) k)).map (fun k => (k, s.member act d x k))

/-- ADMIT bit of a port (R237). -/
def State.admitted (s : State) (p : Nat) : Bool := s.bget routePg (0x100 + 4 * (p / 32)) (p % 32)
def State.setAdmit (s : State) (p : Nat) (v : Bool) : State := s.bput routePg (0x100 + 4 * (p / 32)) (p % 32) v

/-- Trunk (d, x) has an admitted member, and the trunks 32d+x that have one (R258). -/
def State.trunkLinked (s : State) (d x : Nat) : Bool := (s.members true d x).any (fun m => s.admitted m.2)
def State.linkedTrunks (s : State) : List Nat :=
  (List.range 128).filter (fun i => s.trunkLinked (i / 32) (i % 32))

/-- REEF of a port page (R217). -/
def State.portReef (s : State) (p : Nat) : Bool := s.bget (portPg p) 8 2

/-- A member is usable: admitted, UP and not reefed; for escape hops a member in HOLD also counts (R237). -/
def State.usable (s : State) (esc : Bool) (p : Nat) : Bool :=
  s.admitted p && !s.portReef p && (s.linkState p = lkUp || (esc && s.linkState p = lkHold))

/-- Outstanding cells of VC v: (S_v − F′_v) mod 65,536 (R177). -/
def Link.outstanding (l : Link) (v : Nat) : Nat :=
  wrapSub 16 (Tab.get (fun _ => 0) l.sent v) (Tab.get (fun _ => 0) l.peerFreed v)

/-- The peer has credit for n cells on VC v (R177). -/
def State.credit (s : State) (p v n : Nat) : Bool :=
  decide ((s.link p).outstanding v + n ≤ Tab.get (fun _ => 0) (s.link p).limit v)

/-- Replay slots in use (R174). -/
def Link.slots (l : Link) : Nat := l.replay.foldl (fun n f => n + ceilDiv f.cells.length 64 + 1) 0

/-- The replay buffer can hold a sequenced frame of n cells (R174 R175). -/
def Link.room (l : Link) (n : Nat) : Bool := decide (l.slots + n + 1 ≤ 2048 ∧ l.replay.length < 1024)

/-- OCCq_c (R208): RESV and USED cells queued for output q on class c; 16,383 while the port cannot send. -/
def State.occ (s : State) (t q c : Nat) : Nat :=
  let p := 8 * t + q
  if q < 8 && (s.portReef p || s.bget (portPg p) 0x4C 6 || !(s.linkState p = lkUp)) then 16383
  else min 16383 (((s.tile t).cols.filter (fun k => decide (k.output = q ∧ k.vc / 4 = c))).foldl (fun n k => n + k.cells) 0)

/-- Occupancy of a port as a trunk member: doubled when it is DEGRADED (R240). -/
def State.occPort (s : State) (p : Nat) : Nat :=
  let o := s.occ (p / 8) (p % 8) 0 + s.occ (p / 8) (p % 8) 1 + s.occ (p / 8) (p % 8) 2 + s.occ (p / 8) (p % 8) 3
  if s.bget (lanePg p) 0x48 4 then 2 * o else o

/-- The level of an occupancy (R240). -/
def lvl (o : Nat) : Nat := min 254 (o / 32)

/-- Least element of a list under a measure, the first on a tie. -/
def argMin {α : Type} (f : α → Nat) : List α → Option α
  | [] => none
  | a :: t => match argMin f t with
    | none => some a
    | some b => if f a ≤ f b then some a else some b

/-- A field of a telltale that is younger than TT_STALE allows; none otherwise (R247). -/
def State.ttField (s : State) (d x off : Nat) : Option Nat :=
  match Tab.get (fun _ => none) s.route.telltale (32 * d + x) with
  | none => none
  | some (f : Bytes) =>
    if max 1 (s.cfgf routePg 0x48 19 16) < wrapSub 32 s.nowTick (beAt f 4 4) then none else some (beAt f off 1)

/-- What a route decision answers. -/
inductive Dec where
  /-- no candidate is credit-eligible -/
  | wait
  /-- discarded with a ROUTE block bit and counter -/
  | drop (b ctr : Nat)
  /-- ejected through the gateway of a tile -/
  | eject (tile : Nat)
  /-- over the Lanyard to the twin (R575) -/
  | twin (port : Nat)
  /-- minimal hop 0, detour 1 or escape 2, over a member slot of trunk 32d+x -/
  | hop (kind trunk slot port vc : Nat) (cross : Bool)
deriving DecidableEq, Repr

/-- A candidate of R239: cost order key, trunk, detour. -/
structure Cand where
  cost : Nat
  det : Bool
  dim : Nat
  trunk : Nat
  /-- credit-eligible usable members: slot, port, occupancy -/
  mem : List (Nat × Nat × Nat)
  vc : Nat
deriving DecidableEq, Repr

/-- Credit-eligible usable members of trunk (d, x) for n cells on VC v (R239 R241). -/
def State.eligible (s : State) (d x v n : Nat) : List (Nat × Nat × Nat) :=
  ((s.members true d x).filter (fun m => s.usable false m.2 && s.credit m.2 v n)).map (fun m => (m.1, m.2, s.occPort m.2))

/-- Lowest level among members. -/
def lowLevel (ms : List (Nat × Nat × Nat)) : Nat := ms.foldl (fun a m => min a (lvl m.2.2)) 254

/-- Remote level of the minimal candidate of dimension d toward router T (R240). -/
def State.remoteMin (s : State) (dest d : Nat) (m : List Nat) (avoid : Nat) : Nat :=
  let x := coord dest d
  if withCoord (s.rtSelf true) d x = dest then (s.ttField d x 0xD).getD 0
  else
    match s.ttField d x 0xD with
    | none => 0
    | some _ =>
      match m.filter (fun e => decide (e ≠ d) && !bit avoid e) with
      | [] => Config.noRemoteLevel % 256
      | es => es.foldl (fun a e => min a ((s.ttField d x (0x20 + 32 * e + coord dest e)).getD 0)) 255

/-- The adaptive candidates of R239 with a credit-eligible member, with their costs (R240). `sub` is the sub-channel
of arrival, none for a gateway. -/
def State.candidates (s : State) (sub : Option Nat) (cls n dest : Nat) : List Cand :=
  let self := s.rtSelf true
  let m := (List.range (s.rtD true)).filter (fun d => decide (coord self d ≠ coord dest d))
  let ex := s.exc true (s.rIndex true dest)
  let wl := s.cfgf routePg 0x48 3 0
  let wr := s.cfgf routePg 0x48 11 8
  let vmin := 4 * cls + (if sub = some 1 then 1 else 0)
  let mins := m.filterMap (fun d =>
    let x := coord dest d
    if bit ex d || !bit (s.cent true d x) 30 then none
    else
      let ms := s.eligible d x vmin n
      if ms = [] then none
      else some ⟨wl * lowLevel ms + wr * s.remoteMin dest d m (fld ex 3 0), false, d, 32 * d + x, ms, vmin⟩)
  let dets := m.filterMap (fun d =>
    let y1 := Tab.get (fun _ => 0) s.route.detour (32 * d + coord dest d)
    if y1 = 0 || bit ex 29 || !(sub = none || sub = some 0) then none
    else
      let ms := s.eligible d (y1 - 1) (4 * cls + 1) n
      if ms = [] then none
      else
        let r := (s.ttField d (y1 - 1) (0x20 + 32 * d + coord dest d)).getD 0
        some ⟨wl * lowLevel ms + wr * r + s.cfgf routePg 0x48 31 24, true, d, 32 * d + (y1 - 1), ms, 4 * cls + 1⟩)
  mins ++ dets

/-- The member chosen within a trunk: least occupancy, on a tie the first slot after the one last chosen for the
class, cyclically (R241). -/
def State.pickMember (s : State) (trunk cls : Nat) (ms : List (Nat × Nat × Nat)) : Option (Nat × Nat × Nat) :=
  let last := Tab.get (fun _ => 15) s.route.lastMember (4 * trunk + cls)
  argMin (fun m => m.2.2 * 16 + (m.1 + 31 - last) % 16) ms

/-- The escape hop of a packet toward router `dest` (R248-R250, R244). `sub` and `arrDim` are those of its arrival;
`dead` is a port no longer usable (R249). -/
def State.escapeHop (s : State) (sub arrDim : Option Nat) (cls dest : Nat) (dead : Option Nat) : Dec :=
  let self := s.rtSelf true
  match (List.range (s.rtD true)).find? (fun d => decide (coord self d ≠ coord dest d)) with
  | none => .drop 18 8
  | some e =>
    let ex := s.exc true (s.rIndex true dest)
    let pos := s.ringPos true e (coord self e)
    let next := if bit ex 28 then fld ex 27 23
      else ((List.range (s.rtN true e)).find? (fun x => decide (s.ringPos true e x = (pos + 1) % s.rtN true e))).getD 0
    let cross := decide (s.ringPos true e next < pos)
    let onE1 := sub = some 3 && arrDim = some e
    if onE1 && cross then .drop 17 8
    else if !bit (s.cent true e next) 29 then .drop 18 8
    else
      match (s.members true e next).find? (fun m => s.usable true m.2 && !(dead = some m.2)) with
      | none => .drop 18 8
      | some m => .hop 2 (32 * e + next) m.1 m.2 (4 * cls + (if onE1 || cross then 3 else 2)) cross

/-- The gateway for a local endpoint: of the three of the die that serves its host port, the one whose ejection output
reported the fewest cells at the end of the previous round, lowest number on a tie (R199). For a collective unit, the
die of the unit. -/
def State.gatewayFor (s : State) (pkt : Bytes) : Nat :=
  let die := if pkAgent pkt = 1 then pkDest pkt % 2 else pkDest pkt % 16 / 8
  let g := argMin (fun g => (s.tile (gatewayTiles.getD g 0)).ejectOcc) [3 * die, 3 * die + 1, 3 * die + 2]
  gatewayTiles.getD (g.getD 0) 0

/-- The dimension in which the peer of a port differs from SELF (R244). -/
def State.portDim (s : State) (p : Nat) : Option Nat :=
  if p < 512 ∧ s.bget (portPg p) 0x54 31 then
    (List.range (s.rtD true)).find? (fun d => decide (coord (s.fget (portPg p) 0x54 19 0) d ≠ coord (s.rtSelf true) d))
  else none

/-- The context of an injected packet is CROSSED, so that the packet goes over the Lanyard (R575). -/
def State.crossed (s : State) (pkt : Bytes) : Bool :=
  s.xpts.any (fun e => e.2.ctxs.any (fun c => c.crossed && decide (c.loc = 16 * pkSrc pkt + pkSrcAgent pkt ∧
    c.rem = 2 ^ 28 * Nat.xor (pkPlane pkt) (s.fget (lanyPg 0) 0x40 30 30) + 16 * pkDest pkt + pkAgent pkt)))

/-- The route decision (R238-R244, R575). `inPort` is 512 for a gateway; `noCand` counts decisions without a
credit-eligible candidate; `dead` as in `escapeHop`. -/
def State.routeDec (s : State) (inPort inVc noCand : Nat) (pkt : Bytes) (dead : Option Nat) : Dec :=
  let dest := pkDest pkt / 16
  let fromTwin := decide (inPort < 512) && decide (inPort ∈ s.lanyPorts) && s.bget (lanyPg 0) 0x40 31
  let sub := if inPort = 512 || fromTwin then none else some (inVc % 4)
  let cls := pkClass pkt
  let past := if inPort = 512 && s.crossed pkt then s.lanyUp else none
  match past with
  | some p => .twin p
  | none =>
  if !s.bankValid then .drop 19 9
  else if dest = s.rtSelf true then
    match s.lanyUp with
    | some p =>
      if !fromTwin && s.lanyState = laPaired && !(pkPlane pkt = s.fget (lanyPg 0) 0x40 30 30) then .twin p
      else .eject (s.gatewayFor pkt)
    | none => .eject (s.gatewayFor pkt)
  else if !s.inFabric true dest || bit (s.exc true (s.rIndex true dest)) 31 then .drop 19 9
  else if max 16 (s.cfgf routePg 0x4C 31 24) ≤ pkHops pkt then .drop 16 7
  else if sub = some 2 || sub = some 3 then s.escapeHop sub (s.portDim inPort) cls dest dead
  else
    let key (c : Cand) : Nat := c.cost * 16 + (if c.det then 8 else 0) + c.dim
    match argMin key (s.candidates sub cls (pkCells pkt) dest) with
    | some c =>
      match s.pickMember c.trunk cls c.mem with
      | some m => .hop (if c.det then 1 else 0) c.trunk m.1 m.2.1 c.vc false
      | none => .wait
    | none =>
      if s.cfgf routePg 0x4C 3 0 ≤ noCand then s.escapeHop sub (s.portDim inPort) cls dest dead else .wait

/-- Counts a decision and remembers the member its trunk chose (R241 R263). -/
def State.countDec (s : State) (inVc : Nat) (gateway : Bool) (cls : Nat) (d : Dec) : State :=
  let s := s.bump routePg 0 1
  match d with
  | .wait => s
  | .drop b c => (s.raise routePg b).bump routePg c 1
  | .eject _ => s
  | .twin _ => s.bump (lanyPg 0) 9 1
  | .hop kind trunk slot _ _ cross =>
    let s := if kind = 0 then s.bump routePg 1 1 else if kind = 1 then s.bump routePg 2 1
      else
        let s := s.bump routePg 3 (b2n (gateway || decide (inVc % 4 < 2)))
        (s.bump routePg 4 1).bump routePg 5 (b2n cross)
    { s with route := { s.route with lastMember := Tab.set (fun _ => 15) s.route.lastMember (4 * trunk + cls) slot } }

/-- The output a decision names: egress tile, local output, VC. A packet to the twin keeps its class, on A0. -/
def Dec.toHop (d : Dec) (cls : Nat) : Option Hop :=
  match d with
  | .hop _ _ _ p vc _ => some ⟨p / 8, p % 8, vc⟩
  | .eject t => some ⟨t, 8, 4 * cls⟩
  | .twin p => some ⟨p / 8, p % 8, 4 * cls⟩
  | .wait => none
  | .drop _ _ => none

end Sys2Proof.Machine
end

