-- ==== Sys2Proof/Machine/TestLib.lean ====
section
/-! DEFINITION. The error log and the start of targeted self-tests (19_reliability.md R547-R550, R579, R616). -/

namespace Sys2Proof.Machine

/-- Actions of E3.ACTION (R579). -/
def acNone : Nat := 0
def acSpareRow : Nat := 1
def acRowOut : Nat := 2
def acSpareBus : Nat := 3
def acLane : Nat := 4
def acLaser : Nat := 5
def acEngine : Nat := 6
def acPort : Nat := 7
def acTile : Nat := 8
def acHbmRow : Nat := 9
def acStack : Nat := 10
def acUcie : Nat := 11
def acInstance : Nat := 12
def acFatal : Nat := 13
def acTestLost : Nat := 14

/-- BLK_ID of a page (R84). -/
def PageRef.blkId (p : PageRef) : Nat := (clsRow p.cls).code * 2 ^ 24 + p.inst * 2 ^ 12 + p.page

/-- An error log entry that has never been written. -/
def errD : Nat → ErrEntry := fun _ => ⟨0, 0, 0, 0, 0, 0, 0, 0⟩

/-- Writes an entry at ERRLOG_WR (R579). -/
def State.logErr (s : State) (p : PageRef) (element ext b kind verdict action : Nat) : State :=
  let i := s.fget (glbPg 6) 0x40 15 0
  let e : ErrEntry := ⟨s.nowTick % 2 ^ 32, p.blkId, element % 2 ^ 16, b, kind, verdict, action, ext % 2 ^ 24⟩
  let s := { s with relia := { s.relia with log := Tab.set errD s.relia.log (i % 256) e } }
  s.fput (glbPg 6) 0x40 15 0 (i + 1)

/-- A verdict in a page's BLK_STEST, journalled with the values before and after (R102 R550). -/
def State.setVerdict (s : State) (p : PageRef) (kind verdict fails : Nat) : State :=
  let before := s.get p 0x2C
  let s := s.put p 0x2C (min fails 255 * 2 ^ 8 + kind % 256 * 2 ^ 16 + verdict % 4)
  s.record3 p 0x2C before (s.get p 0x2C)

/-- The verdict of a targeted test, which is also reported (R550). -/
def State.putVerdict (s : State) (p : PageRef) (kind verdict fails : Nat) : State :=
  (s.setVerdict p kind verdict fails).event 1 (.verdict (pageCode p))

def noTest : Nat → Option Test := fun _ => none
def noQueue : Nat → List Test := fun _ => []

/-- The test running on a page's instance. -/
def State.testOf (s : State) (p : PageRef) : Option Test := Tab.get noTest s.relia.running (pageCode p.zero)

/-- Two tests name one element. -/
def Test.same (a b : Test) : Bool :=
  decide (a.page = b.page ∧ a.element = b.element ∧ a.ext = b.ext ∧ a.kind = b.kind)

/-- Puts a test into execution (R84 STEST_BUSY). -/
def State.runTest (s : State) (p : PageRef) (t : Test) : State :=
  let s := { s with relia := { s.relia with running := Tab.set noTest s.relia.running (pageCode p.zero) (some t) } }
  s.bput p 0xC 3 true

/-- A detected error starts the self-test of its element: one runs, up to eight wait, a further one is lost (R547
R549). -/
def State.startTest (s : State) (p : PageRef) (element ext b kind : Nat) : State :=
  let t : Test := ⟨pageCode p, element, ext, b, kind, false⟩
  let k := pageCode p.zero
  let q := Tab.get noQueue s.relia.queued k
  match s.testOf p with
  | none => s.runTest p t
  | some r =>
    if r.same t || q.any (fun u => u.same t) then s
    else if q.length < 8 then { s with relia := { s.relia with queued := Tab.set noQueue s.relia.queued k (q ++ [t]) } }
    else s.logErr p element ext b kind 0 acTestLost

/-- The test of an instance is over: STEST_BUSY clears on the page it ran for (R84), and the next one of its queue runs
(R549). -/
def State.nextTest (s : State) (p : PageRef) : State :=
  let k := pageCode p.zero
  let pg := match s.testOf p with | some t => (pageOfCode t.page).getD p.zero | none => p.zero
  let s := { s with relia := { s.relia with running := Tab.set noTest s.relia.running k none } }
  let s := s.bput pg 0xC 3 false
  match Tab.get noQueue s.relia.queued k with
  | [] => s
  | t :: q =>
    let s := { s with relia := { s.relia with queued := Tab.set noQueue s.relia.queued k q } }
    match pageOfCode t.page with
    | some p => s.runTest p t
    | none => s

/-- A detected error of a page: its bit, and the test of its element (R84 R547). -/
def State.detect (s : State) (p : PageRef) (b element ext kind : Nat) : State :=
  (s.raise p b).startTest p element ext b kind

/-- Records the retirement of an element in the persistent store (R551). -/
def State.retireElement (s : State) (p : PageRef) (element ext : Nat) : State :=
  let e := (pageCode p, element, ext)
  if e ∈ s.psto.retired then s else { s with psto := { s.psto with retired := s.psto.retired ++ [e] } }

/-- A persisted retirement of an element. -/
def State.isRetired (s : State) (p : PageRef) (element ext : Nat) : Bool :=
  decide ((pageCode p, element, ext) ∈ s.psto.retired)

end Sys2Proof.Machine
end

