-- ==== Sys2Proof/Machine/LaneLib.lean ====
section
/-! DEFINITION. Serial lanes and lasers (06_lanes_and_optics.md R133-R157): bring-up, the bond, lane tests and lane training
frames. -/

namespace Sys2Proof.Machine

/-- LANEl_STAT.STATE values (R136). -/
def lnOff : Nat := 0
def lnSignal : Nat := 1
def lnTrain : Nat := 2
def lnStep : Nat := 3
def lnReady : Nat := 4
def lnTest : Nat := 5
def lnFailed : Nat := 6

/-- A lane that has met no peer. -/
def laneInit : Lane :=
  { rxReady := false, peerReady := false, peerState := 0, peerProp := 0, peerCount := 255, propRun := 0, tapResp := 0,
    since := 0, qualRun := 0, badRun := 0, window := [], prbs := false, oldStep := 0, propSent := 0, txPos := 0, lowRun := 0,
    highRun := 0, unlockRun := 0, minFresh := true }
def laneD : Nat → Lane := fun _ => laneInit
def lportInit : LanePort :=
  { limit := 0, countdown := 255, prop := 0, maxStep := 3, live := false, zeroSent := false, test := none, want := [],
    fullFails := 0, prbsWait := 0 }
def lportD : Nat → LanePort := fun _ => lportInit

def State.lane (s : State) (p l : Nat) : Lane := Tab.get laneD s.lanes (2 * p + l)
def State.updLane (s : State) (p l : Nat) (f : Lane → Lane) : State :=
  { s with lanes := Tab.upd laneD s.lanes (2 * p + l) f }
def State.lport (s : State) (p : Nat) : LanePort := Tab.get lportD s.lports p
def State.updLport (s : State) (p : Nat) (f : LanePort → LanePort) : State :=
  { s with lports := Tab.upd lportD s.lports p f }

/-- Offset of LANEl_STAT; FOM, TXEQ and RXPWR follow it (R158). -/
def laneOff (l : Nat) : Nat := 0x80 + 0x20 * l

/-- LANEl_STAT.STATE. -/
def State.laneState (s : State) (p l : Nat) : Nat := s.fget (lanePg p) (laneOff l) 3 0

/-- Enters a lane state; the timers of TRAIN, STEP and TEST start (R136). -/
def State.setLaneState (s : State) (p l st : Nat) : State :=
  (s.fput (lanePg p) (laneOff l) 3 0 st).updLane p l (fun x => { x with since := s.nowTick, qualRun := 0, badRun := 0 })

/-- LANE_BOND.STEP and its writing. -/
def State.portStep (s : State) (p : Nat) : Nat := s.fget (lanePg p) 0x48 15 12
def State.setPortStep (s : State) (p st : Nat) : State := s.fput (lanePg p) 0x48 15 12 st

/-- MAX_STEP: 0 acts as 1, above 3 as 3 (R159). -/
def clampStep (n : Nat) : Nat := max 1 (min 3 n)

/-- The target step: the least of both MAX_STEPs and the limit of R139 (R138). -/
def State.targetStep (s : State) (p : Nat) : Nat :=
  let t := min (s.lport p).maxStep (clampStep (s.fget (lanePg p) 0x48 11 8))
  if (s.lport p).limit = 0 then t else min t (s.lport p).limit

/-- No countdown is pending (R137). -/
def LanePort.noCount (x : LanePort) : LanePort := { x with countdown := 255, zeroSent := false }

/-- A countdown from 16 starts, to a step change (`prop` = 0) or to a bond (R138). -/
def LanePort.startCount (x : LanePort) (prop : Nat) : LanePort := { x with countdown := 16, zeroSent := false, prop := prop }

/-- ALLOW_1LANE (R159). -/
def State.allowOne (s : State) (p : Nat) : Bool := s.bget (lanePg p) 0x40 2

/-- A lane is FAILED at either end, so far as the LTFs tell (R140 R156). -/
def State.laneFailed (s : State) (p l : Nat) : Bool :=
  decide (s.laneState p l = lnFailed ∨ (s.lane p l).peerState = lnFailed)

/-- Bit 20 when a FAILED lane leaves no bond to form (R140). -/
def State.noBond (s : State) (p : Nat) : State :=
  if (s.laneFailed p 0 || s.laneFailed p 1) && !s.allowOne p then s.raise (portPg p) 20 else s

/-- A primary whose FAILED bit has cleared lights its wavelength again (R155); the spare goes dark. -/
def State.backToPrimary (s : State) (k w : Nat) : State :=
  let pg := optePg k 1
  if s.bget pg 0x44 (8 + w) && !s.bget pg 0x44 (20 + 2 * w) && !s.bget pg 0x44 (12 + w) then
    ((s.bput pg 0x44 (8 + w) false).bput pg 0x44 w false).fput pg (0x60 + 4 * (2 * w + 1)) 23 16 0
  else s

/-- Optical engine and wavelength that light a port's transmit lanes (R149). -/
def portOpte (p : Nat) : Nat := p / 32
def portWave (p : Nat) : Nat := p % 4

/-! Optical engines (R149). -/

def spareD : Nat → Spare := fun _ => ⟨none, [], [], []⟩
def State.spare (s : State) (k : Nat) : Spare := Tab.get spareD s.spares k
def State.updSpare (s : State) (k : Nat) (f : Spare → Spare) : State := { s with spares := Tab.upd spareD s.spares k f }

/-- Offset of BIASd (R161). -/
def biasOff (d : Nat) : Nat := 0x60 + 4 * d

/-- The diode that lights a wavelength (R149). -/
def State.litDiode (s : State) (k w : Nat) : Nat := if s.bget (optePg k 1) 0x44 (8 + w) then 2 * w + 1 else 2 * w

/-- The current a diode is commanded to: a SET above 240 acts as 240 (R161), which is the driver's limit of 120 mA (R151). -/
def State.biasSet (s : State) (k d : Nat) : Nat := min 240 (s.fget (optePg k 1) (biasOff d) 7 0)

/-- Power-on of an optical engine: the lit diodes go to their calibrated SET (R597); a shortfall shows at a later run of the
power control (R151, log 148). -/
def State.lightEngine (s : State) (k : Nat) : State :=
  (List.range 4).foldl (fun s w => s.fput (optePg k 1) (biasOff (s.litDiode k w)) 23 16 (s.biasSet k (s.litDiode k w))) s

/-- Every diode of an engine is dark, and a switch in progress or waiting has ended (R602). A dark diode's output power is
free. -/
def State.darken (s : State) (k : Nat) : State :=
  let pg := optePg k 1
  let s := ((s.updSpare k (fun x => { x with active := none, waiting := [] })).fput pg 0x44 15 12 0).fput pg 0x40 3 0 0
  (List.range 8).foldl (fun s d =>
    let (n, s) := s.free
    (s.fput pg (biasOff d) 23 16 0).fput pg (0x80 + 4 * d) 15 0 n) s

/-- Bring-up of a port at step 1 on every lane that is neither FAILED nor in TEST, which only its verdict ends (R136 R145).
`lift`: the step limit of R139 is lifted, as by RETRAIN and by a pass through OUT. -/
def State.bringUp (s : State) (p : Nat) (lift : Bool) : State :=
  let s := s.backToPrimary (portOpte p) (portWave p)
  let s := s.updLport p (fun x =>
    { x.noCount with live := true, limit := if lift then 0 else x.limit, prop := 0, prbsWait := 0,
                     maxStep := clampStep (s.fget (lanePg p) 0x40 23 20) })
  let s := s.put (lanePg p) 0x48 (2 ^ 12 + s.fget (lanePg p) 0x48 11 8 * 2 ^ 8 +
    b2n (!lift && s.bget (lanePg p) 0x48 5) * 2 ^ 5)
  let s := [0, 1].foldl (fun s l =>
    if s.laneState p l = lnFailed ∨ s.laneState p l = lnTest then s
    else
      let s := (s.setLaneState p l lnSignal).bput (lanePg p) (laneOff l + 4) 8 true
      s.updLane p l (fun x => { x with rxReady := false, peerReady := false, peerCount := 255, propRun := 0, propSent := 0,
                                       prbs := false })) s
  ((s.bput (lanePg p) 0x40 1 false).event 1 (.port p)).noBond p

/-- The lanes of a port go OFF: reset, EN = 0, or entry to OUT (R136). A FAILED lane leaves FAILED only for OUT, and then
is no longer RETIRED (R160), unless the persistent store holds its retirement (R551). `keep`: the step limit of R139
stays. A lane test ends without a verdict. -/
def State.lanesOff (s : State) (p : Nat) (keep out : Bool) : State :=
  let s := [0, 1].foldl (fun s l =>
    if s.laneState p l = lnFailed then
      if out && !s.isRetired (lanePg p) l 0 then (s.setLaneState p l lnOff).bput (lanePg p) (laneOff l) 11 false else s
    else s.setLaneState p l lnOff) s
  let s := if (s.lport p).test.isSome then s.bput (lanePg p) 0xC 3 false else s
  let s := s.updLport p (fun x => { lportInit with limit := if keep then x.limit else 0 })
  s.put (lanePg p) 0x48 (b2n (keep && s.bget (lanePg p) 0x48 5) * 2 ^ 5)

/-- Lanes whose state lets them take part: a bitmap of those neither end reports FAILED or OFF (R138). -/
def State.laneSet (s : State) (p : Nat) : Nat :=
  [0, 1].foldl (fun m l =>
    if s.laneState p l = lnFailed ∨ s.laneState p l = lnOff ∨ (s.lane p l).peerState = lnFailed then m else m + 2 ^ l) 0

/-- The lanes that are in the bond, and a bond put into LANE_BOND (R159). -/
def State.bond (s : State) (p : Nat) : Nat := s.fget (lanePg p) 0x48 3 2
def State.setBond (s : State) (p m : Nat) : State :=
  let s := ((s.fput (lanePg p) 0x48 3 2 m).bput (lanePg p) 0x48 4 (decide (m = 1 ∨ m = 2))).bput (lanePg p) 0x48 1 false
  s.bput (lanePg p) 0x48 0 (decide (m ≠ 0))

/-- A re-bond begins with a proposal (R156): LTFs take the place of link frames until four in a row agree at each end. -/
def State.rebond (s : State) (p prop : Nat) : State :=
  let s := (s.bput (lanePg p) 0x48 1 true).updLport p (fun x => { x.noCount with prop := prop })
  [0, 1].foldl (fun s l => s.updLane p l (fun x => { x with propRun := 0, propSent := 0 })) s

/-- A lane is in SIGNAL, its receiver no longer qualified (R136 R137). -/
def State.toSignal (s : State) (p l : Nat) : State :=
  (s.setLaneState p l lnSignal).updLane p l (fun x => { x with rxReady := false, peerReady := false })

/-- A lane leaves the bond for SIGNAL or TEST, by re-bond (R144 R147 R156); with no lane left, the bond is lost. -/
def State.leaveBond (s : State) (p l st : Nat) : State :=
  let rest := if bit (s.bond p) l then s.bond p - 2 ^ l else s.bond p
  let s := (s.toSignal p l).setLaneState p l st
  if rest = 0 then s.setBond p 0 else s.rebond p rest

/-- A one-lane bond whose other lane is FAILED stands only when ALLOW_1LANE permits it (R140). -/
def State.checkBond (s : State) (p : Nat) : State :=
  let m := s.bond p
  if m = 1 ∨ m = 2 then
    if s.laneFailed p (2 - m) && !s.allowOne p then (s.toSignal p (m - 1)).setBond p 0 else s
  else s

/-- The bit-error test of a READY lane starts: it leaves the bond, and is counted (R144 R162). -/
def State.startLaneTest (s : State) (p l b : Nat) : State :=
  let s := ((s.bump (lanePg p) 12 1).leaveBond p l lnTest).bput (lanePg p) 0xC 3 true
  s.updLport p (fun x => { x with test := some (l, b), want := x.want.filter (fun e => decide (e.1 ≠ l)) })

/-- The next lane test that waits starts, once its lane is READY and none runs (R145 R547 R605). In a full test the other
lane keeps the bond; a lane that carries the bond alone runs its part of it in loopback. -/
def State.nextLaneTest (s : State) (p : Nat) : State :=
  match (s.lport p).test, (s.lport p).want with
  | none, (l, b) :: rest =>
    if s.laneState p l ≠ lnReady ∨ s.bget (lanePg p) 0x48 1 = true then s
    else if b = 0 ∧ s.bond p ≠ 3 then (s.bump (lanePg p) 12 1).updLport p (fun x => { x with want := rest })
    else s.startLaneTest p l b
  | _, _ => s

/-- What is left of a full test of the port's lanes ends with it (R603). -/
def State.endFull (s : State) (p : Nat) : State :=
  let s := s.updLport p (fun x => { x with want := x.want.filter (fun e => decide (e.2 ≠ 0)) })
  match (s.lport p).test with
  | some (l, 0) => ((s.toSignal p l).bput (lanePg p) 0xC 3 false).updLport p (fun x => { x with test := none })
  | _ => s

/-- The lanes of a port in READY: a bitmap. -/
def State.readyLanes (s : State) (p : Nat) : Nat :=
  [0, 1].foldl (fun m l => if s.laneState p l = lnReady then m + 2 ^ l else m) 0

/-- A bond forms on the lanes both ends propose: they are READY, and a lane left out waits in SIGNAL (R136 R138 R140 R156
R157). -/
def State.formBond (s : State) (p m : Nat) : State :=
  let s := [0, 1].foldl (fun s l =>
    if bit m l then s.setLaneState p l lnReady else if s.laneState p l = lnReady then s.toSignal p l else s) s
  ((((s.setBond p m).updLport p LanePort.noCount).checkBond p).event 1 (.port p)).nextLaneTest p

/-- A step fallback (R139): the step limit, and both lanes in SIGNAL one step lower. -/
def State.fallback (s : State) (p : Nat) : State :=
  let st := s.portStep p
  let s := (s.updLport p (fun x => { x.noCount with limit := st - 1, prop := 0 })).bput (lanePg p) 0x48 5 true
  let s := ((s.setPortStep p (st - 1)).bump (lanePg p) 11 1).raise (portPg p) 23
  [0, 1].foldl (fun s l => if s.laneState p l = lnFailed ∨ s.laneState p l = lnTest then s else s.toSignal p l) s

/-- A lane fails to qualify at the port's step (R139 R135 R140). At step 1 it is FAILED. Above step 1 the port falls back;
but the step of a working port does not change (R142): its lane waits in SIGNAL at the step. -/
def State.qualFail (s : State) (p l : Nat) : State :=
  let st := s.portStep p
  let s := s.fput (lanePg p) (laneOff l) 15 12 st
  let up := s.bget (lanePg p) 0x48 0
  if 2 ≤ st then (if up then s.toSignal p l else s.fallback p)
  else
    let s := ((s.toSignal p l).setLaneState p l lnFailed).bput (lanePg p) (laneOff l) 11 true
    let s := s.event 1 (.port p)
    if up then s.checkBond p else (s.updLport p (fun x => { x.noCount with prop := 0 })).noBond p

/-! Lane training frames (R137). -/

def ltfMarker : Nat := 0x3C5A96E10FF0A55A
def ltfState (f : Bytes) : Nat := beAt f 9 1 % 16
def ltfMax (f : Bytes) : Nat := fld (beAt f 0xA 1) 7 4
def ltfCount (f : Bytes) : Nat := beAt f 0xB 1
def ltfProp (f : Bytes) : Nat := fld (beAt f 0xC 1) 2 1
def ltfReady (f : Bytes) : Bool := bit (beAt f 0xD 1) 0
def ltfTestReq (f : Bytes) : Bool := bit (beAt f 0xD 1) 1

/-- A receiver takes an LTF whose CRC16 and VERSION are right (R137). -/
def ltfOk (f : Bytes) : Bool :=
  decide (beAt f 0 8 = ltfMarker ∧ beAt f 8 1 = 1 ∧ crc16 (slice f 8 0x16) = beAt f 0x1E 2)

/-- The LTF a lane sends: its request to the peer's taps is the receiver's own affair, a free value (R137 R142). -/
def State.ltfBytes (s : State) (p l : Nat) : Bytes × State :=
  let x := s.lane p l
  let lp := s.lport p
  let st := s.portStep p
  let req := if lp.countdown ≠ 255 ∧ lp.prop = 0 then st + 1 else st
  let (n, s) := if s.laneState p l = lnTrain then s.free else (0, s)
  let stat := s.get (optePg (portOpte p) 1) 0x44
  let flags := b2n (bit stat (8 + portWave p)) * 8 + b2n (bit stat (portWave p)) * 4 +
    b2n (decide (s.laneState p l = lnTest ∧ (lp.test.map Prod.fst) = some l)) * 2 + b2n x.rxReady
  let body := beBytes 1 1 ++ beBytes 1 (s.laneState p l) ++ beBytes 1 (lp.maxStep * 16 + req) ++
    beBytes 1 lp.countdown ++ beBytes 1 (lp.prop * 2 + l) ++ beBytes 1 flags ++
    beBytes 2 (n % 4 * 2 ^ 13 + n / 4 % 4 * 2 ^ 11) ++ beBytes 2 (x.tapResp % 32 * 2 ^ 11) ++
    beBytes 1 (s.fget (lanePg p) (laneOff l + 4) 7 0) ++ zeros 11
  (beBytes 8 ltfMarker ++ body ++ beBytes 2 (crc16 body), s)

/-- The lane on which the port's countdown runs: the lowest that takes part. -/
def State.leadLane (s : State) (p : Nat) : Nat := if bit (s.laneSet p) 0 then 0 else 1

/-- A lane transmits LTFs outside READY and TEST; in TEST at the testing end, and in READY during a re-bond (R136 R144 R156).
It sends none while it answers the peer's TEST_REQ with PRBS31, and none while OFF (log 29). -/
def State.sendsLtf (s : State) (p l : Nat) : Bool :=
  let st := s.laneState p l
  !(s.lane p l).prbs && decide (st ≠ lnOff) && (decide (st ≠ lnReady) || s.bget (lanePg p) 0x48 1)

/-- A lane sends one LTF: the countdown of R138 runs, and a re-bond's proposal has been shown once more (R156). -/
def State.sendLtf (s : State) (p l : Nat) : State :=
  let (f, s) := s.ltfBytes p l
  let s := (s.emit (.lane p l f)).updLane p l (fun x =>
    { x with propSent := if s.bget (lanePg p) 0x48 1 then min 4 (x.propSent + 1) else 0 })
  if l ≠ s.leadLane p ∨ (s.lport p).countdown = 255 then s
  else s.updLport p (fun x => if x.countdown = 0 then { x with zeroSent := true } else { x with countdown := x.countdown - 1 })

/-- A re-bond completes on the intersection of the two proposals, once a lane has shown each end's four times in a row
(R156). -/
def State.tryForm (s : State) (p : Nat) : State :=
  if s.bget (lanePg p) 0x48 1 then
    match [0, 1].find? (fun l => decide (4 ≤ (s.lane p l).propRun ∧ 4 ≤ (s.lane p l).propSent)) with
    | some l => (s.formBond p (Nat.land (s.lport p).prop (s.lane p l).peerProp)).bump (lanePg p) 10 1
    | none => s
  else s

/-- Bytes that a lane sends in a tick at a step (R133). -/
def stepBytes (step : Nat) : Nat := if step = 0 then 0 else if step = 1 then 1700 else if step = 2 then 6800 else 13600

/-- The LTFs that a port's lanes begin in a tick: one in every 256 bytes (R136). -/
def State.laneTick (s : State) (p : Nat) : State :=
  if (s.lport p).live then
    ([0, 1].foldl (fun s l =>
      if s.sendsLtf p l then
        let n := (s.lane p l).txPos + stepBytes (s.portStep p)
        ((List.range (n / 256)).foldl (fun s _ => s.sendLtf p l) s).updLane p l (fun x => { x with txPos := n % 256 })
      else s) s).tryForm p
  else s

end Sys2Proof.Machine
end

