-- ==== Sys2Proof/Machine/SwitchLib.lean ====
section
/-! DEFINITION. The switch core (08_switch_core.md R196-R219): allotments and the cell pool, column reservations,
injection, the crossing round, ejection and re-dispatch. -/

namespace Sys2Proof.Machine

/-- The pool registers of a tile (R200 R222). -/
def State.poolMove (s : State) (t src dst n : Nat) : State :=
  let s := s.put (tilePg t) src (s.get (tilePg t) src - n)
  s.put (tilePg t) dst (s.get (tilePg t) dst + n)

def poFree : Nat := 0x4C
def poResv : Nat := 0x50
def poUsed : Nat := 0x54

/-- COLRES: below 65 acts as 65; CT_CELLS: 1 to 65 (R222). -/
def State.colRes (s : State) (t : Nat) : Nat := max 65 (s.fget (tilePg t) 0x44 7 0)
def State.ctCells (s : State) (t : Nat) : Nat := max 1 (min 65 (s.fget (tilePg t) 0x40 23 16))

/-- Gateway allotment of a class: below 65 acts as 65 (R222). -/
def State.gwAllot (s : State) (t c : Nat) : Nat := max 65 (s.fget (tilePg t) (0xC0 + 4 * c) 13 0)

/-- LIMIT_v that a port advertises: for an escape VC, below 65 acts as 65 (R201 R222). -/
def State.vcAllot (s : State) (t v : Nat) : Nat :=
  let n := s.fget (tilePg t) (0x80 + 4 * v) 13 0
  if 2 ≤ v % 4 then max 65 n else n

/-- n cells of an input's VC return to FREE; each counts once in F_v (R203 R176), the cells of a frame whose check is still
to come only when it passes (log 145). -/
def State.freeIn (s : State) (t input vc n : Nat) (checked : Bool) : State :=
  let s := s.poolMove t poUsed poFree n
  if input < 8 ∧ 0 < n ∧ checked = true then
    s.updLink (8 * t + input) (fun l =>
      { l with freed := Tab.upd (fun _ => 0) l.freed vc (fun x => wrapAdd 16 x n),
               heldCells := Tab.upd (fun _ => 0) l.heldCells vc (fun x => x - n),
               changed := if vc ∈ l.changed then l.changed else l.changed ++ [vc],
               unreported := true })
  else s

/-- A packet enters an input allotment whole (R203). -/
def State.admitIn (s : State) (t input vc : Nat) (pkt : Bytes) : State :=
  let n := pkCells pkt
  let (id, s) := s.fresh
  let e : InPkt := { id := id, input := input, vc := vc, pkt := pkt, left := n, absent := 0, checked := true, hop := none, age := 0,
                     noCand := 0, waited := 0, started := false }
  let s := (s.poolMove t poFree poUsed n).updTile t (fun x => { x with ins := x.ins ++ [e] })
  if input < 8 then
    (s.bump (tilePg t) 0 1).updLink (8 * t + input) (fun l =>
      { l with arrived := Tab.upd (fun _ => 0) l.arrived vc (fun x => wrapAdd 16 x n),
               heldCells := Tab.upd (fun _ => 0) l.heldCells vc (fun x => x + n) })
  else s.bump (tilePg t) 1 1

/-- Cells of a gateway class in the allotment (R200). -/
def Tile.gwHeld (x : Tile) (c : Nat) : Nat :=
  (x.ins.filter (fun e => decide (e.input = 8 ∧ e.vc = 4 * c))).foldl (fun n e => n + (e.left - e.absent)) 0

/-- The first cells of a DATA frame enter an input allotment before its check (R167 R203). -/
def State.openIn (s : State) (t input vc cells have' : Nat) (pkt : Bytes) : State × Nat :=
  let (id, s) := s.fresh
  let e : InPkt := { id := id, input := input, vc := vc, pkt := pkt, left := cells, absent := cells - have', checked := false,
                     hop := none, age := 0, noCand := 0, waited := 0, started := false }
  (((s.poolMove t poFree poUsed have').updTile t (fun x => { x with ins := x.ins ++ [e] })).bump (tilePg t) 0 1, id)

/-- Changes a packet wherever the switch core holds it. -/
def State.onPkt (s : State) (id : Nat) (f : InPkt → InPkt) (g : ColPkt → ColPkt) : State :=
  let ch (x : Tile) : Tile :=
    { x with ins := updFirst (fun e => decide (e.id = id)) f x.ins, cols := updFirst (fun k => decide (k.id = id)) g x.cols }
  { s with tiles := Tab.mapKV tileD (fun _ x => ch x) s.tiles }

/-- A packet of an input allotment of a tile. -/
def Tile.inPkt (x : Tile) (id : Nat) : Option InPkt := x.ins.find? (fun e => decide (e.id = id))

/-- Further cells of a frame that is arriving: all but `absent` of its packet's cells are there, and `pkt` is what is known
of it (R203). Cells of a packet that has been dropped are discarded. -/
def State.growIn (s : State) (t id absent : Nat) (pkt : Bytes) : State :=
  match (s.tile t).inPkt id with
  | none => s.onPkt id (fun e => e) (fun k => { k with pkt := pkt })
  | some e =>
    (s.poolMove t poFree poUsed (e.absent - absent)).onPkt id (fun e => { e with absent := absent, pkt := pkt })
      (fun k => { k with pkt := pkt })

/-- The frame of an arriving packet has passed its check (R166 R176): its n cells count in A_v, and those that have left
the allotment in F_v. -/
def State.checkIn (s : State) (t input vc n id : Nat) : State :=
  let held := match (s.tile t).inPkt id with | some e => e.left | none => 0
  (s.onPkt id (fun e => { e with checked := true }) (fun k => { k with checked := true })).updLink (8 * t + input) (fun l =>
    { l with arrived := Tab.upd (fun _ => 0) l.arrived vc (fun x => wrapAdd 16 x n),
             heldCells := Tab.upd (fun _ => 0) l.heldCells vc (fun x => x + held),
             freed := Tab.upd (fun _ => 0) l.freed vc (fun x => wrapAdd 16 x (n - held)),
             changed := if held = n ∨ vc ∈ l.changed then l.changed else l.changed ++ [vc] })

/-- Packets that wait at a gateway enter its allotment while it has room, class by class in order (R200 R207). -/
def State.drainWait (s : State) (t : Nat) : State :=
  (s.tile t).wait.foldl (fun s pkt =>
    let c := pkClass pkt
    let x := s.tile t
    let first := x.wait.find? (fun q => decide (pkClass q = c))
    if first = some pkt ∧ x.gwHeld c + pkCells pkt ≤ s.gwAllot t c then
      (s.updTile t (fun x => { x with wait := delFirst (fun q => decide (q = pkt)) x.wait })).admitIn t 8 (4 * c) pkt
    else s) s

/-- Injection of a packet through a gateway of a service die; which of its three is the hardware's choice (log 20). -/
def State.injectPkt (s : State) (die : Nat) (pkt : Bytes) : State :=
  let (n, s) := s.free
  let t := gatewayTiles.getD (3 * (die % 2) + n % 3) 8
  (s.updTile t (fun x => { x with wait := x.wait ++ [pkt] })).drainWait t

/-- The service die of XPT unit u (R16). -/
def xptDie (u : Nat) : Nat := u / 4

/-- The XPT unit that takes a packet (R19 R271). -/
def State.xptOf (s : State) (pkt : Bytes) : Nat :=
  if pkAgent pkt = 1 then 4 * (pkDest pkt % 2) + s.rIndex true (pkSrc pkt / 16) % 4 else pkDest pkt % 16 / 2

/-! Column buffers. -/

/-- Cells that a queue of a column buffer and VC has taken from its reserve (R204). -/
def Tile.resUsed (x : Tile) (b vc : Nat) : Nat :=
  (x.cols.filter (fun k => decide (k.buf = b ∧ k.vc = vc))).foldl (fun n k => n + (k.cells - k.shared)) 0

/-- Shared cells in use. -/
def Tile.sharedUsed (x : Tile) : Nat := x.cols.foldl (fun n k => n + k.shared) 0

/-- Cells queued for an output in all column buffers. -/
def Tile.outCells (x : Tile) (q : Nat) : Nat :=
  (x.cols.filter (fun k => decide (k.output = q))).foldl (fun n k => n + k.cells) 0

/-- The shared cells that a reservation of n cells takes, if it can be made (R204). -/
def State.reserve (s : State) (t b q vc n : Nat) : Option Nat :=
  let x := s.tile t
  let need := n - (s.colRes t - x.resUsed b vc)
  let total := s.fget (tilePg t) 0x58 16 0
  if need = 0 then some 0
  else if s.fget (tilePg t) 0x44 29 16 < x.outCells q + n then none
  else if vc % 4 < 2 then
    if s.fget (tilePg t) 0x40 15 0 < total - (x.sharedUsed + need) then some need else none
  else if x.sharedUsed + need ≤ total then some need else none

/-- The occupancy that a tile's ejection output reports: the sum of its OCC8_c (R199 R208). -/
def State.occEject (s : State) (t : Nat) : Nat := s.occ t 8 0 + s.occ t 8 1 + s.occ t 8 2 + s.occ t 8 3

/-! Arbitration (R209-R213). -/

/-- A request: its age and its index. -/
structure Req (α : Type) where
  age : Nat
  index : Nat
  what : α

/-- Highest AGE first, then the first index after the one granted last, cyclically among n (R211). -/
def bestReq {α : Type} (n last : Nat) (rs : List (Req α)) : Option (Req α) :=
  argMin (fun r => (15 - r.age) * (2 * n) + (r.index + 2 * n - last - 1) % n) rs

/-- The packet is the head of its input queue (R207). -/
def Tile.isHead (x : Tile) (e : InPkt) : Bool :=
  match x.ins.find? (fun f => decide (f.input = e.input ∧ f.vc = e.vc)) with
  | some f => decide (f.id = e.id)
  | none => false

def State.updIn (s : State) (t id : Nat) (f : InPkt → InPkt) : State :=
  s.updTile t (fun x => { x with ins := updFirst (fun e => decide (e.id = id)) f x.ins })

def State.updCol (s : State) (t id : Nat) (f : ColPkt → ColPkt) : State :=
  s.updTile t (fun x => { x with cols := updFirst (fun e => decide (e.id = id)) f x.cols })

/-- A packet leaves its input allotment and frees the cells that it holds there. -/
def State.dropIn (s : State) (t : Nat) (e : InPkt) : State :=
  (s.updTile t (fun x => { x with ins := delFirst (fun f => decide (f.id = e.id)) x.ins })).freeIn t e.input e.vc (e.left - e.absent)
    e.checked

/-- A packet leaves its column buffer: its USED cells return to FREE, and its unwritten reservation is released. -/
def State.dropCol (s : State) (t : Nat) (k : ColPkt) : State :=
  ((s.updTile t (fun x => { x with cols := delFirst (fun f => decide (f.id = k.id)) x.cols })).poolMove t poUsed poFree
    k.written).poolMove t poResv poFree (k.cells - k.written)

/-- Port of arrival of an input: 512 for a gateway. -/
def inPortOf (t input : Nat) : Nat := if input = 8 then 512 else 8 * t + input

/-- A route decision for a packet of an input allotment (R238 R243). A tile that reloads its replica makes none: the
packet waits without one (R262). -/
def State.decideIn (s : State) (t : Nat) (e : InPkt) : State :=
  if (s.tile t).reloading then s.updIn t e.id (fun x => { x with hop := none })
  else
  let d := s.routeDec (inPortOf t e.input) e.vc e.noCand e.pkt none
  let s := s.countDec e.vc (decide (e.input = 8)) (pkClass e.pkt) d
  match d with
  | .wait => s.updIn t e.id (fun x => { x with hop := none, noCand := x.noCand + 1, waited := 0 })
  | .drop _ _ => s.dropIn t e
  | d => s.updIn t e.id (fun x => { x with hop := d.toHop (pkClass e.pkt), noCand := 0, waited := 0 })

/-- The packet's output has begun its frame (R212). -/
def State.outBegun (s : State) (e : InPkt) : Bool :=
  match e.hop with
  | none => false
  | some h => (s.tile h.tile).cols.any (fun k => decide (k.id = e.id) && k.begun)

/-- At least four cells not yet crossed are present in the allotment, or the packet's last cell is (R210). -/
def InPkt.present (e : InPkt) : Bool := decide (e.absent = 0 ∨ 4 ≤ e.left - e.absent)

/-- The eligible crossing requests of a tile, REEF holding back those that have not begun (R210 R218). -/
def State.crossReqs (s : State) (t : Nat) : List (Req InPkt) :=
  let x := s.tile t
  ((x.ins.filter (fun e => x.isHead e && e.hop.isSome && e.present && (e.started || !s.bget (tilePg t) 8 2)))).map (fun e =>
    ⟨if e.started && s.outBegun e then 15 else e.age, 144 * (t % 8) + 16 * e.input + e.vc, e⟩)

/-- A nominator's picks: at most four, one for each lane of its row bus, and the index granted last (R210 R211). -/
def nominate : Nat → Nat → List (Req InPkt) → List (Req InPkt) × Nat
  | 0, last, _ => ([], last)
  | f + 1, last, rs =>
    match bestReq 1152 last rs with
    | none => ([], last)
    | some r =>
      let (ps, l) := nominate f r.index (rs.filter (fun q => decide (q.index ≠ r.index)))
      (r :: ps, l)

/-- Moves up to four cells of a granted packet: its cells leave the allotment and are written in the column buffer
(R203 R206 R210). -/
def State.crossChunk (s : State) (t : Nat) (e : InPkt) (h : Hop) : State :=
  let n := min 4 (e.left - e.absent)
  let last := decide (e.left ≤ n)
  let s := (s.freeIn t e.input e.vc n e.checked).poolMove h.tile poResv poUsed n
  let s := s.updCol h.tile e.id (fun k => { k with written := k.written + n })
  let s := s.bump (tilePg t) 2 1
  if last then s.updTile t (fun x => { x with ins := delFirst (fun f => decide (f.id = e.id)) x.ins })
  else s.updIn t e.id (fun x => { x with left := x.left - n, started := true })

/-- A junction's grant to one offer: the reservation for a first chunk, then the chunk. None when the space is refused
(R204 R205). -/
def State.grantCross (s : State) (t : Nat) (e : InPkt) : Option State :=
  match e.hop with
  | none => none
  | some h =>
    if e.started then some (s.crossChunk t e h)
    else
      match s.reserve h.tile (t / 8) h.output h.vc e.left with
      | none => none
      | some sh =>
        let k : ColPkt := { id := e.id, buf := t / 8, output := h.output, vc := h.vc, pkt := e.pkt, cells := e.left,
                            written := 0, shared := sh, age := 0, begun := false, again := false,
                            inPort := inPortOf t e.input, inVc := e.vc, checked := e.checked, noCand := 0 }
        let s := (s.poolMove h.tile poFree poResv e.left).updTile h.tile (fun x => { x with cols := x.cols ++ [k] })
        some (s.crossChunk t e h)

/-- One junction's round over the offers made to it, by ingress tile: up to four grants (R210). `granted` collects the
packets it granted. -/
def State.junction (j : Nat) : Nat → Nat → List (Req (Nat × InPkt)) → List Nat → State → State × List Nat
  | 0, _, _, g, s => (s, g)
  | _, 0, _, g, s => (s, g)
  | f + 1, lanes + 1, rs, g, s =>
    match bestReq 1152 (s.tile j).lastJun rs with
    | none => (s, g)
    | some r =>
      let rest := rs.filter (fun q => decide (q.index ≠ r.index))
      match s.grantCross r.what.1 r.what.2 with
      | none => State.junction j f (lanes + 1) rest g (s.bump (tilePg j) 4 1)
      | some s =>
        let s := (s.updTile j (fun x => { x with lastJun := r.index })).bump (tilePg j) 9 (b2n (decide (r.age = 15)))
        State.junction j f lanes rest (r.what.2.id :: g) s

/-- Requests that were eligible and not granted grow older (R211). -/
def State.ageIns (s : State) (t : Nat) (reqs : List (Req InPkt)) (granted : List Nat) : State :=
  reqs.foldl (fun s r =>
    if r.what.id ∈ granted then s
    else s.updIn t r.what.id (fun x => { x with age := min 15 (x.age + 1) })) s

/-- Decisions made again in a round: of the packets that have none after their first, and of those whose first chunk has
not been granted for REDECIDE rounds (R243). -/
def State.redecide (s : State) (t : Nat) : State :=
  (s.tile t).ins.foldl (fun s e =>
    if e.started || (s.tile t).reloading then s
    else if (e.hop = none ∧ 0 < e.noCand) ∨ (e.hop.isSome ∧ max 1 (s.cfgf routePg 0x4C 15 8) ≤ e.waited) then
      (s.decideIn t e).bump routePg 6 1
    else s) s

/-- A round ends for the packets of a tile that are decided and not begun (R243). -/
def Tile.waitRound (x : Tile) : Tile :=
  { x with ins := x.ins.map (fun e => if e.hop.isSome && !e.started then { e with waited := e.waited + 1 } else e) }

/-! Ejection. -/

def xptInit : Xpt :=
  { ctxs := [], closed := [], resets := [], ended := [], eager := [], eagerLast := [], issued := [], rr := [], ran := false,
    waiting := [], lastPair := 0, presented := [], arrived := [], overLany := [] }
def xptD : Nat → Xpt := fun _ => xptInit
def State.xpt (s : State) (u : Nat) : Xpt := Tab.get xptD s.xpts u
def State.updXpt (s : State) (u : Nat) (f : Xpt → Xpt) : State := { s with xpts := Tab.upd xptD s.xpts u f }

/-- Heads of the column queues of an output: the first packet of each column buffer and VC (R207). -/
def Tile.colHeads (x : Tile) (q : Nat) : List ColPkt :=
  x.cols.filter (fun k => decide (k.output = q) &&
    (match x.cols.find? (fun f => decide (f.output = q ∧ f.buf = k.buf ∧ f.vc = k.vc)) with
     | some f => decide (f.id = k.id)
     | none => false))

/-- An output arbiter's choice among eligible heads (R211). -/
def State.pickOut (s : State) (t q : Nat) (ks : List ColPkt) : Option ColPkt :=
  (bestReq 128 (Tab.get (fun _ => 127) (s.tile t).lastOut q) (ks.map (fun k => ⟨k.age, 16 * k.buf + k.vc, k⟩))).map Req.what

/-- After a decision of an output arbiter: the grant is remembered and the others that were eligible grow older
(R211 R213). -/
def State.afterOut (s : State) (t q : Nat) (ks : List ColPkt) (k : ColPkt) : State :=
  let s := s.updTile t (fun x => { x with lastOut := Tab.set (fun _ => 127) x.lastOut q (16 * k.buf + k.vc) })
  let s := s.bump (tilePg t) 9 (b2n (decide (k.age = 15)))
  ks.foldl (fun s e => if e.id = k.id then s else s.updCol t e.id (fun x => { x with age := min 15 (x.age + 1) })) s

/-- One decision of a gateway's ejection output: a whole packet whose input frame has passed its check goes to its XPT unit
(R213 R271). -/
def State.ejectOne (s : State) (t : Nat) : State :=
  let ks := ((s.tile t).colHeads 8).filter (fun k => decide (k.written = k.cells) && k.checked)
  match s.pickOut t 8 ks with
  | none => s
  | some k =>
    let u := s.xptOf k.pkt
    let s := (((s.afterOut t 8 ks k).dropCol t k).bump (tilePg t) 5 1).bump (tilePg t) 11 1
    s.updXpt u (fun x =>
      { x with arrived := x.arrived ++ [k.pkt],
               overLany := if k.inPort ∈ s.lanyPorts then x.overLany ++ [k.pkt] else x.overLany })

/-! Re-dispatch (R187, R189 step 2, R249). -/

/-- The trunk and class members that hold a port. -/
def State.trunkOf (s : State) (p : Nat) : Option (Nat × Nat) :=
  ((List.range (s.rtD true)).flatMap (fun d => (List.range 32).map (fun x => (d, x)))).find? (fun e =>
    (s.members true e.1 e.2).any (fun m => decide (m.2 = p)))

/-- A packet of a column buffer whose port no longer serves it is queued for another output, when its reservation
there can be made (R187; log 21). -/
def State.moveCol (s : State) (t : Nat) (k : ColPkt) (h : Hop) : State :=
  let s' := s.dropCol t k
  match s'.reserve h.tile k.buf h.output h.vc k.cells with
  | none => s
  | some sh =>
    let k := { k with output := h.output, vc := h.vc, shared := sh, begun := false, again := false, noCand := 0 }
    (s'.poolMove h.tile poFree poUsed k.cells).updTile h.tile (fun x => { x with cols := x.cols ++ [k] })

/-- A new decision for a packet queued for port p: an escape packet is decided again under R248 with the port no longer
usable (R249), any other takes a route decision (R238); none while the tile reloads its replica (R262). -/
def State.decideCol (s : State) (p : Nat) (k : ColPkt) : State :=
  let t := p / 8
  if (s.tile t).reloading then s
  else
  let cls := pkClass k.pkt
  let sub := if k.inPort = 512 then none else some (k.inVc % 4)
  let d := if 2 ≤ k.vc % 4 then s.escapeHop sub (s.portDim k.inPort) cls (pkDest k.pkt / 16) (some p)
    else s.routeDec k.inPort k.inVc k.noCand k.pkt none
  let s := s.countDec k.inVc (decide (k.inPort = 512)) cls d
  match d with
  | .wait => s.updCol t k.id (fun x => { x with noCand := x.noCand + 1 })
  | .drop _ _ => s.dropCol t k
  | d => match d.toHop cls with
    | some h => s.moveCol t k h
    | none => s

/-- A whole packet queued for port p whose link is not UP: an adaptive packet goes to another member of the trunk, and
where there is none, or for an escape packet after the session's end, it takes a new decision. -/
def State.redispatchOne (s : State) (p : Nat) (k : ColPkt) : State :=
  let member := match s.trunkOf p with
    | some (d, x) => s.pickMember (32 * d + x) (pkClass k.pkt) ((s.eligible d x k.vc k.cells).filter (fun m => decide (m.2.1 ≠ p)))
    | none => none
  match member with
  | some m => if k.vc % 4 < 2 then s.moveCol (p / 8) k ⟨m.2.1 / 8, m.2.1 % 8, k.vc⟩ else s.decideCol p k
  | none => s.decideCol p k

/-- Re-dispatch of what is queued for a port whose link is not UP (R187 R189 R249). -/
def State.redispatch (s : State) (p : Nat) : State :=
  if p = 512 ∨ s.linkState p = lkUp then s
  else
    ((s.tile (p / 8)).cols.filter (fun k => decide (k.output = p % 8 ∧ k.written = k.cells) && !k.begun)).foldl
      (fun s k => if (s.link p).session = true ∧ 2 ≤ k.vc % 4 then s else s.redispatchOne p k) s

/-- Packets of input allotments decided for a port and not begun take a new decision (R187 R243). -/
def State.undecide (s : State) (p : Nat) : State :=
  s.tiles.foldl (fun s e =>
    (s.tile e.1).ins.foldl (fun s i =>
      match i.hop with
      | some h =>
        if !i.started && decide (8 * h.tile + h.output = p ∧ h.output < 8) && (decide (h.vc % 4 < 2) || !(s.link p).session)
        then s.decideIn e.1 i else s
      | none => s) s) s

/-- A crossing round (R209-R212, R243, R199). -/
def State.crossRound (s : State) : State :=
  let ts := s.tiles.map Prod.fst
  let s := ts.foldl State.redecide s
  let offers := ts.map (fun t => (t, nominate 4 (s.tile t).lastNom (s.crossReqs t)))
  let reqs := ts.map (fun t => (t, s.crossReqs t))
  let s := offers.foldl (fun s o => if o.2.1 = [] then s else s.updTile o.1 (fun x => { x with lastNom := o.2.2 })) s
  let (s, granted) := (List.range 64).foldl (fun (a : State × List Nat) j =>
    let rs := offers.flatMap (fun o =>
      if o.1 / 8 = j / 8 then
        (o.2.1.filter (fun r => match r.what.hop with | some h => decide (h.tile % 8 = j % 8) | none => false)).map
          (fun r => (⟨r.age, r.index, (o.1, r.what)⟩ : Req (Nat × InPkt)))
      else [])
    if rs.isEmpty then a else State.junction j rs.length 4 rs a.2 a.1) (s, [])
  let s := reqs.foldl (fun s r => s.ageIns r.1 r.2 granted) s
  let s := ts.foldl (fun s t => s.updTile t Tile.waitRound) s
  let s := offers.foldl (fun s o =>
    s.bump (tilePg o.1) 3 ((o.2.1.filter (fun r => decide (r.what.id ∉ granted))).length)) s
  let s := (ts.flatMap (fun t => (List.range 8).map (fun q => 8 * t + q))).foldl State.redispatch s
  let s := gatewayTiles.foldl (fun s t => s.ejectOne t) s
  gatewayTiles.foldl (fun s t => (s.drainWait t).updTile t (fun x => { x with ejectOcc := s.occEject t })) s

end Sys2Proof.Machine
end

