-- ==== Sys2Proof/Machine/LinkLib.lean ====
section
/-! DEFINITION. The link layer (07_link_layer.md R163-R190): frames, acknowledgement and replay, credits, the identity
exchange, and what happens when a link drops. -/

namespace Sys2Proof.Machine

/-- Frame types of R163. -/
def frData : Nat := 0
def frAck : Nat := 1
def frTick : Nat := 2
def frTelltale : Nat := 3
def frIdent : Nat := 4
def frLany : Nat := 5

/-- Header fields of a frame (R165). -/
def frType (f : Bytes) : Nat := fld (beAt f 0 1) 7 4
def frVc (f : Bytes) : Nat := fld (beAt f 0 1) 3 0
def frCells (f : Bytes) : Nat := beAt f 1 1
def frSeq (f : Bytes) : Nat := fld (beAt f 2 2) 11 0
def frNak (f : Bytes) : Bool := bit (beAt f 4 2) 15
def frAckSeq (f : Bytes) : Nat := fld (beAt f 4 2) 11 0
def frEpoch (f : Bytes) : Nat := beAt f 7 1
def frBody (f : Bytes) : Bytes := slice f 16 (64 * frCells f)

/-- How a frame checks (R166). -/
inductive FrCheck where
  | header
  | check
  | stomped
  | good
deriving DecidableEq, Repr

/-- Classification of a frame (R163 R166). -/
def frCheck (f : Bytes) : FrCheck :=
  if crc16 (slice f 0 14) ≠ beAt f 14 2 ∨ 6 ≤ frType f ∨ 65 < frCells f then .header
  else if frCells f = 0 then .good
  else
    let c := crc32 (slice f 0 (16 + 64 * frCells f))
    let g := beAt f (16 + 64 * frCells f) 4
    if g = c then .good else if g = 2 ^ 32 - 1 - c then .stomped else .check

/-- The cycle now, in core cycles of full ticks. -/
def State.nowCycle (s : State) : Nat := 1024 * s.nowTick + s.nowCc

/-- REPLAY_TO_LOG2 as a number of cycles (R193). -/
def State.replayTo (s : State) (p : Nat) : Nat := 2 ^ max 10 (min 16 (s.fget (portPg p) 0x40 15 12))

/-- The port is a Lanyard port (R563 R192). -/
def State.isLany (s : State) (p : Nat) : Bool := s.bget (lanyPg 0) 0x40 31 && decide (p ∈ s.lanyPorts)

/-- The credit vector of a port: F_v of each VC (R178 R179). -/
def Link.vector (l : Link) : Bytes := (List.range 16).flatMap (fun v => beBytes 2 (Tab.get (fun _ => 0) l.freed v))

/-- The two VCs a header reports: those changed first, in ascending order, then the rotation (R178). -/
def Link.report (l : Link) : Nat × Nat × Nat :=
  match (List.range 16).filter (fun v => decide (v ∈ l.changed)) with
  | a :: b :: _ => (a, b, l.rot)
  | [a] => (a, l.rot % 16, (l.rot + 1) % 16)
  | [] => (l.rot % 16, (l.rot + 1) % 16, (l.rot + 2) % 16)

/-- The 16-byte header of a frame that leaves now, and the link after it (R165 R169 R170 R178). -/
def State.frameHdr (s : State) (p typ vc cells seq : Nat) : Bytes × State :=
  let l := s.link p
  let (a, b, rot) := l.report
  let ack := wrapSub 12 l.rxNext 1
  let h := beBytes 1 (typ * 16 + vc) ++ beBytes 1 cells ++ beBytes 2 seq ++
    beBytes 2 (b2n l.nakDue * 2 ^ 15 + ack) ++ beBytes 1 (a * 16 + b) ++
    beBytes 1 (s.fget (portPg p) 0x4C 31 24) ++ beBytes 2 (Tab.get (fun _ => 0) l.freed a) ++
    beBytes 2 (Tab.get (fun _ => 0) l.freed b) ++ zeros 2
  let all := typ = frAck ∨ typ = frTick ∨ typ = frIdent
  let changed := if all then [] else l.changed.filter (fun v => decide (v ≠ a ∧ v ≠ b))
  let s := s.bump (portPg p) 6 (b2n l.nakDue)
  let s := s.updLink p (fun l =>
    { l with rot := rot, changed := changed, unreported := !changed.isEmpty, nakDue := false,
             nakAt := if l.nakDue then some s.nowCycle else l.nakAt })
  (h ++ beBytes 2 (crc16 h), s)

/-- A frame leaves (R166 R169). -/
def State.sendFrame (s : State) (p typ vc seq : Nat) (cells : Bytes) (stomp : Bool) : State :=
  let (h, s) := s.frameHdr p typ vc (cells.length / 64) seq
  let c := crc32 (h ++ cells)
  let c := if stomp then 2 ^ 32 - 1 - c else c
  (s.bump (portPg p) 5 (b2n stomp)).emit (.frame p (h ++ cells ++ (if cells.length = 0 then [] else beBytes 4 c)))

/-- The cells of a packet: its headers and its payload, filled to whole cells (R264). -/
def pkCellBytes (pkt : Bytes) : Bytes := padTo pkt (64 * pkCells pkt)

/-- REPLAY_CNT and REPLAY_FULL as the buffer now stands (R171 R175). -/
def State.showReplay (s : State) (p : Nat) (full : Bool) : State :=
  let n := match (s.link p).replay with | [] => 0 | f :: _ => f.count
  (s.fput (portPg p) 0x4C 21 16 n).bput (portPg p) 0x4C 6 full

/-- A sequenced frame enters the replay buffer and leaves (R168 R174). -/
def State.sendSeq (s : State) (p typ vc : Nat) (cells : Bytes) (stomp : Bool) : State :=
  let q := (s.link p).txNext
  let s := s.updLink p (fun l =>
    { l with txNext := wrapAdd 12 q 1, replay := l.replay ++ [⟨q, typ, vc, cells, stomp, 0⟩] })
  s.sendFrame p typ vc q cells stomp

/-! Identity exchange (R180-R182). -/

/-- The two cells of this end's IDENT (R180). -/
def State.identCells (s : State) (p : Nat) : Bytes :=
  let l := s.link p
  let lany := s.isLany p
  let port := if lany then 0x200 + s.lanyPorts.idxOf p else p
  let flags := b2n l.checkOk * 8 + b2n l.identRx * 4 + b2n lany * 2 + b2n l.session
  let epoch := if l.session then s.fget (portPg p) 0x4C 31 24 else l.proposal
  beBytes 8 s.serial ++ beBytes 4 (s.rtSelf true) ++ beBytes 2 port ++ beBytes 1 flags ++ beBytes 1 epoch ++
    beBytes 2 l.rxNext ++ zeros 14 ++ l.vector ++
    (List.range 16).flatMap (fun v => beBytes 2 (Tab.get (fun _ => 0) l.advLimit v)) ++ zeros 32

def idSerial (b : Bytes) : Nat := beAt b 0 8
def idAddr (b : Bytes) : Nat := fld (beAt b 8 4) 19 0
def idPort (b : Bytes) : Nat := fld (beAt b 0xC 2) 9 0
def idOk (b : Bytes) : Bool := bit (beAt b 0xE 1) 3
def idAck (b : Bytes) : Bool := bit (beAt b 0xE 1) 2
def idRole (b : Bytes) : Bool := bit (beAt b 0xE 1) 1
def idResume (b : Bytes) : Bool := bit (beAt b 0xE 1) 0
def idEpoch (b : Bytes) : Nat := beAt b 0xF 1
def idRxNext (b : Bytes) : Nat := fld (beAt b 0x10 2) 11 0

/-- A credit vector read from 32 bytes (R178). -/
def readVec (b : Bytes) : Tab Nat :=
  (List.range 16).foldl (fun t v => Tab.set (fun _ => 0) t v (beAt b (2 * v) 2)) []

/-- This end's check of a received IDENT (R181 R563). -/
def State.identCheck (s : State) (p : Nat) (b : Bytes) : Bool :=
  let lany := s.isLany p
  let e := s.get (portPg p) 0x50
  decide (idRole b = lany) &&
    (if lany then decide (idSerial b = s.get64 (lanyPg 0) 0x48 ∧ idAddr b = s.rtSelf true)
     else decide (idPort b % 4 = p % 4)) &&
    (!bit e 31 || decide (idAddr b = fld e 19 0 ∧ idPort b = fld e 29 20))

/-- An exchange begins (R181): the allotments it will advertise are those of now (R202). -/
def State.startExchange (s : State) (p : Nat) : State :=
  let (n, s) := s.free
  let own := (List.range 16).foldl (fun t v => Tab.set (fun _ => 0) t v (s.vcAllot (p / 8) v)) []
  let s := s.updLink p (fun l =>
    { l with exch := true, checkOk := false, identRx := false, peerDone := false, peerIdent := [], identDue := true,
             advLimit := own, proposal := n % 256 })
  if (s.link p).session then s else (s.fput (portPg p) 0x4C 3 0 lkIdent).event 1 (.port p)

/-- The session of a port ends (R189, R182, R237; in SELFTEST the test aborts, R603): its replay buffer empties, and what its input still holds returns no
credit into a later session. -/
def State.endSession (s : State) (p : Nat) : State :=
  let s := s.updLink p (fun l =>
    { l with session := false, replay := [], replaying := none, sent := [], peerFreed := [], limit := [], arrived := [],
             freed := (List.range 16).foldl (fun t v =>
               Tab.set (fun _ => 0) t v (wrapSub 16 0 (Tab.get (fun _ => 0) l.heldCells v))) [],
             txNext := 0, rxNext := 0, nakDue := false, nakAt := none, changed := [], unreported := false, begun := none })
  let s := (s.showReplay p false).fput (portPg p) 0x48 25 16 0
  let s := (s.raise (portPg p) 25).bump (portPg p) 14 1
  let s := s.setAdmit p false
  let s := s.fput (portPg p) 0x4C 3 0 (if s.bget (lanePg p) 0x48 0 then lkIdent else lkDown)
  let s := s.updTile (p / 8) (fun x =>
    { x with cols := x.cols.map (fun k => if k.output = p % 8 ∧ k.begun then { k with begun := false } else k) })
  let s := if s.svcState (portPg p) = svcActive then
      { (s.setSvc (portPg p) svcDock) with svc := { s.svc with dockPass := Tab.set (fun _ => false) s.svc.dockPass (pageCode (portPg p)) false } }
    else if s.svcState (portPg p) = svcSelftest then
      ((((s.endFull p).setVerdict (portPg p) 5 3 0).bput (portPg p) 0x2C 31 false).nextTest (portPg p)).setSvc (portPg p) svcDock
    else s
  let s := (s.undecide p).redispatch p
  s.event 1 (.port p)

/-- After an end of a session while the lanes are up, the next exchange starts. -/
def State.reExchange (s : State) (p : Nat) : State :=
  if s.bget (lanePg p) 0x48 0 then s.startExchange p else s.updLink p (fun l => { l with exch := false })

/-- A frame in progress on an output is ended stomped; its packet waits until it is whole (R187 R214). -/
def State.stompBegun (s : State) (p : Nat) : State :=
  match (s.link p).begun with
  | none => s
  | some id =>
    let s := s.updLink p (fun l => { l with begun := none })
    let s := match (s.link p).replay.getLast? with
      | some f => (s.updLink p (fun l => { l with replay := l.replay.dropLast ++ [{ f with stomp := true }] })).sendFrame
          p f.typ f.vc f.seq f.cells true
      | none => s
    s.updCol (p / 8) id (fun k => { k with begun := false, again := true })

/-- A packet whose input frame has failed, or with a cell beyond correction, is discarded (R215 R216): its cells are freed
wherever they are, its unwritten reservation is released, and an output that has begun its frame ends it stomped. -/
def State.discardPacket (s : State) (id : Nat) : State :=
  s.tiles.foldl (fun s e =>
    let t := e.1
    let s := match (s.tile t).inPkt id with
      | some i => (s.dropIn t i).bump (tilePg t) 8 (b2n (decide (i.started = false)))
      | none => s
    match (s.tile t).cols.find? (fun k => decide (k.id = id)) with
    | some k =>
      let s := if k.begun then (s.stompBegun (8 * t + k.output)).bump (tilePg t) 7 1 else s
      (s.dropCol t k).bump (tilePg t) 8 1
    | none => s) s

/-- The frame that is arriving will not be whole: its packet is discarded (R187 R215). -/
def State.dropArrival (s : State) (p : Nat) : State :=
  let s' := s.updLink p (fun l => { l with rxBuf := [], rxPkt := none })
  match (s.link p).rxPkt with
  | some id => s'.discardPacket id
  | none => s'

/-- A link drops with its session held (R187): HOLD with LEFT = TICKS, or DOWN without a session. -/
def State.linkDrop (s : State) (p : Nat) : State :=
  let s := ((s.dropArrival p).stompBegun p).updLink p (fun l =>
    { l with replaying := none, exch := false, identDue := false, ackDue := false, markerDue := none, telltaleDue := none })
  if (s.link p).session then
    let left := if s.linkState p = lkUp then s.fget (portPg p) 0x48 9 0 else s.fget (portPg p) 0x48 25 16
    let s := (s.fput (portPg p) 0x4C 3 0 lkHold).fput (portPg p) 0x48 25 16 left
    if left = 0 then s.endSession p else ((s.undecide p).redispatch p).event 1 (.port p)
  else (s.fput (portPg p) 0x4C 3 0 lkDown).event 1 (.port p)

/-- A link goes down, other than for a retrain (R185): RETRAIN is written to its lanes. -/
def State.linkDown (s : State) (p : Nat) : State :=
  if s.linkState p = lkDown then s.bringUp p true
  else
    let s := (s.raise (portPg p) 24).bump (portPg p) 12 1
    -- the lanes are down before the session's fate is settled
    (s.bringUp p true).linkDrop p

/-- The fast retrain of an UP link, counted and reported (R184 R194). -/
def State.retrainNow (s : State) (p : Nat) : State :=
  let s := ((s.raise (portPg p) 27).bump (portPg p) 11 1).bput (portPg p) 0x4C 4 true
  let s := s.updLink p (fun l => { l with lastRetrain := some s.nowTick })
  (s.rebond p (s.readyLanes p)).linkDrop p

/-- A mode 1 retrain (R184): the link goes down with its session held, and the lanes re-bond with the bond
unchanged, but for a lane that a test has just taken. -/
def State.linkRetrain (s : State) (p : Nat) : State :=
  let w := 2 ^ max 4 (s.fget (portPg p) 0x44 19 16)
  let recent := match (s.link p).lastRetrain with
    | some t => decide (s.nowTick ≤ t + w)
    | none => false
  if recent then s.linkDown p else s.retrainNow p

/-- What the lane layer's change means to the link layer: a lost bond takes the link down (R183), and a re-bond is a
fast retrain (R156). -/
def State.syncLink (s0 s : State) (p : Nat) : State :=
  if s0.bget (lanePg p) 0x48 0 && !s.bget (lanePg p) 0x48 0 then s.linkDown p
  else if !s0.bget (lanePg p) 0x48 1 && s.bget (lanePg p) 0x48 1 then s.linkDrop p
  else s

/-! Lane tests (R144 R145 R547). -/

/-- The verdict of a lane test, in the lane page's BLK_STEST and in the log (R144 R550); of one that is part of a full test,
in BLK_STEST alone (R605). -/
def State.laneVerdict (s : State) (p l verdict act : Nat) : State :=
  let b := match (s.lport p).test with | some (_, b) => b | none => 0
  let s := (s.bput (lanePg p) 0xC 3 false).updLport p (fun x => { x with test := none })
  let fails := b2n (decide (verdict = 2))
  if b = 0 then s.setVerdict (lanePg p) 2 verdict fails
  else (s.putVerdict (lanePg p) 2 verdict fails).logErr (portPg p) l 0 b 2 verdict act

/-- The bit-error test of a lane is asked for; it starts when its lane is READY and no other runs (R145 R547). -/
def State.askLaneTest (s : State) (p l b : Nat) : State :=
  let lp := s.lport p
  if lp.want.any (fun e => decide (e.1 = l)) || decide (lp.test.map Prod.fst = some l) || decide (s.laneState p l = lnFailed) then s
  else (s.updLport p (fun x => { x with want := x.want ++ [(l, b)] })).nextLaneTest p

/-- A burst starts its lane's bit-error test (R143 R144); on the other lane of one under test it aborts that test and
restarts bring-up at step 1 (R145). -/
def State.burstTest (s : State) (p l : Nat) : State :=
  if s.laneState p (1 - l) = lnTest then
    s.syncLink ((((s.laneVerdict p (1 - l) 3 acNone).toSignal p (1 - l)).toSignal p l).setBond p 0) p
  else s.syncLink (s.startLaneTest p l (21 + l)) p

/-- The lane bit-error tests that a link error asks for: one for each lane of the port (R547; log 22). -/
def State.testLanes (s : State) (p b : Nat) : State :=
  s.syncLink ((s.askLaneTest p 0 b).askLaneTest p 1 b) p

/-- The full self-test of a port comes to its lanes (R605): with the link UP each runs the bit-error test in turn, else each
runs in loopback. A FAILED lane is not tested. -/
def State.fullLanes (s : State) (p : Nat) : State :=
  let ls := [0, 1].filter (fun l => decide (s.laneState p l ≠ lnFailed))
  if s.linkState p = lkUp then
    s.syncLink ((s.updLport p (fun x => { x with want := ls.map (fun l => (l, 0)), fullFails := 0 })).nextLaneTest p) p
  else (s.bump (lanePg p) 12 ls.length).updLport p (fun x => { x with fullFails := 0 })

/-- A full self-test of an instance starts (R84 R601 R605). -/
def State.runFull (s : State) (p : PageRef) : State :=
  let s := s.runTest p ⟨pageCode p, 0, 0, 0, 5, false⟩
  match p.cls with
  | .port => s.fullLanes p.inst
  | _ => s

/-! The twin, as far as the link layer meets it (R565-R567). -/

/-- SYNCING ends when the 16 shares have been journalled and the twin has answered SYNC_DONE (R565). -/
def State.trySync (s : State) : State :=
  if s.lanyState = laSyncing ∧ s.lany.syncDone = true ∧ s.lany.synced.length = 16 then
    (s.fput (lanyPg 0) 0x44 2 0 laPaired).event 1 (.pair laPaired)
  else s

/-- Entry to SYNCING (R565): the mirror of the twin is discarded, and every share is to be journalled whole. -/
def State.startSync (s : State) : State :=
  let s := { s with lany := { s.lany with synced := [], syncDone := false, got := [], awaiting := [], journalled := [], mirror := [],
                                          staged := [], lostSince := s.nowTick,
                                          committed := (List.range 16).foldl (fun t c => Tab.set (fun _ => 0) t c s.nowTick) [] } }
  (s.fput (lanyPg 0) 0x44 2 0 laSyncing).event 1 (.pair laSyncing)

/-- The link layer has acknowledged the COMMIT of a run (R566 R567): its ceilings take effect, and the share is
covered. -/
def State.commitRun (s : State) (c tick : Nat) : State :=
  let q := Tab.get (fun _ => []) s.lany.awaiting c
  match q.find? (fun r => decide (r.tick = tick)) with
  | none => s
  | some r =>
    let l := s.lany
    let l := { l with awaiting := Tab.set (fun _ => []) l.awaiting c (q.filter (fun x => decide (tick < x.tick))),
                      journalled := Tab.set (fun _ => []) l.journalled c r.recs,
                      committed := Tab.set (fun _ => 0) l.committed c tick,
                      synced := if c ∈ l.synced then l.synced else l.synced ++ [c] }
    let ceil (x : Ctx) : Ctx :=
      match r.ceils.find? (fun e => decide (e.1 = x.loc ∧ e.2.1 = x.rem)), x.tx with
      | some e, some h => { x with tx := some { h with ceil := some e.2.2 } }
      | _, _ => x
    let s := { s with lany := l, xpts := Tab.mapKV xptD (fun _ x => { x with ctxs := x.ctxs.map ceil }) s.xpts }
    let s := (s.put (lanyPg 1) (0x40 + 4 * c) (s.fget (lanyPg 1) (0x40 + 4 * c) 15 0)).bump (lanyPg 0) 0 1
    let any := (List.range 16).any (fun i => s.bget (lanyPg 1) (0x40 + 4 * i) 31)
    (s.bput (lanyPg 0) 0x44 3 any).trySync

/-- What the acknowledgement of a frame means to the pair: a JOURNAL frame that ends with COMMIT commits its run
(R564 R569). -/
def State.ackFrame (s : State) (f : RFrame) : State :=
  if f.typ = frLany ∧ beAt f.cells 0 1 = 1 then
    let n := beAt f.cells 2 2
    let r := slice f.cells n 16
    let s := { s with lany := { s.lany with lostSince := s.nowTick } }
    if 16 ≤ n ∧ beAt r 0 1 = 5 then s.commitRun (beAt r 1 1) (beAt r 8 8) else s
  else s

/-- Completion of an exchange with the peer's IDENT (R182 R188 R190). -/
def State.completeExchange (s : State) (p : Nat) : State :=
  let l := s.link p
  let b := l.peerIdent
  let id := s.get (portPg p) 0x54
  let resume := l.session && idResume b && decide (idEpoch b = s.fget (portPg p) 0x4C 31 24) &&
    decide (idSerial b = s.get64 (portPg p) 0x58 ∧ idAddr b = fld id 19 0 ∧ idPort b = fld id 29 20 ∧
      0 < s.fget (portPg p) 0x48 25 16)
  -- from TWIN_LOST the return of a link with the twin starts over (R565)
  let s := if s.isLany p && decide (s.lanyState = laLost) then s.startSync else s
  let vec := readVec (slice b 0x20 32)
  if resume then
    let q := idRxNext b
    let n := wrapSub 12 q (match l.replay with | f :: _ => f.seq | [] => q)
    let gone := if n ≤ l.replay.length then l.replay.take n else []
    let rest := l.replay.drop gone.length
    let s := gone.foldl State.ackFrame s
    let s := s.updLink p (fun l =>
      { l with peerFreed := vec, replay := rest, exch := false, peerDone := false, nakDue := false, nakAt := none,
               replaying := match rest with | [] => none | f :: _ => some (f.seq, wrapSub 12 f.seq 1) })
    let s := ((s.fput (portPg p) 0x4C 3 0 lkUp).bput (portPg p) 0x4C 7 true).fput (portPg p) 0x48 25 16 0
    ((s.showReplay p false).bump (portPg p) 13 1).event 1 (.port p)
  else if l.session then
    -- the end that held a session sends its proposal before it can begin another (R180 R182 R190)
    ((s.endSession p).reExchange p).updLink p (fun l => { l with identRx := l.exch, checkOk := l.exch, peerIdent := b })
  else
    let l' := s.link p
    if idResume b && decide (idSerial b < s.serial) then s.updLink p (fun l => { l with peerDone := false, identDue := true })
    else
      let epoch := if idSerial b < s.serial then idEpoch b else l'.proposal
      let s := s.updLink p (fun l =>
        { l with session := true, exch := false, txNext := 0, rxNext := 0, sent := [], peerFreed := vec, replay := [],
                 replaying := none, nakDue := false, nakAt := none, limit := readVec (slice b 0x40 32),
                 ownLimit := l.advLimit })
      let s := (s.fput (portPg p) 0x4C 31 24 epoch).fput (portPg p) 0x4C 3 0 lkUp
      let s := (s.put (portPg p) 0x54 (2 ^ 31 + idPort b * 2 ^ 20 + idAddr b)).put64 (portPg p) 0x58 (idSerial b)
      (s.showReplay p false).event 1 (.port p)

/-! Receiving. -/

/-- A check failure: counted, and toward the window of R183. -/
def State.linkError (s : State) (p : Nat) (header : Bool) : State :=
  (s.bump (portPg p) (if header then 2 else 3) 1).updLink p (fun l => { l with errors := l.errors + 1 })

/-- A sequence gap: a NAK is due unless one has gone out within the replay time (R170). -/
def State.gap (s : State) (p : Nat) : State :=
  let due := match (s.link p).nakAt with
    | none => true
    | some (c : Nat) => decide (c + s.replayTo p ≤ s.nowCycle)
  if due && (s.link p).session then s.updLink p (fun l => { l with nakDue := true, unreported := true }) else s

/-- FAIL_MODE, AUTO resolved (R183 R184). -/
def State.failMode (s : State) (p : Nat) : Nat :=
  let m := s.fget (portPg p) 0x40 9 8
  if m = 3 then (if s.bankValid ∧ s.routers true ≤ 1024 then 0 else 1) else m

/-- A replay falls due for the oldest unacknowledged frame (R171 R183 R184). -/
def State.startReplay (s : State) (p : Nat) : State :=
  match (s.link p).replay with
  | [] => s
  | f :: rest =>
    if 63 ≤ f.count then ((s.raise (portPg p) 29).testLanes p 29).linkDown p
    else if s.failMode p ≠ 0 ∧ max 2 (s.fget (portPg p) 0x44 5 0) ≤ f.count then
      ((s.raise (portPg p) 29).testLanes p 29).linkRetrain p
    else
      let s := s.updLink p (fun l =>
        { l with replay := { f with count := f.count + 1 } :: rest, replaying := some (f.seq, wrapSub 12 f.seq 1) })
      s.showReplay p (s.bget (portPg p) 0x4C 6)

/-! What the transmitter may send (R175, R213). -/

/-- The lanes' rate of a port, in units of 25 Gb/s; a gateway injects faster than any port (R133 R213). -/
def State.portRate (s : State) (p : Nat) : Nat :=
  if p = 512 then 32
  else
    let b := s.bond p
    (b % 2 + b / 2) * (match s.portStep p with | 1 => 1 | 2 => 4 | _ => 8)

/-- A port shaper's effective BURST and RATE as they held at cc 0 (R533 R534). -/
def State.portBurst (s : State) (p : Nat) : Nat :=
  max (s.cfgf (portPg p) 0x104 23 0) (max (s.cfgf (portPg p) 0x100 19 0) 4160)
def State.portShapeOn (s : State) (p cls : Nat) : Bool :=
  bit (s.cfg (portPg p) 0x100) 31 && decide (cls < 3) && bit (s.cfgf (portPg p) 0x100 26 24) cls

/-- A port shaper's LEVEL, signed, and its change by a charge (R528-R530). -/
def State.portLevel (s : State) (p : Nat) : Int := signed 32 (s.get (portPg p) 0x108)
def State.chargePort (s : State) (p cls n : Nat) : State :=
  if s.portShapeOn p cls then s.put (portPg p) 0x108 (unsigned 32 (s.portLevel p - (64 * n : Nat))) else s

/-- A head may be sent by its port as far as link credit and its cells go (R213). -/
def State.outReady (s : State) (p : Nat) (k : ColPkt) : Bool :=
  let t := p / 8
  s.credit p k.vc k.cells &&
    (decide (k.written = k.cells) ||
      (!k.again && decide (s.ctCells t ≤ k.written ∧ s.portRate k.inPort ≤ s.portRate p)))

/-- The heads that the output arbiter of a port chooses among, and those of them that its shaper lets go (R213 R538). -/
def State.outHeads (s : State) (p : Nat) : List ColPkt × List ColPkt :=
  let fits := ((s.tile (p / 8)).colHeads (p % 8)).filter (fun k => s.outReady p k)
  (fits, fits.filter (fun k => !s.portShapeOn p (k.vc / 4) || decide (0 ≤ s.portLevel p)))

/-- The next sequenced frame of a port does not fit into the free slots of its replay buffer (R175): a waiting LANY frame,
or the packet that the output arbiter would grant. -/
def State.replayFull (s : State) (p : Nat) : Bool :=
  match (s.link p).lanyOut with
  | m :: _ => !(s.link p).room (m.length / 64)
  | [] =>
    match s.pickOut (p / 8) (p % 8) (s.outHeads p).2 with
    | some k => !(s.link p).room k.cells
    | none => false

/-- ACK_SEQ frees every frame up to and including it (R169). -/
def State.takeAck (s : State) (p q : Nat) : State :=
  match (s.link p).replay with
  | [] => s
  | f :: _ =>
    let n := wrapSub 12 q f.seq + 1
    if n ≤ (s.link p).replay.length then
      let s := ((s.link p).replay.take n).foldl State.ackFrame s
      let s := s.updLink p (fun l =>
        let rest := l.replay.drop n
        { l with replay := rest,
                 replaying := match l.replaying, rest with
                   | none, _ => none
                   | some _, [] => none
                   | some (x, fr), g :: _ => if wrapSub 12 x g.seq < rest.length then some (x, fr) else
                       if wrapSub 12 g.seq x ≤ 2047 then some (g.seq, fr) else none })
      s.showReplay p (s.bget (portPg p) 0x4C 6 && s.replayFull p)
    else s

/-- The acknowledgement, NAK and credits of a good frame of the session (R169 R170 R178). -/
def State.takeHeader (s : State) (p : Nat) (f : Bytes) : State :=
  let s := s.takeAck p (frAckSeq f)
  let a := fld (beAt f 6 1) 7 4
  let b := fld (beAt f 6 1) 3 0
  let s := s.updLink p (fun l =>
    { l with peerFreed := Tab.set (fun _ => 0) (Tab.set (fun _ => 0) l.peerFreed a (beAt f 8 2)) b (beAt f 10 2) })
  if frNak f then
    match (s.link p).replaying with
    | some (_, fr) => if fr = frAckSeq f then s else s.startReplay p
    | none => s.startReplay p
  else s

/-- The epoch on which an exchange will agree: the held one, or the proposal of the end with the lower serial. -/
def State.agreedEpoch (s : State) (p : Nat) : Nat :=
  let l := s.link p
  if l.session && idResume l.peerIdent then s.fget (portPg p) 0x4C 31 24
  else if idSerial l.peerIdent < s.serial then idEpoch l.peerIdent else l.proposal

/-- The arrival of a frame other than IDENT: its checks, the completion of an exchange by a good frame of the agreed
epoch, and its header's reports. Some when the frame counts for the session (R166 R168 R181). -/
def State.rxFrame (s : State) (p : Nat) (f : Bytes) : State × Bool :=
  match frCheck f with
  | .header => ((s.linkError p true).gap p, false)
  | .check => ((s.linkError p false).gap p, false)
  | c =>
    let l := s.link p
    let s := s.bump (portPg p) 4 (b2n (decide (c = .stomped)))
    let s := if l.exch ∧ l.identRx ∧ l.checkOk ∧ c = .good ∧ frEpoch f = s.agreedEpoch p then s.completeExchange p else s
    if s.linkState p ≠ lkUp then (s, false)
    else if frEpoch f ≠ s.fget (portPg p) 0x4C 31 24 then (s.linkError p false, false)
    else (s.takeHeader p f, true)

/-- An IDENT frame is due whenever one has been received and the exchange has not completed (R181). -/
def State.rxIdent (s : State) (p : Nat) (f : Bytes) : State :=
  let b := frBody f
  -- the first IDENT of a new exchange without RESUME says that the peer has ended the session (R190)
  let s := if (s.link p).session && !(s.link p).exch && !idResume b && !idAck b then (s.endSession p).startExchange p else s
  if !(s.link p).exch then s
  else
    let ok := s.identCheck p b
    let s := s.updLink p (fun l => { l with identRx := true, checkOk := ok, peerIdent := b, identDue := ok })
    if !ok then
      let s := s.bump (portPg p) 15 1
      if s.linkState p = lkFail then s else (s.fput (portPg p) 0x4C 3 0 lkFail).raise (portPg p) 26
    else
      let s := if s.linkState p = lkFail then
          s.fput (portPg p) 0x4C 3 0 (if (s.link p).session then lkHold else lkIdent) else s
      if (s.link p).session && !idResume b then
        -- this end still has to send its own RESUME = 0 (R190)
        ((s.endSession p).startExchange p).updLink p (fun l => { l with identRx := true, checkOk := ok, peerIdent := b })
      else if idAck b && idOk b then s.completeExchange p
      else s

/-- A frame of n cells on VC v is beyond LIMIT_v (R186). -/
def State.overrun (s : State) (p v n : Nat) : Bool :=
  decide (Tab.get (fun _ => 0) (s.link p).ownLimit v < Tab.get (fun _ => 0) (s.link p).heldCells v + n)

/-- A credit overrun ends the session at once, without a hold (R186). -/
def State.creditOverrun (s : State) (p : Nat) : State := ((s.raise (portPg p) 30).endSession p).reExchange p

/-- A DATA frame in sequence: its packet enters the input allotment, or, when its cells have entered before its check, is
whole and checked; a stomped one only returns its credits; one beyond LIMIT_v ends the session (R166 R167 R168 R186 R203
R215). `open'`: the packet whose cells have entered. -/
def State.acceptData (s : State) (p : Nat) (f : Bytes) (stomped : Bool) (open' : Option Nat) : State :=
  let v := frVc f
  let n := frCells f
  let s := s.updLink p (fun l => { l with rxNext := wrapAdd 12 l.rxNext 1, nakAt := none, unreported := true })
  if stomped then
    let s := match open' with | some id => s.discardPacket id | none => s
    s.updLink p (fun l =>
      { l with arrived := Tab.upd (fun _ => 0) l.arrived v (fun x => wrapAdd 16 x n),
               freed := Tab.upd (fun _ => 0) l.freed v (fun x => wrapAdd 16 x n),
               changed := if v ∈ l.changed then l.changed else l.changed ++ [v] })
  else
    let pkt := slice (frBody f) 0 (64 + pkLen (frBody f))
    match open' with
    | some id => ((s.bump (portPg p) 1 1).growIn (p / 8) id 0 pkt).checkIn (p / 8) (p % 8) v n id
    | none =>
      if s.overrun p v n then s.creditOverrun p else (s.bump (portPg p) 1 1).admitIn (p / 8) (p % 8) v pkt

/-- The header of a frame has arrived with its HCRC and TYPE right, and more of the frame is to come (R166). -/
def rxPartial (buf : Bytes) : Bool :=
  decide (buf.length < 16) ||
    (decide (crc16 (slice buf 0 14) = beAt buf 14 2 ∧ frType buf < 6 ∧ frCells buf ≤ 65) &&
      decide (buf.length < 16 + 64 * frCells buf + (if frCells buf = 0 then 0 else 4)))

/-- Cells of a DATA frame that is arriving enter the input allotment as they come, before the frame's check, when the frame
is the next of the session and within LIMIT_v (R167 R168 R186 R203). -/
def State.rxCells (s : State) (p : Nat) (buf : Bytes) : State :=
  let l := s.link p
  let n := frCells buf
  let have' := (buf.length - 16) / 64
  let pkt := slice buf 16 (64 * have')
  if buf.length < 16 ∨ have' = 0 then s
  else
    match l.rxPkt with
    | some id => s.growIn (p / 8) id (n - have') pkt
    | none =>
      if frType buf = frData ∧ s.linkState p = lkUp ∧ l.exch = false ∧ l.session = true ∧
          frEpoch buf = s.fget (portPg p) 0x4C 31 24 ∧ frSeq buf = l.rxNext ∧ s.overrun p (frVc buf) n = false then
        let (s, id) := s.openIn (p / 8) (p % 8) (frVc buf) n have' pkt
        s.updLink p (fun l => { l with rxPkt := some id })
      else s

/-! Frames leave (R173 R213 R214). -/

/-- The packet as it leaves: HOPS counts each hop to another router (R236). -/
def State.hopOut (s : State) (p : Nat) (pkt : Bytes) : Bytes :=
  if s.isLany p then pkt else patch pkt 1 (beBytes 1 (min 255 (pkHops pkt + 1)))

/-- Output arbitration of a fabric port (R213 R217 R538): the frame begins; a whole packet leaves at once and frees its
cells, a cut-through frame stays open until the next boundary. -/
def State.arbitrate (s : State) (p : Nat) : State :=
  let t := p / 8
  let (fits, free) := s.outHeads p
  let full := s.replayFull p
  let s := s.showReplay p full
  if s.portReef p || s.fatal || full then s
  else
    let s := if free.length < fits.length then s.updLink p (fun l => { l with shapeHeld := true }) else s
    match s.pickOut t (p % 8) free with
    | none => s
    | some k =>
      let s := ((s.afterOut t (p % 8) free k).bump (tilePg t) 5 1).bump (portPg p) 0 1
      let s := (s.chargePort p (k.vc / 4) k.cells).updLink p (fun l =>
        { l with sent := Tab.upd (fun _ => 0) l.sent k.vc (fun x => wrapAdd 16 x k.cells) })
      let cells := pkCellBytes (s.hopOut p k.pkt)
      if k.written = k.cells then (s.sendSeq p frData k.vc cells false).dropCol t k
      else
        let q := (s.link p).txNext
        let s := s.updLink p (fun l =>
          { l with txNext := wrapAdd 12 q 1, replay := l.replay ++ [⟨q, frData, k.vc, cells, false, 0⟩], begun := some k.id })
        s.updCol t k.id (fun k => { k with begun := true })

/-- The end of a cut-through frame: whole, or stomped for underrun (R214). None while its cells are still arriving. -/
def State.endBegun (s : State) (p : Nat) (underrun : Bool) : Option State :=
  match (s.link p).begun with
  | none => some s
  | some id =>
    if underrun then some ((s.stompBegun p).bump (tilePg (p / 8)) 6 1)
    else
      match (s.tile (p / 8)).cols.find? (fun k => decide (k.id = id)) with
      | none => some (s.stompBegun p)
      | some k =>
        if k.written < k.cells then none
        else
          let s := s.updLink p (fun l => { l with begun := none })
          let s := match (s.link p).replay.getLast? with
            | some f => s.sendFrame p f.typ f.vc f.seq f.cells f.stomp
            | none => s
          some (s.dropCol (p / 8) k)

/-- The next frame of a replay in progress (R170 R173). -/
def State.sendReplay (s : State) (p next fr : Nat) : State :=
  match (s.link p).replay.find? (fun f => decide (f.seq = next)) with
  | none => s.updLink p (fun l => { l with replaying := none })
  | some f =>
    let n := wrapAdd 12 next 1
    let s := s.updLink p (fun l => { l with replaying := if n = l.txNext then none else some (n, fr) })
    (s.bump (portPg p) 7 1).sendFrame p f.typ f.vc f.seq f.cells f.stomp

/-- The transmitter's choice at a frame boundary (R173). -/
def State.chooseFrame (s : State) (p : Nat) : State :=
  let l := s.link p
  if s.fatal then
    -- step 2 of R555: the failover request, queued before the outputs stopped
    match l.lanyOut.find? (fun m => decide (beAt m 0 1 = 2)) with
    | some m =>
      if s.linkState p = lkUp ∧ l.room (m.length / 64) = true then
        (s.updLink p (fun l => { l with lanyOut := l.lanyOut.erase m })).sendSeq p frLany 0 m false
      else s
    | none => s
  else if s.linkState p = lkUp then
    match l.markerDue with
    | some m =>
      let m := patch (patch m 0x14 (beBytes 2 (64 * s.nowCc))) 0x20 l.vector
      (s.updLink p (fun l => { l with markerDue := none })).sendFrame p frTick 0 0 m false
    | none =>
      if l.ackDue then
        ((s.updLink p (fun l => { l with ackDue := false })).bump (portPg p) 10 1).sendFrame p frAck 0 0
          (zeros 32 ++ l.vector) false
      else
        match l.replaying with
        | some (next, fr) => s.sendReplay p next fr
        | none =>
          match if s.nowCc ≤ 127 then l.telltaleDue else none with
          | some m =>
            ((s.updLink p (fun l => { l with telltaleDue := none })).bump routePg 10 1).sendFrame p frTelltale 0 0 m false
          | none =>
            match l.lanyOut with
            | m :: rest =>
              if s.portReef p then s
              else if l.room (m.length / 64) then ((s.updLink p (fun l => { l with lanyOut := rest })).sendSeq p frLany 0 m false).showReplay p false
              else s.showReplay p true
            | [] => s.arbitrate p
  else if l.exch ∧ l.identDue then
    (s.updLink p (fun l => { l with identDue := false })).sendFrame p frIdent 0 0 (s.identCells p) false
  else s

end Sys2Proof.Machine
end

