-- ==== Sys2Proof/Machine/Relia.lean ====
section
/-! DEFINITION. Retirement and the actions of verdicts (19_reliability.md R547-R553), and the states of the Halyard
engines and clusters that follow from it (R499-R501, R510, R511). -/

namespace Sys2Proof.Machine

/-- The retirement of a whole instance, as the persistent store lists it. -/
def instMark : Nat := 0xFFFF

/-- A transition in progress ends, and SVC_BUSY clears (R603). -/
def State.endTransition (s : State) (p : PageRef) : State :=
  let k := pageCode p.zero
  { (s.bput p.zero 0xC 8 false) with
      svc := { s.svc with target := Tab.set (fun _ => none) s.svc.target k none,
                          dockPass := Tab.set (fun _ => false) s.svc.dockPass k false } }

/-- The state a HALY cluster reports: ACTIVE when an engine is, else the first of DRAINING, SELFTEST, DOCK, OUT and
RETIRED that an engine holds (R511). -/
def State.clusterState (s : State) (c : Nat) : Nat :=
  let st := (List.range 8).map (fun e => s.svcState (engPg (8 * c + e)))
  let order := [svcActive, svcDraining, svcSelftest, svcDock, svcOut, svcRetired]
  (order.find? (fun x => decide (x ∈ st))).getD svcOut

/-- Enters a service state; a cluster follows its engines (R511 R601). -/
def State.enterSvc (s : State) (p : PageRef) (st : Nat) : State :=
  let s := s.setSvc p st
  match p.cls with
  | .eng => s.setSvc (cluPg (p.inst / 8)) (s.clusterState (p.inst / 8))
  | _ => s

/-- Retires an instance without its dependants. -/
def State.retireInst (s : State) (p : PageRef) : State :=
  ((s.endTransition p).enterSvc p svcRetired).retireElement p.zero instMark 0

/-- Retires a port: its session ends under steps 1, 2 and 4 of R189, and its ADMIT bit clears (R552). -/
def State.retirePort (s : State) (p : Nat) : State :=
  let s := s.retireInst (portPg p)
  let s := if (s.link p).session then s.endSession p else s
  let s := (s.setAdmit p false).updLink p (fun l => { l with exch := false })
  ((s.fput (portPg p) 0x4C 3 0 lkDown).undecide p).redispatch p

/-- Retires a tile and its eight ports (R552). -/
def State.retireTile (s : State) (t : Nat) : State :=
  (List.range 8).foldl (fun s i => if s.svcState (portPg (8 * t + i)) = svcRetired then s else s.retirePort (8 * t + i))
    (s.retireInst (tilePg t))

/-- The stacks of the partition that COMMIT put in force (R477), and whether a retired one is among them (R481). -/
def State.stackInUse (s : State) (k : Nat) : Bool :=
  match s.mem.part with
  | some p => bit p.stackSet k
  | none => bit (s.get (hbmcPg 0 1) 0x48) k

/-- Retires an instance of any class (R552 R481). -/
def State.retire (s : State) (p : PageRef) : State :=
  match p.cls with
  | .port => s.retirePort p.inst
  | .tile => s.retireTile p.inst
  | .hbmc =>
    let s := s.retireInst p
    if s.stackInUse p.inst then s.enterFatal 6 else s
  | _ => s.retireInst p

/-! Spare rows and lanes (R548 R553). -/

/-- Spares of a page of a kind: 0 packet-buffer rows, 1 replay rows, 2 context-cache rows, 3 routing-table rows, 4 row
bus lanes, 5 column bus lanes, 6 HBM rows. -/
def spareCount (p : PageRef) (kind : Nat) : Nat :=
  match kind with
  | 0 => 8
  | 1 => 2
  | 2 => 64
  | 3 => 64
  | 6 => Config.hbmSpareRows p.inst
  | _ => 1

def State.sparesUsed (s : State) (p : PageRef) (kind : Nat) : Nat :=
  Tab.get (fun _ => 0) s.psto.sparesUsed (pageCode p.zero * 8 + kind)
def State.setSpares (s : State) (p : PageRef) (kind n : Nat) : State :=
  { s with psto := { s.psto with sparesUsed := Tab.set (fun _ => 0) s.psto.sparesUsed (pageCode p.zero * 8 + kind) n } }

/-- The page and kind of the spare rows that serve an SRAM row error of a page (R547 R553 R616). -/
def rowHome (p : PageRef) (element : Nat) : PageRef × Nat :=
  match p.cls with
  | .tile => if element < 1024 then (p, 0) else (portPg (8 * p.inst + (element - 1024) / 32), 1)
  | .route => (p, 3)
  | _ => (p, 2)

/-- 64 cells of a tile leave use (R548): they count as USED until the next cc 0, when TOTAL, USED and SHARED fall. A
tile whose SHARED would fall below 2,048 is retired. -/
def State.withdrawRow (s : State) (t : Nat) : State :=
  let s := ((s.raise (tilePg t) 19).bump (tilePg t) 14 1).poolMove t poFree poUsed 64
  let w := Tab.get (fun _ => 0) s.relia.withdrawing t + 1
  let s := { s with relia := { s.relia with withdrawing := Tab.set (fun _ => 0) s.relia.withdrawing t w } }
  if s.fget (tilePg t) 0x58 16 0 < 2048 + 64 * w then s.retireTile t else s

/-- An SRAM row error: the row is remapped to a free spare, or, with none free, withdrawn, and its march starts (R547
R548). The withdrawal of a routing-table row causes the fatal state. -/
def State.rowStart (s' : State) (p : PageRef) (b element : Nat) : State :=
  let s'' := s'.startTest p element 0 b 1
  let (home, kind) := rowHome p element
  let started := decide (s''.relia.running ≠ s'.relia.running ∨ s''.relia.queued ≠ s'.relia.queued)
  if !started then s''
  else if s''.sparesUsed home kind < spareCount home kind then s''.setSpares home kind (s''.sparesUsed home kind + 1)
  else
    let s := s''.retireElement p element 0
    match p.cls with
    | .route => s.enterFatal 5
    | .tile => s.withdrawRow p.inst
    | _ => s

/-- An SRAM row error that a BLK_ERR bit of its page reports (R547). -/
def State.rowError (s : State) (p : PageRef) (b element : Nat) : State := (s.raise p b).rowStart p b element

/-- The verdict of a row march: a row that passes becomes a spare row (R548). -/
def State.rowVerdict (s : State) (p : PageRef) (element : Nat) (pass : Bool) : State × Nat :=
  let (home, kind) := rowHome p element
  let out := s.isRetired p element 0
  let s := if pass then
      let s := s.setSpares home kind (s.sparesUsed home kind - 1)
      if out then
        { s with psto := { s.psto with retired := delFirst (fun e => decide (e = (pageCode p, element, 0))) s.psto.retired } }
      else s
    else s.retireElement p element 0
  (s, if pass then acNone else if out then acRowOut else acSpareRow)

/-- A lane fails its test: FAILED and RETIRED (R144). -/
def State.failLane (s : State) (p l : Nat) : State :=
  (((s.toSignal p l).setLaneState p l lnFailed).bput (lanePg p) (laneOff l) 11 true).retireElement (lanePg p) l 0

/-- A lane fails for good; with both lanes retired the port is retired (R547). -/
def State.retireLane (s : State) (p l : Nat) : State × Nat :=
  let s := s.failLane p l
  if s.bget (lanePg p) (laneOff 0) 11 && s.bget (lanePg p) (laneOff 1) 11 then (s.retirePort p, acPort) else (s, acLane)

/-- A hop leaving stop s in loop d is a crossing between the service dies (R465). -/
def isCrossing (stop loop : Nat) : Bool :=
  decide ((stop = 32 ∧ loop = 0) ∨ (stop = 33 ∧ loop = 1) ∨ (stop = 63 ∧ loop = 0) ∨ (stop = 0 ∧ loop = 1))

/-- What R547 does when an error of a page proves lasting, and the action it logs. -/
def State.lasting (s : State) (t : Test) (p : PageRef) : State × Nat :=
  if t.bit = 5 then
    match p.cls with
    | .glb => (s.enterFatal 8, acFatal)
    | .tick => (s.enterFatal 8, acFatal)
    | .zyn => (s.enterFatal 8, acFatal)
    | .route => (s.enterFatal 8, acFatal)
    | .hbmc => (s.enterFatal 8, acFatal)
    | _ => (s.retire p, acInstance)
  else
    match p.cls with
    | .tile =>
      if t.bit = 18 then
        let kind := if bit t.element 8 then 5 else 4
        if s.sparesUsed p kind = 0 then ((s.setSpares p kind 1).retireElement p t.element 0, acSpareBus)
        else (s.retireTile p.inst, acTile)
      else s.rowVerdict p t.element false
    | .eng => (s.retire p, acEngine)
    | .noc =>
      if isCrossing p.inst (t.element % 2) && decide (s.fget p 0x48 7 0 < Config.ucieSpare p.inst) then
        (((s.satAdd p 0x48 7 0 1).raise p 17), acUcie)
      else ((if isCrossing p.inst (t.element % 2) then s.raise p 18 else s).enterFatal 7, acFatal)
    | _ =>
      if t.kind = 4 then
        let stack := t.ext / 2 ^ 20 % 16
        let q := hbmcPg stack 0
        if s.sparesUsed q 6 < spareCount q 6 then
          (((s.setSpares q 6 (s.sparesUsed q 6 + 1)).raise q 19).retireElement q t.element t.ext, acHbmRow)
        else (s.retire q, acStack)
      else s.rowVerdict p t.element false

/-- The verdict of a targeted test (R547 R549 R550): logged, journalled, acted on; the next test of the instance runs.
An aborted test runs once more, and a second abort counts as a failure. -/
def State.targetVerdict (s : State) (p : PageRef) (t : Test) (verdict fails : Nat) : State :=
  match pageOfCode t.page with
  | none => s
  | some q =>
    if verdict = 3 ∧ t.again = false then
      (s.putVerdict q t.kind 3 fails).runTest p { t with again := true }
    else
      let s := s.putVerdict q t.kind verdict fails
      let (s, act) := if verdict = 1 then
          (if t.kind = 1 ∧ t.bit ≠ 5 then ((s.rowVerdict q t.element true).1, acNone) else (s, acNone))
        else s.lasting t q
      (s.logErr q t.element t.ext t.bit t.kind verdict act).nextTest p

/-- The retirements of an instance's elements clear when it passes its full self-test (R551, R155). -/
def State.clearRetired (s : State) (p : PageRef) : State :=
  let mine (e : Nat × Nat × Nat) : Bool :=
    match pageOfCode e.1 with
    | some q => decide (q.zero = p.zero)
    | none => false
  let s := { s with psto := { s.psto with retired := s.psto.retired.filter (fun e => !mine e) } }
  match p.cls with
  | .opte => s.fput (optePg p.inst 1) 0x44 27 16 0
  | _ => s

end Sys2Proof.Machine
end

