-- ==== Sys2Proof/Machine/Routing.lean ====
section
/-! DEFINITION. Commands of the Routing and Switch families that are no register writes (08_switch_core.md,
09_routing.md), the route-table commit, and the runs of tick jobs (03 R72 R73). -/

namespace Sys2Proof.Machine

/-- Permitted writers of a page (R95): its owner, its delegate, the management controller, and the fabric manager
unless the management controller owns the page. -/
def State.mayWrite (s : State) (p : PageRef) (origin : Nat) : Bool :=
  let w := s.get p 0x20
  let owner := fld w 15 0
  decide (origin = owner) || (decide (origin = fld w 31 16) && decide (origin ≠ 0xFFFF)) || decide (origin = 0) ||
    (decide (origin = 1) && decide (owner ≠ 0))

/-! Tick jobs. -/

/-- The trigger of a job: none when the fatal state has stopped it, or when its earlier run is still in progress, which
is counted (R73 R556). -/
def State.jobStart (s : State) (j : Nat) : State × Bool :=
  if (s.fatal ∧ j ≠ 0 ∧ j ≠ 2) ∨ s.tick.running = false then (s, false)
  else if Tab.get (fun _ => false) s.tick.busy j then
    if Tab.get (fun _ => false) s.tick.skipped j then (s, false)
    else (({ s with tick := { s.tick with skipped := Tab.set (fun _ => false) s.tick.skipped j true } }).bump (tickPg 1) j 1, false)
  else (s, true)

/-- A job's run ends in a core cycle: END_LAST, and END_MAX (R78). -/
def State.jobEnd (s : State) (j endCc : Nat) : State :=
  let o := 0x40 + 4 * j
  let s := s.fput (tickPg 1) o 10 0 endCc
  s.fput (tickPg 1) o 26 16 (max (s.fget (tickPg 1) o 26 16) (endCc % 2048))

/-! Route decisions and the crossing round. -/

/-- ROUTE_DECISION (R238): the oldest packet of an input queue that has had no decision. -/
def execRouteDecision (tile input vc : Nat) (s : State) : Host.Outcome State Fault Refusal :=
  match (s.tile tile).ins.find? (fun e => decide (e.input = input ∧ e.vc = vc ∧ e.hop = none ∧ e.noCand = 0)) with
  | some e => if (s.tile tile).reloading then .next s else .next (s.decideIn tile e)
  | none => .next s

/-- CROSSING_ROUND (R209). -/
def execCrossingRound (s : State) : Host.Outcome State Fault Refusal := .next s.crossRound

/-- PACKET_BUFFER_ECC_ERROR (R216 R223 R547). -/
def execPacketBufferEccError (tile row : Nat) (corrected : Bool) (victim : Nat) (s : State) :
    Host.Outcome State Fault Refusal :=
  if tile < 64 ∧ row < 1024 ∧ s.powered (tilePg tile) then
    if corrected then .next ((s.bump (tilePg tile) 12 1).rowError (tilePg tile) 16 row)
    else
      .next (((s.discardPacket victim).bump (tilePg tile) 13 1).rowError (tilePg tile) 17 row)
  else .next s

/-! Route tables. -/

/-- Writable bits of a word of a bank, by window offset (R230-R234). -/
def bankMask (off : Nat) : Nat :=
  if off = 0 ∨ off = 0xC then 0xFFFFFFFF
  else if off = 4 then 0xFFFFF
  else if off = 8 then 7
  else if 0x1000 ≤ off ∧ off < 0x1200 then 0xE01FFFFF
  else if 0x2000 ≤ off ∧ off < 0x3000 then 0x03FF03FF
  else if 0x10000 ≤ off ∧ off < 0x20000 then 0xF800000F
  else 0

/-- Writes a word of the shadow bank. -/
def State.setShadow (s : State) (off : Nat) (w : Word) : State :=
  if s.bget routePg 0x44 9 then { s with route := { s.route with bank0 := Tab.set (fun _ => 0) s.route.bank0 off w } }
  else { s with route := { s.route with bank1 := Tab.set (fun _ => 0) s.route.bank1 off w } }

/-- ROUTE_TABLE_WINDOW_WRITE (R229 R81): to the shadow bank, by the owner of the ROUTE page; discarded while a copy runs
or a commit is armed. -/
def execRouteTableWindowWrite (path : APath) (offset : Nat) (value : Word) (s : State) : Host.Outcome State Fault Refusal :=
  if s.powered routePg = false ∨ pathReaches path (0xE00000 + offset) = false then .next s
  else if offset % 4 ≠ 0 then .next (s.raise routePg 0)
  else if s.mayWrite routePg path.origin = false then .next (s.raise routePg 1)
  else if s.bget routePg 0x44 7 ∨ s.bget routePg 0x44 4 then .next (s.raise routePg 23)
  else
    let m := BitVec.ofNat 32 (bankMask offset)
    if bankMask offset = 0 then .next s else .next (s.setShadow offset (value &&& m))

/-- COPY_COMPLETE (R229): the shadow bank holds the active bank, and COPY clears. -/
def execCopyComplete (s : State) : Host.Outcome State Fault Refusal :=
  if s.bget routePg 0x44 7 then
    let r := s.route
    let s := { s with route := if s.bget routePg 0x44 9 then { r with bank0 := r.bank1 } else { r with bank1 := r.bank0 } }
    .next ((s.bput routePg 0x44 7 false).bput routePg 0x40 2 false)
  else .next s

/-- The element of the ROUTE page that a tile's replica is (log 146). -/
def replicaRow (tile : Nat) : Nat := 0x8000 + tile

/-- ROUTE_REPLICA_RELOAD (R262): an uncorrectable error in a tile's replica, whose row is tested (R547), and the end of its
reload; the tile makes no decision between. -/
def execRouteReplicaReload (tile : Nat) (done : Bool) (s : State) : Host.Outcome State Fault Refusal :=
  if 64 ≤ tile then .next s
  else
    let s' := s.updTile tile (fun x => { x with reloading := !done })
    if done ∨ s.powered routePg = false then .next s' else .next (s'.rowError routePg 25 (replicaRow tile))

/-- TELLTALE_RECEIVE (R247): stored under the trunk of the one dimension in which the sender differs. -/
def execTelltaleReceive (port : Nat) (frame : Bytes) (s : State) : Host.Outcome State Fault Refusal :=
  if port < 512 then
    match s.rxFrame port frame with
    | (s, false) => .next s
    | (s, true) =>
      if frType frame ≠ frTelltale ∨ frCheck frame ≠ .good then .next s
      else
        let b := frBody frame
        let from' := fld (beAt b 0 4) 19 0
        let self := s.rtSelf true
        match (List.range 4).filter (fun d => decide (coord from' d ≠ coord self d)) with
        | [d] =>
          let r := s.route
          .next (({ s with route := { r with telltale := Tab.set (fun _ => none) r.telltale (32 * d + coord from' d) (some b) } }).bump
            routePg 11 1)
        | _ => .next (s.raise routePg 20)
  else .next s

/-! Weight update (R242). -/

/-- Least level among the usable members of trunk (d, x), none without one. -/
def State.trunkLevel (s : State) (d x : Nat) : Option Nat :=
  match (s.members true d x).filter (fun m => s.usable false m.2) with
  | [] => none
  | ms => some (ms.foldl (fun a m => min a (lvl (s.occPort m.2))) 254)

/-- A level of the telltale stored for a trunk, whatever its age: R247 ignores an old one under R240 only; 0 when none has
been received (log 146). -/
def State.ttLevel (s : State) (d x off : Nat) : Nat :=
  match Tab.get (fun _ => none) s.route.telltale (32 * d + x) with
  | some (f : Bytes) => beAt f off 1
  | none => 0

/-- The detour coordinate of (d, t), plus one; 0 for none (R242). -/
def State.detourOf (s : State) (d t : Nat) : Nat :=
  let self := coord (s.rtSelf true) d
  let cands := (List.range (s.rtN true d)).filterMap (fun y =>
    if y = self ∨ y = t ∨ !bit (s.cent true d y) 30 then none
    else
      match s.trunkLevel d y with
      | none => none
      | some l =>
        let r := s.ttLevel d y (0x20 + 32 * d + t)
        if r = 255 then none else some (s.cfgf routePg 0x48 3 0 * l + s.cfgf routePg 0x48 11 8 * r, y))
  match argMin (fun c => c.1) cands with
  | some c => c.2 + 1
  | none => 0

/-! The route-table commit (R235, R251-R258). -/

/-- Ports of the enabled members of every trunk of the active bank. -/
def State.memberPorts (s : State) : List Nat :=
  ((List.range 4).flatMap (fun d => (List.range 32).flatMap (fun x => s.members true d x))).map Prod.snd

/-- The shadow bank becomes active, and ADMIT follows (R237 R254). -/
def State.switchBanks (s : State) : State :=
  let s := (s.bput routePg 0x44 9 (!s.bget routePg 0x44 9)).bput routePg 0x44 8 true
  let s := (s.put routePg 0x54 (s.nowTick % 2 ^ 32)).put routePg 0x5C (s.bankWord true 0)
  let ms := s.memberPorts
  let s := (List.range 512).foldl (fun s p =>
    if p ∈ ms then
      (if s.svcState (portPg p) = svcActive ∧ s.linkState p = lkUp then s.setAdmit p true else s)
    else if s.admitted p then s.setAdmit p false else s) s
  s.bump routePg 13 1

/-- The hold ends with a RESULT: 1 SWITCHED, 2 ABORTED, 3 SWITCHED_LATE (R255 R256). -/
def State.releaseCommit (s : State) (result : Nat) : State :=
  let s := ((s.bput routePg 0x44 4 false).bput routePg 0x44 6 false).fput routePg 0x44 19 16 result
  let s := s.fput routePg 0x44 3 0 (if result = 2 then 0 else 15)
  let s := if result = 2 then s.bput routePg 0x44 5 false else s
  { (s.event 1 (.result 4 result)) with
      route := { s.route with commit := none, ttCommit := if result = 2 then 0 else 0x4F } }

/-- The first failing check of R235 on the shadow bank, 0 for none. -/
def State.checkShadow (s : State) (bankId : Nat) (immediate : Bool) : Nat :=
  let n (d : Nat) : Nat := fld (s.bankWord false 0xC) (8 * d + 7) (8 * d)
  let dd := s.rtD false
  let self := s.rtSelf false
  let dims := List.range 4
  let xs := List.range 32
  let ms (d x : Nat) := s.members false d x
  let all := dims.flatMap (fun d => xs.flatMap (fun x => (ms d x).map Prod.snd))
  if s.bankWord false 0 ≠ bankId then 1
  else if !(decide (1 ≤ dd ∧ dd ≤ 4)) || !dims.all (fun d => if d < dd then decide (2 ≤ n d ∧ n d ≤ 32) else decide (n d = 1)) then 2
  else if 16384 < n 0 * n 1 * n 2 * n 3 then 3
  else if !dims.all (fun d => decide (coord self d < n d)) then 4
  else if !dims.all (fun d =>
      if d < dd then
        xs.all (fun x => bit (s.cent false d x) 31 == decide (x < n d)) &&
          (List.range (n d)).all (fun r => (List.range (n d)).any (fun x => decide (s.ringPos false d x = r)))
      else xs.all (fun x => decide (s.cent false d x = 0))) then 5
  else if s.bankValid && !immediate &&
      !(decide (s.rtD true = dd ∧ s.rtSelf true = self ∧ s.bankWord true 0xC = s.bankWord false 0xC) &&
        dims.all (fun d => xs.all (fun x => decide (s.ringPos true d x = s.ringPos false d x)))) then 6
  else if !dims.all (fun d => decide (fld (s.cent false d (coord self d)) 15 0 = 0)) ||
      all.any (fun p => s.isLany p || decide (512 ≤ p)) || !decide all.Nodup then 7
  else if !(List.range (n 0 * n 1 * n 2 * n 3)).all (fun i =>
      let ex := s.exc false i
      if bit ex 28 && decide (i ≠ s.rIndex false self) then
        let c (d : Nat) : Nat := i / ((List.range d).foldl (fun a e => a * n e) 1) % n d
        match dims.find? (fun d => decide (c d ≠ coord self d)) with
        | some e => decide (fld ex 27 23 < n e ∧ fld ex 27 23 ≠ coord self e)
        | none => true
      else true) then 8
  else 0

/-- A router index lies in the destination set of the armed commit (R251). -/
def Commit.holds (c : Commit) (idx : Nat) : Bool := c.all || decide (idx ∈ c.dests)

/-- ROUTE.INFLIGHT (R253): packets of class REQ or COLL injected toward routers of S and not acknowledged. -/
def State.inflight (s : State) : Nat :=
  match s.route.commit with
  | none => 0
  | some c =>
    min 0xFFFFFF (s.xpts.foldl (fun n e => e.2.ctxs.foldl (fun n x =>
      match x.tx with
      | none => n
      | some h => n + (h.unacked.filter (fun u =>
          decide (pkClass u.pkt = 0 ∨ pkClass u.pkt = 2) && c.holds (s.rIndex true (pkDest u.pkt / 16)))).length) n) 0)

/-- A peer that has lost its last admitted member, and no longer counts (R258). -/
def State.peerDropped (s : State) (k x : Nat) : Bool :=
  match s.route.commit with
  | none => false
  | some c => decide (32 * k + x ∈ c.linked) && !s.trunkLinked k x

/-- The stage bits g_0..g_D or h_0..h_D: the number of leading stages that hold (R254 R255 R258). -/
def State.stage (s : State) : Nat :=
  let ph := s.bget routePg 0x44 5
  let cid := s.fget routePg 0x50 15 0
  let start := ph || decide (s.inflight = 0)
  let peer (k x : Nat) : Bool :=
    match Tab.get (fun _ => none) s.route.telltale (32 * k + x) with
    | none => false
    | some (f : Bytes) =>
      let c := beAt f 0x10 1
      decide (beAt f 0xE 2 = cid) &&
        (if ph then bit c 6 && (bit c k || !bit c 7) else (!bit c 6 && bit c k) || bit c 6)
  let dimOk (k : Nat) : Bool :=
    (List.range 32).all (fun x => decide (x = coord (s.rtSelf true) k) || decide (fld (s.cent true k x) 15 0 = 0) ||
      s.peerDropped k x || peer k x)
  if !start then 0 else 1 + ((List.range (s.rtD true)).takeWhile dimOk).length

/-- A boundary at or after the deadline finds the commit in phase 0, which abandons it, or in phase 1, which releases it
switched late (R256). -/
def State.deadlineCommit (s : State) : State :=
  if s.bget routePg 0x44 5 then (s.releaseCommit 3).raise routePg 22
  else ((s.releaseCommit 2).raise routePg 21).bump routePg 15 1

/-- Job 3 at a boundary (R254 R255 R256 R258): the deadline, the stage bits of an armed commit, the switch of banks, the
release. -/
def State.commitStage (s : State) : State :=
  match s.route.commit with
  | none => s
  | some c =>
    if c.immediate then ((s.switchBanks).bput routePg 0x44 5 true).releaseCommit 1
    else if c.deadline ≤ s.nowTick then s.deadlineCommit
    else
      let g := s.stage
      let d := s.rtD true
      let ph := s.bget routePg 0x44 5
      if g ≤ d then
        let done := 2 ^ g - 1
        let s := s.fput routePg 0x44 3 0 done
        { s with route := { s.route with ttCommit := 0x80 + b2n ph * 0x40 + done % 16 } }
      else if !ph then
        let s := ((s.switchBanks).bput routePg 0x44 5 true).fput routePg 0x44 3 0 1
        { s with route := { s.route with ttCommit := 0xC1, commit := some { c with linked := c.linked ++ s.linkedTrunks } } }
      else s.releaseCommit 1

/-- COMMIT_DEADLINE (R256): the deadline is met at a boundary whose job 3 did not run. -/
def execCommitDeadline (s : State) : Host.Outcome State Fault Refusal :=
  match s.route.commit with
  | some c =>
    if c.deadline ≤ s.nowTick ∧ c.immediate = false then .next s.deadlineCommit else .next s
  | none => .next s

/-- The telltale of this tick (R246). -/
def State.telltaleCells (s : State) : Bytes :=
  let d := s.rtD true
  let eject := lvl ((gatewayTiles.map (fun t => s.occEject t)).foldl max 0)
  let head := beBytes 4 (s.rtSelf true) ++ beBytes 4 s.nowTick ++ beBytes 4 (if s.bankValid then s.bankWord true 0 else 0) ++
    beBytes 1 d ++ beBytes 1 eject ++ beBytes 2 s.route.ttCid ++ beBytes 1 s.route.ttCommit ++ zeros 15
  let levels := (List.range d).flatMap (fun k => (List.range 32).flatMap (fun x =>
    if x = coord (s.rtSelf true) k ∨ s.rtN true k ≤ x then beBytes 1 255
    else beBytes 1 ((s.trunkLevel k x).getD 255)))
  let b := head ++ levels
  padTo b (64 * ceilDiv b.length 64)

end Sys2Proof.Machine
end

