-- ==== Sys2Proof/Machine/XptLib.lean ====
section
/-! DEFINITION. Wiluth's peer contexts: building, sequencing, sending, acknowledging and ending (10_wiluth_transport.md
R264-R303). -/

namespace Sys2Proof.Machine

/-! Agents and units (R19 R271). -/

/-- Local agent of host port h, and of collective unit u. -/
def State.locEp (s : State) (h : Nat) : Nat := 16 * (16 * s.rtSelf true + h)
def State.locColl (s : State) (u : Nat) : Nat := 16 * (16 * s.rtSelf true + u) + 1

/-- The address of an agent, and its AGENT code. -/
def agAddr (a : Nat) : Nat := a / 16 % 2 ^ 24
def agKind (a : Nat) : Nat := a % 16

/-- Host port of a local endpoint agent. -/
def agPort (a : Nat) : Nat := agAddr a % 16

/-- The XPT unit that holds a context (R271). -/
def State.unitOf (s : State) (loc rem : Nat) : Nat :=
  if agKind loc = 1 then 4 * (agAddr loc % 2) + s.rIndex true (agAddr rem / 16) % 4 else agPort loc / 2

/-- Agents of an arriving packet: its own side and its peer. An agent of the other plane of a pair has bit 28 set (R575). -/
def pkLoc (p : Bytes) : Nat := 16 * pkDest p + pkAgent p
def pkRem (p : Bytes) : Nat := 2 ^ 28 * pkPlane p + 16 * pkSrc p + pkSrcAgent p

/-- PLANE of a packet that has reached its unit, relative to this module's: 1 for the other plane (R575). -/
def State.relPlane (s : State) (p : Bytes) : Bytes :=
  patch p 7 (beBytes 1 (setFld (beAt p 7 1) 7 7 (Nat.xor (pkPlane p) (s.fget (lanyPg 0) 0x40 30 30))))

/-- VI of a host port by its index there. -/
def viOf (h i : Nat) : Nat := 256 * h + i

/-! Contexts. -/

def State.ctx (s : State) (loc rem : Nat) : Option Ctx :=
  (s.xpt (s.unitOf loc rem)).ctxs.find? (fun c => decide (c.loc = loc ∧ c.rem = rem))

def State.txOf (s : State) (loc rem : Nat) : Option TxHalf := (s.ctx loc rem).bind Ctx.tx
def State.rxOf (s : State) (loc rem : Nat) : Option RxHalf := (s.ctx loc rem).bind Ctx.rx

def State.updCtx (s : State) (loc rem : Nat) (f : Ctx → Ctx) : State :=
  let g (c : Ctx) : Ctx := if f c = c then c else { f c with touched := s.nowTick }
  s.updXpt (s.unitOf loc rem) (fun x => { x with ctxs := updFirst (fun c => decide (c.loc = loc ∧ c.rem = rem)) g x.ctxs })

def State.updTx (s : State) (loc rem : Nat) (f : TxHalf → TxHalf) : State :=
  s.updCtx loc rem (fun c => { c with tx := c.tx.map f })

def State.updRx (s : State) (loc rem : Nat) (f : RxHalf → RxHalf) : State :=
  s.updCtx loc rem (fun c => { c with rx := c.rx.map f })

/-- XPT.CTL, XPT.RTO and XPT.LIMITS fields with the values that act (R306), under R74. -/
def State.ackEvery (s : State) (u : Nat) : Nat := max 1 (s.cfgf (xptPg u 0) 0x40 23 16)
def State.reorderTk (s : State) (u : Nat) : Nat := max 1 (s.cfgf (xptPg u 0) 0x40 15 12)
def State.tombTicks (s : State) (u : Nat) : Nat := 2 ^ max 10 (min 20 (s.cfgf (xptPg u 0) 0x40 8 4))
def State.unsched (s : State) (u : Nat) : Nat := let n := s.cfgf (xptPg u 0) 0x40 3 0; if n = 0 then 2 else min 8 n
def State.giveupTicks (s : State) (u : Nat) : Nat := 2 ^ max 12 (min 24 (s.cfgf (xptPg u 0) 0x44 26 22))
def State.retryMax (s : State) (u : Nat) : Nat := max 1 (s.cfgf (xptPg u 0) 0x44 21 16)
def State.rtoMin (s : State) (u : Nat) : Nat := max 4 (s.cfgf (xptPg u 0) 0x44 15 8)
def State.rtoMax (s : State) (u : Nat) : Nat := 2 ^ max 10 (s.cfgf (xptPg u 0) 0x44 7 4)
def State.winReq (s : State) (u : Nat) : Nat := max 64 (min 1008 (s.cfgf (xptPg u 0) 0x48 25 16))
def State.intentMax (s : State) (u : Nat) : Nat := max 1 (s.cfgf (xptPg u 0) 0x48 15 8)
def State.ctxIdle (s : State) (u : Nat) : Nat := 2 ^ max 10 (min 24 (s.cfgf (xptPg u 0) 0x48 4 0))

/-- CLR_CFGj fields with the values that act (R306). -/
def State.clrPool (s : State) (u j : Nat) : Nat := max 1 (s.cfgf (xptPg u 2) (0x40 + 16 * j) 27 16)
def State.clrRate (s : State) (u j : Nat) : Nat := let n := s.cfgf (xptPg u 2) (0x40 + 16 * j) 15 8; if n = 0 then 1 else min 64 n
def State.clrMin (s : State) (u j : Nat) : Nat := min (s.clrRate u j) (s.cfgf (xptPg u 2) (0x40 + 16 * j) 3 0)

/-- Clearance tokens of host port h that are out: its grants' and its read requests' (R293 R295). -/
def State.clrOut (s : State) (h : Nat) : Nat :=
  ((s.xpt (h / 2)).ctxs.filter (fun c => decide (c.loc = s.locEp h))).foldl (fun n c =>
    n + (match c.rx with | some r => r.anns.foldl (fun n a => n + a.tokens.length) 0 | none => 0) +
      (match c.tx with
       | some t => t.msgs.foldl (fun n m => n + (m.reads.filter RdReq.token).length) 0
       | none => 0)) 0

/-- Clearances that host port h may issue in this tick (R292). -/
def State.clrTick (s : State) (h : Nat) : Nat :=
  let u := h / 2
  let j := h % 2
  max (s.clrMin u j) (s.clrRate u j - ceilDiv (Tab.get (fun _ => 0) (s.xpt u).eagerLast j) 4096)

/-- One clearance of host port h is issued (R292 R308). -/
def State.takeClr (s : State) (h : Nat) : State :=
  (s.updXpt (h / 2) (fun x => { x with issued := Tab.upd (fun _ => 0) x.issued (h % 2) (· + 1) })).bump
    (xptPg (h / 2) 2) (4 * (h % 2) + 1) 1

/-- Host port h may issue a further clearance now. -/
def State.clrFree (s : State) (h : Nat) : Bool :=
  decide (Tab.get (fun _ => 0) (s.xpt (h / 2)).issued (h % 2) < s.clrTick h ∧ s.clrOut h < s.clrPool (h / 2) (h % 2))

/-! Sequence numbers: serial order. -/

/-- a comes before b in serial order modulo 2^w. -/
def serLt (w a b : Nat) : Bool := decide (wrapSub w b a ≠ 0 ∧ wrapSub w b a < 2 ^ (w - 1))

/-- CGEN of a moment: bits [23:8] of TICK.COUNT (R273). -/
def State.cgenNow (s : State) : Nat := fld s.nowTick 23 8

/-- No route leads to an agent (R299). -/
def State.unreachable (s : State) (rem : Nat) : Bool :=
  !s.bankValid || !s.inFabric true (agAddr rem / 16) || bit (s.exc true (s.rIndex true (agAddr rem / 16))) 31

/-- A new packet or a retransmission finds no route; a crossed context's packets go over the Lanyard (R299 R575). -/
def State.noRoute (s : State) (loc rem : Nat) : Bool :=
  s.unreachable rem && !(match s.ctx loc rem with | some c => c.crossed | none => false)

/-- An armed commit holds a class toward an agent (R252 R302). -/
def State.heldBy (s : State) (cls rem : Nat) : Bool :=
  match s.route.commit with
  | none => false
  | some c => !c.immediate && decide (cls = 0 ∨ cls = 2) && c.holds (s.rIndex true (agAddr rem / 16))

/-- A new TxHalf (R273 R282 R566). -/
def State.newTx (s : State) (loc rem : Nat) : TxHalf :=
  let m := s.rtoMin (s.unitOf loc rem)
  let paired := s.lanyState = laPaired ∨ s.lanyState = laSyncing
  { state := .syn, cgen := s.cgenNow, txNext := 0, unacked := [], srtt8 := 16 * m, rttvar4 := 0, msgs := [],
    nextMsg := 0, acks := [], idleSince := s.nowTick, ceil := if paired then some 0 else none }

def newCtx (loc rem : Nat) : Ctx :=
  { loc := loc, rem := rem, tx := none, rx := none, tomb := none, adopted := false, crossed := false, touched := 0 }

/-- Every record of a unit is in use (R272). -/
def State.ctxFull (s : State) (u : Nat) : Bool := decide (262144 ≤ (s.xpt u).ctxs.length)

/-- A record with neither half and no tombstone is freed (R272). -/
def State.freeCtx (s : State) (loc rem : Nat) : State :=
  s.updXpt (s.unitOf loc rem) (fun x =>
    { x with ctxs := x.ctxs.filter (fun c => !(decide (c.loc = loc ∧ c.rem = rem) && c.tx.isNone && c.rx.isNone &&
                                              c.tomb.isNone)) })

/-- The 256 ticks after a close toward the peer have not passed (R273). -/
def State.reopenWait (s : State) (loc rem : Nat) : Bool :=
  (s.xpt (s.unitOf loc rem)).closed.any (fun e => decide (e.1 = loc ∧ e.2.1 = rem ∧ s.nowTick < e.2.2 + 256))

/-- A transmit half that can take new packets: the open one, or one opened now; none while it closes, before the reopen
delay's end, or without a free record (R272 R273). -/
def State.openTx (s : State) (loc rem : Nat) : Option State :=
  let u := s.unitOf loc rem
  match s.txOf loc rem with
  | some h => match h.state with
    | .closing => none
    | _ => some s
  | none =>
    if s.reopenWait loc rem then none
    else
      let open' (s : State) : State := (s.updCtx loc rem (fun c => { c with tx := some (s.newTx loc rem) })).bump (xptPg u 0) 14 1
      match s.ctx loc rem with
      | some _ => some (open' s)
      | none => if s.ctxFull u then none else some (open' (s.updXpt u (fun x => { x with ctxs := x.ctxs ++ [newCtx loc rem] })))

/-! Packets. -/

/-- PLANE of what goes to a peer: this module's, and the other one for an agent of the other plane (R265 R575). -/
def State.planeOf (s : State) (rem : Nat) : Nat := Nat.xor (s.fget (lanyPg 0) 0x40 30 30) (rem / 2 ^ 28 % 2)

/-- A fabric header from a local agent to a peer (R265). -/
def State.hdr (s : State) (cls loc rem len : Nat) : Bytes :=
  fabricHdr cls (agKind rem) len (agAddr rem) (s.planeOf rem) (agAddr loc) (agKind loc)

/-- The LEN field of a packet's headers set, and the payload appended (R264). -/
def withPayload (hdr data : Bytes) : Bytes := patch hdr 2 (beBytes 2 data.length) ++ data

/-- A flag bit of WFLAGS set to a value. -/
def setFlag (p : Bytes) (b : Nat) (v : Bool) : Bytes := patch p 0x21 (beBytes 1 (setFld (beAt p 0x21 1) b b (b2n v)))

/-- One copy of a packet leaves: TX_TICK, ACK_SEQ of the reverse direction, RETX and E2E_CRC are its own (R270 R280
R284). -/
def State.sendCopy (s : State) (loc rem : Nat) (pkt : Bytes) (retx : Bool) : State :=
  let p := patch pkt 0xC (beBytes 4 s.nowTick)
  let p := match s.rxOf loc rem with
    | some r => setFlag (patch p 0x28 (beBytes 3 r.rcvNext)) 2 true
    | none => setFlag (patch p 0x28 (zeros 3)) 2 false
  s.injectPkt (xptDie (s.unitOf loc rem)) (withCrc (setFlag p 3 retx))

/-- RTO = max(RTO_MIN, SRTT + 4 RTTVAR) in ticks (R282). -/
def State.rto (s : State) (u : Nat) (h : TxHalf) : Nat := max (s.rtoMin u) (h.srtt8 / 8 + h.rttvar4)

/-- An eager DATA packet, which the allowance counts (R289): DATA of class REQ, neither granted nor VOID, and no read
request. -/
def pkEager (p : Bytes) : Bool :=
  decide (pkType p = 1 ∧ pkClass p = 0 ∧ pkOpcode p ≠ 0x11) && !pkGranted p && !pkVoid p

/-- Sequence numbers below the Lanyard ceiling may be sent (R566). -/
def State.ceilOk (s : State) (loc : Nat) (h : TxHalf) : Bool :=
  if agKind loc = 0 && (s.lanyState = laPaired || s.lanyState = laSyncing) && !s.bget (lanyPg 1) (0x40 + 4 * agPort loc) 31 then
    match h.ceil with
    | none => true
    | some c => decide (1 ≤ wrapSub 24 c h.txNext ∧ wrapSub 24 c h.txNext ≤ 1024)
  else true

/-- The window has a place for a packet of a class (R278). -/
def State.windowOk (s : State) (u cls : Nat) (h : TxHalf) : Bool :=
  decide (h.unacked.length < 1024) &&
    (decide (cls = 1 ∨ cls = 3) ||
      decide ((h.unacked.filter (fun p => decide (pkClass p.pkt = 0 ∨ pkClass p.pkt = 2))).length < s.winReq u))

/-- A copy that leaves in this tick is noted for the round-trip samples (R282). -/
def State.noteCopy (s : State) (loc rem : Nat) (retx : Bool) : State :=
  s.updTx loc rem (fun h =>
    { h with sent := h.sent.filter (fun e => decide (s.nowTick < e.1 + 65536 ∧ e ≠ (s.nowTick, retx))) ++ [(s.nowTick, retx)] })

/-- The first copy of a sequenced packet of an open half: it takes the next sequence number and leaves (R273 R278). -/
def State.sendNew (s : State) (loc rem : Nat) (pkt : Bytes) : State :=
  match s.txOf loc rem with
  | none => s
  | some h =>
    let u := s.unitOf loc rem
    let p := patch (patch pkt 0x22 (beBytes 2 h.cgen)) 0x24 (beBytes 3 h.txNext)
    let p := setFlag p 6 (decide (h.state = .syn))
    let e : UPkt := { pkt := p, seq := h.txNext, first := s.nowTick, last := s.nowTick, copies := 1,
                      interval := s.rto u h, heldTicks := 0, stalled := 0 }
    let s := s.updTx loc rem (fun h => { h with txNext := wrapAdd 24 h.txNext 1, unacked := h.unacked ++ [e] })
    let s := if agKind loc = 0 ∧ pkType p ≠ 7 then
        (s.bumpVf (viOf (agPort loc) (pkSrcVi p)) 5 1).bumpVf (viOf (agPort loc) (pkSrcVi p)) 6 (ceilDiv (pkLen p) 64) else s
    (((s.bump (xptPg u 0) 0 1).bump (xptPg u 0) 4 (b2n (decide (pkType p = 2)))).noteCopy loc rem false).sendCopy loc rem p false

/-- Announced messages that have sent their last GRANT and have their tokens back are forgotten once every presented packet
is disposed of: until then one of their granted packets may still be rejected (R328). -/
def RxHalf.prune (r : RxHalf) : RxHalf :=
  if r.undisposed.isEmpty then { r with anns := r.anns.filter (fun a => !(a.past && a.tokens.isEmpty)) } else r

/-- A presented packet is disposed of by its upper-layer unit (R269 R286). -/
def State.dispose (s : State) (loc rem seq : Nat) : State :=
  s.updRx loc rem (fun r =>
    RxHalf.prune { r with undisposed := delFirst (fun q => decide (q = seq)) r.undisposed, ackDue := true })

/-- A RESET that refuses the direction of CGEN `cgen` (R268 R300). -/
def State.sendReset (s : State) (loc rem cgen : Nat) : State :=
  let w := patch (wiluthHdr 5 0 0 0 0 (stPeerReset * 2 ^ 24) []) 2 (beBytes 2 cgen)
  (s.bump (xptPg (s.unitOf loc rem) 1) 8 1).sendCopy loc rem (s.hdr 3 loc rem 0 ++ w) false

/-- The RESET of R274 step 5, at most once per tick for each source (R300). -/
def State.answerReset (s : State) (pkt : Bytes) : State :=
  let loc := pkLoc pkt
  let rem := pkRem pkt
  let u := s.unitOf loc rem
  if (s.xpt u).resets.any (fun e => decide (e.1 = rem ∧ e.2 = s.nowTick)) then s
  else
    (s.updXpt u (fun x => { x with resets := (x.resets.filter (fun e => decide (e.2 = s.nowTick))) ++ [(rem, s.nowTick)] })).sendReset
      loc rem (pkCgen pkt)

/-! Acknowledgements (R269 R280). -/

/-- DONE_NEXT: the lowest sequence number not both received and disposed of. -/
def RxHalf.doneNext (r : RxHalf) : Nat :=
  (r.undisposed.foldl (fun a q => if serLt 24 q a then q else a) r.rcvNext)

/-- The sequence number has been received. -/
def RxHalf.has (r : RxHalf) (q : Nat) : Bool := serLt 24 q r.rcvNext || decide (q ∈ r.received)

/-- Sends an ACK of the receive half, triggered by a packet or none (R269). The ECHO of an ACK without a triggering
packet is free. -/
def State.sendAck (s : State) (loc rem : Nat) (trigger : Option Bytes) : State :=
  match s.rxOf loc rem with
  | none => s
  | some r =>
    let d0 := match trigger with | some p => wrapSub 24 (pkSeq p) r.rcvNext | none => 0
    let d := if d0 < 2 ^ 23 then d0 else 0
    let ofs := if d = 0 then 1 else 1 + 64 * ((d - 1) / 64)
    let sack := (List.range 64).foldl (fun a i => a + b2n (r.has (wrapAdd 24 r.rcvNext (ofs + i))) * 2 ^ i) 0
    let note := (s.txOf loc rem).map TxHalf.txNext
    let (fr, s) := s.free
    let echo := match trigger with | some p => pkTxTick p % 65536 | none => fr % 65536
    let w := beBytes 1 4 ++ beBytes 1 (b2n note.isSome) ++ beBytes 2 r.cgen ++ beBytes 3 r.doneNext ++ zeros 1 ++
      beBytes 3 r.rcvNext ++ zeros 1 ++ beBytes 2 ofs ++ beBytes 2 echo ++ beBytes 8 sack ++ beBytes 3 (note.getD 0) ++ zeros 5
    let s := s.updRx loc rem (fun r => { r with ackDue := false, inOrder := 0 })
    let p := patch (s.hdr 1 loc rem 0 ++ w) 0xC (beBytes 4 s.nowTick)
    (s.bump (xptPg (s.unitOf loc rem) 1) 6 1).injectPkt (xptDie (s.unitOf loc rem)) (withCrc p)

/-- The ACK of a CLOSE whose receive half is gone (R274 step 5). -/
def State.ackClose (s : State) (pkt : Bytes) : State :=
  let loc := pkLoc pkt
  let rem := pkRem pkt
  let n := wrapAdd 24 (pkSeq pkt) 1
  let w := beBytes 1 4 ++ zeros 1 ++ beBytes 2 (pkCgen pkt) ++ beBytes 3 n ++ zeros 1 ++ beBytes 3 n ++ zeros 1 ++
    beBytes 2 1 ++ beBytes 2 (pkTxTick pkt % 65536) ++ zeros 16
  let p := patch (s.hdr 1 loc rem 0 ++ w) 0xC (beBytes 4 s.nowTick)
  (s.bump (xptPg (s.unitOf loc rem) 1) 6 1).injectPkt (xptDie (s.unitOf loc rem)) (withCrc p)

/-! Messages at their sender. -/

def TxHalf.msg (h : TxHalf) (id : Nat) : Option TxMsg := h.msgs.find? (fun m => decide (m.id = id))

def State.updMsg (s : State) (loc rem id : Nat) (f : TxMsg → TxMsg) : State :=
  s.updTx loc rem (fun h => { h with msgs := updFirst (fun m => decide (m.id = id)) f h.msgs })

/-- Packets that wait to be built for a message. -/
def TxReq.ofMsg (e : TxReq) (loc rem id : Nat) : Bool := decide (e.cls = 0 ∧ e.loc = loc ∧ e.rem = rem ∧ e.msg = id)

/-- Queues a packet for admission (R535). -/
def State.pushReq (s : State) (e : TxReq) : State :=
  s.updXpt (s.unitOf e.loc e.rem) (fun x => { x with waiting := x.waiting ++ [e] })

/-- Starts a message: it takes the next MSG_ID (R266); the caller has opened the half. -/
def State.newMsg (s : State) (loc rem : Nat) (m : TxMsg) : State × Nat :=
  match s.txOf loc rem with
  | none => (s, 0)
  | some h =>
    (s.updTx loc rem (fun h => { h with nextMsg := wrapAdd 32 h.nextMsg 1, msgs := h.msgs ++ [{ m with id := h.nextMsg }] }),
      h.nextMsg)

/-- The two headers of a message's packet: type, flags, MSG_ID and MSG_OFS over the message's own (R266). -/
def msgPkt (hdr : Bytes) (typ flags msg ofs : Nat) : Bytes :=
  patch (patch hdr 0x20 (beBytes 1 typ ++ beBytes 1 flags)) 0x2C (beBytes 4 msg ++ beBytes 4 ofs)

/-- A packet of class REQ that waits for admission. -/
def reqOf (vi loc rem msg : Nat) (pkt : Bytes) (read : Option (Nat × Nat)) (len : Nat) (data : Bytes) (last : Bool) : TxReq :=
  { vi := vi, cls := 0, loc := loc, rem := rem, msg := msg, pkt := patch pkt 2 (beBytes 2 len), read := read, data := data,
    last := last, waited := false, windowed := false, ceiled := false }

/-- Flags of a packet: FIRST 0x20, LAST 0x10, ORD 0x80, VOID and GRANTED 3, GRANTED 1. -/
def flFirst : Nat := 0x20
def flLast : Nat := 0x10
def flOrd : Nat := 0x80
def flVoid : Nat := 3
def flGranted : Nat := 1

/-- A VOID packet that answers a GRANT (R294). -/
def State.pushVoid (s : State) (vi loc rem msg ofs : Nat) (hdr : Bytes) : State :=
  s.pushReq (reqOf vi loc rem msg (msgPkt hdr 1 flVoid msg ofs) none 0 [] false)

/-- The SIGNAL of a put-with-signal, or a signal of its own (R330): one packet of 8 bytes. -/
def State.startSignal (s : State) (loc rem vi desc : Nat) (hdr : Bytes) (value : Bytes) : State :=
  let m : TxMsg := { id := 0, vi := vi, desc := desc, kind := .signal, len := 8, hdr := hdr, laddr := 0, keys := 0,
                     fence := false, ofs := 8, paced := none, reads := [], fetching := false, status := none, seqs := [],
                     allSent := false, announced := false, granted := 0 }
  let (s, id) := s.newMsg loc rem m
  s.pushReq (reqOf vi loc rem id (msgPkt hdr 1 (flFirst + flLast) id 0) none 8 (padTo value 8) true)

/-- An adopted message completes to the CPLQ of its MSG record, while its VI is ON here and the queue is live (R574). -/
def State.endAdopted (s : State) (m : TxMsg) (status : Nat) : State :=
  let q := beAt m.adopt 4 1 % 64
  let s := if status = stOk then s.bump (lanyPg 0) 6 1 else s.bump (lanyPg 0) 7 (b2n (decide (status = stPeerReset)))
  if s.viState m.vi = viOn ∧ s.cqLive m.vi q = true then
    s.postCompletion m.vi q (cplBytes status (beAt m.adopt 5 1) (beAt m.adopt 1 1) (beAt m.adopt 8 8) [])
  else s.bump (lanyPg 0) 8 1

/-- A message ends with a status: its waiting packets go, a granted one turning into VOID, and its descriptor completes;
a put-with-signal that ended OK goes on with its SIGNAL (R298 R308 R330). -/
def State.endMsg (s : State) (loc rem : Nat) (m : TxMsg) (status : Nat) : State :=
  let u := s.unitOf loc rem
  let s := s.updTx loc rem (fun h => { h with msgs := delFirst (fun x => decide (x.id = m.id)) h.msgs, idleSince := s.nowTick })
  let mine := (s.xpt u).waiting.filter (fun e => e.ofMsg loc rem m.id)
  let s := s.updXpt u (fun x => { x with waiting := x.waiting.filter (fun e => !e.ofMsg loc rem m.id || pkVoid e.pkt) })
  let s := mine.foldl (fun s e =>
    if pkGranted e.pkt && !pkVoid e.pkt then s.pushVoid e.vi loc rem m.id (pkOfs e.pkt) m.hdr else s) s
  let s := s.bump (xptPg u 0) (if status = stOk then 5 else 6) 1
  if m.adopt ≠ [] then s.endAdopted m status
  else
  match m.kind, s.desc m.vi m.desc with
  | .putSignal, some d =>
    if status = stOk then
      let ulp := beBytes 1 0x13 ++ beBytes 1 (leAt d.bytes 0x2A 1) ++ beBytes 4 (leAt d.bytes 0x2C 4) ++
        beBytes 6 (leAt d.bytes 0x30 6 / 8 * 8)
      s.startSignal loc rem m.vi m.desc (patch m.hdr 0x34 ulp) (slice d.bytes 0x38 8)
    else s.complete m.vi m.desc status []
  | _, _ => s.complete m.vi m.desc status []

/-- The answers a message waits for have all come (R298 R329 R331). -/
def TxMsg.answered (m : TxMsg) : Bool :=
  match m.kind with
  | .get => m.allSent && m.reads.isEmpty
  | .fetch => m.allSent && !m.fetching
  | _ => m.allSent && m.seqs.isEmpty

/-- Messages whose answers have all come complete, with the status noted first or OK (R298). -/
def State.endAnswered (s : State) (loc rem : Nat) : State :=
  match s.txOf loc rem with
  | none => s
  | some h => (h.msgs.filter TxMsg.answered).foldl (fun s m => s.endMsg loc rem m (m.status.getD stOk)) s

/-- The reverse direction has brought every notice that an ACK speaks of; an absent receive half has passed nothing
(R298). -/
def State.noteOk (s : State) (loc rem : Nat) (note : Option Nat) : Bool :=
  match note with
  | none => true
  | some n =>
    (match s.rxOf loc rem with
     | some r => !serLt 24 r.rcvNext n
     | none => decide (n = 0)) &&
      !(s.xpt (s.unitOf loc rem)).presented.any (fun p => decide (pkType p = 6 ∧ pkLoc p = loc ∧ pkRem p = rem))

/-- Applies the ACKs whose notices have all arrived: their DONE_NEXT passes the packets below it (R298). -/
def State.applyAcks (s : State) (loc rem : Nat) : State :=
  match s.txOf loc rem with
  | none => s
  | some h =>
    let ok := h.acks.filter (fun a => s.noteOk loc rem a.2)
    let s := s.updTx loc rem (fun h =>
      { h with acks := h.acks.filter (fun a => !s.noteOk loc rem a.2),
               msgs := h.msgs.map (fun m =>
                 { m with seqs := m.seqs.filter (fun q => !ok.any (fun a => serLt 24 q a.1)) }) })
    s.endAnswered loc rem

/-! Closing and ending (R275-R277 R299-R303). -/

/-- A packet of a class may go now. -/
def State.mayFlush (s : State) (loc rem cls : Nat) : Bool :=
  match s.txOf loc rem with
  | none => false
  | some h => !decide (h.state = .closing) && s.windowOk (s.unitOf loc rem) cls h && s.ceilOk loc h && !s.heldBy cls rem

/-- The transmit half is gone: the reopen delay starts, and the record may be free (R273 R275). -/
def State.closedTx (s : State) (loc rem : Nat) : State :=
  let u := s.unitOf loc rem
  let own := match s.ctx loc rem with | some c => !c.adopted | none => true
  let s := if own then s else
    (s.updXpt u (fun x => { x with waiting := x.waiting.filter (fun e => !decide (e.loc = loc ∧ e.rem = rem)) })).fput
      (lanyPg 0) 0x50 19 0 (s.fget (lanyPg 0) 0x50 19 0 - 1)
  let s := s.updCtx loc rem (fun c => { c with tx := none })
  let s := s.updXpt u (fun x =>
    { x with closed := (x.closed.filter (fun e => !decide (e.1 = loc ∧ e.2.1 = rem))) ++ [(loc, rem, s.nowTick)] })
  (s.bump (xptPg u 0) 15 1).freeCtx loc rem

/-- The receive half is freed; but for a replacement, a tombstone stays (R274 R277). What its end means to the upper
layers is noted for `settle`. -/
def State.dropRx (s : State) (loc rem : Nat) (replaced : Bool) : State :=
  let u := s.unitOf loc rem
  match s.rxOf loc rem with
  | none => s
  | some r =>
    s.updCtx loc rem (fun c =>
      { c with rx := none, tomb := if replaced then c.tomb else some (s.cgenNow, s.nowTick + s.tombTicks u),
               passed := some (r.rcvNext, s.nowTick) })

/-- A receive half ends under R274 step 4, R299-R301 or, GAPPED, by its CLOSE (R368 R573). -/
def State.endRx (s : State) (loc rem : Nat) (replaced : Bool) : State :=
  match s.rxOf loc rem with
  | none => s
  | some r =>
    (s.updXpt (s.unitOf loc rem) (fun x => { x with ended := x.ended ++ [(loc, rem, r.cgen)] })).dropRx loc rem replaced

/-- A direction ends with a status: every incomplete message of the transmit half ends with it, the half closes without
CLOSE, its tokens and held packets are released (R299-R301). -/
def State.endHalf (s : State) (loc rem status : Nat) : State :=
  match s.txOf loc rem with
  | none => s
  | some h =>
    let u := s.unitOf loc rem
    let s := h.msgs.foldl (fun s m => s.endMsg loc rem m status) s
    let s := s.updXpt u (fun x => { x with waiting := x.waiting.filter (fun e => !decide (e.loc = loc ∧ e.rem = rem)) })
    let s := s.endRx loc rem false
    (s.updXpt u (fun x => { x with ended := x.ended ++ [(loc, rem, 65536)] })).closedTx loc rem

/-- A direction ends with a status, whether or not its transmit half is open (R299). -/
def State.endDir (s : State) (loc rem status : Nat) : State :=
  match s.txOf loc rem with
  | some _ => s.endHalf loc rem status
  | none =>
    ((s.updXpt (s.unitOf loc rem) (fun x =>
      { x with waiting := x.waiting.filter (fun e => !decide (e.loc = loc ∧ e.rem = rem)),
               ended := x.ended ++ [(loc, rem, 65536)] })).endRx loc rem false).freeCtx loc rem

/-- TRANSPORT_TIMEOUT: the direction ends, and a RESET naming the peer's direction is sent (R283 R301). -/
def State.timeoutHalf (s : State) (loc rem : Nat) : State :=
  let u := s.unitOf loc rem
  let cgen := match s.rxOf loc rem with
    | some r => r.cgen
    | none => match s.txOf loc rem with
      | some h => h.cgen
      | none => 0
  (((s.raise (xptPg u 0) 18).bump (xptPg u 0) 7 1).endHalf loc rem stTimeout).sendReset loc rem cgen

/-- A packet has been sent as often as RETRY_MAX allows, or has been unacknowledged too long (R283). -/
def State.exhausted (s : State) (u : Nat) (p : UPkt) : Bool :=
  decide (s.retryMax u ≤ p.copies ∨ p.first + p.heldTicks + s.giveupTicks u ≤ s.nowTick)

/-- A retransmission: held by a commit, ended by an unreachable peer or by the limits, or sent (R283 R284 R299 R302). -/
def State.resend (s : State) (loc rem : Nat) (p : UPkt) (ctr : Nat) : State :=
  let u := s.unitOf loc rem
  if s.heldBy (pkClass p.pkt) rem then s
  else if s.noRoute loc rem then s.endHalf loc rem stUnreachable
  else if s.exhausted u p then s.timeoutHalf loc rem
  else
    let s := s.updTx loc rem (fun h =>
      { h with unacked := updFirst (fun q => decide (q.seq = p.seq)) (fun q =>
          { q with copies := q.copies + 1, last := s.nowTick, stalled := 0,
                   interval := if ctr = 1 then min (2 * q.interval) (s.rtoMax u) else q.interval }) h.unacked })
    let s := if agKind loc = 0 ∧ pkType p.pkt ≠ 7 then s.bumpVf (viOf (agPort loc) (pkSrcVi p.pkt)) 9 1 else s
    ((s.bump (xptPg u 0) ctr 1).noteCopy loc rem true).sendCopy loc rem p.pkt true

/-- A half with nothing unacknowledged and nothing to do (R275). -/
def State.txIdle (s : State) (loc rem : Nat) : Bool :=
  match s.ctx loc rem with
  | none => false
  | some c =>
    match c.tx with
    | none => false
    | some h => !decide (h.state = .closing) && h.unacked.isEmpty && h.msgs.isEmpty &&
        !(s.xpt (s.unitOf loc rem)).waiting.any (fun e => decide (e.loc = loc ∧ e.rem = rem))

/-- A CLOSE takes the next sequence number; toward an unreachable peer the half closes without it (R275 R299). -/
def State.sendClose (s : State) (loc rem : Nat) : State :=
  if s.noRoute loc rem then s.endHalf loc rem stUnreachable
  else
  let s := s.sendNew loc rem (s.hdr 3 loc rem 0 ++ wiluthHdr 7 0 0 0 0 0 [])
  s.updTx loc rem (fun h => { h with state := .closing })

/-- Marks idle halves' start of idleness. -/
def State.touchIdle (s : State) (loc rem : Nat) : State :=
  s.updTx loc rem (fun h => { h with idleSince := s.nowTick })

/-- For want of a record, the least recently used idle half of the unit sends its CLOSE (R272 R275). -/
def State.closeLru (s : State) (u : Nat) : State :=
  match argMin (fun (c : Ctx) => (c.tx.map TxHalf.idleSince).getD 0)
      ((s.xpt u).ctxs.filter (fun c => s.txIdle c.loc c.rem && s.mayFlush c.loc c.rem 3)) with
  | some c => s.sendClose c.loc c.rem
  | none => s

/-! The unit's own packets: grants, notices and collective packets. They wait in the unit until they may go (R278 R302
R304). -/

/-- What holds a waiting packet back. -/
inductive Held where
  | free | shaper | window | ceiling | allowance | record | other
deriving DecidableEq, Repr

/-- The first time that a waiting packet is held back in a way, the wait is counted (R304 R308 R542 R566). -/
def State.countWait (s : State) (u : Nat) (e : TxReq) (w : Held) : State :=
  let mark (f : TxReq → TxReq) (s : State) : State :=
    s.updXpt u (fun x => { x with waiting := updFirst (fun d => decide (d = e)) f x.waiting })
  match w with
  | .shaper => if e.waited then s else mark (fun d => { d with waited := true }) (s.bump (viPg e.vi) (4 * e.cls + 1) 1)
  | .window => if e.windowed then s else mark (fun d => { d with windowed := true }) (s.bump (xptPg u 0) 11 1)
  | .ceiling => if e.ceiled then s else mark (fun d => { d with ceiled := true }) (s.bump (lanyPg 0) 2 1)
  | .allowance => if e.allowed then s else mark (fun d => { d with allowed := true }) (s.bump (xptPg u 0) 9 1)
  | .record => if e.late then s else mark (fun d => { d with late := true }) (s.bump (xptPg u 0) 12 1)
  | .free => s
  | .other => s

/-- Tests a waiting packet of the unit's own. -/
def State.heldOwn (s : State) (e : TxReq) : Held :=
  match s.openTx e.loc e.rem with
  | none => .record
  | some s' =>
    match s'.txOf e.loc e.rem with
    | none => .record
    | some h =>
      if !s.windowOk (s.unitOf e.loc e.rem) (pkClass e.pkt) h then .window
      else if !s.ceilOk e.loc h then .ceiling
      else if s.heldBy (pkClass e.pkt) e.rem then .other
      else .free

/-- Sends one of the unit's own packets; a collective packet is a message of its own and takes the next MSG_ID (R266). -/
def State.sendNumbered (s : State) (loc rem : Nat) (p : Bytes) : State :=
  match s.txOf loc rem with
  | some h =>
    if pkType p = 1 then
      (s.updTx loc rem (fun h => { h with nextMsg := wrapAdd 32 h.nextMsg 1 })).sendNew loc rem (patch p 0x2C (beBytes 4 h.nextMsg))
    else s.sendNew loc rem p
  | none => s

/-- Sends the unit's own packets of a direction that wait, in order, while nothing holds them; RSP and CTL packets never
wait behind a COLL packet (`data`, `rest`: one of the kind is held). A NOTICE disposes of the packet it names once it has
its sequence number (R278 R297 R302). -/
def State.flushQ (u loc rem : Nat) : List TxReq → Bool → Bool → State → State
  | [], _, _, s => s
  | e :: t, data, rest, s =>
    let bulk := decide (pkClass e.pkt = 0 ∨ pkClass e.pkt = 2)
    if (if bulk then data else rest) then State.flushQ u loc rem t data rest s
    else if s.heldOwn e = .free then
      match s.openTx loc rem with
      | none => s
      | some s =>
        let s := (s.updXpt u (fun x => { x with waiting := delFirst (fun d => decide (d = e)) x.waiting })).sendNumbered loc rem e.pkt
        State.flushQ u loc rem t data rest (if pkType e.pkt = 6 then s.dispose loc rem (pkUlp e.pkt 0x10 3) else s)
    else State.flushQ u loc rem t (data || bulk) (rest || !bulk) (s.countWait u e (s.heldOwn e))

/-- The unit's own packets of a direction that may go; toward an unreachable peer the direction ends instead (R299). -/
def State.flush (s : State) (loc rem : Nat) : State :=
  let u := s.unitOf loc rem
  let own := (s.xpt u).waiting.filter (fun e => decide (e.cls = 2 ∧ e.loc = loc ∧ e.rem = rem))
  if own.isEmpty then s
  else if s.noRoute loc rem then
    (s.bump (xptPg u 0) 8 (own.filter (fun e => decide (pkType e.pkt = 1))).length).endDir loc rem stUnreachable
  else State.flushQ u loc rem own false false s

/-- A sequenced packet of the unit's own: GRANT, NOTICE, or a collective packet. For want of a record, the least recently
used idle half of the unit closes (R272 R275 R304). -/
def State.sendOwn (s : State) (loc rem : Nat) (pkt : Bytes) : State :=
  let u := s.unitOf loc rem
  let s := if (s.ctx loc rem).isNone && s.ctxFull u && !s.reopenWait loc rem then s.closeLru u else s
  (s.pushReq { vi := 0, cls := 2, loc := loc, rem := rem, msg := 0, pkt := pkt, read := none, data := [], last := true,
               waited := false, windowed := false, ceiled := false }).flush loc rem

/-- A NOTICE for a packet with a status (R297). -/
def State.sendNotice (s : State) (pkt : Bytes) (status : Nat) : State :=
  let loc := pkLoc pkt
  let rem := pkRem pkt
  let w := wiluthHdr 6 0 (pkDstVi pkt) (pkSrcVi pkt) (pkMsg pkt) 0 []
  let p := patch (s.hdr 1 loc rem 0 ++ w) 0x30 (beBytes 3 (pkSeq pkt) ++ beBytes 1 status)
  (s.bump (xptPg (s.unitOf loc rem) 1) 7 1).sendOwn loc rem p

/-- A GRANT for a message of the opposite direction (R268 R291 R294). -/
def State.sendGrant (s : State) (loc rem vi srcVi msg ofs len status : Nat) : State :=
  let w := wiluthHdr 3 0 (vi % 256) srcVi msg ofs (beBytes 2 len ++ beBytes 1 status)
  s.sendOwn loc rem (s.hdr 1 loc rem 0 ++ w)

/-- What an ACK says of the notices of the reverse direction. With the receive half gone, NOTE_NEXT has been passed when it
is where that half ended, or when the ACK left before the direction could reopen (R298). -/
def State.noteOf (s : State) (loc rem : Nat) (pkt : Bytes) : Option Nat :=
  let n := beAt pkt 0x38 3
  if !bit (beAt pkt 0x21 1) 0 then none
  else
    match s.rxOf loc rem, (s.ctx loc rem).bind Ctx.passed with
    | none, some (q, t) => if n = q ∨ serLt 32 (pkTxTick pkt) ((t + 256) % 2 ^ 32) = true then none else some n
    | _, _ => some n

/-- A round-trip sample, when the packet that triggered the ACK had RETX = 0. An ACK names it by ECHO alone: where copies of
both kinds left in that tick, which of them it was is free (R282). -/
def State.rttSample (s : State) (h : TxHalf) (echo : Nat) : Option Nat × State :=
  let left (retx : Bool) : Bool := h.sent.any (fun e => decide (e.1 % 65536 = echo ∧ s.nowTick < e.1 + 65536 ∧ e.2 = retx))
  let r := some (wrapSub 16 (s.nowTick % 65536) echo)
  if !left false then (none, s)
  else if !left true then (r, s)
  else
    let (f, s) := s.free
    (if f % 2 = 0 then none else r, s)

/-- An ACK reaches the transmit half its CGEN names (R281 R282 R298). -/
def State.rxAck (s : State) (pkt : Bytes) : State :=
  let loc := pkLoc pkt
  let rem := pkRem pkt
  let u := s.unitOf loc rem
  let s := s.bump (xptPg u 0) 3 1
  match s.txOf loc rem with
  | none => s
  | some h =>
    if h.cgen ≠ beAt pkt 0x22 2 then s
    else
      let done := beAt pkt 0x24 3
      let rcv := beAt pkt 0x28 3
      let ofs := fld (beAt pkt 0x2C 2) 9 0
      let echo := beAt pkt 0x2E 2
      let sack := beAt pkt 0x30 8
      let note := s.noteOf loc rem pkt
      let got (q : Nat) : Bool :=
        let i := wrapSub 24 q (wrapAdd 24 rcv ofs)
        serLt 24 q rcv || (decide (i < 64) && bit sack i)
      let newly := h.unacked.filter (fun p => got p.seq)
      let left := h.unacked.filter (fun p => !got p.seq)
      let freed := h.gone ++ newly.map (fun p => (p.seq, p.last))
      let latest := (freed.filter (fun g => got g.1)).foldl (fun a g => max a g.2) 0
      let (sample, s) := s.rttSample h echo
      let s := s.updTx loc rem (fun h =>
        let h := { h with unacked := left, acks := h.acks ++ [(done, note)],
                          gone := freed.filter (fun g => left.any (fun p => decide (p.last < g.2))),
                          state := if h.state = .closing then .closing else .opened }
        match sample with
        | none => h
        | some r =>
          let srtt := h.srtt8 / 8
          let dev := if srtt ≤ r then r - srtt else srtt - r
          { h with rttvar4 := h.rttvar4 - h.rttvar4 / 4 + dev, srtt8 := h.srtt8 - h.srtt8 / 8 + r })
      let s := s.touchIdle loc rem
      let s := (left.filter (fun p => decide (p.last + s.reorderTk u ≤ latest))).foldl (fun s p =>
          match s.txOf loc rem with
          | none => s
          | some _ => s.resend loc rem p 2) s
      let s := s.applyAcks loc rem
      let closed := decide (h.state = .closing) && newly.any (fun p => decide (pkType p.pkt = 7))
      if closed then
        match s.ctx loc rem with
        | none => s
        | some c =>
          if c.adopted then
            let s := h.msgs.foldl (fun s m => if ((s.txOf loc rem).bind (fun t => t.msg m.id)).isSome then s.endMsg loc rem m stPeerReset else s) s
            let s := match c.rx with
              | some r => s.sendReset loc rem r.cgen
              | none => s
            (s.dropRx loc rem false).closedTx loc rem
          else s.closedTx loc rem
      else s.flush loc rem

/-- A RESET ends the open transmit half that it names (R300). -/
def State.rxReset (s : State) (pkt : Bytes) : State :=
  let loc := pkLoc pkt
  let rem := pkRem pkt
  let u := s.unitOf loc rem
  let s := s.bump (xptPg u 1) 9 1
  match s.txOf loc rem with
  | none => s
  | some h => if h.cgen = pkCgen pkt then (s.raise (xptPg u 0) 17).endHalf loc rem stPeerReset else s

/-! Arrival of sequenced packets (R274 R279 R285-R287 R573). -/

/-- Packets held in the resequencing store of a unit (R287). -/
def State.reseqUsed (s : State) (u : Nat) : Nat :=
  (s.xpt u).ctxs.foldl (fun n c => n + (match c.rx with | some r => r.held.length | none => 0)) 0

/-- RCV_NEXT passes every received sequence number. -/
def RxHalf.advance (r : RxHalf) : Nat → RxHalf
  | 0 => r
  | f + 1 =>
    if r.rcvNext ∈ r.received then
      RxHalf.advance { r with rcvNext := wrapAdd 24 r.rcvNext 1,
                              received := delFirst (fun q => decide (q = r.rcvNext)) r.received } f
    else r

/-- A packet that the receiving unit hands to an upper-layer unit, or to itself: not CLOSE, VOID or a gap fill. -/
def pkPresents (p : Bytes) : Bool := decide (pkType p ≠ 7) && !pkVoid p

/-- Presents a packet (R286): it awaits its upper-layer unit; eager payload counts against the next tick's clearances
(R292), and an INTENT announces its message (R291). An adopted context takes only responses, grants and notices (R574). -/
def State.present (s : State) (u : Nat) (pkt : Bytes) : State :=
  let loc := pkLoc pkt
  let rem := pkRem pkt
  let adopted := match s.ctx loc rem with | some c => c.adopted | none => false
  let s := s.updRx loc rem (fun r => { r with undisposed := r.undisposed ++ [pkSeq pkt] })
  if adopted && !(decide (pkType pkt = 3 ∨ pkType pkt = 6) || (decide (pkType pkt = 1) &&
      decide (pkOpcode pkt = 0x12 ∨ pkOpcode pkt = 0x15))) then s.sendNotice pkt stUnreachable
  else
    let s := if pkEager pkt && decide (agKind loc = 0) then
        s.updXpt u (fun x => { x with eager := Tab.upd (fun _ => 0) x.eager (agPort loc % 2) (· + pkLen pkt) }) else s
    let s := s.updRx loc rem (fun r =>
      if pkType pkt = 1 ∧ pkClass pkt = 0 then
        { r with openMsgs := if pkLast pkt then r.openMsgs.filter (fun m => decide (m ≠ pkMsg pkt))
                             else if pkMsg pkt ∈ r.openMsgs then r.openMsgs else r.openMsgs ++ [pkMsg pkt] }
      else r)
    let s := if pkType pkt = 2 ∧ agKind loc = 0 then
        s.updRx loc rem (fun r => { r with anns := r.anns ++
          [{ msg := pkMsg pkt, vi := viOf (agPort loc) (pkDstVi pkt), len := pkOfs pkt, intent := pkt, accepted := false,
             granted := 0, limit := 0, refuse := none, tokens := [], since := s.nowTick * 2048 + s.nowCc, past := false }] })
      else s
    s.updXpt u (fun x => { x with presented := x.presented ++ [pkt] })

/-- Clearance tokens that an accepted packet brings back (R293 R295): a granted packet's, data or VOID, and that of the
read request a response answers. -/
def State.returnToken (s : State) (u : Nat) (pkt : Bytes) : State :=
  let loc := pkLoc pkt
  let rem := pkRem pkt
  if pkType pkt = 1 && pkGranted pkt then
    let s := s.bump (xptPg u 2) (4 * (agPort loc % 2) + 2) (b2n (pkVoid pkt))
    s.updRx loc rem (fun r =>
      let r := { r with anns := r.anns.map (fun a =>
                   if a.msg = pkMsg pkt then { a with tokens := delFirst (fun o => decide (o = pkOfs pkt)) a.tokens } else a) }
      if pkVoid pkt then r.prune else r)
  else if pkType pkt = 1 ∧ pkOpcode pkt = 0x12 then
    s.updMsg loc rem (pkUlp pkt 0x16 4) (fun m =>
      { m with reads := updFirst (fun q => decide (q.ofs = pkOfs pkt)) (fun q => { q with token := false }) m.reads })
  else s

/-- Held packets that RCV_NEXT has passed are presented in sequence order (R286). -/
def State.releaseHeld (s : State) (u loc rem : Nat) : Nat → State
  | 0 => s
  | f + 1 =>
    match s.rxOf loc rem with
    | none => s
    | some r =>
      match argMin (fun p => wrapSub 24 (pkSeq p) (wrapAdd 24 r.rcvNext (2 ^ 23))) (r.held.filter (fun p => serLt 24 (pkSeq p) r.rcvNext)) with
      | none => s
      | some p =>
        State.releaseHeld ((s.updRx loc rem (fun r => { r with held := delFirst (fun q => decide (q = p)) r.held })).present u p)
          u loc rem f

/-- After RCV_NEXT has moved: held packets, the messages that waited for notices, and the CLOSE that it has passed
(R275 R286 R298 R573). -/
def State.afterAdvance (s : State) (u loc rem : Nat) (trigger : Bytes) (ackNow : Bool) : State :=
  match s.rxOf loc rem with
  | none => s
  | some r =>
    let s := (s.releaseHeld u loc rem r.held.length).applyAcks loc rem
    let passed := match r.closeSeq with | some q => serLt 24 q r.rcvNext | none => false
    let s := if passed || ackNow then s.sendAck loc rem (some trigger) else s
    if passed then (if r.gapped then s.endRx loc rem false else s.dropRx loc rem false).freeCtx loc rem else s

/-- A sequenced packet of the receive half's own generation is classified against the window (R279). -/
def State.rxWindow (s : State) (u : Nat) (pkt : Bytes) : State :=
  let loc := pkLoc pkt
  let rem := pkRem pkt
  match s.rxOf loc rem with
  | none => s
  | some r =>
    let d := wrapSub 24 (pkSeq pkt) r.rcvNext
    let gap := decide (pkType pkt = 1) && pkVoid pkt && !pkGranted pkt
    let seqs := if gap then (List.range (min 1024 (max 1 (pkOfs pkt)))).map (fun i => wrapAdd 24 (pkSeq pkt) i) else [pkSeq pkt]
    let fresh := seqs.filter (fun q => decide (wrapSub 24 q r.rcvNext < 1024) && !r.has q)
    let pg := xptPg u 1
    if 1024 ≤ d ∧ d < 2 ^ 23 then (s.raise (xptPg u 0) 21).bump pg 3 1
    else if fresh.isEmpty then (s.bump pg 2 1).sendAck loc rem (some pkt)
    else if pkOrd pkt && decide (0 < d) && decide (s.fget pg 0x40 16 0 ≤ s.reseqUsed u) then
      (s.raise (xptPg u 0) 20).bump pg 5 1
    else
      let s := s.bump pg 0 1
      let s := if agKind loc = 0 ∧ pkType pkt ≠ 7 then
          (s.bumpVf (viOf (agPort loc) (pkDstVi pkt)) 7 1).bumpVf (viOf (agPort loc) (pkDstVi pkt)) 8 (ceilDiv (pkLen pkt) 64) else s
      let s := s.updRx loc rem (fun r =>
        (RxHalf.advance { r with received := r.received ++ fresh, gapped := r.gapped || gap, ackDue := true,
                                 inOrder := if d = 0 then r.inOrder + 1 else r.inOrder,
                                 closeSeq := if pkType pkt = 7 then some (pkSeq pkt) else r.closeSeq } 2048))
      let s := s.returnToken u pkt
      let s :=
        if !pkPresents pkt then s
        else if pkOrd pkt && decide (0 < d) then
          (s.updRx loc rem (fun r => { r with held := r.held ++ [pkt] })).bump pg 4 1
        else s.present u pkt
      let n := match s.rxOf loc rem with | some r => r.inOrder | none => 0
      s.afterAdvance u loc rem pkt (decide (0 < d) || pkLast pkt || decide (s.ackEvery u ≤ n))

/-- The first six steps of R274 for a packet that reaches its XPT unit. -/
def State.rxWiluth (s : State) (pkt : Bytes) : State :=
  let rel := s.relPlane pkt
  let loc := pkLoc pkt
  let rem := pkRem rel
  let u := s.xptOf pkt
  let past := decide (pkt ∈ (s.xpt u).overLany)
  let s := s.updXpt u (fun x => { x with arrived := delFirst (fun p => decide (p = pkt)) x.arrived,
                                         overLany := delFirst (fun p => decide (p = pkt)) x.overLany })
  if e2eCrc pkt ≠ pkCrc pkt ∨ pkVer pkt ≠ 1 ∨ 4096 < pkLen pkt ∨ pkType pkt = 0 ∨ 7 < pkType pkt then
    (s.raise (xptPg u 0) 16).bump (xptPg u 1) 1 1
  else
    let pkt := rel
    let s := if past then s.updCtx loc rem (fun c => { c with crossed := true }) else s
    if pkType pkt = 4 then s.rxAck pkt
    else if pkType pkt = 5 then s.rxReset pkt
    else
      let newRx (s : State) : State := s.updCtx loc rem (fun c =>
        { c with crossed := c.crossed || past,
                 passed := none,
                 rx := some { cgen := pkCgen pkt, rcvNext := 0, received := [], held := [], undisposed := [],
                              closeSeq := none, ackDue := false, inOrder := 0, anns := [], openMsgs := [], rejected := [],
                              gapped := false } })
      let refuse (s : State) : State :=
        if pkType pkt = 7 then s.ackClose pkt else s.answerReset pkt
      match s.rxOf loc rem with
      | some r =>
        if pkCgen pkt = r.cgen then s.rxWindow u pkt
        else if serLt 16 r.cgen (pkCgen pkt) then
          if pkSyn pkt then ((newRx (s.endRx loc rem true)).bump (xptPg u 1) 10 1).rxWindow u pkt else refuse s
        else s
      | none =>
        if !pkSyn pkt then refuse s
        else
          match s.ctx loc rem with
          | some c =>
            let buried := match c.tomb with
              | some (g, t) => decide (s.nowTick < t) && !serLt 16 g (pkCgen pkt)
              | none => false
            if buried then s.bump (xptPg u 1) 12 1 else ((newRx s).bump (xptPg u 1) 10 1).rxWindow u pkt
          | none =>
            if s.ctxFull u then ((s.closeLru u).raise (xptPg u 0) 19).bump (xptPg u 1) 11 1
            else
              ((newRx (s.updXpt u (fun x => { x with ctxs := x.ctxs ++ [newCtx loc rem] }))).bump (xptPg u 1) 10 1).rxWindow u pkt

/-! Presented packets. -/

/-- The first presented packet of a unit that a handler takes, and the state without it. -/
def State.takePresented (s : State) (u : Nat) (f : Bytes → Bool) : Option (Bytes × State) :=
  match (s.xpt u).presented.find? f with
  | none => none
  | some p => some (p, s.updXpt u (fun x => { x with presented := delFirst (fun q => decide (q = p)) x.presented }))

/-- A presented packet of a unit has its turn: no earlier packet of its direction precedes it, so that each direction's
packets are handled in the order of their presentation (R286). -/
def State.ordered (s : State) (u : Nat) (p : Bytes) : Bool :=
  decide ((s.xpt u).presented.find? (fun q => decide (pkLoc q = pkLoc p ∧ pkRem q = pkRem p)) = some p)

/-- What holds the slot of a packet that has been handed to a unit. -/
def pktHold (p : Bytes) : List Nat := [0, pkLoc p, pkRem p, pkSeq p]

/-- The first presented packet of a unit that `sel` takes is handed over the rings to the stop `tgt` as an L0 request with
its payload (R470), whose slot it holds until it is disposed of; while no slot is free it stays presented. -/
def State.handPresented (s : State) (u : Nat) (sel : Bytes → Bool) (tgt : Bytes → Nat) (f : State → Bytes → State) : State :=
  match (s.xpt u).presented.find? sel with
  | none => s
  | some p =>
    let r := s.nocHand (xptStop u) (tgt p) 0 true (pkPayload p).length (pktHold p)
    if r.1 then f (r.2.updXpt u (fun x => { x with presented := delFirst (fun q => decide (q = p)) x.presented })) p else r.2

/-- The packet has been handled: disposed of without a NOTICE. -/
def State.disposePkt (s : State) (pkt : Bytes) : State :=
  let s := s.nocAnswer (pktHold pkt)
  match s.rxOf (pkLoc pkt) (pkRem pkt) with
  | some r => if r.cgen = pkCgen pkt then s.dispose (pkLoc pkt) (pkRem pkt) (pkSeq pkt) else s
  | none => s

/-- The packet is rejected with a status: a NOTICE (R297), after which it is disposed of. -/
def State.rejectPkt (s : State) (pkt : Bytes) (status : Nat) : State :=
  let s := s.nocAnswer (pktHold pkt)
  match s.rxOf (pkLoc pkt) (pkRem pkt) with
  | some r => if r.cgen = pkCgen pkt then s.sendNotice pkt status else s
  | none => s

/-- VI that a packet addresses, of the host port it came to. -/
def pkVi (pkt : Bytes) : Nat := viOf (agPort (pkLoc pkt)) (pkDstVi pkt)

/-- The status with which the state of its VI rejects a packet (R297 R457). -/
def State.viRejects (s : State) (pkt : Bytes) : Option Nat :=
  let st := s.viState (pkVi pkt)
  if st = viOn then none else if st = viStopping then some stViStopping else some stUnreachable

/-- Changes the announced message of a presented packet. -/
def State.updAnn (s : State) (loc rem msg : Nat) (f : Ann → Ann) : State :=
  s.updRx loc rem (fun r => { r with anns := updFirst (fun a => decide (a.msg = msg)) f r.anns })

def State.annOf (s : State) (loc rem msg : Nat) : Option Ann :=
  (s.rxOf loc rem).bind (fun r => r.anns.find? (fun a => decide (a.msg = msg)))

/-- A cycle of a tick, for eligibility (R291). -/
def State.moment (s : State) : Nat := s.nowTick * 2048 + s.nowCc

/-- An announced message is refused with a status: the next clearance run sends the refusing GRANT, once (R294 R328). -/
def State.refuseAnn (s : State) (loc rem msg status : Nat) : State :=
  s.updAnn loc rem msg (fun a =>
    if a.past && a.refuse.isSome then a
    else { a with accepted := false, past := false, refuse := some (a.refuse.getD status) })

/-- A message that has been refused already. -/
def State.annRefused (s : State) (loc rem msg : Nat) : Bool :=
  match s.annOf loc rem msg with
  | some a => a.refuse.isSome
  | none => false

/-- An announced message is accepted for up to `limit` bytes, and its INTENT counted (R291 R308 R359 R361). -/
def State.acceptAnn (s : State) (loc rem msg limit : Nat) : State :=
  let first := match s.annOf loc rem msg with
    | some a => !a.accepted && a.refuse.isNone && !a.past
    | none => false
  let s := s.bump (xptPg (agPort loc / 2) 2) (4 * (agPort loc % 2)) (b2n first)
  s.updAnn loc rem msg (fun a =>
    if limit = 0 then { a with refuse := some stOk, limit := 0 }
    else { a with accepted := true, limit := limit, since := s.moment })

/-! VI shapers (18 R528-R534). -/

/-- EN of VI shaper (v, c), which takes effect at cc 0 (R534), and its LEVEL. -/
def State.shaperOn (s : State) (v c : Nat) : Bool := bit (s.cfg (viPg v) (0x800 + 16 * c)) 31
def State.shaperLevel (s : State) (v c : Nat) : Int := signed 32 (s.get (viPg v) (0x808 + 16 * c))

/-- The shaper admits a packet or segment now (R530). -/
def State.shaperAdmits (s : State) (v c : Nat) : Bool := !s.shaperOn v c || decide (0 ≤ s.shaperLevel v c)

/-- An admitted packet or segment of `n` cells is charged (R528 R530 R542). -/
def State.shaperCharge (s : State) (v c n : Nat) : State :=
  if s.shaperOn v c then
    (s.put (viPg v) (0x808 + 16 * c) (unsigned 32 (s.shaperLevel v c - (64 * n : Nat)))).bump (viPg v) (4 * c) n
  else s

/-! Starting a message from a descriptor (R273 R288-R290 R299 R304). -/

/-- What stands in the way of a message to a peer. -/
inductive Start where
  /-- it may start -/
  | go
  /-- no route, or a crossed context: refused with UNREACHABLE -/
  | refuse
  /-- a limit holds it back; the XPT page 0 counter that counts it -/
  | defer (ctr : Nat)
  /-- 64 messages of the VI already wait (R536) -/
  | full
deriving DecidableEq, Repr

/-- Distinct messages of a VI and class that wait for their shaper (R536). -/
def State.waitingMsgs (s : State) (v cls : Nat) : Nat :=
  ((((s.xpt (viPort v / 2)).waiting.filter (fun e => decide (e.vi = v ∧ e.cls = cls) && !pkVoid e.pkt)).map
    (fun e => (e.loc, e.rem, e.msg))).eraseDups).length

/-- Tests a message of `eager` eager packets, or an announced one, against the limits of its half. -/
def State.canStart (s : State) (v loc rem eager : Nat) (announced : Bool) : Start :=
  let u := s.unitOf loc rem
  let crossed := match s.ctx loc rem with | some c => c.crossed || c.adopted | none => false
  if crossed || s.unreachable rem then .refuse
  else
    match s.openTx loc rem with
    | none => .defer 12
    | some s' =>
      match s'.txOf loc rem with
      | none => .defer 12
      | some h =>
        let used := (h.unacked.filter (fun p => pkEager p.pkt)).length +
          ((s.xpt u).waiting.filter (fun e => decide (e.cls = 0 ∧ e.loc = loc ∧ e.rem = rem) && pkEager e.pkt)).length
        let open' := (h.msgs.filter (fun m => m.announced && decide (m.granted < m.len) && m.status.isNone)).length
        if 0 < eager ∧ s.unsched u < used + eager then .defer 9
        else if announced ∧ s.intentMax u ≤ open' then .defer 10
        else if !s.windowOk u 0 h then .defer 11
        else if 64 ≤ s.waitingMsgs v 0 then .full
        else .go

/-- What a packet's own header carries for a message of VI v to DEST and DST_VI (R266). -/
def State.msgHdr (s : State) (loc rem v dstVi : Nat) (ulp : Bytes) : Bytes :=
  s.hdr 0 loc rem 0 ++ wiluthHdr 1 0 (v % 256) dstVi 0 0 ulp

/-- Starts a message of L bytes of the VI's memory: eager in one or two packets, or announced by an INTENT (R288). -/
def State.startData (s : State) (loc rem v desc : Nat) (kind : MsgKind) (hdr : Bytes) (laddr keys len ord : Nat) : State :=
  let big := decide (8192 < len)
  let m : TxMsg := { id := 0, vi := v, desc := desc, kind := kind, len := len, hdr := hdr, laddr := laddr, keys := keys,
                     fence := false, ofs := 0, paced := none, reads := [], fetching := false, status := none, seqs := [],
                     allSent := false, announced := big, granted := 0 }
  let (s, id) := s.newMsg loc rem m
  if big then s.pushReq (reqOf v loc rem id (msgPkt hdr 2 (flFirst + ord) id len) none 0 [] false)
  else if len ≤ 4096 then
    s.pushReq (reqOf v loc rem id (msgPkt hdr 1 (flFirst + flLast + ord) id 0) (some (laddr, keys)) len [] true)
  else
    (s.pushReq (reqOf v loc rem id (msgPkt hdr 1 (flFirst + ord) id 0) (some (laddr, keys)) 4096 [] false)).pushReq
      (reqOf v loc rem id (msgPkt hdr 1 (flLast + ord) id 4096) (some (laddr + 4096, keys)) (len - 4096) [] true)

/-- The next read request of a get: at most 4,096 bytes at MSG_OFS, its length in the payload (R295 R321). -/
def getReq (v loc rem id : Nat) (hdr : Bytes) (ofs total : Nat) (fence : Bool) : TxReq :=
  let n := min 4096 (total - ofs)
  let fl := (if ofs = 0 then flFirst else 0) + (if ofs + n = total then flLast else 0) + (if fence then flOrd else 0)
  reqOf v loc rem id (msgPkt hdr 1 fl id ofs) none 8 (beBytes 4 n ++ zeros 4) (decide (ofs + n = total))

/-- A response packet of a window's owner VI waits for the VI's RSP shaper (R529). -/
def State.pushRsp (s : State) (vi loc rem : Nat) (pkt data : Bytes) : State :=
  s.pushReq { vi := vi, cls := 1, loc := loc, rem := rem, msg := 0, pkt := patch pkt 2 (beBytes 2 data.length), read := none,
              data := data, last := true, waited := false, windowed := false, ceiled := false }

end Sys2Proof.Machine
end

