-- ==== Sys2Proof/Machine/MemLib.lean ====
section
/-! DEFINITION. The HBM partition, the pool, and the snoop filter (15_rings_and_memory.md R477-R485). -/

namespace Sys2Proof.Machine

/-! Device state (R478 R479). -/

/-- Sizes of a die's regions of device state, one per unit in the order of R479: on die 0 the journal first. -/
def regionSizes (p : Partition) (die : Nat) : List Nat :=
  let mib := 2 ^ 20
  (if die = 0 then [512 * mib] else []) ++ [p.dumpGib * 2 ^ 30] ++ List.replicate 4 (64 * mib) ++
    List.replicate 4 (p.reseq * 4160) ++ List.replicate 2 (64 * mib) ++ List.replicate 2 (64 * mib) ++
    List.replicate 2 (1024 * mib) ++ List.replicate 2 (p.bounce * 4096) ++ [p.collMib * mib] ++ List.replicate 8 (64 * mib)

/-- Start of the region after those listed: each begins at a multiple of 2 MiB. -/
def regionStart (sizes : List Nat) : Nat := sizes.foldl (fun a n => ceilDiv (a + n) (2 ^ 21) * 2 ^ 21) 0

/-- Stacks of the partition on a die, ascending: dies hold stacks 0-2 and 3-5. -/
def Partition.ofDie (p : Partition) (die : Nat) : List Nat :=
  ((List.range 3).map (fun i => 3 * die + i)).filter (fun k => bit p.stackSet k)

/-- The regions of a die fit its device-state space (R477). -/
def Partition.fits (p : Partition) (die : Nat) : Bool :=
  decide (regionStart (regionSizes p die) ≤ p.devGib * 2 ^ 30 * (p.ofDie die).length)

/-- The stack that holds an offset of a die's device-state space (R478). -/
def Partition.devStack (p : Partition) (die off : Nat) : Nat :=
  let l := p.ofDie die
  l.getD (off / 4096 % max 1 l.length) 0

/-- The stack of a window's descriptor (R311 R479). -/
def Partition.winStack (p : Partition) (window : Nat) : Nat :=
  let u := window / 2 ^ 20
  let die := u / 2
  p.devStack die (regionStart ((regionSizes p die).take ((if die = 0 then 1 else 0) + 9 + u % 2)) + 64 * (window % 2 ^ 20))

/-- ELEMENT and EXT of an HBM row of a stack (R616). -/
def hbmElement (row : Nat) : Nat := row % 65536
def hbmExt (stack row : Nat) : Nat := stack % 16 * 2 ^ 20 + row / 65536 % 2 ^ 20

/-- Transactions between a unit's stop and the host port of a VI, for what the unit reads or writes in host memory. -/
def State.hostTxn (s : State) (stop v level : Nat) (wr : Bool) (n : Nat) : State :=
  s.nocTxn stop (hostStop (viPort v)) level wr n

/-! The partition and the pool (R477-R480). -/

/-- Stacks of the partition in force, ascending. -/
def Partition.list (p : Partition) : List Nat := (List.range 6).filter (fun k => bit p.stackSet k)

/-- Bytes of the application pool (R480). -/
def State.poolSize (s : State) : Nat :=
  match s.mem.part with
  | none => 0
  | some p => p.list.length * (64 - p.devGib) * 2 ^ 30

/-- The stack that holds a pool offset (R480). -/
def State.poolStack (s : State) (off : Nat) : Nat :=
  match s.mem.part with
  | none => 0
  | some p => p.list.getD (off / 4096 % max 1 p.list.length) 0

/-- What a pool byte reads as that nothing has written (log 3). -/
def poolD : Nat → Byte := fun _ => 0

/-- Bytes of the pool. -/
def State.poolGet (s : State) (off n : Nat) : Bytes := (List.range n).map (fun i => Tab.get poolD s.mem.pool (off + i))

/-- Writes bytes into a pool table. -/
def poolWrite : Tab Byte → Nat → Bytes → Tab Byte
  | t, _, [] => t
  | t, off, b :: bs => poolWrite (Tab.set poolD t off b) (off + 1) bs

/-- Writes bytes into the pool. -/
def State.poolPut (s : State) (off : Nat) (b : Bytes) : State :=
  { s with mem := { s.mem with pool := poolWrite s.mem.pool off b } }

/-- 64-byte lines that a range touches. -/
def linesOf (off n : Nat) : List Nat :=
  if n = 0 then [] else (List.range ((off + n - 1) / 64 - off / 64 + 1)).map (fun i => off / 64 + i)

/-! The snoop filter (R483-R485). A line is known by its pool offset divided by 64. -/

def filterD : Nat → List Nat × Bool := fun _ => ([], false)
def State.holders (s : State) (line : Nat) : List Nat × Bool := Tab.get filterD s.mem.filter line
def State.setHolders (s : State) (line : Nat) (h : List Nat × Bool) : State :=
  { s with mem := { s.mem with filter := Tab.set filterD s.mem.filter line h } }

/-- HBM controller of a line. -/
def State.lineStack (s : State) (line : Nat) : Nat := s.poolStack (64 * line)

/-- The snoop outstanding for a line. -/
def State.snoopOf (s : State) (line : Nat) : Option Snoop := s.mem.snoops.find? (fun x => decide (x.line = line))

/-- Snoop slots of a host port that a controller holds (R472). -/
def State.snoopSlots (s : State) (k h : Nat) : Nat :=
  (s.mem.snoops.filter (fun x => decide (s.lineStack x.line = k ∧ h ∈ x.owed ∧ x.unsent.all (fun e => e.1 ≠ h)))).length

/-- A snoop goes to a port over the snoop network, against one of the eight slots that the port's stop holds for the
controller (R466 R472). -/
def State.sendSnoop (s : State) (line h : Nat) (data : Bool) : State :=
  let k := s.lineStack line
  let s := ((s.bump (nocPg (hbmcStop k)) 15 1).bump (hbmcPg k 0) (if data then 3 else 4) 1).nocSend .snoop (hbmcStop k) (hostStop h) 0 0
  ((s.nocRun nocFuel none).emit (.snoop h line data)).bump (nocPg (hostStop h)) 15 1

/-- The snoops of a line for which a slot is free are sent. -/
def State.snoopGo (s : State) (line : Nat) : State :=
  match s.snoopOf line with
  | none => s
  | some x =>
    x.unsent.foldl (fun s e =>
      if s.snoopSlots (s.lineStack line) e.1 < 8 then
        let went (x : Snoop) : Snoop := { x with unsent := x.unsent.filter (fun d => decide (d ≠ e)) }
        ({ s with mem := { s.mem with snoops := updFirst (fun x => decide (x.line = line)) went s.mem.snoops } }).sendSnoop line e.1 e.2
      else s) s

/-- Snoops of a line for ports, data or invalidating (R483); a snoop already outstanding is joined. Each is sent as soon as
it has a slot. -/
def State.sendSnoops (s : State) (line : Nat) (ports : List Nat) (data : Bool) : State :=
  if ports.isEmpty then s
  else
    let todo := ports.map (fun h => (h, data))
    let join (x : Snoop) : Snoop :=
      { x with owed := x.owed ++ ports.filter (fun h => decide (h ∉ x.owed)), unsent := x.unsent ++ todo }
    let xs := match s.snoopOf line with
      | some _ => updFirst (fun x => decide (x.line = line)) join s.mem.snoops
      | none => s.mem.snoops ++ [⟨line, ports, todo, s.nowTick, []⟩]
    ({ s with mem := { s.mem with snoops := xs } }).snoopGo line

/-- The snoops that a fabric read of a range calls for (R483): each line held exclusive is snooped and becomes shared. -/
def State.snoopRead (s : State) (off n : Nat) : State :=
  (linesOf off n).foldl (fun s l =>
    let (hs, ex) := s.holders l
    if ex then (s.setHolders l (hs, false)).sendSnoops l hs true else s) s

/-- The snoops that a fabric write, signal or atomic calls for (R483): every holder is invalidated. -/
def State.snoopWrite (s : State) (off n : Nat) : State :=
  (linesOf off n).foldl (fun s l =>
    let (hs, _) := s.holders l
    if hs.isEmpty then s else (s.setHolders l ([], false)).sendSnoops l hs false) s

/-- No line of a range has a snoop outstanding (R484). -/
def State.linesFree (s : State) (off n : Nat) : Bool := (linesOf off n).all (fun l => (s.snoopOf l).isNone)

/-- An access of a unit to the pool, counted at the controllers and on the rings (R487 R488). -/
def State.countPool (s : State) (stop level off n : Nat) (wr : Bool) : State :=
  let k := s.poolStack off
  (s.bump (hbmcPg k 0) (b2n wr) (ceilDiv n 64)).nocTxn stop (hbmcStop k) level wr n

end Sys2Proof.Machine
end

