-- ==== Sys2Proof/Machine/CleatLib.lean ====
section
/-! DEFINITION. The cleat array (17_cleats.md R516-R526). -/

namespace Sys2Proof.Machine

def cleatD : Nat → Cleat := fun _ => ⟨none, 0, 0, false⟩
def State.cleat (s : State) (k : Nat) : Cleat := Tab.get cleatD s.cleats k
def State.updCleat (s : State) (k : Nat) (f : Cleat → Cleat) : State := { s with cleats := Tab.upd cleatD s.cleats k f }

/-- GCFGg: MODE and STALL of a cleat's group (R526). -/
def State.cleatMode (s : State) (k : Nat) : Bool := s.bget (cleatPg 0) (0x40 + 4 * (k / 64)) 8
def State.cleatStall (s : State) (k : Nat) : Nat := min 128 (s.fget (cleatPg 0) (0x40 + 4 * (k / 64)) 7 0)

/-- Values that a cleat read returns (R519-R522). -/
def cvBusy : Nat := 0x00000001
def cvTimeout : Nat := 0x00000051
def cvStopping : Nat := 0x00000060

def CleatHolder.isRemote : CleatHolder → Bool
  | .origin _ => false
  | .remote _ _ _ => true

/-- Same agent: a remote agent is its endpoint and VI, whatever the window (R516). -/
def CleatHolder.same : CleatHolder → CleatHolder → Bool
  | .origin a, .origin b => decide (a = b)
  | .remote a b _, .remote c d _ => decide (a = c ∧ b = d)
  | _, _ => false

/-- An agent becomes the holder of a FREE cleat: SEQ increments (R516 R519 R520). -/
def State.cleatAcquire (s : State) (k : Nat) (a : CleatHolder) (tag : Nat) : State :=
  let s := s.updCleat k (fun c => { c with holder := some a, seq := (c.seq + 1) % 65536, tag := tag })
  let s := match a with
    | .origin o => if 0x1000 ≤ o ∧ o < 0x2000 then s.bumpVf (o - 0x1000) 15 1 else s
    | .remote _ _ _ => s
  (s.bump (cleatPg 0) (b2n (s.cleatMode k)) 1).bump (cleatPg 0) 8 (b2n a.isRemote)

/-- The ABANDONED status byte, read once: the mark clears (R519 R520). -/
def State.cleatMark (s : State) (k : Nat) : State × Nat :=
  if (s.cleat k).abandoned then ((s.updCleat k (fun c => { c with abandoned := false })).bump (cleatPg 0) 2 1, 0x50) else (s, 0)

/-- Acquisition in mode 0, with the value it returns (R519). -/
def State.cleatTake (s : State) (k : Nat) (a : CleatHolder) : State × Nat :=
  let (s, st) := (s.cleatAcquire k a 0).cleatMark k
  (s, 0x80000000 + (s.cleat k).seq * 256 + st)

/-- What holds the slot of a stalled read (R522). -/
def stallHold (id : Nat) : List Nat := [1, id]

/-- Absolute core cycle. -/
def State.nowAbs (s : State) : Nat := s.nowTick * 1024 + s.nowCc

/-- A stalled read ends with a value: at its origin, or for a remote agent at its access. The request slot it held
returns (R522). -/
def State.endStall (s : State) (x : Stall) (v : Nat) : State :=
  let s := s.nocAnswer (stallHold x.id)
  let s := { s with stalls := delFirst (fun y => decide (y.id = x.id)) s.stalls }
  let s := (s.bump (cleatPg 0) 11 (s.nowAbs - x.start)).bump (cleatPg 0) 3 (b2n (decide (v = cvTimeout)))
  match x.agent, x.access with
  | .origin o, _ =>
    match s.zyn.reads.find? (fun r => decide (r.1 = x.id)) with
    | some r =>
      ({ s with zyn := { s.zyn with reads := delFirst (fun q => decide (q.1 = x.id)) s.zyn.reads } }).emit
        (.reply .mgmt (s.replyBytes r.2 stOk 0xFFFF v (s.replyKey r.2)))
    | none => s.emit (.value o x.addr (BitVec.ofNat 32 v))
  | _, some (u, id) =>
    { s with mwus := Tab.upd (fun _ => (⟨[], [], [], []⟩ : Mwu)) s.mwus u (fun m =>
        { m with accesses := updFirst (fun a => decide (a.id = id)) (fun a => { a with reply := some v }) m.accesses }) }
  | _, none => s

/-- The order in which stalled reads are served (R521): the stall that began first; those of one cycle by R98, remote
agents after every origin and then by SRC. -/
def Stall.turn (x : Stall) : Nat :=
  2 ^ 40 * x.start + match x.agent with | .origin o => rankKey o | .remote a v _ => 2 ^ 20 + 256 * a + v

/-- A released cleat passes on (R521): in mode 0 to the reader that stalled first, in mode 1 every stalled read returns
BUSY. -/
def State.cleatPass (s : State) (k : Nat) : State :=
  if s.cleatMode k then (s.stalls.filter (fun x => decide (x.cleat = k))).foldl (fun s x => s.endStall x cvBusy) s
  else
    match argMin Stall.turn (s.stalls.filter (fun x => decide (x.cleat = k))) with
    | none => s
    | some x =>
      let (s, v) := s.cleatTake k x.agent
      s.endStall x v

/-- A cleat is released, with ABANDONED set or not, and passes on. -/
def State.cleatRelease (s : State) (k : Nat) (abandon : Bool) : State :=
  (s.updCleat k (fun c => { c with holder := none, tag := 0, abandoned := c.abandoned || abandon })).cleatPass k

/-- A read stalls, or returns CLEAT_TIMEOUT at once (R521 R522). -/
def State.cleatStart (s : State) (k : Nat) (a : CleatHolder) (addr : Nat) (acc : Option (Nat × Nat)) : State × Option Nat :=
  let n := s.cleatStall k
  if n = 0 then (s.bump (cleatPg 0) 3 1, some cvTimeout)
  else if 512 ≤ s.stalls.length then
    (((s.raise (cleatPg 0) 17).bump (cleatPg 0) 10 1).bump (cleatPg 0) 3 1, some cvTimeout)
  else
    let (id, s) := s.fresh
    let x : Stall := { id := id, cleat := k, agent := a, addr := addr, start := s.nowAbs, limit := 8 * n, access := acc }
    (({ s with stalls := s.stalls ++ [x] }).bump (cleatPg 0) 9 1, none)

/-- A read of a cleat word by an agent (R519 R520): the value, or none while it stalls. -/
def State.cleatReadBy (s : State) (k : Nat) (a : CleatHolder) (addr : Nat) (acc : Option (Nat × Nat)) : State × Option Nat :=
  let c := s.cleat k
  match s.cleatMode k, c.holder with
  | false, none => let (s, v) := s.cleatTake k a; (s, some v)
  | false, some _ => s.cleatStart k a addr acc
  | true, none => (s, some cvBusy)
  | true, some h =>
    if h.same a then
      let (s, st) := s.cleatMark k
      (s, some (c.tag * 256 + st))
    else s.cleatStart k a addr acc

/-- A read of a cleat word that a stop sends as a request of a level; a read that stalls holds its slot (R470 R522). The
caller has found a slot free. -/
def State.cleatReadFrom (s : State) (stop level k : Nat) (a : CleatHolder) (addr : Nat) (acc : Option (Nat × Nat)) : State × Option Nat :=
  if !s.slotFree stop cleatStop level then (s.nocWait stop cleatStop level, none)
  else
    let id := s.nextId
    match s.cleatReadBy k a addr acc with
    | (s, some v) => (s.nocTxn stop cleatStop level false 4, some v)
    | (s, none) => ((s.nocHand stop cleatStop level false 4 (stallHold id)).2, none)

/-- A write that R519 and R520 discard. -/
def State.cleatBad (s : State) : State := (s.raise (cleatPg 0) 16).bump (cleatPg 0) 5 1

/-- A write of a cleat word by an agent (R519 R520). -/
def State.cleatWriteBy (s : State) (k : Nat) (a : CleatHolder) (v : Nat) : State :=
  let c := s.cleat k
  let mine : Bool := match c.holder with | some h => h.same a | none => false
  if s.cleatMode k then
    let tag := fld v 31 8
    let low := fld v 7 0
    if low = 0 ∧ (tag ≠ 0 ∨ c.holder.isSome) then
      match c.holder with
      | none => s.cleatAcquire k a tag
      | some _ => s
    else if low = 1 ∧ mine ∧ c.tag = tag then (s.bump (cleatPg 0) 4 1).cleatRelease k false
    else s.cleatBad
  else if mine ∧ v = 0x80000000 + c.seq * 256 then (s.bump (cleatPg 0) 4 1).cleatRelease k false
  else s.cleatBad

/-- A write of a cleat word that a stop sends as a request of a level. -/
def State.cleatWriteFrom (s : State) (stop level k : Nat) (a : CleatHolder) (v : Nat) : State :=
  (s.nocTxn stop cleatStop level true 4).cleatWriteBy k a v

/-- Every cleat whose holder is reset is released with ABANDONED set, in ascending order (R524). -/
def State.cleatAbandon (s : State) (f : CleatHolder → Bool) : State :=
  s.cleats.foldl (fun s e =>
    match (s.cleat e.1).holder with
    | some h => if f h then (s.bump (cleatPg 0) 7 1).cleatRelease e.1 true else s
    | none => s) s

/-- Abandonment by one local origin (R524). -/
def State.cleatAbandonOrigin (s : State) (o : Nat) : State :=
  s.cleatAbandon (fun h => match h with | .origin x => decide (x = o) | _ => false)

/-- Stalled reads of a VI end when its stop begins (R522). -/
def State.cleatStopVi (s : State) (v : Nat) : State :=
  (s.stalls.filter (fun x => match x.agent with | .origin o => decide (o = 0x1000 + v) | _ => false)).foldl
    (fun s x => s.endStall x cvStopping) s

/-- A window is revoked: its agents' cleats are abandoned, and its stalled reads end with CLEAT_TIMEOUT (R524). -/
def State.cleatRevoke (s : State) (window : Nat) : State :=
  let s := (s.stalls.filter (fun x => match x.agent with | .remote _ _ w => decide (w = window) | _ => false)).foldl
    (fun s x => s.endStall x cvTimeout) s
  s.cleatAbandon (fun h => match h with | .remote _ _ w => decide (w = window) | _ => false)

/-- The receive half from an endpoint has ended: every cleat that an agent of it holds is abandoned (R524). -/
def State.cleatEndpoint (s : State) (addr : Nat) : State :=
  s.cleatAbandon (fun h => match h with | .remote a _ _ => decide (a = addr) | _ => false)

end Sys2Proof.Machine
end

