-- ==== Sys2Proof/Machine/Lanes.lean ====
section
/-! DEFINITION. Commands of the Lanes and Optics families: lane training, tests, detectors, and the lasers
(06_lanes_and_optics.md). -/

namespace Sys2Proof.Machine

/-! Spare switches (R152-R155). -/

/-- The spare diode of wavelength w may still be used: not in use, not FAILED (R152 R154). -/
def State.spareFree (s : State) (k w : Nat) : Bool :=
  !s.bget (optePg k 1) 0x44 (8 + w) && !s.bget (optePg k 1) 0x44 (20 + 2 * w + 1)

/-- The driver of the lit diode of a wavelength reports the current it reaches, never above SET: a shortfall sets HEADROOM
and HEADROOM_SEEN with its error, and ends when REACHED equals SET (R151). -/
def State.driverReports (s : State) (k w d reached : Nat) : State :=
  let pg := optePg k 1
  let got := min reached (s.biasSet k d)
  let s := s.fput pg (biasOff d) 23 16 got
  if got < s.biasSet k d then
    if s.bget pg 0x44 w then s
    else
      let s := ((s.bput pg 0x44 w true).bput pg 0x44 (4 + w) true).raise (optePg k 0) (16 + w)
      s.updSpare k (fun x => { x with since := Tab.set (fun _ => 0) x.since w s.nowTick })
  else s.bput pg 0x44 w false

/-- The switch of a wavelength starts at a tick boundary: its spare is biased to its calibrated SET, lit into the dump
(R153). What a diode then puts out is measured, and free (log 14). -/
def State.startSpare (s : State) (k w at' : Nat) : State :=
  let pg := optePg k 1
  let d := 2 * w + 1
  let s := (s.updSpare k (fun x => { x with active := some (w, at'), waiting := x.waiting.filter (fun y => decide (y ≠ w)) })).bput
    pg 0x44 (12 + w) true
  let s := s.fput pg (biasOff d) 7 0 (Config.laserSet k d)
  let s := s.fput pg (biasOff d) 23 16 (s.biasSet k d)
  let (n, s) := s.free
  s.fput pg (0x80 + 4 * d) 15 0 n

/-- A switch is asked for, and waits for a boundary at which the engine runs none (R154). -/
def State.askSpare (s : State) (k w : Nat) : State :=
  let x := s.spare k
  if x.active.map Prod.fst = some w ∨ w ∈ x.waiting then s
  else s.updSpare k (fun x => { x with waiting := x.waiting ++ [w] })

/-- The lowest wavelength that waits starts at the boundary; a request that can no longer have effect is dropped (R154). -/
def State.nextSpare (s : State) (k : Nat) : State :=
  (List.range 4).foldl (fun s w =>
    let x := s.spare k
    if x.active.isSome || !decide (w ∈ x.waiting) then s
    else if s.spareFree k w then s.startSpare k w s.nowTick
    else (s.updSpare k (fun x => { x with waiting := x.waiting.filter (fun y => decide (y ≠ w)) })).bput (optePg k 1) 0x40 w false) s

/-- A lane answers the peer's TEST_REQ with PRBS31 (R144). -/
def State.startPrbs (s : State) (p l : Nat) : State :=
  if (s.lane p l).prbs then s else (s.updLane p l (fun x => { x with prbs := true })).emit (.prbs p l)

/-- The switch of a wavelength is over: its force bit clears; the timers of its lanes in TRAIN and STEP go on, the time that
they shared with the switch left out; PRBS that waited starts (R152 R154). -/
def State.endSpare (s : State) (k w at' : Nat) : State :=
  let s := (s.bput (optePg k 1) 0x44 (12 + w) false).bput (optePg k 1) 0x40 w false
  let s := (List.range 8).foldl (fun s f =>
    let p := 32 * k + 4 * f + w
    let s := [0, 1].foldl (fun s l =>
      let timed := decide (s.laneState p l = lnTrain ∨ s.laneState p l = lnStep)
      let s := s.updLane p l (fun x => if timed then { x with since := x.since + (s.nowTick - max at' x.since) } else x)
      if bit (s.lport p).prbsWait l then s.startPrbs p l else s) s
    s.updLport p (fun x => { x with prbsWait := 0 })) s
  s.updSpare k (fun x => { x with active := none })

/-- SHORTFALL_LASTING (R152): HEADROOM has lasted 2^HOLD_LOG2 ticks. -/
def execShortfallLasting (opte wave : Nat) (s : State) : Host.Outcome State Fault Refusal :=
  let hold := 2 ^ max 8 (min 16 (s.fget (optePg opte 1) 0x40 19 16))
  if opte < 16 ∧ wave < 4 ∧ s.bget (optePg opte 1) 0x40 (8 + wave) ∧ s.bget (optePg opte 1) 0x44 wave ∧ s.spareFree opte wave ∧
      Tab.get (fun _ => 0) (s.spare opte).since wave + hold ≤ s.nowTick then
    .next (if (s.spare opte).active.isSome ∨ (s.spare opte).waiting.any (fun v => decide (v < wave)) then s.askSpare opte wave
      else s.startSpare opte wave s.nowTick)
  else .next s

/-- SPARE_SELECTOR_MOVE (R153): at T + 256 the selector moves when the spare's output, measured as `pout`, is within 1.0 dB
of its target; else the switch ends with EXHAUSTED, the spare dark again. -/
def execSpareSelectorMove (opte wave pout : Nat) (s : State) : Host.Outcome State Fault Refusal :=
  match (s.spare opte).active with
  | some (w, t) =>
    if opte < 16 ∧ w = wave ∧ wave < 4 ∧ t + 256 ≤ s.nowTick then
      let pg := optePg opte 1
      let d := 2 * wave + 1
      let s := s.fput pg (0x80 + 4 * d) 15 0 pout
      let s := if (signed 16 (pout % 2 ^ 16) - Config.laserTarget opte d).natAbs ≤ 100 then
          let s := ((s.bput pg 0x44 (20 + 2 * wave) true).bput pg 0x44 (8 + wave) true).bput pg 0x44 wave false
          let s := s.fput pg (biasOff (2 * wave)) 23 16 0
          ((s.retireElement pg (2 * wave) 0).logErr (optePg opte 0) wave 0 (16 + wave) 0 2 acLaser).bump pg 4 1
        else
          let s := (s.bput pg 0x44 (20 + d) true).bput pg 0x44 (16 + wave) true
          let s := (s.fput pg (biasOff d) 23 16 0).retireElement pg d 0
          ((s.raise (optePg opte 0) 20).logErr (optePg opte 0) wave 0 (16 + wave) 0 2 acNone).bump pg 5 1
      .next (s.endSpare opte wave t)
    else .next s
  | none => .next s

/-- AUTOMATIC_POWER_CONTROL (R150 R151): once in 64 ticks SET of a lit diode moves toward the target output: up when the
measured output is below it, down when above, and not up while the wavelength is in shortfall. How far it moves, `set`, and
what the driver reaches are the command's. -/
def execAutomaticPowerControl (opte diode set reached pout : Nat) (s : State) : Host.Outcome State Fault Refusal :=
  let pg := optePg opte 1
  let w := diode / 2
  let due : Bool := match Tab.get (fun _ => none) (s.spare opte).apc diode with
    | some (t : Nat) => decide (t + 64 ≤ s.nowTick)
    | none => true
  if opte < 16 ∧ diode < 8 ∧ s.litDiode opte w = diode ∧ s.works pg ∧ !s.zyn.mcReset ∧ due then
    let old := s.biasSet opte diode
    let out := signed 16 (pout % 2 ^ 16)
    let target := Config.laserTarget opte diode
    let new := if out < target then (if s.bget pg 0x44 w then old else max old (min 240 set))
      else if target < out then min old set else old
    let s := s.updSpare opte (fun x => { x with apc := Tab.set (fun _ => none) x.apc diode (some s.nowTick) })
    let s := (s.fput pg (biasOff diode) 7 0 new).fput pg (0x80 + 4 * diode) 15 0 pout
    .next (s.driverReports opte w diode reached)
  else .next s

/-- A register write has moved BIASd.SET (R151 R161): a lit diode's driver follows it. In shortfall it stands at its
limit, REACHED; else what it reaches of a higher SET is free, from the old SET up. -/
def State.biasWritten (s : State) (k d : Nat) : State :=
  let pg := optePg k 1
  let w := d / 2
  let old := s.fget pg (biasOff d) 23 16
  if s.litDiode k w ≠ d ∨ old = 0 then s
  else if s.bget pg 0x44 w ∨ s.biasSet k d ≤ old then s.driverReports k w d old
  else
    let (n, s) := s.free
    s.driverReports k w d (old + n % (s.biasSet k d - old + 1))

/-! Training. -/

/-- The wavelength of a port's lanes is switching, which suspends TRAIN and STEP timeouts (R154). -/
def State.switching (s : State) (p : Nat) : Bool :=
  match (s.spare (portOpte p)).active with
  | some (w, _) => decide (w = portWave p)
  | none => false

/-- A tap of LANEl_TXEQ, by the tap codes of R137: PRE2, PRE1, MAIN, POST1. -/
def tapField (tap : Nat) : Nat × Nat :=
  match tap with
  | 0 => (31, 24)
  | 1 => (23, 16)
  | 2 => (15, 8)
  | _ => (7, 0)

/-- Reset value of a tap (R160). -/
def tapPreset (tap : Nat) : Int := if tap = 1 ∨ tap = 3 then -4 else if tap = 2 then 56 else 0

/-- The transmitter answers a TAP_REQ: a tap moves by one, MAIN keeping the sum of magnitudes at 64; taps move only in
TRAIN (R137 R142; log 23). -/
def State.answerTap (s : State) (p l req : Nat) : State :=
  let tap := fld req 15 13
  let act := fld req 12 11
  let pg := lanePg p
  let off := laneOff l + 8
  let val (t : Nat) : Int := signed 8 (s.fget pg off (tapField t).1 (tapField t).2)
  if 4 ≤ tap ∨ act = 0 ∨ s.laneState p l ≠ lnTrain then s.updLane p l (fun x => { x with tapResp := tap * 4 })
  else
    let want := if act = 1 then val tap + 1 else if act = 2 then val tap - 1 else tapPreset tap
    let sum : Nat := ([0, 1, 3].map (fun t => (if t = tap then want else val t).natAbs)).foldl (· + ·) 0
    if tap = 2 ∨ 64 < sum then s.updLane p l (fun x => { x with tapResp := tap * 4 + 2 })
    else
      let s := s.fput pg off (tapField tap).1 (tapField tap).2 (unsigned 8 want)
      (s.fput pg off 15 8 (64 - sum)).updLane p l (fun x => { x with tapResp := tap * 4 + (if act = 3 then 3 else 1) })

/-- Lanes both ends show RX_READY on at the current step, of those that take part (R138). -/
def State.allReady (s : State) (p : Nat) : Bool :=
  let m := s.laneSet p
  decide (m ≠ 0) && [0, 1].all (fun l =>
    !bit m l || (decide (s.laneState p l = lnTrain) && (s.lane p l).rxReady && (s.lane p l).peerReady))

/-- Starts the countdown of a step change or of the bond when both ends are ready (R138 R140), or a re-bond that takes
in a lane that has qualified again. -/
def State.advance (s : State) (p : Nat) : State :=
  let lp := s.lport p
  if s.bget (lanePg p) 0x48 1 ∨ lp.countdown ≠ 255 then s
  else if s.bget (lanePg p) 0x48 0 then
    match [0, 1].find? (fun l => decide (s.laneState p l = lnTrain) && (s.lane p l).rxReady && (s.lane p l).peerReady) with
    | some l => s.rebond p (Nat.lor (s.readyLanes p) (2 ^ l))
    | none => s
  else if s.allReady p then
    if s.portStep p < s.targetStep p then s.updLport p (fun x => x.startCount 0)
    else if s.laneSet p = 3 ∨ s.allowOne p then
      s.updLport p (fun x => x.startCount (s.laneSet p))
    else s
  else s

/-- The lane layer's answer to a valid LTF (R136-R140, R142, R144, R152, R156). -/
def State.takeLtf (s : State) (p l : Nat) (f : Bytes) : State :=
  let pg := lanePg p
  let prop := ltfProp f
  let was := (s.lane p l).peerState
  -- what the peer shows
  let s := s.updLane p l (fun x =>
    { x with peerState := ltfState f, peerReady := ltfReady f, peerProp := prop, peerCount := ltfCount f,
             propRun := if x.peerProp = prop then x.propRun + 1 else 1 })
  let s := s.fput pg 0x48 11 8 (ltfMax f)
  let s := s.answerTap p l (beAt f 0xE 2)
  -- lock and a valid LTF: to TRAIN
  let los := s.bget pg (laneOff l) 4
  let lol := s.bget pg (laneOff l) 5
  let s := if (s.laneState p l = lnSignal ∧ los = false ∧ lol = false) ∨ (s.laneState p l = lnStep ∧ lol = false) then
      (s.setLaneState p l lnTrain).updLane p l (fun x => { x with rxReady := false })
    else s
  -- a lane that the peer reports FAILED leaves the port without a bond, or with a one-lane bond
  let s := if ltfState f = lnFailed ∧ was ≠ lnFailed then (if s.bget pg 0x48 0 then s.checkBond p else s.noBond p) else s
  -- PRBS31 at the peer's request, after a spare switch that the request starts
  let short := s.bget (optePg (portOpte p) 1) 0x44 (portWave p)
  let auto := s.bget (optePg (portOpte p) 1) 0x40 (8 + portWave p)
  let s := if ltfTestReq f then
      if (short && auto && s.spareFree (portOpte p) (portWave p)) || s.switching p then
        (s.askSpare (portOpte p) (portWave p)).updLport p (fun x => { x with prbsWait := Nat.lor x.prbsWait (2 ^ l) })
      else s.startPrbs p l
    else s.updLane p l (fun x => { x with prbs := false })
  -- re-bond: joined when the peer proposes another bond
  let s := if s.bget pg 0x48 0 && !s.bget pg 0x48 1 && decide (prop ≠ s.bond p) && decide (prop ≠ 0) then
      let back := [0, 1].foldl (fun m i =>
        if s.laneState p i = lnTrain ∧ (s.lane p i).rxReady then m + 2 ^ i else m) 0
      s.rebond p (s.readyLanes p + back)
    else s
  (s.tryForm p).advance p

/-- LTF_RECEIVE (R137): an LTF whose CRC16 or VERSION is wrong is ignored. -/
def execLtfReceive (port lane : Nat) (ltf : Bytes) (s : State) : Host.Outcome State Fault Refusal :=
  let st := s.laneState port lane
  if port < 512 ∧ lane < 2 ∧ ltfOk ltf ∧ st ≠ lnOff ∧ st ≠ lnFailed then
    .next (s.syncLink (s.takeLtf port lane ltf) port)
  else .next s

/-- STEP_CHANGE (R138): after the LTF with COUNTDOWN 0 the transmitter takes the next step. -/
def execStepChange (port : Nat) (s : State) : Host.Outcome State Fault Refusal :=
  if port < 512 ∧ (s.lport port).zeroSent ∧ (s.lport port).prop = 0 ∧ s.portStep port < 3 then
    let old := s.portStep port
    let s := (s.setPortStep port (old + 1)).updLport port LanePort.noCount
    .next ([0, 1].foldl (fun s l =>
      if s.laneState port l = lnTrain then
        (s.setLaneState port l lnStep).updLane port l (fun x =>
          { x with rxReady := false, peerReady := false, oldStep := old })
      else s) s)
  else .next s

/-- BOND_FORMED (R138 R135 R140): after the last countdown the bond forms on the lanes both ends propose; a skew of more
than 64 ns is a qualification failure of lane 1. -/
def execBondFormed (port skewNs : Nat) (s : State) : Host.Outcome State Fault Refusal :=
  let lp := s.lport port
  if port < 512 ∧ lp.zeroSent ∧ lp.prop ≠ 0 ∧ s.bget (lanePg port) 0x48 0 = false then
    if lp.prop = 3 ∧ 64 < skewNs then .next (s.qualFail port 1)
    else
      let peer := [0, 1].foldl (fun m l => if bit lp.prop l then Nat.lor m (s.lane port l).peerProp else m) 0
      .next (s.formBond port (Nat.land lp.prop peer))
  else .next s

/-- LANE_QUALIFIED (R142): 64 ticks at or above QUAL. -/
def execLaneQualified (port lane : Nat) (s : State) : Host.Outcome State Fault Refusal :=
  if port < 512 ∧ lane < 2 ∧ s.laneState port lane = lnTrain ∧ 64 ≤ (s.lane port lane).qualRun then
    .next ((s.updLane port lane (fun x => { x with rxReady := true })).advance port)
  else .next s

/-- TRAIN_TIMEOUT (R139 R154): 4,096 ticks without qualifying. -/
def execTrainTimeout (port lane : Nat) (s : State) : Host.Outcome State Fault Refusal :=
  if port < 512 ∧ lane < 2 ∧ s.laneState port lane = lnTrain ∧ (s.lane port lane).rxReady = false ∧ s.switching port = false ∧
      (s.lane port lane).since + 4096 ≤ s.nowTick then
    .next (s.syncLink (s.qualFail port lane) port)
  else .next s

/-- STEP_TIMEOUT (R136 R139 R154): 64 ticks in STEP. -/
def execStepTimeout (port lane : Nat) (s : State) : Host.Outcome State Fault Refusal :=
  if port < 512 ∧ lane < 2 ∧ s.laneState port lane = lnStep ∧ s.switching port = false ∧
      (s.lane port lane).since + 64 ≤ s.nowTick then
    .next (s.syncLink (s.qualFail port lane) port)
  else .next s

/-! Tests and detectors. -/

/-- A burst on a lane: BURST, its error, and the test (R143 R158). -/
def State.burst (s : State) (p l : Nat) : State :=
  let s := ((s.bput (lanePg p) (laneOff l) 10 true).raise (portPg p) (21 + l)).updLane p l (fun x => { x with badRun := 0 })
  if s.laneState p l = lnReady then s.burstTest p l else s

/-- LANE_ERROR_BURST (R143-R145): BURST is set and the lane's bit-error test starts. -/
def execLaneErrorBurst (port lane : Nat) (s : State) : Host.Outcome State Fault Refusal :=
  if port < 512 ∧ lane < 2 ∧ s.laneState port lane = lnReady ∧
      max 4 (s.fget (lanePg port) 0x40 15 12) ≤ (s.lane port lane).badRun then
    .next (s.burst port lane)
  else .next s

/-- A lane under test fails or passes (R144 R547 R605): it rejoins the bond by re-bond, or without a bond waits for its peer
in SIGNAL; or it is FAILED and RETIRED. The next test that waits follows. -/
def State.endLaneTest (s : State) (p l : Nat) (pass : Bool) : State :=
  let full := decide ((s.lport p).test.map Prod.snd = some 0)
  if pass then
    let s := s.laneVerdict p l 1 acNone
    if s.bget (lanePg p) 0x48 0 then
      ((s.setLaneState p l lnTrain).updLane p l (fun x => { x with rxReady := true })).rebond p (Nat.lor (s.readyLanes p) (2 ^ l))
    else s.toSignal p l
  else if full then
    let s := (s.failLane p l).updLport p (fun x => { x with fullFails := Nat.lor x.fullFails (2 ^ l) })
    ((s.laneVerdict p l 2 acNone).checkBond p).nextLaneTest p
  else
    let (s, act) := s.retireLane p l
    ((s.laneVerdict p l 2 act).checkBond p).nextLaneTest p

/-- LANE_TEST_END (R144): after 2,048 ticks, pass when the bit error ratio is no more than 10^-6. -/
def execLaneTestEnd (port lane errors bits : Nat) (s : State) : Host.Outcome State Fault Refusal :=
  if port < 512 ∧ lane < 2 ∧ s.laneState port lane = lnTest ∧ (s.lane port lane).since + 2048 ≤ s.nowTick then
    .next (s.syncLink (s.endLaneTest port lane (decide (errors * 1000000 ≤ bits))) port)
  else .next s

/-- LANE_TEST_TIMEOUT (R136): 512 ticks without PRBS31 from the peer fail the test. -/
def execLaneTestTimeout (port lane : Nat) (s : State) : Host.Outcome State Fault Refusal :=
  if port < 512 ∧ lane < 2 ∧ s.laneState port lane = lnTest ∧ (s.lane port lane).since + 512 ≤ s.nowTick then
    .next (s.syncLink (s.endLaneTest port lane false) port)
  else .next s

/-- LOS or LOL of a lane asserts: live and latched bits, the error, and, when they act, the lane's leaving the bond for
SIGNAL (R146 R147 R158). `live` is the live bit of LANEl_STAT. -/
def State.detectorOn (s : State) (p l live b ctr : Nat) : State :=
  let pg := lanePg p
  let s := ((s.bput pg (laneOff l) live true).bput pg (laneOff l) (live + 4) true).bump pg ctr 1
  let s := s.raise (portPg p) b
  if s.bget pg 0x40 3 && decide (s.laneState p l = lnReady) then s.syncLink (s.leaveBond p l lnSignal) p else s
def State.losOn (s : State) (p l : Nat) : State := s.detectorOn p l 4 (16 + l) 8
def State.lolOn (s : State) (p l : Nat) : State := s.detectorOn p l 5 (18 + l) 9

/-- LOS_DEB_TK: below 4 acts as 4 (R159). -/
def State.losDeb (s : State) (p : Nat) : Nat := max 4 (s.fget (lanePg p) 0x44 23 16)

/-- LOS_ASSERT (R146 R147): the power has stayed below -14.0 dBm for LOS_DEB_TK ticks. -/
def execLosAssert (port lane : Nat) (s : State) : Host.Outcome State Fault Refusal :=
  if port < 512 ∧ lane < 2 ∧ s.powered (portPg port) ∧ s.bget (lanePg port) (laneOff lane) 4 = false ∧
      s.losDeb port ≤ (s.lane port lane).lowRun then
    .next (s.losOn port lane)
  else .next s

/-- LOS_CLEAR (R146): the power has stayed above -12.0 dBm for 64 ticks. -/
def execLosClear (port lane : Nat) (s : State) : Host.Outcome State Fault Refusal :=
  if port < 512 ∧ lane < 2 ∧ 64 ≤ (s.lane port lane).highRun then .next (s.bput (lanePg port) (laneOff lane) 4 false)
  else .next s

/-- LOL_ASSERT (R146 R147): the clock recovery has reported unlock for LOS_DEB_TK ticks. -/
def execLolAssert (port lane : Nat) (s : State) : Host.Outcome State Fault Refusal :=
  if port < 512 ∧ lane < 2 ∧ s.powered (portPg port) ∧ s.bget (lanePg port) (laneOff lane) 5 = false ∧
      s.losDeb port ≤ (s.lane port lane).unlockRun then
    .next (s.lolOn port lane)
  else .next s

/-- LOL_CLEAR (R146): the clock recovery has relocked. -/
def execLolClear (port lane : Nat) (s : State) : Host.Outcome State Fault Refusal :=
  if port < 512 ∧ lane < 2 then
    .next ((s.updLane port lane (fun x => { x with unlockRun := 0 })).bput (lanePg port) (laneOff lane) 5 false)
  else .next s

/-! The tick's figure of merit (R141-R143), called at the tick boundary. -/

/-- floor(-16 log10(c / n)) for 0 < c ≤ n, at most 255 (R141). -/
def fomOf (c n : Nat) : Nat :=
  ((List.range 255).filter (fun k => decide (10 ^ (k + 1) * c ^ 16 ≤ n ^ 16))).length

/-- FOM and SRC of a lane, and FOM_MIN: the lowest since it was last read (R141 R160). -/
def State.putFom (s : State) (p l fom src : Nat) : State :=
  let pg := lanePg p
  let low := if (s.lane p l).minFresh then fom else min (s.fget pg (laneOff l + 4) 23 16) fom
  ((s.fput pg (laneOff l + 4) 8 0 (src * 2 ^ 8 + fom)).fput pg (laneOff l + 4) 23 16 low).updLane p l
    (fun x => { x with minFresh := false })

/-- The runs of ticks that the detectors debounce (R146). -/
def Lane.detect (x : Lane) (o : LaneObs) : Lane :=
  let power := signed 16 o.power
  { x with lowRun := if power < -1400 then x.lowRun + 1 else 0, highRun := if -1200 < power then x.highRun + 1 else 0,
           unlockRun := if o.locked then 0 else x.unlockRun + 1 }

/-- One lane's observations of the tick that ends. -/
def State.fomUpdate (s : State) (o : LaneObs) : State :=
  let p := o.port
  let l := o.lane
  let pg := lanePg p
  if 512 ≤ p ∨ 2 ≤ l ∨ s.powered pg = false then s
  else
    let s := (((s.bump pg (3 * l) o.codewords).bump pg (3 * l + 1) o.corrected).bump pg (3 * l + 2) o.uncorrectable)
    let s := (s.fput pg (laneOff l + 0xC) 15 0 o.power).updLane p l (fun x => x.detect o)
    let st := s.laneState p l
    if st = lnReady then
      let w := 2 ^ max 6 (min 12 (s.fget pg 0x40 19 16))
      let win := ((o.corrected, 544 * (o.codewords - o.uncorrectable)) :: (s.lane p l).window).take w
      let c := win.foldl (fun a e => a + e.1) 0
      let n := win.foldl (fun a e => a + e.2) 0
      -- no symbol received in the window: R141 gives no figure
      let (fom, s) := if n = 0 then (let (x, s) := s.free; (x % 256, s)) else (fomOf (max c 1) n, s)
      let bad := decide (fom < s.fget pg 0x44 7 0) || decide (max 1 (s.fget pg 0x40 11 8) ≤ o.uncorrectable)
      let s := s.updLane p l (fun x => { x with window := win, badRun := if bad then x.badRun + 1 else 0 })
      (s.bump pg (6 + l) (b2n bad)).putFom p l fom 0
    else if st = lnSignal ∨ st = lnTrain ∨ st = lnStep then
      let fom := min 255 o.eye
      let s := s.putFom p l fom 1
      s.updLane p l (fun x =>
        { x with window := [], qualRun := if st = lnTrain ∧ s.fget pg 0x44 15 8 ≤ fom then min 127 (x.qualRun + 1) else 0 })
    else s

end Sys2Proof.Machine
end

