-- ==== Sys2Proof/Machine/FloatLib.lean ====
section
/-! DEFINITION. IEEE 754 binary formats (R10): exact values and rounding to nearest, ties to even. A format has `e`
exponent bits and `m` fraction bits; its values are integers in units of its least subnormal. -/

namespace Sys2Proof.Machine

/-- Sign, exponent field and fraction of a word. -/
def fpSign (e m n : Nat) : Bool := bit n (e + m)
def fpExp (e m n : Nat) : Nat := fld n (e + m - 1) m
def fpFrac (m n : Nat) : Nat := n % 2 ^ m

def fpNan (e m n : Nat) : Bool := decide (fpExp e m n = 2 ^ e - 1 ∧ fpFrac m n ≠ 0)
def fpInf (e m n : Nat) : Bool := decide (fpExp e m n = 2 ^ e - 1 ∧ fpFrac m n = 0)
def fpZero (e m n : Nat) : Bool := decide (n % 2 ^ (e + m) = 0)

/-- Magnitude of a finite word in units of the least subnormal. -/
def fpMag (e m n : Nat) : Nat :=
  if fpExp e m n = 0 then fpFrac m n else (2 ^ m + fpFrac m n) * 2 ^ (fpExp e m n - 1)

/-- Value of a finite word in units of the least subnormal. -/
def fpVal (e m n : Nat) : Int := if fpSign e m n then -(fpMag e m n : Int) else (fpMag e m n : Int)

/-- An infinity of a sign. -/
def fpInfOf (e m : Nat) (neg : Bool) : Nat := b2n neg * 2 ^ (e + m) + (2 ^ e - 1) * 2 ^ m

/-- Rounds a magnitude given as a / 2^k units to the nearest word, ties to even; an overflow becomes infinity. -/
def fpRoundMag (e m a k : Nat) : Nat :=
  let top := Nat.log2 a
  let sh := max k (top - m)
  let q := a / 2 ^ sh
  let r := a % 2 ^ sh
  let half := 2 ^ sh / 2
  let q := if sh = 0 then q else if half < r ∨ (r = half ∧ q % 2 = 1) then q + 1 else q
  -- q units of 2^(sh - k): a subnormal when sh = k and q < 2^m
  let (q, sh) := if q = 2 ^ (m + 1) then (2 ^ m, sh + 1) else (q, sh)
  if q < 2 ^ m then q
  else
    let ef := sh - k + 1
    if 2 ^ e - 1 ≤ ef then (2 ^ e - 1) * 2 ^ m else ef * 2 ^ m + (q - 2 ^ m)

/-- Rounds an exact value, given as v / 2^k units, to a word; an exact zero is +0. -/
def fpRound (e m : Nat) (v : Int) (k : Nat) : Nat :=
  if v = 0 then 0 else b2n (decide (v < 0)) * 2 ^ (e + m) + fpRoundMag e m v.natAbs k

/-- The quieted form of a NaN (R331). -/
def fpQuiet (m n : Nat) : Nat := if bit n (m - 1) then n else n + 2 ^ (m - 1)

/-- FADD of R331 on binary64 words: the target's NaN first, then the operand's, +NaN for an invalid sum. -/
def fadd64 (mem op : Nat) : Nat :=
  if fpNan 11 52 mem then fpQuiet 52 mem
  else if fpNan 11 52 op then fpQuiet 52 op
  else if fpInf 11 52 mem then
    if fpInf 11 52 op && !(fpSign 11 52 mem == fpSign 11 52 op) then 0x7FF8000000000000 else mem
  else if fpInf 11 52 op then op
  else if fpZero 11 52 mem && fpZero 11 52 op then
    if fpSign 11 52 mem && fpSign 11 52 op then 2 ^ 63 else 0
  else fpRound 11 52 (fpVal 11 52 mem + fpVal 11 52 op) 0

end Sys2Proof.Machine
end

