-- ==== Sys2Proof/Machine/CollMath.lean ====
section
/-! DEFINITION. The arithmetic of collectives: element types, fixed-order folds (R404) and exact partials (R406-R411) of
13_collectives.md. -/

namespace Sys2Proof.Machine

/-! Types and segments (R387 R390). -/

/-- Bytes of an element of a TYPE. -/
def elemBytes (typ : Nat) : Nat := [4, 8, 8, 8, 4, 2, 2].getD typ 8

/-- Exponent and fraction bits of a floating-point TYPE. -/
def fpFormat (typ : Nat) : Nat × Nat := if typ = 3 then (11, 52) else if typ = 4 then (8, 23) else if typ = 5 then (8, 7) else (5, 10)

/-- TYPE is a floating-point type. -/
def isFloat (typ : Nat) : Bool := decide (3 ≤ typ ∧ typ ≤ 6)

/-- SEG_ELEMS (R390). -/
def segElems (typ : Nat) : Nat := 4096 / elemBytes typ

/-- Elements of a member's input. -/
def stepTotal (kind count n : Nat) : Nat := if kind = 4 then count * n else if kind = 3 then 0 else count

/-- Segments of a step (R390). -/
def stepSegs (kind typ count n : Nat) : Nat := if kind = 3 then 1 else max 1 (ceilDiv (stepTotal kind count n) (segElems typ))

/-- Elements of a segment. -/
def elemsIn (kind typ count n seg : Nat) : Nat := min (segElems typ) (stepTotal kind count n - seg * segElems typ)

/-- Elements as memory images (R394). -/
def decodeElems (eb : Nat) : Nat → Bytes → List Nat
  | 0, _ => []
  | n + 1, b => leNat (b.take eb) :: decodeElems eb n (b.drop eb)

def encodeElems (eb : Nat) (l : List Nat) : Bytes := l.flatMap (leBytes eb)

/-! Fixed-order operations (R404). -/

/-- The canonical quiet NaN of a format. -/
def fpCanon (e m : Nat) : Nat := (2 ^ e - 1) * 2 ^ m + 2 ^ (m - 1)

/-- IEEE 754 addition in a format. -/
def fpAdd (e m a b : Nat) : Nat :=
  if fpNan e m a ∨ fpNan e m b then fpCanon e m
  else if fpInf e m a then if fpInf e m b && !(fpSign e m a == fpSign e m b) then fpCanon e m else a
  else if fpInf e m b then b
  else if fpZero e m a && fpZero e m b then if fpSign e m a && fpSign e m b then 2 ^ (e + m) else 0
  else fpRound e m (fpVal e m a + fpVal e m b) 0

/-- The order of IEEE 754-2019 minimum and maximum on numbers: −0 below +0, infinities at the ends. -/
def fpRank (e m a : Nat) : Int := if fpSign e m a then -(a % 2 ^ (e + m) : Nat) - 1 else (a % 2 ^ (e + m) : Nat)

/-- Minimum (`max` false) or maximum, propagating NaN. -/
def fpPick (e m : Nat) (isMax : Bool) (a b : Nat) : Nat :=
  if fpNan e m a ∨ fpNan e m b then fpCanon e m
  else if (fpRank e m a ≤ fpRank e m b) = (isMax = false) then a else b

/-- v OP w of R404 for a TYPE. -/
def foldOp (op typ a b : Nat) : Nat :=
  let w := 8 * elemBytes typ
  let f := fpFormat typ
  match op with
  | 0 => if isFloat typ then fpAdd f.1 f.2 a b else (a + b) % 2 ^ w
  | 1 =>
    if isFloat typ then fpPick f.1 f.2 false a b
    else if typ = 2 then min a b
    else if signed w a ≤ signed w b then a else b
  | 2 =>
    if isFloat typ then fpPick f.1 f.2 true a b
    else if typ = 2 then max a b
    else if signed w a ≤ signed w b then b else a
  | 3 => Nat.land a b
  | 4 => Nat.lor a b
  | _ => Nat.xor a b

/-- The identity of OP: the fold over no slot (R404). -/
def foldId (op typ : Nat) : Nat :=
  let w := 8 * elemBytes typ
  let f := fpFormat typ
  match op with
  | 1 => if isFloat typ then fpInfOf f.1 f.2 false else if typ = 2 then 2 ^ w - 1 else 2 ^ (w - 1) - 1
  | 2 => if isFloat typ then fpInfOf f.1 f.2 true else if typ = 2 then 0 else 2 ^ (w - 1)
  | 3 => 2 ^ w - 1
  | _ => 0

/-- The left fold of slot vectors in slot order, element by element. -/
def foldVecs (op typ n : Nat) : List (List Nat) → List Nat
  | [] => List.replicate n (foldId op typ)
  | v :: vs => vs.foldl (fun acc w => List.zipWith (foldOp op typ) acc w) v

/-! Exact partials (R406-R411). -/

/-- An element's exact partial. -/
inductive Exact where
  | empty | negZero | posInf | negInf | nan
  | fin (a : Int)
deriving DecidableEq, Repr

/-- Combination of a state with a contribution (R407). -/
def Exact.add : Exact → Exact → Exact
  | .nan, _ => .nan
  | _, .nan => .nan
  | .posInf, .negInf => .nan
  | .negInf, .posInf => .nan
  | .posInf, _ => .posInf
  | .negInf, _ => .negInf
  | _, .posInf => .posInf
  | _, .negInf => .negInf
  | .empty, x => x
  | x, .empty => x
  | .negZero, x => x
  | x, .negZero => x
  | .fin a, .fin b => .fin (a + b)

/-- Top limb and OFFSET (R406). -/
def topLimb (typ : Nat) : Nat := if typ = 3 then 33 else 4
def exactOffset (typ : Nat) : Nat := if typ = 3 then 1074 else 149

/-- Position of the least subnormal of a TYPE: K_MIN of R411, 0 for FP64 and FP32, 16 for BF16, 125 for FP16. -/
def kMin (typ : Nat) : Nat := if typ = 5 then 16 else if typ = 6 then 125 else 0

/-- Conversion of a local member's input (R408). -/
def Exact.ofWord (typ x : Nat) : Exact :=
  let (e, m) := fpFormat typ
  if fpNan e m x then .nan
  else if fpInf e m x then if fpSign e m x then .negInf else .posInf
  else if fpZero e m x then if fpSign e m x then .negZero else .fin 0
  else .fin (fpVal e m x * (2 ^ kMin typ : Nat))

/-- Limbs of an integer over the full width, lowest first (R406). -/
def limbsOf (typ : Nat) (a : Int) : List Nat :=
  let u := unsigned (64 * (topLimb typ + 1)) a
  (List.range (topLimb typ + 1)).map (fun i => fld u (64 * i + 63) (64 * i))

/-- Lowest nonzero limb, and the highest limb that the run needs (R410). -/
def runOf (typ : Nat) (ls : List Nat) : Nat × Nat :=
  let top := topLimb typ
  let l := ((List.range (top + 1)).find? (fun i => decide (ls.getD i 0 ≠ 0))).getD 0
  let ends (i : Nat) : Bool :=
    let ext := if bit (ls.getD i 0) 63 then 2 ^ 64 - 1 else 0
    (ls.drop (i + 1)).all (fun x => decide (x = ext))
  let h := ((List.range (top + 1)).find? (fun i => decide (l ≤ i) && ends i)).getD top
  (l, h)

/-- The minimal form of a partial (R409 R410). -/
def Exact.encode (typ : Nat) : Exact → Bytes
  | .empty => beBytes 1 0x3E
  | .posInf => beBytes 1 0x3F
  | .negInf => beBytes 1 0x7F
  | .nan => beBytes 1 0xBF
  | .negZero => beBytes 1 0xFF
  | .fin a =>
    if a = 0 then zeros 9
    else
      let ls := limbsOf typ a
      let (l, h) := runOf typ ls
      let n := h - l + 1
      let hi := if n ≤ 3 then h else topLimb typ
      let lc := if n ≤ 3 then n - 1 else 3
      beBytes 1 (lc * 64 + l) ++ (List.range (hi - l + 1)).flatMap (fun i => beBytes 8 (ls.getD (hi - i) 0))

/-- What a header byte of R409 announces: the partial without limbs, or the run's lowest limb and length; none when
malformed. -/
def exactHeader (typ h : Nat) : Option (Exact ⊕ (Nat × Nat)) :=
  let base := h % 64
  let lc := h / 64
  let top := topLimb typ
  if h = 0x3E then some (.inl .empty)
  else if h = 0x3F then some (.inl .posInf)
  else if h = 0x7F then some (.inl .negInf)
  else if h = 0xBF then some (.inl .nan)
  else if h = 0xFF then some (.inl .negZero)
  else if top < base then none
  else if lc = 3 then some (.inr (base, top - base + 1))
  else if top < base + lc then none
  else some (.inr (base, lc + 1))

/-- Element partials from bytes: the partials, the limbs received and the runs to the top limb; none when malformed. -/
def decodeExact (typ : Nat) : Nat → Bytes → Option (List Exact × Nat × Nat)
  | _, [] => some ([], 0, 0)
  | 0, _ :: _ => none
  | f + 1, h :: t =>
    match exactHeader typ h.toNat with
    | none => none
    | some (.inl x) => (decodeExact typ f t).map (fun r => (x :: r.1, r.2))
    | some (.inr (base, n)) =>
      if t.length < 8 * n then none
      else
        let a := signed (64 * n) (beNat (t.take (8 * n))) * (2 ^ (64 * base) : Nat)
        (decodeExact typ f (t.drop (8 * n))).map (fun r => (.fin a :: r.1, r.2.1 + n, r.2.2 + b2n (decide (192 ≤ h.toNat))))

/-- The result word of a partial (R411). -/
def Exact.toWord (typ : Nat) (x : Exact) : Nat :=
  let (e, m) := fpFormat typ
  match x with
  | .nan => fpCanon e m
  | .posInf => fpInfOf e m false
  | .negInf => fpInfOf e m true
  | .negZero => 2 ^ (e + m)
  | .empty => 0
  | .fin a => fpRound e m a (kMin typ)

/-- Sums vectors of partials, element by element (R407). -/
def addExact (n : Nat) (vs : List (List Exact)) : List Exact :=
  vs.foldl (fun acc v => List.zipWith Exact.add acc v) (List.replicate n .empty)

/-- Partials packed into packets of at most 4,096 bytes, each of whole partials: first element and bytes (R394). -/
def packExact (typ : Nat) : List Exact → Nat → Nat → Bytes → List (Nat × Bytes)
  | [], _, first, acc => [(first, acc)]
  | x :: xs, i, first, acc =>
    let b := x.encode typ
    if 4096 < acc.length + b.length then (first, acc) :: packExact typ xs (i + 1) i b
    else packExact typ xs (i + 1) first (acc ++ b)

end Sys2Proof.Machine
end

