-- ==== Sys2Proof/Machine/DescLib.lean ====
section
/-! DEFINITION. How a fetched descriptor begins (R441 R449 R451-R453, R506). -/

namespace Sys2Proof.Machine

/-- Fields of a descriptor's body (R453). -/
def dLaddr (b : Bytes) : Nat := leAt b 0x10 8
def dLen (b : Bytes) : Nat := leAt b 0x18 4
def dDest (b : Bytes) : Nat := leAt b 0x1C 3
def dDstVi (b : Bytes) : Nat := leAt b 0x1F 1
def dRkey (b : Bytes) : Nat := leAt b 0x20 4
def dWofs (b : Bytes) : Nat := leAt b 0x24 6
def dRflags (b : Bytes) : Nat := leAt b 0x2A 1

/-- A descriptor may begin: it is the first of its queue, or of its chain's firing, that has not begun, and with ORDER
every earlier one of its queue has completed (R449 R506). -/
def mayBegin (ds : List Desc) (d : Desc) : Bool :=
  let before := (ds.filter (fun e => decide (e.queue = d.queue ∧ e.firing = d.firing))).takeWhile (fun e => decide (e.num ≠ d.num))
  before.all Desc.begun && (!bit (dFlags d.bytes) 1 || before.isEmpty)

/-- The descriptor of a queue that an operation begins: one of its opcode that may begin while the VI is ON. -/
def State.headDesc (s : State) (v q op : Nat) : Option Desc :=
  if s.viState v = viOn && !s.fatal then
    (s.vi v).descs.find? (fun d => decide (d.queue = q) && !d.begun && decide (dOpcode d.bytes = op) && mayBegin (s.vi v).descs d)
  else none

/-- The descriptor begins: its queue is no longer deferred. -/
def State.beginDesc (s : State) (v : Nat) (d : Desc) : State :=
  let s := s.updVi v (fun x => { x with descs := updFirst (fun e => decide (e.num = d.num)) (fun e => { e with begun := true, held := false }) x.descs })
  match d.firing with
  | none => s.updCmq v d.queue (fun c => { c with deferred := false })
  | some id => (s.bump (cluPg (viPort v)) 4 1).chainBegun v id

/-- The descriptor stays at its queue's head, with DEFERRED set, or holds its chain, and is counted once by `count` (R304
R449 R506). -/
def State.deferDesc (s : State) (v : Nat) (d : Desc) (count : State → State) : State :=
  if d.firing.isSome then
    if d.counted then s
    else (count (s.updVi v (fun x =>
      { x with descs := updFirst (fun e => decide (e.num = d.num)) (fun e => { e with counted := true }) x.descs }))).bumpVf v 10 1
  else if (s.cmq v d.queue).deferred then s
  else (count (s.updCmq v d.queue (fun c => { c with deferred := true }))).bumpVf v 10 1

/-- Runs a descriptor that ends as it begins. -/
def State.runDesc (s : State) (v : Nat) (d : Desc) (f : State → Nat × Bytes × State) : State :=
  let (st, ext, s) := f (s.beginDesc v d)
  s.complete v d.num st ext

/-- Starts a message toward a peer, or holds its descriptor back, or refuses it (R299 R304 R536). -/
def State.launch (s : State) (v : Nat) (d : Desc) (loc rem eager : Nat) (announced : Bool) (go : State → State) : State :=
  let u := s.unitOf loc rem
  match s.canStart v loc rem eager announced with
  | .refuse =>
    let s := ((s.bump (xptPg u 0) 8 1).beginDesc v d).complete v d.num stUnreachable []
    if s.noRoute loc rem then s.endDir loc rem stUnreachable else s
  | .defer c =>
    let s := if c = 12 ∧ s.ctxFull u then s.closeLru u else s
    s.deferDesc v d (fun s => s.bump (xptPg u 0) c 1)
  | .full =>
    if d.held then s
    else ((s.updVi v (fun x => { x with descs := updFirst (fun e => decide (e.num = d.num)) (fun e => { e with held := true }) x.descs })).bump
      (viPg v) 3 1).bumpVf v 10 1
  | .go =>
    match s.openTx loc rem with
    | some s => go (s.beginDesc v d)
    | none => s

/-- The agents of a descriptor's destination. -/
def State.dLoc (s : State) (v : Nat) : Nat := s.locEp (viPort v)
def dRem (b : Bytes) : Nat := 16 * dDest b

end Sys2Proof.Machine
end

