-- ==== Sys2Proof/Machine/MwuLib.lean ====
section
/-! DEFINITION. Memory windows and the accesses through them (11_remote_memory.md R309-R344). -/

namespace Sys2Proof.Machine

/-- A FREE descriptor whose index has never been used. -/
def winInit : Win :=
  { state := 0, advances := 0, base := 0, len := 0, rights := 0, attr := 0, owner := 0, eq := 0, kr := 0, ctr := 0,
    srcAddr := 0, srcPlen := 0, srcVi := 0, srcFlags := 0, regTick := 0, revTick := 0 }
def winD : Nat → Win := fun _ => winInit
def State.win (s : State) (i : Nat) : Win := Tab.get winD s.wins i
def State.updWin (s : State) (i : Nat) (f : Win → Win) : State := { s with wins := Tab.upd winD s.wins i f }

def mwuD : Nat → Mwu := fun _ => ⟨[], [], [], []⟩
def State.mwu (s : State) (u : Nat) : Mwu := Tab.get mwuD s.mwus u
def State.updMwu (s : State) (u : Nat) (f : Mwu → Mwu) : State := { s with mwus := Tab.upd mwuD s.mwus u f }

/-- MWU of a window index (R309), of a VI (R19). -/
def mwuOfWin (i : Nat) : Nat := i / 2 ^ 20
def mwuOfVi (v : Nat) : Nat := v / 1024

/-- STATE values (R311). -/
def wFree : Nat := 0
def wValid : Nat := 1
def wPoisoned : Nat := 2

/-! Generations (R310 R312). -/

/-- A generation advanced n times: one that passes 1,023 continues at 1. -/
def genAdv (g n : Nat) : Nat := if n = 0 then g else (g + n - 1) % 1023 + 1

/-- GEN of a window. -/
def State.winGen (s : State) (i : Nat) : Nat := genAdv (s.fget (mwuPg (mwuOfWin i) 0) 0x4C 9 0) (s.win i).advances

/-- The remote key of a window (R310). -/
def State.rkey (s : State) (i : Nat) : Nat := i * 1024 + s.winGen i

/-- Sets how often an index has advanced; ADV_MAX keeps the largest, up to 1,022 (R312). -/
def State.winAdvance (s : State) (i n : Nat) : State :=
  let p := mwuPg (mwuOfWin i) 0
  (s.fput p 0x4C 25 16 (max (s.fget p 0x4C 25 16) (min n 1022))).updWin i (fun w => { w with advances := n })

/-! Kinds of window. -/

def Win.pool (w : Win) : Bool := bit w.attr 0
def Win.hostAtomic (w : Win) : Bool := bit w.attr 1
def Win.ctrEn (w : Win) : Bool := bit w.attr 2
def Win.ctrMode (w : Win) : Bool := bit w.attr 3

/-- Start of the cleat range of a VI's address space (R525). -/
def cleatBase : Nat := 0xFFFFFFFFFFFF0000

/-- A cleat window (R525). -/
def Win.isCleat (w : Win) : Bool := !w.pool && decide (cleatBase ≤ w.base ∧ w.base + w.len ≤ cleatBase + 0x4000)

/-- Units of 64 KiB that a VALID host-memory window counts (R313 R525). -/
def Win.units (w : Win) : Nat := if w.state = wValid && !w.pool && !w.isCleat then ceilDiv w.len 65536 else 0

/-- REGUSEDk of host port h (R313). -/
def State.regUsed (s : State) (h : Nat) : Nat :=
  s.wins.foldl (fun n e => if viPort e.2.owner = h then n + e.2.units else n) 0

/-- WIN_USED of an MWU (R342). -/
def State.winUsed (s : State) (u : Nat) : Nat :=
  (s.wins.filter (fun e => decide (mwuOfWin e.1 = u ∧ e.2.state ≠ wFree))).length

/-- An index of the VI's own range (R309). -/
def State.ownsWin (s : State) (v i : Nat) : Bool := decide ((s.vi v).winFirst ≤ i ∧ i < (s.vi v).winFirst + (s.vi v).winCount)

/-- The FREE index of a VI with the oldest REV_TICK, the lowest first (R314). -/
def State.freeWin (s : State) (v : Nat) : Option Nat :=
  let first := (s.vi v).winFirst
  let count := (s.vi v).winCount
  let mine := s.wins.filter (fun e => decide (first ≤ e.1 ∧ e.1 < first + count))
  let new := mine.foldl (fun n e => if e.1 = n then n + 1 else n) first
  let fresh := if new < first + count then [(new, 0)] else []
  let old := (mine.filter (fun e => decide (e.2.state = wFree))).map (fun e => (e.1, e.2.revTick))
  (argMin (fun e => e.2 * 2 ^ 22 + e.1) (fresh ++ old)).map Prod.fst

/-! Checks (R321-R325). -/

/-- Opcodes (R319). -/
def opPut : Nat := 0x10
def opGetReq : Nat := 0x11
def opGetRsp : Nat := 0x12
def opSignal : Nat := 0x13
def opAtomic : Nat := 0x14
def opAtomicRsp : Nat := 0x15

def pkRflags (p : Bytes) : Nat := pkUlp p 0x15 1
def pkRkey (p : Bytes) : Nat := pkUlp p 0x16 4
def pkWofs (p : Bytes) : Nat := pkUlp p 0x1A 6
def pkWide (p : Bytes) : Bool := bit (pkRflags p) 4
def pkFetch (p : Bytes) : Bool := bit (pkRflags p) 6
def pkAop (p : Bytes) : Nat := fld (pkRflags p) 3 0
def pkReadLen (p : Bytes) : Nat := beAt p 64 4

/-- LEN of a response agrees with its opcode, and with the request it answers when that is known (R319 R321 R323). -/
def rspFormed (p : Bytes) (asked : Option Nat) : Bool :=
  let n := pkLen p
  match asked with
  | some k => decide (n = k)
  | none => if pkOpcode p = 0x12 then decide (1 ≤ n ∧ n ≤ 4096) else decide (n = 8 ∨ n = 16)

/-- LEN agrees with the opcode, WIDE and AOP, and no code is reserved (R319-R323). -/
def rmaFormed (p : Bytes) : Bool :=
  let n := pkLen p
  let op := pkOpcode p
  if op = opPut then if pkType p = 2 then decide (n = 0) else decide (1 ≤ n ∧ n ≤ 4096)
  else if op = opGetReq then decide (n = 8 ∧ 1 ≤ pkReadLen p ∧ pkReadLen p ≤ 4096)
  else if op = opSignal then decide (n = 8 ∧ fld (pkRflags p) 1 0 < 2)
  else if op = opAtomic then
    decide (pkAop p < 7 ∧ n = (if pkWide p then 16 else 8) * (if pkAop p = 2 then 2 else 1))
  else false

/-- Window offset and length of the bytes that a packet accesses (R321 R324). -/
def accessRange (p : Bytes) : Nat × Nat :=
  let op := pkOpcode p
  if op = opPut then if pkType p = 2 then (pkWofs p, pkOfs p) else (pkWofs p + pkOfs p, pkLen p)
  else if op = opGetReq then (pkWofs p + pkOfs p, pkReadLen p)
  else if op = opAtomic ∧ pkWide p then (pkWofs p / 16 * 16, 16)
  else (pkWofs p / 8 * 8, 8)

/-- The source filter admits the packet (R324 step 2). -/
def Win.admits (w : Win) (p : Bytes) : Bool :=
  let n := min 24 w.srcPlen
  decide (pkSrc p / 2 ^ (24 - n) = w.srcAddr / 2 ^ (24 - n)) && (!bit w.srcFlags 0 || decide (pkSrcVi p = w.srcVi))

/-- The right an opcode needs: bit of RIGHTS (R311 R324). -/
def rightOf (op : Nat) : Nat := if op = opPut then 1 else if op = opGetReq then 0 else if op = opAtomic then 2 else 3

/-- The checks of R324 in order: where the access goes, or the status that rejects it. -/
def State.checkAccess (s : State) (v : Nat) (p : Bytes) : Except Nat (Nat × Win × Place) :=
  let i := pkRkey p / 1024
  let w := s.win i
  let op := pkOpcode p
  let (ofs, n) := accessRange p
  if !s.ownsWin v i || decide (w.state = wPoisoned) then .error stKeyMismatch
  else if pkRkey p % 1024 ≠ s.winGen i then .error stGenStale
  else if w.state ≠ wValid ∨ w.admits p = false then .error stKeyMismatch
  else if w.len < ofs + n then .error stBounds
  else if w.isCleat ∧ 4 * (s.vi v).cleatCount < w.base - cleatBase + ofs + n then .error stBounds
  else if bit w.rights (rightOf op) = false then .error stRights
  else if w.isCleat then
    if pkType p = 1 ∧ (op = opGetReq ∨ op = opPut) ∧ n = 4 ∧ ofs % 4 = 0 then
      .ok (i, w, .cleat ((s.vi v).cleatFirst + (w.base - cleatBase + ofs) / 4))
    else .error stRights
  else if w.pool then .ok (i, w, .pool (w.base + ofs))
  else
    let rd := decide (op = opGetReq ∨ op = opAtomic)
    let wr := decide (op ≠ opGetReq)
    match s.viAccess v (w.base + ofs) n (some w.kr) rd wr with
    | .ok ps => .ok (i, w, .host ps)
    | .error e => .error e

/-- Counter of MWU page 1 that counts rejections with a status (R344). -/
def rejCtr (st : Nat) : Option Nat :=
  if st = stKeyMismatch then some 0 else if st = stGenStale then some 1 else if st = stBounds then some 2
  else if st = stRights then some 3 else if st = stXlateMiss then some 4 else if st = stPkeyDeny then some 5 else none

/-- The violation event of a rejected packet (R337 R338). -/
def State.violation (s : State) (v : Nat) (p : Bytes) (status : Nat) : State :=
  let u := mwuOfVi v
  let i := pkRkey p / 1024
  let q := if s.ownsWin v i then (s.win i).eq else 0
  if s.fget (mwuPg u 0) 0x40 23 16 ≤ Tab.get (fun _ => 0) (s.mwu u).violNow v then
    ((s.raise (mwuPg u 0) 20).bump (mwuPg u 0) 14 1).updMwu u (fun m =>
      { m with violLost := Tab.upd (fun _ => 0) m.violLost v (· + 1) })
  else
    let lost := Tab.get (fun _ => 0) (s.mwu u).violLost v
    let s := s.updMwu u (fun m => { m with violNow := Tab.upd (fun _ => 0) m.violNow v (· + 1),
                                           violLost := Tab.set (fun _ => 0) m.violLost v 0 })
    let body := leBytes 3 (pkSrc p) ++ leBytes 1 (pkSrcVi p) ++ leBytes 4 (pkRkey p) ++ leBytes 8 (accessRange p).1 ++
      leBytes 4 (pkOpcode p) ++ leBytes 4 lost
    (s.bump (mwuPg u 0) 13 1).postEvent v q status 1 body

/-- A packet is rejected by the MWU: NOTICE, or for an INTENT a refusing GRANT, counters and the event; a granted one
refuses its message (R325 R328 R336 R337). -/
def State.rejectRma (s : State) (v : Nat) (p : Bytes) (status : Nat) : State :=
  let u := mwuOfVi v
  let poisoned := s.ownsWin v (pkRkey p / 1024) && decide ((s.win (pkRkey p / 1024)).state = wPoisoned)
  let s := match rejCtr status with
    | some c => s.bump (mwuPg u 1) c 1
    | none => s
  let s := ((s.bump (mwuPg u 1) 7 (b2n poisoned)).bumpVf v 11 1).violation v p status
  if pkType p = 2 then (s.refuseAnn (pkLoc p) (pkRem p) (pkMsg p) status).disposePkt p
  else
    let s := if pkGranted p then
        (s.bump (mwuPg u 1) 6 (b2n (!s.annRefused (pkLoc p) (pkRem p) (pkMsg p)))).refuseAnn (pkLoc p) (pkRem p) (pkMsg p) status
      else s
    s.rejectPkt p status

/-- A packet of a VI that is not ON: NOTICE, and a granted one refuses its message (R297 R328 R457). -/
def State.rejectVi (s : State) (p : Bytes) (status : Nat) : State :=
  let s := if pkGranted p ∨ pkType p = 2 then s.refuseAnn (pkLoc p) (pkRem p) (pkMsg p) status else s
  s.rejectPkt p status

/-! Accesses (R316 R326 R335). -/

/-- Sequence numbers of the packets presented before one, in the same receive half, and not disposed of (R335). -/
def State.presentedBefore (s : State) (p : Bytes) : List Nat :=
  match s.rxOf (pkLoc p) (pkRem p) with
  | some r => r.undisposed.takeWhile (fun q => decide (q ≠ pkSeq p))
  | none => []

/-- What a fenced request waited for has been disposed of. -/
def State.fenceDone (s : State) (a : Access) : Bool :=
  match s.rxOf (pkLoc a.pkt) (pkRem a.pkt) with
  | some r => a.waits.all (fun q => decide (q ∉ r.undisposed))
  | none => true

/-- The agent of a remote access to a cleat (R516). -/
def Access.agent (a : Access) : CleatHolder := .remote (pkSrc a.pkt) (pkSrcVi a.pkt) a.window

def State.updAccess (s : State) (u id : Nat) (f : Access → Access) : State :=
  s.updMwu u (fun m => { m with accesses := updFirst (fun a => decide (a.id = id)) f m.accesses })

/-- The read of a cleat reaches the array, once (R525). -/
def State.cleatAccess (s : State) (u : Nat) (a : Access) : State :=
  match a.place with
  | .cleat k =>
    if decide (pkOpcode a.pkt = opGetReq) && a.reply.isNone && !s.stalls.any (fun x => decide (x.access = some (u, a.id))) then
      match s.cleatReadFrom (mwuStop u) 1 k a.agent 0 (some (u, a.id)) with
      | (s, some v) => s.updAccess u a.id (fun a => { a with reply := some v })
      | (s, none) => s
    else s
  | _ => s

/-- A packet that has passed its checks becomes an access in flight (R316); pool lines are snooped (R483). -/
def State.startAccess (s : State) (v : Nat) (p : Bytes) (i : Nat) (w : Win) (pl : Place) : State :=
  let u := mwuOfVi v
  let fenced := decide (pkOpcode p = opGetReq) && bit (pkRflags p) 7
  let waits := if fenced then s.presentedBefore p else []
  let (id, s) := s.fresh
  let a : Access := { id := id, window := i, vi := v, win := w, pkt := p, place := pl, deadline := none, waits := waits, reply := none }
  let s := (s.updMwu u (fun m => { m with accesses := m.accesses ++ [a] })).bump (mwuPg u 0) 8 (b2n (!waits.isEmpty))
  let n := (accessRange p).2
  match pl with
  | .pool off => if pkOpcode p = opGetReq then s.snoopRead off n else s.snoopWrite off n
  | .cleat _ => if waits.isEmpty then s.cleatAccess u a else s
  | .host _ => s

/-- A presented PUT, GET_REQ, SIGNAL or ATOMIC packet (R323-R325). -/
def State.rxRma (s : State) (p : Bytes) : State :=
  let v := pkVi p
  match s.viRejects p with
  | some st => s.rejectVi p st
  | none =>
    if rmaFormed p = false then (s.raise (mwuPg (mwuOfVi v) 0) 19).rejectRma v p stRights
    else
      match s.checkAccess v p with
      | .error st => s.rejectRma v p st
      | .ok (i, w, pl) => s.startAccess v p i w pl

/-- The revokes whose last fenced access has ended complete (R316). -/
def State.endFences (s : State) (u : Nat) : State :=
  let m := s.mwu u
  let past (r : Revoke) : Bool := m.accesses.all (fun a => match a.deadline with | some (_, x) => decide (x ≠ r.id) | none => true)
  let s := s.updMwu u (fun m => { m with revokes := m.revokes.filter (fun r => !past r) })
  (m.revokes.filter past).foldl (fun s r => match r.desc with | some n => s.complete r.vi n stOk [] | none => s) s

def State.dropAccess (s : State) (u id : Nat) : State :=
  (s.updMwu u (fun m => { m with accesses := m.accesses.filter (fun a => decide (a.id ≠ id)) })).endFences u

/-- An access is abandoned at its fence's end, or turned away at its point of execution: its packet is rejected
(R316 R332). -/
def State.abandonAccess (s : State) (u : Nat) (a : Access) (status : Nat) : State :=
  let s := { s with stalls := s.stalls.filter (fun x => decide (x.access ≠ some (u, a.id))) }
  (s.rejectRma a.vi a.pkt status).dropAccess u a.id

/-- A revoke takes effect, `wait` cycles from now (R315-R317): the generation advances, the window is FREE, and the accesses
in flight are fenced. -/
def State.revokeWin (s : State) (i v : Nat) (desc : Option Nat) (wait : Nat) : State :=
  let u := mwuOfWin i
  let s := (s.winAdvance i ((s.win i).advances + 1)).updWin i (fun w => { w with state := wFree, revTick := s.nowTick % 2 ^ 32 })
  let s := (s.bump (mwuPg u 0) 10 1).cleatRevoke i
  let (id, s) := s.fresh
  let dl := s.nowAbs + wait + 2048
  let s := s.updMwu u (fun m =>
    { m with accesses := m.accesses.map (fun a =>
               if a.window = i ∧ a.deadline = none then { a with deadline := some (dl, id) } else a),
             revokes := m.revokes ++ [⟨id, i, v, desc, dl⟩] })
  s.endFences u

/-! Atomics (R331 R332). -/

/-- The unit's value after an atomic: AOP on an image of 8 or 16 bytes, and its operand (R322 R331). -/
def atomicNew (aop : Nat) (wide : Bool) (old operand : Bytes) : Bytes :=
  let w := if wide then 16 else 8
  let a := leNat (padTo old w)
  let b := leNat (padTo operand w)
  match aop with
  | 0 => leBytes w (a + b)
  | 1 =>
    if wide then leBytes 8 (fadd64 (leAt old 0 8) (leAt operand 0 8)) ++ leBytes 8 (fadd64 (leAt old 8 8) (leAt operand 8 8))
    else leBytes 8 (fadd64 a b)
  | 2 => if a = b then slice operand w w else padTo old w
  | 3 => leBytes w b
  | 4 => leBytes w (Nat.land a b)
  | 5 => leBytes w (Nat.lor a b)
  | _ => leBytes w (Nat.xor a b)

/-- The AOP of an atomic, or of a SIGNAL, whose ADD is an atomic of 8 bytes; its SET is no AOP (R320 R330 R331). -/
def aopOf (p : Bytes) : Option Nat :=
  if pkOpcode p = opAtomic then some (pkAop p)
  else if pkOpcode p = opSignal ∧ fld (pkRflags p) 1 0 = 1 then some 0
  else none

/-- The operand is 16 bytes wide. -/
def wideOf (p : Bytes) : Bool := decide (pkOpcode p = opAtomic) && pkWide p

/-- An atomic on host memory is executed by an AtomicOp of the root port, not by the MWU (R332). -/
def State.byAtomicOp (s : State) (a : Access) : Bool :=
  !s.bget (hostPg (viPort a.vi) 0) 0x44 30 && a.win.hostAtomic &&
    (match aopOf a.pkt with
     | some o => (decide (o = 0 ∨ o = 3) && !wideOf a.pkt) || decide (o = 2)
     | none => false)

/-- The AtomicOp that an access sends to its root port (R332). -/
def State.sendAtomicOp (s : State) (a : Access) (ps : List Piece) : State :=
  (s.emit (.atomicOp (viPort a.vi) ((ps.head?.map Piece.bus).getD 0) ((aopOf a.pkt).getD 0) (pkPayload a.pkt))).bump
    (hostPg (viPort a.vi) 0) 12 1

/-- Response of a GET_REQ or a fetching ATOMIC (R320 R321 R329 R331), handed to the XPT unit as an L1 request (R470). -/
def State.respond (s : State) (a : Access) (op : Nat) (data : Bytes) : State :=
  let loc := pkLoc a.pkt
  let rem := pkRem a.pkt
  let ofs := if op = opGetRsp then pkOfs a.pkt else 0
  let ulp := beBytes 1 op ++ zeros 1 ++ beBytes 4 (pkMsg a.pkt)
  let h := s.hdr 1 loc rem 0 ++ wiluthHdr 1 (flFirst + flLast) (a.vi % 256) (pkSrcVi a.pkt) 0 ofs ulp
  (s.nocTxn (mwuStop (mwuOfVi a.vi)) (xptStop (s.unitOf loc rem)) 1 true data.length).pushRsp a.vi loc rem h data

/-- The access's own counters (R344); a SIGNAL that sets is no atomic (R330). -/
def State.countAccess (s : State) (a : Access) : State :=
  let p := mwuPg (mwuOfVi a.vi) 0
  let op := pkOpcode a.pkt
  let n := (accessRange a.pkt).2
  if op = opPut then (s.bump p 0 1).bump p 1 (ceilDiv n 64)
  else if op = opGetReq then (s.bump p 2 1).bump p 3 (ceilDiv n 64)
  else
    let c := match a.place with
      | .pool _ => 4
      | _ => if s.byAtomicOp a then 5 else 6
    let s := if (aopOf a.pkt).isSome then s.bump p c 1 else s
    if op = opSignal then s.bump p 7 1 else s

/-- An access is disposed of: its trigger counter, its event and its packet (R326 R330 R339). -/
def State.finishAccess (s : State) (u : Nat) (a : Access) : State :=
  let op := pkOpcode a.pkt
  let s := s.countAccess a
  let written := if op = opPut then pkLen a.pkt else if op = opSignal then 8 else 0
  let k := if a.win.ctrMode then 1 else written
  let s := if a.win.ctrEn && decide (0 < k) then s.pushTrig a.vi a.win.ctr false k else s
  let s := if decide (op = opSignal) && bit (pkRflags a.pkt) 2 then
      s.postEvent a.vi a.win.eq stOk 2 (leBytes 3 (pkSrc a.pkt) ++ leBytes 1 (pkSrcVi a.pkt) ++ leBytes 4 (pkRkey a.pkt) ++
        leBytes 8 (accessRange a.pkt).1 ++ slice a.pkt 64 8)
    else s
  (s.disposePkt a.pkt).dropAccess u a.id

/-- The value an access to a unit leaves behind, from the value before (R330 R331). -/
def Access.newUnit (a : Access) (old : Bytes) : Bytes :=
  let d := pkPayload a.pkt
  if pkOpcode a.pkt = opSignal then if fld (pkRflags a.pkt) 1 0 = 0 then padTo d 8 else atomicNew 0 false old d
  else atomicNew (pkAop a.pkt) (pkWide a.pkt) old d

/-- The access takes effect at its point of execution (R326 R332): `data` is what host memory answered. -/
def State.execAccess (s : State) (u : Nat) (a : Access) (data : Bytes) : State :=
  let op := pkOpcode a.pkt
  let n := (accessRange a.pkt).2
  let h := viPort a.vi
  match a.place with
  | .cleat k =>
    let s := if op = opGetReq then s.respond a opGetRsp (leBytes 4 (a.reply.getD 0))
      else s.cleatWriteFrom (mwuStop u) 1 k a.agent (leAt (pkPayload a.pkt) 0 4)
    s.finishAccess u a
  | .pool off =>
    let s := s.countPool (mwuStop u) 1 off n (decide (op ≠ opGetReq))
    let s :=
      if op = opGetReq then s.respond a opGetRsp (s.poolGet off n)
      else if op = opPut then s.poolPut off (pkPayload a.pkt)
      else
        let old := s.poolGet off n
        let s := (s.poolPut off (a.newUnit old)).bump (hbmcPg (s.poolStack off) 0) 2 (b2n (aopOf a.pkt).isSome)
        if decide (op = opAtomic) && pkFetch a.pkt then s.respond a opAtomicRsp old else s
    s.finishAccess u a
  | .host ps =>
    let s := s.hostTxn (mwuStop u) a.vi 1 (decide (op ≠ opGetReq)) n
    let rd (s : State) : State :=
      ((s.atsFill a.vi ps).bump (hostPg h 0) 2 ps.length).bump (hostPg h 0) 1 (ceilDiv n 64)
    let s :=
      if op = opGetReq then (rd s).respond a opGetRsp (padTo data n)
      else if op = opPut then (s.atsFill a.vi ps).writePieces a.vi ps (pkPayload a.pkt)
      else if s.byAtomicOp a then
        let s := (s.atsFill a.vi ps).sendAtomicOp a ps
        if decide (op = opAtomic) && pkFetch a.pkt then s.respond a opAtomicRsp (padTo data n) else s
      else
        let old := padTo data n
        let s := (rd s).writePieces a.vi ps (a.newUnit old)
        if decide (op = opAtomic) && pkFetch a.pkt then s.respond a opAtomicRsp old else s
    s.finishAccess u a

/-- The access may be executed now: a revoke's fence has not abandoned it, and what it waits for is done (R316 R335 R460
R484). -/
def State.accessReady (s : State) (a : Access) : Bool :=
  (match a.deadline with | some (t, _) => decide (s.nowAbs ≤ t) | none => true) && s.fenceDone a &&
    (match a.place with
     | .pool off => s.linesFree off (accessRange a.pkt).2
     | .host _ => s.viMayWrite a.vi
     | .cleat _ => decide (pkOpcode a.pkt ≠ opGetReq) || a.reply.isSome)

/-- The stop that an access's own requests go to: HBM's of a pool access, else the host port's; the cleat array's. -/
def State.accessStop (s : State) (a : Access) : Nat :=
  match a.place with
  | .pool off => hbmcStop (s.poolStack off)
  | .host _ => hostStop (viPort a.vi)
  | .cleat _ => cleatStop

/-- The pool bytes of an access that lie outside the pool. -/
def State.accessHole (s : State) (a : Access) : Option Nat :=
  match a.place with
  | .pool off => if s.poolSize < off + (accessRange a.pkt).2 then some off else none
  | _ => none

end Sys2Proof.Machine
end

