-- ==== Sys2Proof/Machine/MatchLib.lean ====
section
/-! DEFINITION. Matching: keys, lists, placement and exhaustion (12_matching.md R345-R376). -/

namespace Sys2Proof.Machine

/-! Units and capacities (R349 R369 R370). -/

/-- MTCH of a VI, and its page 0. -/
def mtchOf (v : Nat) : Nat := v / 1024
def mtPg (v n : Nat) : PageRef := mtchPg (mtchOf v) n

def State.mtch (s : State) (v : Nat) : Match := (s.vi v).mtch
def State.updMtch (s : State) (v : Nat) (f : Match → Match) : State := s.updVi v (fun x => { x with mtch := f x.mtch })

/-- Bounce slots that a VI's messages hold: parked, and being copied (R354). -/
def Match.slots (m : Match) : Nat := m.unexp.foldl (fun n e => n + e.slots) 0 + m.placing.foldl (fun n e => n + e.copySlots) 0

/-- Sums a quantity over the VIs of an MTCH. -/
def State.mtchSum (s : State) (u : Nat) (f : Match → Nat) : Nat :=
  s.vis.foldl (fun n e => if mtchOf e.1 = u then n + f e.2.mtch else n) 0

/-- Bounce slots of a unit: those of the partition in force (R379 R479). -/
def State.bounceCap (s : State) : Nat := match s.mem.part with | some p => p.bounce | none => 0

/-- Posted and unexpected entries of a unit (R369). -/
def mtchEntries : Nat := 524288

/-! Keys (R345 R348 R349). -/

/-- The match fields of an MSEND packet. -/
def pkDomain (p : Bytes) : Nat := pkUlp p 0x15 2
def pkComm (p : Bytes) : Nat := pkUlp p 0x17 2
def pkRank (p : Bytes) : Nat := pkUlp p 0x19 3
def pkTag (p : Bytes) : Nat := pkUlp p 0x1C 4

/-- Bin of a fully specified key. -/
def matchBin (comm src tag : Nat) : Nat := crc32c (beBytes 2 comm ++ beBytes 3 src ++ beBytes 4 tag) % 65536

/-- A receive matches a message's key (R345). -/
def Posted.hits (r : Posted) (comm src tag : Nat) : Bool :=
  decide (r.comm = comm) && (r.anySrc || decide (r.srcRank = src)) && (r.anyTag || decide (r.tag = tag))

/-- A receive without wildcards. -/
def Posted.full (r : Posted) : Bool := !r.anySrc && !r.anyTag

/-! The walks of R355 and R356. -/

/-- Entries examined, and lists stopped by a stamp. -/
structure Walk where
  best : Option Posted
  examined : Nat
  stopped : Nat
deriving DecidableEq, Repr

/-- The first matching entry of a posted bin. -/
def walkBin (comm src tag : Nat) : List Posted → Nat → Walk
  | [], _ => ⟨none, 0, 0⟩
  | e :: t, i =>
    if e.hits comm src tag then ⟨some e, b2n (decide (0 < i)), 0⟩
    else
      let w := walkBin comm src tag t (i + 1)
      { w with examined := w.examined + b2n (decide (0 < i)) }

/-- A wildcard list, walked until it matches or its stamps pass the best candidate. -/
def walkWild (comm src tag : Nat) (best : Option Posted) : List Posted → Nat → Walk
  | [], _ => ⟨best, 0, 0⟩
  | e :: t, i =>
    let late := match best with | some b => decide (b.stamp < e.stamp) | none => false
    if late then ⟨best, b2n (decide (0 < i)), 1⟩
    else if e.hits comm src tag then ⟨some e, b2n (decide (0 < i)), 0⟩
    else
      let w := walkWild comm src tag best t (i + 1)
      { w with examined := w.examined + b2n (decide (0 < i)) }

/-- The receive that an arrival matches (R355). -/
def Match.arrival (m : Match) (comm src tag : Nat) : Walk :=
  let b := matchBin comm src tag
  let w0 := walkBin comm src tag (m.posted.filter (fun e => e.full && decide (matchBin e.comm e.srcRank e.tag = b))) 0
  let step (w : Walk) (l : List Posted) : Walk :=
    let x := walkWild comm src tag w.best l 0
    ⟨x.best, w.examined + x.examined, w.stopped + x.stopped⟩
  let w1 := step w0 (m.posted.filter (fun e => e.anySrc && !e.anyTag))
  let w2 := step w1 (m.posted.filter (fun e => !e.anySrc && e.anyTag))
  step w2 (m.posted.filter (fun e => e.anySrc && e.anyTag))

/-- A receive is the head of its posted bin (R349). -/
def Match.heads (m : Match) (r : Posted) : Bool :=
  let b := matchBin r.comm r.srcRank r.tag
  match m.posted.find? (fun e => e.full && decide (matchBin e.comm e.srcRank e.tag = b)) with
  | some e => decide (e.stamp = r.stamp)
  | none => false

/-- The unexpected entries that a search with a receive's key examines, in order (R356). -/
def Match.searched (m : Match) (r : Posted) : List Unexp :=
  if r.full then m.unexp.filter (fun e => decide (matchBin e.comm e.srcRank e.tag = matchBin r.comm r.srcRank r.tag))
  else m.unexp

/-- The unexpected entry that a post or a probe finds. -/
def Match.search (m : Match) (r : Posted) : Option Unexp :=
  ((m.searched r).filter (fun e => !e.claimed)).find? (fun e => r.hits e.comm e.srcRank e.tag)

/-- Entries a search examines beyond its list's head. -/
def Match.searchCost (m : Match) (r : Posted) : Nat :=
  let l := (m.searched r).filter (fun e => !e.claimed)
  let before := (l.takeWhile (fun e => !r.hits e.comm e.srcRank e.tag)).length
  min before (l.length - 1)

/-- Counts the entries examined, and the cache misses among them and the bin record, which the context cache decides
(R369 R381). -/
def State.countWalk (s : State) (v examined stopped : Nat) : State :=
  let (m, s) := s.free
  ((s.bump (mtPg v 0) 6 examined).bump (mtPg v 0) 7 (m % (examined + 2))).bump (mtPg v 1) 9 stopped

/-! Completions (R363 R454). -/

/-- Bytes 0x18 to 0x2F of a receive's or a probe's completion. -/
def recvExt (rlen msgLen src srcVi rank flags tag handle : Nat) : Bytes :=
  leBytes 4 rlen ++ leBytes 4 msgLen ++ leBytes 3 src ++ leBytes 1 srcVi ++ leBytes 3 rank ++ leBytes 1 flags ++
    leBytes 4 tag ++ leBytes 4 handle

/-- A receive completes (R358-R363). -/
def State.endRecv (s : State) (v : Nat) (x : Placing) (status : Nat) : State :=
  let s := s.updMtch v (fun m => { m with placing := delFirst (fun y => decide (y.id = x.id)) m.placing })
  let s := (s.bump (mtPg v 0) 11 (b2n (decide (status = stBounds)))).bump (mtPg v 1) 3 (b2n x.claimed)
  s.complete v x.posted.desc status (recvExt x.placed x.msgLen x.src x.srcVi x.srcRank 0 x.tag 0)

/-- A receive that has placed all it takes: BOUNDS when the message is longer than its buffer (R361). -/
def State.endPlaced (s : State) (v : Nat) (x : Placing) : State :=
  s.endRecv v x (if x.posted.bufLen < x.msgLen then stBounds else stOk)

def State.updPlacing (s : State) (v id : Nat) (f : Placing → Placing) : State :=
  s.updMtch v (fun m => { m with placing := updFirst (fun y => decide (y.id = id)) f m.placing })

/-- Key-rights of a placement (R441). -/
def State.placeKeys (s : State) (v : Nat) (x : Placing) : Nat :=
  if x.claimed then (match s.desc v x.posted.desc with | some d => d.keys | none => 0)
  else s.get (vfPg v 2) (0x10C + 16 * x.posted.queue)

/-- Data of a message is placed at an offset of the receive's buffer, as far as the buffer reaches (R358 R361 R362), by
requests of a level to the host port: the bytes placed, or the status of the failure. -/
def State.place (s : State) (v level : Nat) (x : Placing) (ofs : Nat) (data : Bytes) : Except Nat (State × Nat) :=
  let b := data.take (x.posted.bufLen - ofs)
  match s.viWrite v (x.posted.buf + ofs) (some (s.placeKeys v x)) b with
  | .ok s => .ok (s.hostTxn (mtchStop (mtchOf v)) v level true b.length, b.length)
  | .error e => .error e

/-! Exhaustion (R372 R375). -/

/-- Matching of a VI enters STOPPED (R372). -/
def State.stopMatch (s : State) (v cause : Nat) : State :=
  let was := (s.mtch v).stopCause
  let s := s.updMtch v (fun m => { m with stopCause := cause })
  if was ≠ 0 then s
  else ((s.raise (mtPg v 0) 18).bump (mtPg v 0) 15 1).postEvent v 0 stBusy 3 (leBytes 4 cause)

/-- Matching of a VI is poisoned (R375). -/
def State.poisoned (s : State) (v : Nat) : Bool := decide ((s.mtch v).stopCause = 5)

/-- The first limit that parking a message would exhaust (R372), 0 for none. -/
def State.parkLimit (s : State) (v slots : Nat) : Nat :=
  let x := s.vi v
  let u := mtchOf v
  if x.unexpMax ≤ x.mtch.unexp.length then 1
  else if mtchEntries ≤ s.mtchSum u (fun m => m.unexp.length) then 3
  else if x.bounceMax < x.mtch.slots + slots then 2
  else if s.bounceCap < s.mtchSum u Match.slots + slots then 4
  else 0

/-- A matched packet is rejected: NOTICE, or for an INTENT a refusing GRANT (R346 R347 R372). -/
def State.rejectMsend (s : State) (p : Bytes) (status : Nat) : State :=
  if pkType p = 2 then (s.refuseAnn (pkLoc p) (pkRem p) (pkMsg p) status).disposePkt p
  else
    let s := if pkLast p then s else
      s.updRx (pkLoc p) (pkRem p) (fun r => { r with rejected := r.rejected ++ [(pkMsg p, status)] })
    s.rejectPkt p status

/-! Parking and delivery (R354 R356 R358-R360). -/

/-- A free entry index of a unit: any one may be taken. -/
def firstUnused (used : List Nat) (start : Nat) : Nat → Nat
  | 0 => start % mtchEntries
  | f + 1 => if start % mtchEntries ∈ used then firstUnused used (start + 1) f else start % mtchEntries

/-- Index of a new unexpected entry; which free one is taken is left open. -/
def State.newIndex (s : State) (u : Nat) : Nat × State :=
  let used := s.vis.foldl (fun l e => if mtchOf e.1 = u then l ++ e.2.mtch.unexp.map Unexp.index else l) []
  let (k, s) := s.free
  (firstUnused used k used.length, s)

/-- Bytes written to or read from bounce slots, on the rings; which stack holds a slot is left open. -/
def State.countBounce (s : State) (v level n : Nat) (wr : Bool) : State :=
  match s.mem.part with
  | none => s
  | some p =>
    if n = 0 then s
    else
      let l := p.ofDie (mtchOf v / 2)
      let (k, s) := s.free
      let stack := l.getD (k % max 1 l.length) 0
      (s.bump (hbmcPg stack 0) (b2n wr) (ceilDiv n 64)).nocTxn (mtchStop (mtchOf v)) (hbmcStop stack) level wr n

/-- Length of a message from its first packet: an INTENT's MSG_LEN, a single packet's LEN; of two eager packets it is
open until the second arrives (R268 R288). -/
def State.msgLen (s : State) (p : Bytes) : Nat × State :=
  if pkType p = 2 then (pkOfs p, s)
  else if pkLast p then (pkLen p, s)
  else
    let (k, s) := s.free
    (4097 + k % 4096, s)

/-- A message that nothing matches becomes unexpected (R354 R355). -/
def State.park (s : State) (v : Nat) (p : Bytes) : State :=
  let ann := decide (pkType p = 2)
  let slots := if ann then 0 else if pkLast p then ceilDiv (pkLen p) 4096 else 2
  let limit := s.parkLimit v slots
  if limit ≠ 0 then ((s.stopMatch v limit).bump (mtPg v 0) 13 1).rejectMsend p stBusy
  else
    let (i, s) := s.newIndex (mtchOf v)
    let (len, s) := s.msgLen p
    let e : Unexp :=
      { stamp := (s.mtch v).arrStamp, index := i, msgLen := len, comm := pkComm p, srcRank := pkRank p, tag := pkTag p,
        claimed := false, complete := ann || pkLast p, announced := ann, src := pkSrc p, srcVi := pkSrcVi p,
        msgId := pkMsg p, cgen := pkCgen p, slots := slots, data := pkPayload p, arrTick := s.nowTick }
    let s := s.updMtch v (fun m => { m with unexp := m.unexp ++ [e], arrStamp := wrapAdd 64 m.arrStamp 1 })
    (((s.bump (mtPg v 0) 1 1).bumpVf v 13 1).countBounce v 1 (pkLen p) true).disposePkt p

/-- A new placement. -/
def State.startPlacing (s : State) (v : Nat) (x : Placing) : State × Placing :=
  let (id, s) := s.fresh
  let x := { x with id := id }
  (s.updMtch v (fun m => { m with placing := m.placing ++ [x] }), x)

/-- An announced message is accepted for a receive (R359 R361); one that places nothing ends at once. -/
def State.acceptMatch (s : State) (v : Nat) (x : Placing) (loc rem : Nat) : State :=
  let (s, x) := s.startPlacing v x
  let n := min x.msgLen x.posted.bufLen
  let s := (s.bump (mtPg v 0) 10 1).acceptAnn loc rem x.msgId n
  if n = 0 then s.endPlaced v x else s

/-- A packet of an eager message is placed as it is presented; a failure ends the receive and is reported (R358 R362). -/
def State.placeEager (s : State) (v : Nat) (x : Placing) (p : Bytes) : State :=
  match s.place v 1 x (pkOfs p) (pkPayload p) with
  | .error e => ((s.bump (mtPg v 1) 7 1).endRecv v x e).rejectPkt p e
  | .ok (s, n) =>
    let x := { x with placed := x.placed + n, awaitSecond := !pkLast p }
    let s := ((s.bump (mtPg v 0) 8 (ceilDiv n 64)).updPlacing v x.id (fun _ => x)).disposePkt p
    if pkLast p then s.endPlaced v x else s

/-- An arriving FIRST MSEND, eager or announced (R346 R355 R358 R359 R372). -/
def State.rxFirst (s : State) (v : Nat) (p : Bytes) : State :=
  if pkDomain p ≠ (s.vi v).domain then (s.bump (mtPg v 0) 14 1).rejectMsend p stKeyMismatch
  else if (s.mtch v).stopCause ≠ 0 then (s.bump (mtPg v 0) 13 1).rejectMsend p stBusy
  else
    let w := (s.mtch v).arrival (pkComm p) (pkRank p) (pkTag p)
    let s := s.countWalk v w.examined w.stopped
    match w.best with
    | none => s.park v p
    | some r =>
      let found := b2n (!r.full || (s.mtch v).heads r)
      let s := s.updMtch v (fun m => { m with posted := delFirst (fun e => decide (e.stamp = r.stamp)) m.posted })
      let s := ((s.bump (mtPg v 0) 0 1).bump (mtPg v 0) (if r.full then 4 else 5) found).bumpVf v 12 1
      let (len, s) := s.msgLen p
      let x : Placing :=
        { id := 0, posted := r, src := pkSrc p, srcVi := pkSrcVi p, msgId := pkMsg p, cgen := pkCgen p,
          srcRank := pkRank p, tag := pkTag p, msgLen := len, placed := 0, status := stOk, announced := decide (pkType p = 2),
          copySlots := 0, copyData := [], copyOfs := 0, awaitSecond := false, claimed := false }
      if pkType p = 2 then (s.acceptMatch v x (pkLoc p) (pkRem p)).disposePkt p
      else
        let (s, x) := s.startPlacing v x
        s.placeEager v x p

/-- The placement of a message's second or granted packet. -/
def Match.placingOf (m : Match) (p : Bytes) : Option Placing :=
  m.placing.find? (fun x => decide (x.src = pkSrc p ∧ x.msgId = pkMsg p ∧ x.cgen = pkCgen p))

/-- The second packet of an eager message (R358 R360 R372): placed, parked, rejected with the first, or discarded. -/
def State.rxSecond (s : State) (v : Nat) (p : Bytes) : State :=
  let loc := pkLoc p
  let rem := pkRem p
  match (s.rxOf loc rem).bind (fun r => r.rejected.find? (fun e => decide (e.1 = pkMsg p))) with
  | some (m, st) => (s.updRx loc rem (fun r => { r with rejected := delFirst (fun e => decide (e.1 = m)) r.rejected })).rejectPkt p st
  | none =>
    if pkDomain p ≠ (s.vi v).domain then s.rejectPkt p stKeyMismatch
    else if s.poisoned v then s.disposePkt p
    else
      let len := 4096 + pkLen p
      match (s.mtch v).placingOf p with
      | some x =>
        if 0 < x.copySlots then
          let s := s.updPlacing v x.id (fun x =>
            { x with copyData := x.copyData ++ pkPayload p, awaitSecond := false, msgLen := len })
          (s.countBounce v 1 (pkLen p) true).disposePkt p
        else s.placeEager v { x with msgLen := len } p
      | none =>
        let mine (e : Unexp) : Bool := decide (e.src = pkSrc p ∧ e.msgId = pkMsg p ∧ e.cgen = pkCgen p) && !e.complete
        let s := if (s.mtch v).unexp.any mine then s.countBounce v 1 (pkLen p) true else s
        (s.updMtch v (fun m => { m with unexp := updFirst mine (fun e =>
          { e with data := e.data ++ pkPayload p, complete := true, msgLen := len }) m.unexp })).disposePkt p

/-- A well-formed packet of a matched message (R347 R348). -/
def msendFormed (p : Bytes) : Bool :=
  if pkOpcode p = 0x20 then
    if pkType p = 2 then decide (pkLen p = 0)
    else decide ((pkFirst p ∧ pkOfs p = 0) ∨ (!pkFirst p ∧ pkOfs p = 4096))
  else decide (pkOpcode p = 0x21 ∧ pkType p = 1)

/-- A presented MSEND packet (R347 R355). -/
def State.rxMsend (s : State) (p : Bytes) : State :=
  let v := pkVi p
  match s.viRejects p with
  | some st => s.rejectVi p st
  | none =>
    if msendFormed p = false then (s.raise (mtPg v 0) 19).rejectMsend p stRights
    else if pkType p = 2 ∨ pkFirst p then s.rxFirst v p
    else s.rxSecond v p

/-- A presented MDATA packet (R359 R361 R362); of a message that is no longer being placed it is discarded. -/
def State.rxMdata (s : State) (p : Bytes) : State :=
  let v := pkVi p
  match s.viRejects p with
  | some st => s.rejectVi p st
  | none =>
    if msendFormed p = false then
      let s := s.raise (mtPg v 0) 19
      if pkType p = 2 then s.rejectMsend p stRights else s.rejectPkt p stRights
    else
      match (s.mtch v).placingOf p with
      | none => s.disposePkt p
      | some x =>
        if s.poisoned v ∨ !x.announced then s.disposePkt p
        else
          match s.place v 1 x (pkOfs p) (pkPayload p) with
          | .error e =>
            let s := (s.bump (mtPg v 1) 7 1).endRecv v x e
            (s.refuseAnn (pkLoc p) (pkRem p) (pkMsg p) e).rejectPkt p e
          | .ok (s, n) =>
            let x := { x with placed := x.placed + n }
            let s := (s.updPlacing v x.id (fun _ => x)).disposePkt p
            if min x.msgLen x.posted.bufLen ≤ x.placed then s.endPlaced v x else s

/-- An unexpected entry is delivered to a receive (R360). -/
def State.deliver (s : State) (v : Nat) (e : Unexp) (r : Posted) (claimed : Bool) : State :=
  let s := s.updMtch v (fun m => { m with unexp := delFirst (fun x => decide (x.index = e.index)) m.unexp })
  let x : Placing :=
    { id := 0, posted := r, src := e.src, srcVi := e.srcVi, msgId := e.msgId, cgen := e.cgen, srcRank := e.srcRank,
      tag := e.tag, msgLen := e.msgLen, placed := 0, status := stOk, announced := e.announced, copySlots := e.slots,
      copyData := e.data, copyOfs := 0, awaitSecond := !e.complete, claimed := claimed }
  if e.announced then s.acceptMatch v x (s.locEp (viPort v)) (16 * e.src)
  else
    let (s, x) := s.startPlacing v x
    if e.slots = 0 then s.endPlaced v x else s

/-- A receive half has ended: the unexpected entries that still needed it go, claimed ones too, with their bounce slots
(R368). -/
def State.matchEnded (s : State) (loc rem cgen : Nat) : State :=
  let src := agAddr rem
  if agKind loc ≠ 0 then s
  else
    (s.vis.filter (fun e => decide (viPort e.1 = agPort loc))).foldl (fun s e =>
      let v := e.1
      let gone (x : Unexp) : Bool := decide (x.src = src ∧ x.cgen = cgen) && (x.announced || !x.complete)
      let n := ((s.mtch v).unexp.filter gone).length
      (s.updMtch v (fun m => { m with unexp := m.unexp.filter (fun x => !gone x) })).bump (mtPg v 1) 6 n) s

/-- The match state of a VI is cleared at its stop (R376): announced messages are refused; the posted receives complete
with the VI's other descriptors (R460). -/
def State.matchClear (s : State) (v : Nat) : State :=
  let m := s.mtch v
  let loc := s.locEp (viPort v)
  let s := (m.unexp.filter Unexp.announced).foldl (fun s e => s.refuseAnn loc (16 * e.src) e.msgId stViStopping) s
  let s := (m.placing.filter Placing.announced).foldl (fun s x => s.refuseAnn loc (16 * x.src) x.msgId stViStopping) s
  s.updMtch v (fun _ => viInit.mtch)

end Sys2Proof.Machine
end

