-- ==== Sys2Proof/Machine/CollLib.lean ====
section
/-! DEFINITION. Collective groups at a node: records, packets, steps, membership and closing (13_collectives.md
R382-R420). -/

namespace Sys2Proof.Machine

/-! Records. -/

def groupInit : Group :=
  { state := 0, ctag := 0, creator := 0, epoch := 0, members := 0, n := 0, parent := none, root := 0, places := [],
    upNext := 0, upCum := 0, downDone := 0, slots := [], next := 0, doneNext := 0, steps := [], msteps := [],
    deadline := 0, bufUnits := 0, repair := none, firstStep := 0, gone := [], heard := 0, owed := [] }
def groupD : Nat → Group := fun _ => groupInit
def State.group (s : State) (g : Nat) : Group := Tab.get groupD s.groups g
def State.updGroup (s : State) (g : Nat) (f : Group → Group) : State := { s with groups := Tab.upd groupD s.groups g f }

/-- GSTAT.STATE values (R422). -/
def gFree : Nat := 0
def gJoining : Nat := 1
def gLive : Nat := 2
def gRepairWait : Nat := 3
def gQuarantine : Nat := 4

/-- COLL page n of a local index (R382). -/
def coPg (g n : Nat) : PageRef := collPg (g % 2) n

/-- Close causes (R455), departure causes (R395). -/
def ccClose : Nat := 1
def ccMismatch : Nat := 2
def ccMalformed : Nat := 3
def ccEcc : Nat := 4
def ccRootLost : Nat := 5
def ccRepairFail : Nat := 6
def ccLastLeft : Nat := 7

/-- Buffer of a group of c slots, in units of 4 KiB (R385). -/
def groupUnits (c : Nat) : Nat := 140 + 4 * c

/-- BUF_USED of a unit (R422). -/
def State.collUsed (s : State) (u : Nat) : Nat :=
  s.groups.foldl (fun n e => if e.1 % 2 = u then n + e.2.bufUnits else n) 0

/-- BUF_CAP (R422 R479). -/
def State.collCap (s : State) : Nat := match s.mem.part with | some p => p.collMib * 256 | none => 0

/-- CFG values that act (R422), under R74. -/
def State.hbTicks (s : State) (g : Nat) : Nat := 2 ^ max 4 (s.cfgf (coPg g 0) 0x40 19 16)
def State.repairTicks (s : State) (g : Nat) : Nat := 2 ^ max 10 (min 24 (s.cfgf (coPg g 0) 0x40 12 8))
def State.quarTicks (s : State) (g : Nat) : Nat := 2 ^ max 12 (min 26 (s.cfgf (coPg g 0) 0x40 4 0))

/-- The unwrapped number nearest to `base` of a number known modulo 2^w. -/
def nearest (w base k : Nat) : Nat :=
  let d := wrapSub w k base
  if d < 2 ^ (w - 1) then base + d else base + d - 2 ^ w

/-! Packets (R392-R396). -/

/-- Agent of a router's collective unit. -/
def collAgent (router unit : Nat) : Nat := 16 * (16 * router + unit) + 1

/-- Own router address. -/
def State.self (s : State) : Nat := s.rtSelf true

/-- Sends a collective packet from a local unit to a remote one (R392 R393); toward an unreachable router the direction
ends (R299 R416). -/
def State.collSendTo (s : State) (own router unit cls op grp step seg contrib first : Nat) (data : Bytes) : State :=
  let loc := s.locColl own
  let rem := collAgent router unit
  if s.noRoute loc rem then (s.bump (xptPg (s.unitOf loc rem) 0) 8 1).endDir loc rem stUnreachable
  else
    let ulp := beBytes 1 op ++ beBytes 2 grp ++ beBytes 1 step ++ beBytes 3 seg ++ beBytes 3 contrib ++ beBytes 2 first
    s.sendOwn loc rem (withPayload (s.hdr cls loc rem 0 ++ wiluthHdr 1 (flFirst + flLast + flOrd) 0 0 0 0 ulp) data)

/-- A packet of class COLL from group g to a neighbour's local index. -/
def State.collSend (s : State) (g router peer op grpFlags step seg contrib first : Nat) (data : Bytes) : State :=
  s.collSendTo (g % 2) router (peer % 2) 2 op (grpFlags + peer % 4096) (step % 256) seg contrib first data

/-- A CREDIT (R395 R400). -/
def State.sendCredit (s : State) (g router peer cum dir : Nat) : State :=
  s.collSend g router peer 0x34 0 0 0 0 0 (beBytes 4 (cum % 2 ^ 32) ++ beBytes 1 dir ++ zeros 3)

/-- An entry of a GCTL payload (R396). -/
structure GSlot where
  kind : Nat
  id : Nat
  ref : Nat
  fromStep : Nat
deriving DecidableEq, Repr

/-- A GCTL payload (R396). -/
structure Gctl where
  sub : Nat
  status : Nat
  epoch : Nat
  ctag : Nat
  creator : Nat
  loc : Nat
  peer : Nat
  parent : Nat
  parentLocal : Nat
  firstStep : Nat
  members : Nat
  slots : List GSlot
deriving DecidableEq, Repr

def Gctl.bytes (c : Gctl) : Bytes :=
  beBytes 1 c.sub ++ beBytes 1 c.status ++ beBytes 2 c.epoch ++ beBytes 4 c.ctag ++ beBytes 3 c.creator ++ zeros 1 ++
    beBytes 2 c.loc ++ beBytes 2 c.peer ++ beBytes 3 c.parent ++ zeros 1 ++ beBytes 2 c.parentLocal ++ beBytes 2 c.firstStep ++
    beBytes 3 c.members ++ beBytes 1 c.slots.length ++ zeros 36 ++
    c.slots.flatMap (fun e => beBytes 1 e.kind ++ beBytes 3 e.id ++ beBytes 2 e.ref ++ beBytes 2 e.fromStep)

def Gctl.parse (b : Bytes) : Gctl :=
  { sub := beAt b 0 1, status := beAt b 1 1, epoch := beAt b 2 2, ctag := beAt b 4 4, creator := fld (beAt b 8 3) 19 0,
    loc := beAt b 0xC 2, peer := beAt b 0xE 2, parent := beAt b 0x10 3, parentLocal := beAt b 0x14 2,
    firstStep := beAt b 0x16 2, members := beAt b 0x18 3,
    slots := (List.range (min 64 (beAt b 0x1B 1))).map (fun j =>
      ⟨beAt b (0x40 + 8 * j) 1, beAt b (0x41 + 8 * j) 3, beAt b (0x44 + 8 * j) 2, beAt b (0x46 + 8 * j) 2⟩) }

/-- Sends a GCTL packet from firmware to a router's firmware (R393). -/
def State.sendGctl (s : State) (router grp : Nat) (c : Gctl) : State :=
  s.collSendTo 0 router 0 3 0x38 (grp % 4096) 0 0 0 0 c.bytes

/-- GROUP of a collective packet, and its other ULP fields (R393). -/
def pkGroup (p : Bytes) : Nat := fld (pkUlp p 0x15 2) 11 0
def pkLastPkt (p : Bytes) : Bool := bit (pkUlp p 0x15 2) 15
def pkLastSeg (p : Bytes) : Bool := bit (pkUlp p 0x15 2) 14
def pkStep (p : Bytes) : Nat := pkUlp p 0x17 1
def pkSeg (p : Bytes) : Nat := pkUlp p 0x18 3
def pkContrib (p : Bytes) : Nat := pkUlp p 0x1B 3
def pkFirstElem (p : Bytes) : Nat := fld (pkUlp p 0x1E 2) 10 0

/-- Router that a collective packet comes from. -/
def pkRouter (p : Bytes) : Nat := pkSrc p / 16

/-! Slots and steps. -/

/-- The slot is in use: a local member or a child router. -/
def Slot.used (x : Slot) : Bool := decide (x.kind = 1 ∨ x.kind = 2)

/-- The slot takes part in step k (R397 R413 R416). -/
def Slot.takes (x : Slot) (k : Nat) : Bool :=
  x.used && decide (x.fromStep ≤ k) && (match x.excused with | some e => decide (k < e) | none => true)

def Group.slot (x : Group) (j : Nat) : Slot := x.slots.getD j ⟨0, 0, 0, 0, none, 0, 0, 0, 0, 0⟩

def State.updSlot (s : State) (g j : Nat) (f : Slot → Slot) : State :=
  s.updGroup g (fun x => { x with slots := x.slots.mapIdx (fun i e => if i = j then f e else e) })

/-- Slots with their indexes. -/
def Group.indexed (x : Group) : List (Nat × Slot) := x.slots.mapIdx (fun i e => (i, e))

/-- Children that take part in step k. -/
def Group.children (x : Group) (k : Nat) : List (Nat × Slot) :=
  x.indexed.filter (fun e => decide (e.2.kind = 2) && e.2.takes k)

/-- Local members that have not departed. -/
def Group.locals (x : Group) : List (Nat × Slot) := x.indexed.filter (fun e => decide (e.2.kind = 1) && e.2.excused.isNone)

/-- Slot of a child router, unless the child is lost. -/
def Group.childOf (x : Group) (router : Nat) : Option Nat :=
  (x.indexed.find? (fun e => decide (e.2.kind = 2 ∧ e.2.id = router ∧ e.2.excused = none))).map Prod.fst

def Group.step (x : Group) (k : Nat) : Option CStep := x.steps.find? (fun e => decide (e.k = k))

def stepInit (k tick : Nat) : CStep :=
  { k := k, par := none, isOpen := false, parts := [], next := 0, low := 2 ^ 24, combined := false, verdict := none,
    results := [], handed := 0, done := none, doneSent := false, changed := false, upWait := 0, downWait := 0, started := tick }

/-- Changes step k of a group, which is created at its place among the rising step numbers when it is new. -/
def State.updStep (s : State) (g k : Nat) (f : CStep → CStep) : State :=
  s.updGroup g (fun x =>
    match x.step k with
    | some _ => { x with steps := updFirst (fun e => decide (e.k = k)) f x.steps }
    | none => { x with steps := x.steps.takeWhile (fun e => decide (e.k < k)) ++ [f (stepInit k s.nowTick)] ++
                                x.steps.dropWhile (fun e => decide (e.k < k)) })

/-- Segments, elements and lengths under a step's parameters (R390). -/
def StepPar.segs (p : StepPar) (n : Nat) : Nat := stepSegs p.kind p.typ p.count n
def StepPar.elems (p : StepPar) (n seg : Nat) : Nat := elemsIn p.kind p.typ p.count n seg
def StepPar.eb (p : StepPar) : Nat := elemBytes p.typ

/-- Exact mode applies (R406). -/
def StepPar.exact (p : StepPar) : Bool := decide (p.mode = 1 ∧ p.op = 0 ∧ p.kind ≠ 2 ∧ p.kind ≠ 3) && isFloat p.typ

/-- The codes are those of R387, OP fits TYPE, and the step needs at most 2^24 segments (R388). -/
def StepPar.valid (p : StepPar) (n : Nat) : Bool :=
  decide (p.kind ≤ 4) && decide (p.mode ≤ 1) && (decide (p.kind = 3) || decide (p.typ ≤ 6)) &&
    (decide (p.kind = 2 ∨ p.kind = 3) || (decide (p.op ≤ 5) && !(isFloat p.typ && decide (3 ≤ p.op)))) &&
    decide (p.segs n ≤ 2 ^ 24)

/-! Completions and events. -/

/-- Bytes 0x18 to 0x24 of a COLL_STEP completion (R454). -/
def collExt (contrib members epoch k : Nat) (discarded : Bool) : Bytes :=
  leBytes 3 contrib ++ zeros 1 ++ leBytes 3 members ++ zeros 1 ++ leBytes 2 epoch ++ leBytes 2 k ++ leBytes 1 (b2n discarded)

/-- A member's step ends by the rules of its own node: no DONE gives its CONTRIB, which is left open (R414 R415). -/
def State.endLocal (s : State) (g : Nat) (m : MStep) (status : Nat) (discarded : Bool) : State :=
  let x := s.group g
  let (c, s) := s.free
  let s := s.updGroup g (fun x => { x with msteps := delFirst (fun e => decide (e.vi = m.vi ∧ e.k = m.k)) x.msteps })
  ((s.bump (coPg g 1) 3 (b2n discarded)).bumpVf m.vi 14 1).complete m.vi m.desc status (collExt (c % 2 ^ 24) x.members x.epoch m.k discarded)

/-- An event to each local member that has not departed (R455). -/
def State.tellLocals (s : State) (g event : Nat) (body : Bytes) : State :=
  (s.group g).locals.foldl (fun s e => s.postEvent e.2.ref 0 stOk event body) s

/-! Closing (R420). -/

/-- The group closes at this node: neighbours but the one it heard it from are told, members' steps end with
GROUP_CLOSED, and the index is quarantined. -/
def State.collClose (s : State) (g cause : Nat) (heardFrom : Option Nat) : State :=
  let x := s.group g
  if x.state = gFree ∨ x.state = gQuarantine then s
  else
    let s := (s.bump (coPg g 0) 13 1).bump (coPg g 0) 3 (x.steps.filter (fun e => e.isOpen && !e.doneSent)).length
    let s := x.msteps.foldl (fun s m => s.endLocal g m stGroupClosed false) s
    let s := s.tellLocals g 6 (leBytes 4 g ++ leBytes 4 cause)
    let peers := (match x.parent with | some p => [p] | none => []) ++
      (x.indexed.filter (fun e => decide (e.2.kind = 2 ∧ e.2.excused = none))).map (fun e => (e.2.id, e.2.ref))
    let c : Gctl := { sub := 7, status := cause, epoch := x.epoch, ctag := x.ctag, creator := x.creator, loc := g, peer := 0xFFFF,
                      parent := 0, parentLocal := 0, firstStep := 0, members := x.members, slots := [] }
    let s := s.updGroup g (fun _ => { groupInit with state := gQuarantine, ctag := x.ctag, creator := x.creator,
                                                     deadline := s.nowTick + s.quarTicks g })
    (peers.filter (fun p => decide (some p.1 ≠ heardFrom))).foldl (fun s p => s.sendGctl p.1 p.2 { c with peer := p.2 }) s

/-- The node that detects a cause closes the group, with the BLK_ERR bit of the cause (R423). -/
def State.collFail (s : State) (g cause bit : Nat) : State := (s.raise (coPg g 0) bit).collClose g cause none

/-- A malformed packet closes its group (R392). -/
def State.collMalformed (s : State) (g : Nat) : State := s.collFail g ccMalformed 18

/-! Membership (R413-R418). -/

/-- EPOCH toward the children, and MEMBERSHIP to the local members (R413). -/
def State.tellEpoch (s : State) (g rank : Nat) : State :=
  let x := s.group g
  let s := s.tellLocals g 5 (leBytes 4 g ++ leBytes 4 rank ++ leBytes 4 x.members ++ leBytes 4 x.epoch)
  let b := beBytes 2 x.epoch ++ beBytes 3 x.members ++ beBytes 3 rank
  (x.indexed.filter (fun e => decide (e.2.kind = 2 ∧ e.2.excused = none))).foldl
    (fun s e => s.collSend g e.2.id e.2.ref 0x37 0 0 0 0 0 b) s

/-- A step between its open and combine points at the root, as the departure of some ranks leaves it (R414). -/
def CStep.departed (x : CStep) (ranks : List Nat) : CStep :=
  if x.isOpen && !x.combined then
    match x.par with
    | some p =>
      if p.kind = 2 then
        if p.root ∈ ranks then { x with changed := true, combined := true } else x
      else { x with changed := true }
    | none => x
  else x

/-- The root processes the departure of some members (R413 R414): one change of epoch. -/
def State.rootDepart (s : State) (g : Nat) (ranks : List Nat) (shown : Nat) (affected : List Nat) : State :=
  let s := s.bump (coPg g 0) 14 1
  let s := s.updGroup g (fun x =>
    let new := ranks.filter (fun r => decide (r ∉ x.gone))
    let members := x.members - new.length
    let epoch := wrapAdd 16 x.epoch 1
    { x with epoch := epoch, members := members, gone := x.gone ++ new,
             steps := x.steps.map (fun e =>
               let f := e.departed affected
               if f.combined && f.verdict.isNone then { f with verdict := some (epoch, members) } else f) })
  if (s.group g).members = 0 then s.collClose g ccLastLeft none else s.tellEpoch g shown

/-- A DEPART goes to the parent; a node that waits for a new parent keeps it until then (R413 R418). -/
def State.passDepart (s : State) (g : Nat) (b : Bytes) : State :=
  let x := s.group g
  if x.state = gRepairWait then s.updGroup g (fun x => { x with owed := x.owed ++ [b] })
  else match x.parent with
    | some (r, l) => (s.bump (coPg g 1) 0 1).collSend g r l 0x36 0 0 0 0 0 b
    | none => s

/-- DEPART toward the root, or its effect at the root (R413): causes 0 to 2 name a rank. The loss of a node is handed to
firmware as a packet of its own. -/
def State.sendDepart (s : State) (g what cause : Nat) : State :=
  let x := s.group g
  let b := beBytes 3 what ++ beBytes 1 cause ++ zeros 4
  match x.parent with
  | some _ => s.passDepart g b
  | none =>
    if cause = 3 then
      let u := s.unitOf (s.locColl (g % 2)) (collAgent s.self (g % 2))
      let ulp := beBytes 1 0x36 ++ beBytes 2 g ++ zeros 9
      let p := withPayload (fabricHdr 2 1 0 (16 * s.self + g % 2) 0 (16 * s.self + g % 2) 1 ++
        wiluthHdr 1 (flFirst + flLast + flOrd) 0 0 0 0 ulp) b
      s.updXpt u (fun x => { x with presented := x.presented ++ [p] })
    else s.rootDepart g [what] what [what]

/-- A member's input has been delivered in full for its step: nothing is asked of it, or every segment has been read. -/
def Group.delivered (x : Group) (m : MStep) (rank : Nat) : Bool :=
  match (x.step m.k).bind CStep.par with
  | none => false
  | some p =>
    if p.kind = 3 then true
    else if p.kind = 2 ∧ p.root ≠ rank then true
    else decide (p.segs x.n ≤ m.read)

/-- A local member departs (R413 R415): its slot is excused from the first step it has not delivered in full, its
outstanding steps end, and DEPART goes toward the root. -/
def State.collDepart (s : State) (g j cause status : Nat) : State :=
  let x := s.group g
  let e := x.slot j
  let mine := x.msteps.filter (fun m => decide (m.slot = j))
  let first := match mine.find? (fun m => !x.delivered m e.id) with | some m => m.k | none => e.opened
  let s := mine.foldl (fun s m => s.endLocal g m status true) s
  let s := s.updSlot g j (fun e => { e with excused := some first })
  let s := s.updGroup g (fun x => { x with steps := x.steps.map (fun st =>
    if first ≤ st.k then { st with parts := st.parts.filter (fun p => decide (p.slot ≠ j)) } else st) })
  s.sendDepart g e.id cause

/-- The local member of VI v in a group. -/
def Group.memberOf (x : Group) (v : Nat) : Option Nat :=
  (x.locals.find? (fun e => decide (e.2.ref = v))).map Prod.fst

/-! The progress of steps (R397-R402). -/

/-- Writes result elements to the OUT of a member's step (R391 R401). -/
def State.writeOut (s : State) (g : Nat) (m : MStep) (ofs : Nat) (data : Bytes) : State :=
  match s.viWrite m.vi (m.outAddr + ofs) (some (s.get (vfPg m.vi 2) (0x10C + 16 * m.queue))) data with
  | .ok s => s.hostTxn (collStop (g % 2)) m.vi 0 true data.length
  | .error e => s.collDepart g m.slot 2 e

/-- A member writes DIRECT elements of a step (R400). -/
def State.takeDirect (s : State) (g j k pos : Nat) (eb : Nat) (data : Bytes) : State :=
  match (s.group g).msteps.find? (fun m => decide (m.slot = j ∧ m.k = k)) with
  | none => s
  | some m =>
    let more (e : MStep) : MStep := { e with directDone := e.directDone + data.length / eb }
    let s := s.updGroup g (fun x => { x with msteps := updFirst (fun e => decide (e.slot = j ∧ e.k = k)) more x.msteps })
    s.writeOut g m (pos * eb) data

/-- Sends the elements of a segment that go to one rank, or writes them when the rank's node is the root's own (R401). -/
def State.sendDirect (s : State) (g k rank seg first pos eb : Nat) (last : Bool) (data : Bytes) : State :=
  let x := s.group g
  if rank ∈ x.gone then s
  else
    match x.places[rank]? with
    | none => s
    | some (node, slot) =>
      if node / 4096 = s.self then s.takeDirect g slot k pos eb data
      else
        (s.bump (coPg g 1) 5 1).collSend g (node / 4096) (node % 4096) 0x33 (0x8000 + b2n last * 0x4000) k seg (slot % 64) first data

/-- The root turns a combined segment of words into what goes out for it (R401). -/
def State.rootResult (s : State) (g k : Nat) (p : StepPar) (seg : Nat) (ws : List Nat) : State :=
  let n := (s.group g).n
  let last := decide (seg + 1 = p.segs n)
  let eb := p.eb
  let per := segElems p.typ
  match p.kind with
  | 0 => s.updStep g k (fun e => { e with results := e.results ++ [(seg, last, encodeElems eb ws)] })
  | 1 => s.sendDirect g k p.root seg 0 (seg * per) eb last (encodeElems eb ws)
  | 4 =>
    if p.count = 0 then s
    else
      let lo := seg * per
      let hi := lo + ws.length
      ((List.range (ceilDiv hi p.count - lo / p.count)).map (fun i => lo / p.count + i)).foldl (fun s r =>
        let a := max lo (r * p.count)
        let b := min hi ((r + 1) * p.count)
        if a < b then s.sendDirect g k r seg (a - lo) (a - r * p.count) eb last (encodeElems eb ((ws.drop (a - lo)).take (b - a)))
        else s) s
  | _ => s

/-- Opens step `next` at the node (R397): at the root when its first slot opens it, elsewhere when every slot that takes
part has, which sends STEP_OPEN to the parent. -/
def State.stepOpen (s : State) (g : Nat) : Option State :=
  let x := s.group g
  let k := x.next
  match x.step k with
  | none => none
  | some st =>
    match st.par with
    | none => none
    | some p =>
      let part := x.slots.filter (fun e => e.takes k)
      let ready := match x.parent with
        | none => part.any (fun e => decide (k < e.opened))
        | some _ => !part.isEmpty && part.all (fun e => decide (k < e.opened))
      if !ready then none
      else
        let s := (s.updGroup g (fun x => { x with next := k + 1 })).bump (coPg g 0) 0 1
        let s := s.updStep g k (fun e => { e with isOpen := true })
        match x.parent with
        | none => some s
        | some (r, l) =>
          some (s.collSend g r l 0x30 0 k 0 0 0
            (beBytes 1 p.kind ++ beBytes 1 p.op ++ beBytes 1 p.typ ++ beBytes 1 p.mode ++ beBytes 4 p.count ++
              beBytes 3 p.root ++ zeros 1 ++ beBytes 2 (k % 65536) ++ zeros 2))

/-- The data of a segment's packets, in order. -/
def joinParts (ps : List Part) : Bytes := ps.flatMap Part.data

/-- Packets of a slot's segment held whole. -/
def CStep.whole (st : CStep) (j seg : Nat) : Bool := st.parts.any (fun p => decide (p.slot = j ∧ p.seg = seg) && p.whole)
def CStep.partsOf (st : CStep) (j seg : Nat) : List Part := st.parts.filter (fun p => decide (p.slot = j ∧ p.seg = seg))

/-- A slot has delivered segment `seg` of the step: by its packets or its read, and for BARRIER a member by opening. -/
def CStep.has (st : CStep) (p : StepPar) (j : Nat) (e : Slot) (seg : Nat) : Bool :=
  if p.kind = 3 ∧ e.kind = 1 then decide (st.k < e.opened) else st.whole j seg

/-- The up stream to the parent has room (R400). -/
def Group.upRoom (x : Group) : Bool := decide (wrapSub 32 x.upNext x.upCum < 4)

/-- A delayed segment start is counted once (R424). -/
def State.countUpWait (s : State) (g k seg : Nat) : Option State :=
  match (s.group g).step k with
  | some st => if st.upWait = seg + 1 then none else some ((s.updStep g k (fun e => { e with upWait := seg + 1 })).bump (coPg g 1) 7 1)
  | none => none

/-- A child's up segment has been consumed: CUM is reported (R400). -/
def State.consumeUp (s : State) (g j : Nat) : State :=
  let e := (s.group g).slot j
  (s.updSlot g j (fun e => { e with upDone := wrapAdd 32 e.upDone 1 })).sendCredit g e.id e.ref (wrapAdd 32 e.upDone 1) 0

/-- What a step still holds of its children's up segments when the step ends here counts as consumed, so that the streams
go on (R400). -/
def State.dropParts (s : State) (g k : Nat) : State :=
  match (s.group g).step k with
  | none => s
  | some st =>
    let live (j : Nat) : Bool := let e := (s.group g).slot j; decide (e.kind = 2 ∧ e.excused = none)
    (st.parts.filter (fun q => q.whole && live q.slot)).foldl (fun s q => s.consumeUp g q.slot)
      (s.updStep g k (fun e => { e with parts := [] }))

/-- Sends a combined or forwarded segment to the parent as UP packets (R398 R399). -/
def State.sendUp (s : State) (g k seg contrib : Nat) (lastSeg : Bool) (pkts : List (Nat × Bytes)) : State :=
  match (s.group g).parent with
  | none => s
  | some (r, l) =>
    let s := s.updGroup g (fun x => { x with upNext := wrapAdd 32 x.upNext 1 })
    (pkts.mapIdx (fun i e => (i, e))).foldl (fun s e =>
      s.collSend g r l 0x31 (b2n (decide (e.1 + 1 = pkts.length)) * 0x8000 + b2n lastSeg * 0x4000) k seg contrib e.2.1 e.2.2) s

/-- Element vectors of a segment's slots, in slot order; none when one is malformed. -/
def fixedVecs (eb n : Nat) (l : List Bytes) : Option (List (List Nat)) :=
  if l.all (fun b => decide (b.length = eb * n)) then some (l.map (decodeElems eb n)) else none

/-- Partials of a child's packets of a segment, each of whole partials for the elements that follow on (R393 R394). -/
def decodeParts (typ n : Nat) : Nat → List Part → Option (List Exact × Nat × Nat)
  | _, [] => some ([], 0, 0)
  | i, q :: t =>
    if q.first ≠ i then none
    else
      match decodeExact typ (n + 1) q.data with
      | none => none
      | some (xs, l, r) => (decodeParts typ n (i + xs.length) t).map (fun v => (xs ++ v.1, l + v.2.1, r + v.2.2))

/-- Exact partials of a segment's slots, with the limbs and the top runs received; a local member's are converted. -/
def exactVecs (typ eb n : Nat) : List (Bool × List Part) → Option (List (List Exact) × Nat × Nat)
  | [] => some ([], 0, 0)
  | (isLocal, ps) :: t =>
    let v := if isLocal then some ((decodeElems eb n (joinParts ps)).map (Exact.ofWord typ), 0, 0) else decodeParts typ n 0 ps
    match v, exactVecs typ eb n t with
    | some (xs, l, r), some (ys, l', r') => if xs.length = n then some (xs :: ys, l + l', r + r') else none
    | _, _ => none

/-- The root's firmware has still to process the loss of a child: until then no step combines without it, so that a step
open when the child is lost ends EPOCH_CHANGED (R25 R413 R414). -/
def State.lossWaits (s : State) (g : Nat) : Bool :=
  (s.xpt (s.unitOf (s.locColl (g % 2)) (collAgent s.self (g % 2)))).presented.any (fun p =>
    decide (pkType p = 1 ∧ agKind (pkLoc p) = 1 ∧ pkOpcode p = 0x36 ∧ pkGroup p = g ∧ beAt (pkPayload p) 3 1 = 3))

/-- Combines the next segment of a step that is no BROADCAST, when every slot has delivered it or is excused (R398). -/
def State.combine (s : State) (g : Nat) (st : CStep) (p : StepPar) : Option State :=
  let x := s.group g
  let k := st.k
  let seg := st.next
  let n := p.elems x.n seg
  let eb := p.eb
  let ready := x.indexed.all (fun e => !e.2.takes k || st.has p e.1 e.2 seg)
  if st.combined || !st.isOpen || !ready || (x.parent.isNone && (decide (4 ≤ st.results.length) || s.lossWaits g)) then none
  else if x.parent.isSome && !x.upRoom then s.countUpWait g k seg
  else
    let src := x.indexed.filter (fun e => e.2.used && st.has p e.1 e.2 seg && (e.2.takes k || decide (e.2.kind = 2)))
    let got := src.map (fun e => (decide (e.2.kind = 1), st.partsOf e.1 seg))
    let contrib := src.foldl (fun a e =>
      a + if e.2.kind = 1 then 1 else (((st.partsOf e.1 seg).head?).map Part.contrib).getD 0) 0
    let last := decide (seg + 1 = p.segs x.n)
    let inBytes := got.foldl (fun a b => if b.1 then a + (joinParts b.2).length else a) 0
    let after (s : State) : State :=
      let s := (s.bump (coPg g 0) (if p.exact then 5 else 4) 1).bump (coPg g 0) 6 (ceilDiv inBytes 64)
      let s := s.updStep g k (fun e =>
        { e with next := seg + 1, low := min e.low contrib, combined := last,
                 verdict := if last then some (x.epoch, x.members) else e.verdict,
                 parts := e.parts.filter (fun q => decide (q.seg ≠ seg)) })
      (src.filter (fun e => decide (e.2.kind = 2 ∧ e.2.excused = none))).foldl (fun s e => s.consumeUp g e.1) s
    if p.exact then
      match exactVecs p.typ eb n got with
      | none => some (s.collMalformed g)
      | some (vs, limbs, runs) =>
        let acc := addExact n vs
        let s := (s.bump (coPg g 0) 7 limbs).bump (coPg g 0) 8 runs
        some (after (match x.parent with
          | some _ => s.sendUp g k seg contrib last (packExact p.typ acc 0 0 [])
          | none => s.rootResult g k p seg (acc.map (Exact.toWord p.typ))))
    else
      match if got.all (fun b => decide (b.2.length ≤ 1)) then fixedVecs eb n (got.map (fun b => joinParts b.2)) else none with
      | none => some (s.collMalformed g)
      | some vs =>
        let acc := foldVecs p.op p.typ n vs
        some (after (match x.parent with
          | some _ => s.sendUp g k seg contrib last [(0, encodeElems eb acc)]
          | none => s.rootResult g k p seg acc))

/-- Forwards the next segment of a BROADCAST, from whichever slot it came (R399). -/
def State.forward (s : State) (g : Nat) (st : CStep) (p : StepPar) : Option State :=
  let x := s.group g
  let k := st.k
  let seg := st.next
  if st.combined || decide (p.segs x.n ≤ seg) || (x.parent.isNone && decide (4 ≤ st.results.length)) then none
  else
    match (st.parts.find? (fun q => decide (q.seg = seg) && q.whole)).map Part.slot with
    | none => none
    | some j =>
      let ps := st.partsOf j seg
      let data := joinParts ps
      let last := decide (seg + 1 = p.segs x.n)
      if x.parent.isNone && !st.isOpen then none
      else if x.parent.isSome && !x.upRoom then s.countUpWait g k seg
      else if ps.length ≠ 1 ∨ data.length ≠ p.eb * p.elems x.n seg then some (s.collMalformed g)
      else
        let s := match x.parent with
          | some _ => s.sendUp g k seg 1 last [(0, data)]
          | none => s.updStep g k (fun e => { e with results := e.results ++ [(seg, last, data)] })
        let s := s.updStep g k (fun e =>
          { e with next := seg + 1, low := min e.low 1, combined := e.combined || (last && x.parent.isSome),
                   parts := e.parts.filter (fun q => decide (q.seg ≠ seg)) })
        if (x.slot j).kind = 2 then some (s.consumeUp g j) else some s

/-- Every slot that takes part in step k, of those that `sel` takes, has opened it. -/
def Group.issued (x : Group) (sel : Slot → Bool) (k : Nat) : Bool :=
  x.slots.all (fun e => !(sel e && e.takes k) || decide (k < e.opened))

/-- Hands the next result segment of a step to every child that takes part, all of which must have room (R400 R401); with
the last one a BROADCAST is combined at the root (R399). -/
def State.handDown (s : State) (g : Nat) (st : CStep) (p : StepPar) : Option State :=
  let x := s.group g
  let k := st.k
  match st.results[st.handed]? with
  | none => none
  | some (seg, last, data) =>
    let cs := x.children k
    if data.length ≠ p.eb * p.elems x.n seg then some (s.collMalformed g)
    else if !cs.all (fun e => decide (wrapSub 32 e.2.downNext e.2.downCum < 4)) then
      if st.downWait = seg + 1 then none else some ((s.updStep g k (fun e => { e with downWait := seg + 1 })).bump (coPg g 1) 7 1)
    else
      let ends := x.parent.isNone && decide (p.kind = 2) && last
      let s := s.updStep g k (fun e =>
        { e with handed := e.handed + 1, combined := e.combined || ends,
                 verdict := if ends && e.verdict.isNone then some (x.epoch, x.members) else e.verdict })
      some (cs.foldl (fun s e =>
        (s.updSlot g e.1 (fun e => { e with downNext := wrapAdd 32 e.downNext 1 })).collSend g e.2.id e.2.ref 0x32
          (0x8000 + b2n last * 0x4000) k seg 0 0 data) s)

/-- Writes the oldest result segment, once the children have it and every local member that takes part has issued the
step, to the OUT of those members: it is consumed (R400 R401). -/
def State.writeDown (s : State) (g : Nat) (st : CStep) (p : StepPar) : Option State :=
  let x := s.group g
  let k := st.k
  match st.results with
  | [] => none
  | (seg, _, data) :: rest =>
    if st.handed = 0 || !x.issued (fun e => decide (e.kind = 1)) k then none
    else
      let s := s.updStep g k (fun e => { e with results := rest, handed := e.handed - 1 })
      let s := (x.msteps.filter (fun m => decide (m.k = k))).foldl
        (fun s m => s.writeOut g m (seg * segElems p.typ * p.eb) data) s
      match x.parent with
      | some (r, l) =>
        let cum := wrapAdd 32 x.downDone 1
        some ((s.updGroup g (fun x => { x with downDone := cum })).sendCredit g r l cum 1)
      | none => some s

/-- Moves result segments on (R400 R401). -/
def State.deliverDown (s : State) (g : Nat) (st : CStep) (p : StepPar) : Option State :=
  match s.handDown g st p with
  | some t => some t
  | none => s.writeDown g st p

/-- The DONE payload of a verdict (R395 R414). -/
def doneBytes (status : Nat) (discarded : Bool) (epoch contrib members k : Nat) : Bytes :=
  beBytes 1 status ++ beBytes 1 (b2n discarded) ++ beBytes 2 epoch ++ beBytes 3 contrib ++ beBytes 3 members ++
    beBytes 2 (k % 65536) ++ zeros 4

/-- Elements that DIRECT packets bring a member (R401). -/
def StepPar.direct (p : StepPar) (rank : Nat) : Nat :=
  if p.kind = 1 then if p.root = rank then p.count else 0 else if p.kind = 4 then p.count else 0

/-- DONE at a node: the root decides it once every result has gone and no repair withholds it; every node passes it on
after its last DOWN segment, completes its members once they have everything, and keeps the step until every slot that
takes part has opened it (R389 R402 R414 R417). -/
def State.finish (s : State) (g : Nat) (st : CStep) : Option State :=
  let x := s.group g
  let k := st.k
  match st.done with
  | none =>
    let held := match x.repair with | some (_, f) => decide (f ≤ k + 8) | none => false
    if x.parent.isNone && st.combined && decide (st.handed = st.results.length) && !held then
      let (e, m) := st.verdict.getD (x.epoch, x.members)
      let low := if st.low = 2 ^ 24 then 0 else st.low
      some (s.updStep g k (fun y => { y with done := some (doneBytes (if st.changed then stEpochChanged else stOk) false e low m k) }))
    else none
  | some b =>
    if st.handed ≠ st.results.length then none
    else if !st.doneSent then
      let s := s.updStep g k (fun y => { y with doneSent := true })
      let s := s.updGroup g (fun x => { x with doneNext := max x.doneNext (k + 1) })
      let status := beAt b 0 1
      let s := s.bump (coPg g 0) (if status = stOk then 1 else 2) 1
      some ((x.children k).foldl (fun s e => s.collSend g e.2.id e.2.ref 0x35 0 k 0 0 0 b) s)
    else if !st.results.isEmpty then none
    else
      let disc := decide (beAt b 1 1 % 2 = 1)
      let whole (m : MStep) : Bool := disc ||
        (match st.par with | some p => decide (p.direct (x.slot m.slot).id ≤ m.directDone) | none => true)
      match x.msteps.find? (fun m => decide (m.k = k) && whole m) with
      | some m =>
        let s := s.updGroup g (fun x => { x with msteps := delFirst (fun e => decide (e = m)) x.msteps })
        some ((s.bump (coPg g 1) 3 (b2n disc)).complete m.vi m.desc (beAt b 0 1)
          (collExt (beAt b 4 3) (beAt b 7 3) (beAt b 2 2) (beAt b 10 2) disc))
      | none =>
        if x.msteps.any (fun m => decide (m.k = k)) || !x.issued (fun _ => true) k then none
        else some ((s.dropParts g k).updGroup g (fun x => { x with steps := x.steps.filter (fun e => decide (e.k ≠ k)) }))

/-- The first thing that can happen in a step. -/
def State.stepMove (s : State) (g : Nat) (st : CStep) : Option State :=
  match st.par with
  | none => s.finish g st
  | some p =>
    match s.deliverDown g st p with
    | some t => some t
    | none =>
      match if st.done.isSome then none else if p.kind = 2 then s.forward g st p else s.combine g st p with
      | some t => some t
      | none => s.finish g st

/-- Everything that can happen in a live group happens, in step order. -/
def State.pump (g : Nat) : Nat → State → State
  | 0, s => s
  | f + 1, s =>
    if (s.group g).state ≠ gLive then s
    else
      match s.stepOpen g with
      | some t => State.pump g f t
      | none =>
        match (s.group g).steps.findSome? (fun st => s.stepMove g st) with
        | some t => State.pump g f t
        | none => s

/-- Runs a group after an event. -/
def State.run (s : State) (g : Nat) : State := State.pump g 512 s

/-- An UP packet of a child's slot (R398 R399); a malformed one closes the group (R392), and one for a step that is over
is consumed at once. -/
def State.takeUp (s : State) (g j : Nat) (p : Bytes) : State :=
  let x := s.group g
  let k := nearest 8 x.doneNext (pkStep p)
  let held := match x.step k with | some st => !(st.partsOf j (pkSeg p)).isEmpty | none => false
  if k < x.doneNext then if pkLastPkt p then s.consumeUp g j else s
  else if held = decide (pkFirstElem p = 0) then s.collMalformed g
  else
    let part : Part := { slot := j, seg := pkSeg p, contrib := pkContrib p, first := pkFirstElem p, data := pkPayload p,
                         whole := pkLastPkt p, lastSeg := pkLastSeg p }
    (s.updStep g k (fun e => { e with parts := e.parts ++ [part] })).run g

/-! Losses (R416). -/

/-- The partials of a child that have arrived and that no unit has taken yet are kept with those already held (R25). -/
def State.keepUps (s : State) (g j router : Nat) : State :=
  let u := s.unitOf (s.locColl (g % 2)) (collAgent router (((s.group g).slot j).ref % 2))
  let mine (p : Bytes) : Bool :=
    decide (pkType p = 1 ∧ agKind (pkLoc p) = 1 ∧ pkOpcode p = 0x31 ∧ pkGroup p = g ∧ pkRouter p = router)
  let ups := (s.xpt u).presented.filter mine
  let s := s.updXpt u (fun x => { x with presented := x.presented.filter (fun p => !mine p) })
  ups.foldl (fun s p => (s.takeUp g j p).disposePkt p) s

/-- A neighbour of a group is lost. -/
def State.neighbourLost (s : State) (g router : Nat) : State :=
  let x := s.group g
  if x.state ≠ gLive ∧ x.state ≠ gRepairWait then s
  else
    let s := match x.childOf router with
      | some j =>
        (((s.keepUps g j router).updSlot g j (fun e => { e with excused := some 0 })).bump (coPg g 1) 1 1).sendDepart g router 3
      | none => s
    let s := match x.parent with
      | some (r, _) =>
        if r = router ∧ x.state = gLive then
          (s.bump (coPg g 1) 1 1).updGroup g (fun x => { x with state := gRepairWait, deadline := s.nowTick + s.repairTicks g })
        else s
      | none => s
    s.run g

/-- A direction between collective units has ended: every group of the unit whose neighbour lies there loses it (R416). -/
def State.collLost (s : State) (loc rem : Nat) : State :=
  if agKind loc ≠ 1 ∨ agKind rem ≠ 1 then s
  else
    let router := agAddr rem / 16
    let unit := agAddr rem % 2
    let near (x : Group) : Bool :=
      x.slots.any (fun e => decide (e.kind = 2 ∧ e.id = router ∧ e.ref % 2 = unit ∧ e.excused = none)) ||
        (match x.parent with | some (r, l) => decide (r = router ∧ l % 2 = unit) | none => false)
    (s.groups.filter (fun e => decide (e.1 % 2 = agAddr loc % 2) && near e.2)).foldl (fun s e => s.neighbourLost e.1 router) s

/-! What the ends of directions mean to the upper layers (R368 R416 R524). -/

/-- Follows up every direction that has ended, those that this ends in turn included. -/
def State.settleN : Nat → State → State
  | 0, s => s
  | f + 1, s =>
    match (List.range 8).findSome? (fun u => ((s.xpt u).ended.head?).map (fun e => (u, e))) with
    | none => s
    | some (u, (loc, rem, cgen)) =>
      let s := s.updXpt u (fun x => { x with ended := x.ended.drop 1 })
      if cgen = 65536 then State.settleN f (s.collLost loc rem)
      else
        let s := s.matchEnded loc rem cgen
        State.settleN f (if agKind loc = 0 then s.cleatEndpoint (agAddr rem) else s)

def State.settle (s : State) : State := State.settleN 256 s

/-- A VI's memberships end with a cause (R413 R459). -/
def State.collLeave (s : State) (v cause status : Nat) : State :=
  (s.groups.filter (fun e => decide (e.2.state = gLive ∨ e.2.state = gRepairWait) &&
      e.2.slots.any (fun x => decide (x.kind = 1 ∧ x.ref = v ∧ x.excused = none)))).foldl (fun s e =>
    match (s.group e.1).memberOf v with
    | some j => (s.collDepart e.1 j cause status).run e.1
    | none => s) s

end Sys2Proof.Machine
end

