-- ==== Sys2Proof/Machine/Groups.lean ====
section
/-! DEFINITION. Setting groups up, repairing, leaving and closing them (13_collectives.md R382-R386, R413-R422). -/

namespace Sys2Proof.Machine

/-- A group that has joined and waits for its COMMIT: what its tree neighbours send comes after it (R384). -/
def Group.awaits (x : Group) (router : Nat) : Bool :=
  decide (x.state = gJoining) && (x.slots.any (fun e => decide (e.kind = 2 ∧ e.id = router)) ||
    (match x.parent with | some (r, _) => decide (r = router) | none => false))

/-- The next presented collective packet with an opcode, of a unit that works, in its direction's order; a GCTL packet is for
firmware, which an engine with SVC runs (R393 R498). -/
def State.onColl (s : State) (u : Nat) (op : Bytes → Bool) (f : State → Bytes → State) : State :=
  if !s.works (xptPg u 0) then s
  else
    s.handPresented u
      (fun p => decide (pkType p = 1 ∧ agKind (pkLoc p) = 1) && op p && s.ordered u p &&
        (if pkOpcode p = 0x38 then !s.svcEngines.isEmpty else !(s.group (pkGroup p)).awaits (pkRouter p)) && s.works (collPg (agAddr (pkLoc p) % 2) 0))
      (fun p => collStop (agAddr (pkLoc p) % 2)) (fun s p => (f s p).settle)

/-- A packet discarded under R386. -/
def State.collDiscard (s : State) (g : Nat) (p : Bytes) : State := ((s.raise (coPg g 0) 19).bump (coPg g 0) 11 1).disposePkt p

/-- A GCTL packet of a SUB (R396). -/
def isGctl (sub : Nat) (p : Bytes) : Bool := decide (pkOpcode p = 0x38 ∧ beAt (pkPayload p) 0 1 = sub)

/-- A GCTL packet as R396 lays it out: a SUB of the table, and as many slot entries as NSLOTS says. -/
def gctlFormed (p : Bytes) : Bool :=
  let b := pkPayload p
  let n := beAt b 0x1B 1
  decide (1 ≤ beAt b 0 1 ∧ beAt b 0 1 ≤ 7 ∧ n ≤ 64 ∧ pkLen p = 64 + 8 * n)

/-- A GCTL packet other than JOIN, whose group record must be in use and carry its CTAG and CREATOR (R386); a malformed one
closes the group (R392), and one with a SUB outside R396 comes with CLOSE. -/
def State.onGctl (s : State) (u sub : Nat) (f : State → Nat → Gctl → Bytes → State) : State :=
  s.onColl u (fun p => isGctl sub p || (decide (sub = 7 ∧ pkOpcode p = 0x38) && decide (beAt (pkPayload p) 0 1 = 0 ∨ 7 < beAt (pkPayload p) 0 1)))
    (fun s p =>
    let g := pkGroup p
    let x := s.group g
    let c := Gctl.parse (pkPayload p)
    if x.state = gFree ∨ x.state = gQuarantine ∨ x.ctag ≠ c.ctag ∨ x.creator ≠ c.creator then s.collDiscard g p
    else if !gctlFormed p then (s.collMalformed g).disposePkt p
    else (f s.svcTask g c p).disposePkt p)

/-! Joining (R384 R385). -/

/-- Local index g is free, and its unit has room for a group of c slots. -/
def State.indexFits (s : State) (c g : Nat) : Bool :=
  decide (g < 4096 ∧ (s.group g).state = gFree ∧ s.collUsed (g % 2) + groupUnits c ≤ s.collCap)

/-- The status of a node's own checks (R384). -/
def State.joinStatus (s : State) (c : Gctl) : Nat :=
  let vs := (c.slots.filter (fun e => decide (e.kind = 1))).map GSlot.ref
  if 64 < c.slots.length then stBounds
  else if vs.any (fun v => decide ((s.vi v).domain ≠ c.ctag / 65536)) then stKeyMismatch
  else if vs.any (fun v => decide (s.viState v ≠ viOn ∧ s.viState v ≠ viStopping)) then stUnreachable
  else if vs.any (fun v => decide (s.viState v = viStopping)) then stViStopping
  else if (List.range 4096).any (s.indexFits c.slots.length) then stOk
  else stBusy

/-- A slot of a record, as a COMMIT describes it. -/
def GSlot.slot (e : GSlot) (tick : Nat) : Slot :=
  { kind := e.kind, id := e.id, ref := e.ref, fromStep := e.fromStep, excused := none, upDone := 0, downNext := 0, downCum := 0,
    opened := e.fromStep, heard := tick }

/-- A node joins under a local index (R384 step 1). -/
def State.joinNode (s : State) (g : Nat) (c : Gctl) : State :=
  (s.updGroup g (fun _ => { groupInit with state := gJoining, ctag := c.ctag, creator := c.creator, members := c.members,
                                           parent := if c.parent = 0xFFFFFF then none else some (c.parent % 2 ^ 20, 0xFFF),
                                           n := c.members, bufUnits := groupUnits c.slots.length,
                                           slots := c.slots.map (fun e => e.slot s.nowTick) })).bump (coPg g 0) 12 1

/-- A node's record becomes LIVE (R384 step 3); a member whose VI has stopped since it was checked departs (R413). -/
def State.commitNode (s : State) (g : Nat) (c : Gctl) (root : Nat) (places : List (Nat × Nat)) : State :=
  let s := s.updGroup g (fun x =>
    { x with state := gLive, epoch := c.epoch, members := c.members, n := c.members, root := root, places := places,
             parent := if c.parent = 0xFFFFFF then none else some (c.parent % 2 ^ 20, c.parentLocal % 4096),
             slots := c.slots.map (fun e => e.slot s.nowTick), heard := s.nowTick })
  let x := s.group g
  let s := x.locals.foldl (fun s e =>
    s.postEvent e.2.ref 0 stOk 4 (leBytes 4 g ++ leBytes 4 e.2.id ++ leBytes 4 x.n ++ leBytes 4 x.epoch)) s
  (x.locals.filter (fun e => decide (s.viState e.2.ref ≠ viOn))).foldl (fun s e => s.collDepart g e.1 1 stViStopping) s

/-- A node that joined frees what it took (R384). -/
def State.abortNode (s : State) (g : Nat) : State := s.updGroup g (fun x => if x.state = gJoining then groupInit else x)

/-- Slots of a tree node: its members, then its child routers. -/
def treeSlots (entries : List Nat) (tree : List TreeNode) (i : Nat) (ref : Nat → Nat) : List GSlot :=
  let t := tree.getD i ⟨0, none, []⟩
  t.members.map (fun r => let e := entries.getD r 0; ⟨1, r, 256 * (e / 256 % 16) + e % 256, 0⟩) ++
    (((tree.mapIdx (fun k n => (k, n))).filter (fun e => decide (e.2.parent = some i))).map (fun e => ⟨2, e.2.router, ref e.1, 0⟩))

/-- Router of a member-table entry (R383). -/
def entryRouter (e : Nat) : Nat := e / 4096

/-- A tree that satisfies R382 for a member table: routers once each, one root, parents before their children, and every
rank once at its own router. -/
def treeOk (entries : List Nat) (tree : List TreeNode) : Bool :=
  decide ((tree.map TreeNode.router).Nodup) &&
    ((tree.mapIdx (fun i n => (i, n))).all (fun e =>
      (match e.2.parent with | none => decide (e.1 = 0) | some q => decide (q < e.1)) &&
        e.2.members.all (fun r => decide (r < entries.length ∧ entryRouter (entries.getD r 0) = e.2.router)))) &&
    decide ((tree.flatMap TreeNode.members).Nodup ∧ (tree.flatMap TreeNode.members).length = entries.length)

/-- The root is the router of the member that ROOT_HINT names, and with no hint that of rank 0 (R383 R385). -/
def rootOk (entries : List Nat) (tree : List TreeNode) (hint : Nat) : Bool :=
  let rank := if hint = 0xFFFFFF then 0 else hint
  match entries[rank]?, tree.head? with
  | some e, some t => decide (t.router = entryRouter e)
  | _, _ => true

/-- The local index that a router's JOINED has given. -/
def Creation.localOf (c : Creation) (router : Nat) : Nat :=
  ((c.answers.find? (fun a => decide (a.1 = router))).map (fun a => a.2.1)).getD 0xFFFF

/-- Where each rank lies: node and slot. -/
def Creation.places (c : Creation) : List (Nat × Nat) :=
  (List.range c.entries.length).map (fun r =>
    match c.tree.find? (fun n => decide (r ∈ n.members)) with
    | some n => (4096 * n.router + c.localOf n.router, n.members.idxOf r)
    | none => (0, 0))

def creationGctl (s : State) (c : Creation) (sub i : Nat) : Gctl :=
  let t := c.tree.getD i ⟨0, none, []⟩
  let parent := t.parent.map (fun q => (c.tree.getD q ⟨0, none, []⟩).router)
  { sub := sub, status := 0, epoch := 0, ctag := c.ctag, creator := s.self, loc := c.own, peer := c.localOf t.router,
    parent := parent.getD 0xFFFFFF, parentLocal := (parent.map c.localOf).getD 0xFFFF, firstStep := 0,
    members := c.entries.length,
    slots := treeSlots c.entries c.tree i (fun k => c.localOf (c.tree.getD k ⟨0, none, []⟩).router) }

/-- Every node has answered: COMMIT to all, or ABORT to those that joined and the first failure of R384. -/
def State.endCreation (s : State) (c : Creation) : State :=
  if c.answers.length < c.tree.length then s
  else
    let s := { s with creations := s.creations.filter (fun d => decide (d.ctag ≠ c.ctag)) }
    let nodes := c.tree.mapIdx (fun i n => (i, n.router))
    let root := ((c.tree.head?).map TreeNode.router).getD 0
    if c.answers.all (fun a => decide (a.2.2 = stOk)) then
      let s := nodes.foldl (fun s e =>
        let m := creationGctl s c 3 e.1
        if e.2 = s.self then s.commitNode c.own m root c.places else s.sendGctl e.2 (c.localOf e.2) m) s
      s.complete c.vi c.desc stOk []
    else
      let joined := nodes.filter (fun e => c.answers.any (fun a => decide (a.1 = e.2 ∧ a.2.2 = stOk)))
      let s := joined.foldl (fun s e =>
        if e.2 = s.self then s.abortNode c.own else s.sendGctl e.2 (c.localOf e.2) (creationGctl s c 4 e.1)) s
      let st := ([stBounds, stKeyMismatch, stUnreachable, stViStopping].find? (fun t =>
        c.answers.any (fun a => decide (a.2.2 = t)))).getD stBusy
      s.complete c.vi c.desc st []

/-- The leader sets the group up over a tree: it joins itself and sends JOIN to the other nodes (R384). When it cannot join,
it holds no index to which a JOINED could come, asks no other node, and knows only their reach beside its own checks. -/
def State.create (s : State) (v desc : Nat) (entries : List Nat) (tree : List TreeNode) : State :=
  let (id, s) := s.fresh
  let (k, s) := s.free
  let c : Creation := { ctag := (s.vi v).domain * 65536 + id % 65536, vi := v, desc := desc, entries := entries, tree := tree,
                        own := 0xFFFF, answers := [] }
  let me := tree.findIdx (fun n => decide (n.router = s.self))
  let st := s.joinStatus (creationGctl s c 1 me)
  let slots := (treeSlots entries tree me (fun _ => 0xFFFF)).length
  match if st = stOk then ((List.range 4096).map (fun i => (k + i) % 4096)).find? (s.indexFits slots) else none with
  | none =>
    let far := tree.any (fun n => decide (n.router ≠ s.self) && s.unreachable (collAgent n.router 0))
    s.complete v desc (if far ∧ (st = stViStopping ∨ st = stBusy) then stUnreachable else st) []
  | some g =>
    let c := { c with own := g, answers := [(s.self, g, stOk)] }
    let s := s.joinNode g (creationGctl s c 1 me)
    let (s, c) := (tree.mapIdx (fun i n => (i, n.router))).foldl (fun (r : State × Creation) e =>
      let (s, c) := r
      if e.2 = s.self then (s, c)
      else if s.unreachable (collAgent e.2 0) then (s, { c with answers := c.answers ++ [(e.2, 0xFFFF, stUnreachable)] })
      else (s.sendGctl e.2 0xFFF (creationGctl s c 1 e.1), c)) (s, c)
    ({ s with creations := s.creations ++ [c] }).endCreation c

/-- The member table names routers of the fabric, no VI twice, and the leader (R384). -/
def State.tableOk (s : State) (v : Nat) (entries : List Nat) : Bool :=
  entries.all (fun e => s.inFabric true (entryRouter e)) && decide entries.Nodup &&
    decide ((16 * s.self + viPort v) * 256 + v % 256 ∈ entries)

/-- GROUP_CREATE (R383 R384 R498), a service task of an engine: `table` is what the member table holds, `tree` the tree that firmware lays out. -/
def execGroupCreate (vi queue : Nat) (table : Bytes) (tree : List TreeNode) (s : State) : Host.Outcome State Fault Refusal :=
  match if s.svcEngines.isEmpty then none else s.headDesc vi queue 0x21 with
  | none => .next s
  | some d =>
    let s := s.svcTask
    let n := leAt d.bytes 0x20 3
    if n = 0 ∨ 262144 < n then .next ((s.beginDesc vi d).complete vi d.num stBounds [])
    else
      match (s.beginDesc vi d).viRead vi (dLaddr d.bytes) (4 * n) (some d.keys) with
      | .error e => .next ((s.beginDesc vi d).complete vi d.num e [])
      | .ok t =>
        let entries := decodeElems 4 n (padTo table (4 * n))
        let sound := t.tableOk vi entries
        let t := t.hostTxn mcStop vi 0 false (4 * n)
        if sound = false then .next (t.complete vi d.num stBounds [])
        else if (treeOk entries tree && rootOk entries tree (leAt d.bytes 0x34 3)) = false then .next s
        else if (List.range tree.length).any (fun i => decide (64 < (treeSlots entries tree i (fun _ => 0)).length)) then
          .next (t.complete vi d.num stBounds [])
        else .next (t.create vi d.num entries tree).settle

/-- JOIN (R384): `index` is the local index that firmware takes. -/
def execJoin (unit index : Nat) (s : State) : Host.Outcome State Fault Refusal :=
  .next (s.onColl unit (isGctl 1) (fun t p =>
    let c := Gctl.parse (pkPayload p)
    let st := t.joinStatus c
    let fit := t.indexFits c.slots.length index
    if pkGroup p ≠ 0xFFF then t.collDiscard (pkGroup p) p
    else if !gctlFormed p then (t.raise (collPg 0 0) 18).disposePkt p
    else if st = stOk ∧ fit = false then s
    else
      let t := t.svcTask
      let ok := decide (st = stOk)
      let t := if ok then t.joinNode index c else t
      (t.sendGctl (pkRouter p) c.loc
        { c with sub := 2, status := st, loc := if ok then index else 0xFFFF, peer := c.loc, slots := [] }).disposePkt p))

/-- JOINED (R384). -/
def execJoined (unit : Nat) (s : State) : Host.Outcome State Fault Refusal :=
  .next (s.onGctl unit 2 (fun s _ c p =>
    match s.creations.find? (fun d => decide (d.ctag = c.ctag)) with
    | none => s
    | some d =>
      if d.answers.any (fun a => decide (a.1 = pkRouter p)) || !d.tree.any (fun n => decide (n.router = pkRouter p)) then s
      else
        let d := { d with answers := d.answers ++ [(pkRouter p, c.loc, c.status)] }
        ({ s with creations := updFirst (fun e => decide (e.ctag = d.ctag)) (fun _ => d) s.creations }).endCreation d))

/-- GCTL_COMMIT (R384): `root` and `places` are what firmware knows of the tree beyond the packet. -/
def execGctlCommit (unit root : Nat) (places : List (Nat × Nat)) (s : State) : Host.Outcome State Fault Refusal :=
  .next (s.onGctl unit 3 (fun s g c _ => if (s.group g).state = gJoining then s.commitNode g c root places else s))

/-- ABORT (R384). -/
def execAbort (unit : Nat) (s : State) : Host.Outcome State Fault Refusal :=
  .next (s.onGctl unit 4 (fun s g _ _ => s.abortNode g))

/-! Repair (R416-R419). -/

/-- A new parent takes an orphan into a slot (R417). -/
def State.adopt (s : State) (g : Nat) (c : Gctl) : State × Nat :=
  let x := s.group g
  if 64 < x.slots.length + c.slots.length then (s, stBusy)
  else
    let new := c.slots.map (fun e => { e.slot s.nowTick with fromStep := nearest 16 x.doneNext e.fromStep,
                                                              opened := nearest 16 x.doneNext e.fromStep })
    (s.updGroup g (fun x => { x with slots := x.slots ++ new, epoch := c.epoch, members := c.members }), stOk)

/-- An orphan ends every step before FIRST_STEP and takes its new parent (R418), to which the DEPARTs go that it has kept. -/
def State.reparent (s : State) (g : Nat) (c : Gctl) : State :=
  let x := s.group g
  let first := nearest 16 x.doneNext c.firstStep
  let old := x.steps.filter (fun e => decide (e.k < first))
  let s := old.foldl (fun s st =>
    let (f, s) := s.free
    let b := doneBytes stEpochChanged true c.epoch (f % 2 ^ 24) c.members st.k
    let s := s.bump (coPg g 0) 2 (b2n st.isOpen)
    ((x.children st.k).filter (fun e => decide (st.k < e.2.opened))).foldl
      (fun s e => s.collSend g e.2.id e.2.ref 0x35 0 st.k 0 0 0 b) (s.dropParts g st.k)) s
  let s := s.updGroup g (fun x =>
    { x with state := gLive, epoch := c.epoch, members := c.members, parent := some (c.parent % 2 ^ 20, c.parentLocal % 4096),
             upNext := 0, upCum := 0, downDone := 0, steps := x.steps.filter (fun e => decide (first ≤ e.k)),
             next := max x.next first, doneNext := max x.doneNext first, firstStep := first, heard := s.nowTick })
  let s := (x.msteps.filter (fun m => decide (m.k < first))).foldl (fun s m => s.endLocal g m stEpochChanged true) s
  let s := s.updGroup g (fun x => { x with owed := [] })
  x.owed.foldl (fun s b => s.passDepart g b) s

/-- REPAIR (R417 R418). -/
def execRepair (unit : Nat) (s : State) : Host.Outcome State Fault Refusal :=
  .next (s.onGctl unit 5 (fun s g c p =>
    let s := s.bump (coPg g 1) 2 1
    let (s, st) := if c.slots.isEmpty then (s.reparent g c, stOk) else s.adopt g c
    (s.sendGctl (pkRouter p) c.loc { c with sub := 6, status := st, loc := g, peer := c.loc, slots := [] }).run g))

/-- A repair that waits for no more answers is over (R417 R424). -/
def State.endRepair (s : State) (g : Nat) : State :=
  match (s.group g).repair with
  | some ([], _) => (s.updGroup g (fun x => { x with repair := none })).bump (coPg g 0) 15 1
  | _ => s

/-- REPAIRED (R417): a node without a free slot fails the repair (R419). -/
def execRepaired (unit : Nat) (s : State) : Host.Outcome State Fault Refusal :=
  .next (s.onGctl unit 6 (fun s g c p =>
    if c.status ≠ stOk then s.collFail g ccRepairFail 21
    else
      let s := s.updGroup g (fun x => { x with repair := x.repair.map (fun r => (delFirst (fun q => decide (q = pkRouter p)) r.1, r.2)) })
      (s.endRepair g).run g))

/-- GCTL_CLOSE (R420). -/
def execGctlClose (unit : Nat) (s : State) : Host.Outcome State Fault Refusal :=
  .next (s.onGctl unit 7 (fun s g c p => s.collClose g c.status (some (pkRouter p))))

/-- The group and slot that a collective descriptor of a VI names: a LIVE group of which it is a member (R388). -/
def State.memberGroup (s : State) (v : Nat) (d : Desc) : Option (Nat × Nat) :=
  let g := leAt d.bytes 0x2C 4 % 4096
  if (s.group g).state = gLive then ((s.group g).memberOf v).map (fun j => (g, j)) else none

/-- GROUP_LEAVE (R413). -/
def execGroupLeave (vi queue : Nat) (s : State) : Host.Outcome State Fault Refusal :=
  match s.headDesc vi queue 0x22 with
  | none => .next s
  | some d =>
    let s := s.beginDesc vi d
    match s.memberGroup vi d with
    | none => .next (s.complete vi d.num stGroupClosed [])
    | some (g, j) => .next ((((s.collDepart g j 0 stEpochChanged).run g).complete vi d.num stOk [])).settle

/-- GROUP_CLOSE (R420). -/
def execGroupClose (vi queue : Nat) (s : State) : Host.Outcome State Fault Refusal :=
  match s.headDesc vi queue 0x23 with
  | none => .next s
  | some d =>
    let s := s.beginDesc vi d
    match s.memberGroup vi d with
    | none => .next (s.complete vi d.num stGroupClosed [])
    | some (g, _) => .next ((s.collClose g ccClose none).complete vi d.num stOk []).settle

/-- REPAIR_TIMEOUT (R419). -/
def execRepairTimeout (group : Nat) (s : State) : Host.Outcome State Fault Refusal :=
  let x := s.group group
  if x.state = gRepairWait ∧ x.deadline ≤ s.nowTick then .next (s.collFail group ccRootLost 21).settle else .next s

/-- QUARANTINE_EXPIRY (R386). -/
def execQuarantineExpiry (group : Nat) (s : State) : Host.Outcome State Fault Refusal :=
  let x := s.group group
  if x.state = gQuarantine ∧ x.deadline ≤ s.nowTick then .next (s.updGroup group (fun _ => groupInit)) else .next s

/-- COLL_ECC_ERROR (R420 R423 R547): `row` is 2^36 times the stack plus the row number. -/
def execCollEccError (group : Nat) (corrected : Bool) (row : Nat) (s : State) : Host.Outcome State Fault Refusal :=
  if 4096 ≤ group ∨ !s.works (coPg group 0) then .next s
  else
    let s := s.detect (coPg group 0) (if corrected then 16 else 17) (hbmElement row) (hbmExt (row / 2 ^ 36) row) 4
    if corrected then .next s else .next (s.collClose group ccEcc none).settle

end Sys2Proof.Machine
end

