-- ==== Sys2Proof/Machine/JournalLib.lean ====
section
/-! DEFINITION. The ring of the change journal (04_register_model.md R105-R108, 21 R599). -/

namespace Sys2Proof.Machine

/-- Records in the ring (R106 R107). -/
def State.ringSize (s : State) : Nat := 2 ^ max 12 (min 24 (s.fget (jrnlPg 0) 0x40 4 0))

/-- The buffer of R599 takes records at its end: what exceeds 4,096 is the oldest, and is counted. -/
def State.holdRecs (s : State) (l : List Bytes) : State :=
  let all := s.jrnl.held ++ l
  let past := all.length - 4096
  { s with jrnl := { s.jrnl with held := all.drop past, overwritten := min (s.jrnl.overwritten + past) 0xFFFFFFFF } }

/-- The ring stops: records not yet written move into the buffer (R599). -/
def State.stopRing (s : State) : State :=
  ({ s with jrnl := { s.jrnl with pendingRec := [] } }).holdRecs s.jrnl.pendingRec

/-- The restart record (R108). -/
def State.restartRec (s : State) : JRec :=
  { tick := s.nowTick, cycle := s.nowCc, origin := 0, page := pageCode (jrnlPg 0), off := 8, status := stOk, kind := 4,
    winner := 0xFFFF, chgseq := s.get (jrnlPg 0) 0x24, a := s.jrnl.overwritten, b := s.jrnl.held.length }

/-- The ring starts again: the restart record, whose index START takes, then the held records (R108 R599). The restart
record goes to the mirrors too (R109). -/
def State.startRing (s : State) : State :=
  let r := s.restartRec
  let s := s.mirrorOut r
  { s with jrnl := { s.jrnl with start := s.jrnl.wr + s.jrnl.pendingRec.length,
                                 pendingRec := s.jrnl.pendingRec ++ r.bytes :: s.jrnl.held, held := [], overwritten := 0 } }

/-- What a change of JRNL EN, PART_STAT.VALID or the main domain's power does to the ring. -/
def State.followRing (s : State) (was : Bool) : State :=
  if was && !s.ringOn then s.stopRing else if !was && s.ringOn then s.startRing else s

/-- A new size or a partition COMMIT empties the ring (R108). -/
def State.emptyRing (s : State) : State := { s with jrnl := { s.jrnl with ring := [] } }

/-- The oldest record that has not reached the ring is written at WR, over the oldest when the ring is full (R105 R106). -/
def State.writeRec (s : State) : State :=
  match s.jrnl.pendingRec with
  | [] => s
  | b :: t =>
    let n := s.jrnl.wr
    let old := if n < s.ringSize then s.jrnl.ring else Tab.del s.jrnl.ring (n - s.ringSize)
    { s with jrnl := { s.jrnl with pendingRec := t, wr := wrapAdd 64 n 1, ring := Tab.set (fun _ => ([] : Bytes)) old n b } }

/-- JOURNAL_RECORD_WRITE (R105). -/
def execJournalRecordWrite (s : State) : Host.Outcome State Fault Refusal :=
  if s.ringOn then .next s.writeRec else .next s

/-- Records written to the mirror of host port h, of its waiting records (R109 R110): a full mirror drops and counts. -/
def State.mirrorRec (s : State) (h : Nat) (b : Bytes) : State :=
  let p := hostPg h 3
  let n := 2 ^ max 8 (min 20 (s.fget p 0x808 4 0))
  let wr := s.get64 p 0x810
  if n ≤ wrapSub 64 wr (s.get64 p 0x818) then s.satAdd p 0x820 31 0 1
  else
    let s := s.put64 p 0x810 (wrapAdd 64 wr 1)
    (s.hostWrite h (s.get64 p 0x800 + 32 * (wr % n)) b).pfEvent h 3

/-- MIRROR_RECORD_WRITE (R109 R110): the oldest record that waits for the mirror; through a port that is down it stays. -/
def execMirrorRecordWrite (port : Nat) (s : State) : Host.Outcome State Fault Refusal :=
  match Tab.get (fun _ => ([] : List Bytes)) s.jrnl.mirror port with
  | [] => .next s
  | b :: t =>
    if !s.bget (hostPg port 0) 0x44 31 ∨ s.fatal then .next s
    else
      let s := { s with jrnl := { s.jrnl with mirror := Tab.set (fun _ => ([] : List Bytes)) s.jrnl.mirror port t } }
      .next (s.mirrorRec port b)

end Sys2Proof.Machine
end

