-- ==== Sys2Proof/Machine/Memory.lean ====
section
/-! DEFINITION. The HBM partition and CXL.mem (15_rings_and_memory.md R477-R489). -/

namespace Sys2Proof.Machine

/-! The partition (R477-R479). -/

/-- The partition that the PART registers describe (R488). -/
def State.partRegs (s : State) : Partition :=
  let p := hbmcPg 0 1
  { stackSet := s.fget p 0x48 5 0, devGib := max 1 (s.fget p 0x48 13 8), reseq := s.fget p 0x4C 16 0, bounce := s.fget p 0x50 19 0,
    collMib := s.fget p 0x54 31 16, dumpGib := max 1 (s.fget p 0x54 7 0) }

/-- EN is 0 in every XPT, MWU, MTCH, COLL, HALY cluster and JRNL instance (R477). -/
def State.partOpen (s : State) : Bool :=
  (List.range 8).all (fun u => !s.en (xptPg u 0)) && (List.range 4).all (fun u => !s.en (mwuPg u 0) && !s.en (mtchPg u 0)) &&
    (List.range 2).all (fun u => !s.en (collPg u 0)) && (List.range 16).all (fun c => !s.en (cluPg c)) && !s.en (jrnlPg 0)

/-- A COMMIT (R477): the partition comes into force, its capacities are reported and the journal's ring is emptied, or
FIT_FAIL is set. -/
def State.commitPartition (s : State) : State :=
  let p := s.partRegs
  let pg := hbmcPg 0 1
  if (p.ofDie 0).isEmpty ∨ (p.ofDie 1).isEmpty ∨ p.fits 0 = false ∨ p.fits 1 = false then s.bput pg 0x44 1 true
  else
    let was := s.ringOn
    let s := { s with mem := { s.mem with part := some p } }
    let s := (s.bput pg 0x44 1 false).bput pg 0x44 0 true
    let s := (List.range 8).foldl (fun s u => s.fput (xptPg u 1) 0x40 16 0 p.reseq) s
    let s := (List.range 4).foldl (fun s u => s.fput (mtchPg u 0) 0x50 19 0 p.bounce) s
    let s := (List.range 2).foldl (fun s u => s.fput (collPg u 0) 0x4C 23 0 (p.collMib * 256)) s
    s.emptyRing.followRing was

/-! The snoop filter and CXL.mem (R482-R485). -/

/-- Entries of a controller's filter (R483). -/
def State.filterUsed (s : State) (k : Nat) : Nat := (s.mem.filter.filter (fun e => decide (s.lineStack e.1 = k))).length

/-- A new entry when the filter is full: an entry of the controller is evicted, its holders being invalidated. Which
entry a full set's least recently used one is stays open. -/
def State.makeRoom (s : State) (line : Nat) : State :=
  let k := s.lineStack line
  if (s.holders line).1.isEmpty && decide (1048576 ≤ s.filterUsed k) then
    let mine := s.mem.filter.filter (fun e => decide (s.lineStack e.1 = k))
    let (n, s) := s.free
    match mine[n % max 1 mine.length]? with
    | none => s
    | some (l, hs, _) => ((s.setHolders l ([], false)).sendSnoops l hs false).bump (hbmcPg k 0) 5 1
  else s

/-- The filter's actions before a CXL.mem request of a port (R483). -/
def State.cxlFilter (s : State) (port : Nat) (kind : CxlKind) (line : Nat) : State :=
  let (hs, ex) := s.holders line
  let others := hs.filter (fun h => decide (h ≠ port))
  match kind with
  | .readShared =>
    if ex && !others.isEmpty then (s.setHolders line (hs, false)).sendSnoops line others true else s
  | .readExclusive =>
    (s.setHolders line (hs.filter (fun h => decide (h = port)), ex && others.isEmpty)).sendSnoops line others false
  | .write => (s.setHolders line (hs.filter (fun h => decide (h = port)), ex && others.isEmpty)).sendSnoops line others false

/-- Serves a CXL.mem request from HBM: its entry, its data, its response. -/
def State.cxlServe (s : State) (port : Nat) (kind : CxlKind) (line : Nat) (data : Bytes) : State :=
  let k := s.lineStack line
  let s := s.nocTxn (hostStop port) (hbmcStop k) 0 (decide (kind = .write)) 64
  match kind with
  | .write => (((s.poolPut (64 * line) (padTo data 64)).bump (hbmcPg k 0) 1 1).emit (.cxl port [] false))
  | kind =>
    let s := s.makeRoom line
    let (hs, ex) := s.holders line
    let s := s.setHolders line
      (if kind = .readExclusive then ([port], true) else (if port ∈ hs then (hs, ex) else (hs ++ [port], false)))
    (s.bump (hbmcPg k 0) 0 1).emit (.cxl port (s.poolGet (64 * line) 64) false)

/-- A request reaches its controller: it waits for a snoop that is outstanding or that it starts, else it is served
(R483 R484). -/
def State.cxlReach (s : State) (port : Nat) (kind : CxlKind) (line : Nat) (data : Bytes) : State :=
  let s := if (s.snoopOf line).isNone then s.cxlFilter port kind line else s
  if (s.snoopOf line).isSome then
    let join (x : Snoop) : Snoop := { x with waiting := x.waiting ++ [(port, kind, data)] }
    { s with mem := { s.mem with snoops := updFirst (fun x => decide (x.line = line)) join s.mem.snoops } }
  else s.cxlServe port kind line data

/-- A snoop with every BIRsp in is over: the requests that wait go on in order (R484). -/
def State.endSnoop (s : State) (line : Nat) : State :=
  match s.snoopOf line with
  | none => s
  | some x =>
    if x.owed.isEmpty then
      let s := { s with mem := { s.mem with snoops := delFirst (fun y => decide (y.line = line)) s.mem.snoops } }
      x.waiting.foldl (fun s w => s.cxlReach w.1 w.2.1 line w.2.2) s
    else s

/-- A port's answer to a snoop is no longer owed; its slot serves the controller's next snoop (R472). -/
def State.snoopPaid (s : State) (line port : Nat) : State :=
  let k := s.lineStack line
  let paid (x : Snoop) : Snoop :=
    { x with owed := x.owed.filter (fun h => decide (h ≠ port)), unsent := x.unsent.filter (fun e => decide (e.1 ≠ port)) }
  let s := ({ s with mem := { s.mem with snoops := updFirst (fun x => decide (x.line = line)) paid s.mem.snoops } }).endSnoop line
  (s.mem.snoops.filter (fun x => decide (s.lineStack x.line = k))).foldl (fun s x => s.snoopGo x.line) s

/-- The entries of a port are dropped, and its answers count as given (R485). -/
def State.dropHolder (s : State) (port : Nat) : State :=
  let s := s.mem.filter.foldl (fun s e =>
    let (hs, ex) := s.holders e.1
    if port ∈ hs then s.setHolders e.1 (hs.filter (fun h => decide (h ≠ port)), ex && decide (hs.filter (fun h => decide (h ≠ port)) ≠ []))
    else s) s
  s.mem.snoops.foldl (fun s x => if port ∈ x.owed then s.snoopPaid x.line port else s) s

/-- CXL_MEM_REQUEST (R482-R484). -/
def execCxlMemRequest (port : Nat) (kind : CxlKind) (dpa : Nat) (data : Bytes) (s : State) : Host.Outcome State Fault Refusal :=
  let pg := hostPg port 1
  let off := s.fget pg 0x40 17 0 * 2 ^ 28 + dpa / 64 * 64
  if !s.works (hostPg port 0) ∨ s.bget (hostPg port 0) 0x44 30 = false then .next s
  else if s.fget pg 0x44 17 0 * 2 ^ 28 ≤ dpa then .next (s.raise pg 17)
  else if port ∈ s.mem.poisoned then .next (s.emit (.cxl port [] true))
  else if s.poolSize < off + 64 then .fault (.poolHole off)
  else .next (s.cxlReach port kind (off / 64) data)

/-- BIRSP (R472 R484): with data, the line is written back first. -/
def execBirsp (line port : Nat) (data : Bytes) (s : State) : Host.Outcome State Fault Refusal :=
  match s.snoopOf line with
  | none => .next s
  | some x =>
    if port ∈ x.owed ∧ x.unsent.all (fun e => e.1 ≠ port) then
      let s := (s.nocSend (if data.isEmpty then .snoopRsp else .snoopData) (hostStop port) (hbmcStop (s.lineStack line)) 0 0).nocRun
        nocFuel none
      let s := if data.isEmpty then s else (s.poolPut (64 * line) (padTo data 64)).bump (hbmcPg (s.lineStack line) 0) 1 1
      .next (s.snoopPaid line port)
    else .next s

/-- BIRSP_TIMEOUT (R485). -/
def execBirspTimeout (line port : Nat) (s : State) : Host.Outcome State Fault Refusal :=
  match s.snoopOf line with
  | none => .next s
  | some x =>
    let k := s.lineStack line
    let limit := 2 ^ max 4 (s.fget (hbmcPg k 0) 0x40 4 0)
    if port ∈ x.owed ∧ x.unsent.all (fun e => e.1 ≠ port) ∧ x.start + limit ≤ s.nowTick then
      let (hs, ex) := s.holders line
      let s := s.setHolders line (hs.filter (fun h => decide (h ≠ port)), ex && decide (hs ≠ [port]))
      let s := ((s.raise (hbmcPg k 0) 18).bump (hbmcPg k 0) 6 1).bput (hostPg port 1) 0x48 31 true
      let s := s.raise (hostPg port 1) 16
      let s := { s with mem := { s.mem with poisoned := s.mem.poisoned ++ [port] } }
      .next (s.snoopPaid line port)
    else .next s

end Sys2Proof.Machine
end

