-- ==== Sys2Proof/Machine/FwLib.lean ====
section
/-! DEFINITION. Firmware images, their checks, and what boots (16_halyard_engines.md R492 R493; 21_bringup_service.md
R608 R609). -/

namespace Sys2Proof.Machine

/-- Index of a bank of the persistent store: engine banks 0 and 1, management-controller banks 0 and 1 (R492). -/
def fwIdx (kind bank : Nat) : Nat := 2 * (kind - 1) + bank % 2

def State.fwImage (s : State) (kind bank : Nat) : Bytes := Tab.get (fun _ => []) s.psto.fwBank (fwIdx kind bank)

/-- Header fields of an image (R492). -/
def imVersion (b : Bytes) : Nat := leAt b 6 2
def imSvn (b : Bytes) : Nat := leAt b 8 4
def imCode (b : Bytes) : Nat := leAt b 0xC 4
def imData (b : Bytes) : Nat := leAt b 0x10 4
def imKey (b : Bytes) : Nat := leAt b 0x14 1
def imDigest (b : Bytes) : Bytes := slice b 0x20 48

/-- Check 1 of R493: the header, and lengths that fit the bank and the KIND. -/
def imHeaderOk (kind : Nat) (b : Bytes) : Bool :=
  decide (256 ≤ b.length ∧ leAt b 0 4 = 0x4C485846 ∧ leAt b 4 1 = 1 ∧ leAt b 5 1 = kind ∧ leAt b 0x15 3 = 0 ∧
    slice b 0x50 48 = zeros 48 ∧ slice b 0xE0 32 = zeros 32 ∧ imCode b % 64 = 0 ∧
    256 + imCode b + imData b ≤ min b.length (2 ^ 20)) &&
    (decide (kind ≠ 1) || decide (imCode b ≤ 393216 ∧ imData b ≤ 65536))

/-- The checks of R493 in their order, coded as RESULT in R495: 0 when all pass. -/
def State.imageCheck (s : State) (kind bank : Nat) : Nat :=
  let b := s.fwImage kind bank
  if Tab.get (fun _ => false) s.psto.fwBroken (fwIdx kind bank) || !imHeaderOk kind b then 1
  else if 4 ≤ imKey b ∨ Config.sigOk (imKey b) (slice b 0 128) (slice b 0x80 96) = false then 2
  else if Tab.get (fun _ => false) s.psto.revoked (imKey b) then 3
  else if sha384 (slice b 256 (imCode b + imData b)) ≠ imDigest b then 4
  else if imVersion b / 256 ≠ 3 then 5
  else if imSvn b < Tab.get (fun _ => 0) s.psto.minSvn kind then 6
  else 0

/-- MIN_SVN of a KIND becomes the SVN of the image in a bank (R495). -/
def State.raiseSvn (s : State) (kind bank : Nat) : State :=
  { s with psto := { s.psto with minSvn := Tab.set (fun _ => 0) s.psto.minSvn kind (imSvn (s.fwImage kind bank)) } }

/-- The management controller boots the bank that FW_MC.NEXT_BANK names, once it passes R493; otherwise its previous
bank, with ROLLBACK (R609). -/
def State.mcBoot (s : State) : State :=
  let p := pstoPg 1
  let next := s.fget p 0x60 1 1
  if next = s.fget p 0x60 0 0 then s
  else if s.imageCheck 2 next = 0 then
    (s.fput p 0x60 0 0 next).fput p 0x60 31 16 (imVersion (s.fwImage 2 next))
  else ((s.fput p 0x60 1 1 (1 - next)).bput p 0x60 2 true).bump p 3 1

/-- CL_FW of cluster c as it runs the image of a bank, journalled (R496 R513). -/
def State.clusterRuns (s : State) (c bank : Nat) : State :=
  let b := s.fwImage 1 bank
  let before := s.get (cluPg c) 0x40
  let v := setFld (setFld (setFld (setFld before 31 16 (imVersion b)) 15 8 (imSvn b % 256)) 0 0 bank) 1 1 0
  (s.put (cluPg c) 0x40 v).record3 (cluPg c) 0x40 before v

/-- Once every cluster has completed its reload, MIN_SVN becomes the SVN of the image (R495). -/
def State.settleSvn (s : State) : State :=
  match s.fw.raiseBank with
  | none => s
  | some b =>
    if s.fw.pendBank.isEmpty ∧ s.fw.reload.isEmpty ∧ Tab.get (fun _ => none) s.fw.act 1 = none then
      ({ s with fw := { s.fw with raiseBank := none } }).raiseSvn 1 b
    else s

/-- A cluster that passes through DOCK loads the bank recorded for it (R497). -/
def State.dockBank (s : State) (c : Nat) : State :=
  match Tab.get (fun _ => none) s.fw.pendBank c with
  | none => s
  | some (b : Nat) =>
    ({ s with fw := { s.fw with pendBank := Tab.set (fun _ => none) s.fw.pendBank c none } }).clusterRuns c b |>.settleSvn

/-- Bytes of the staging buffer, from the words written through STAGE_DATA (R608). -/
def State.stageBytes (s : State) (len : Nat) : Bytes :=
  (List.range (len / 4)).flatMap (fun i => leBytes 4 (Tab.get (fun _ => (0 : Word)) s.fw.stage i).toNat)

end Sys2Proof.Machine
end

