-- ==== Sys2Proof/Machine/PowerLib.lean ====
section
/-! DEFINITION. Power domains, their resets, and the clock inputs (02_module_power_insertion.md, 03_reference_and_tick.md
R57 R58 R615, 21_bringup_service.md R594-R598). -/

namespace Sys2Proof.Machine

/-! Pins and status. -/

/-- MGMT.PWR_STAT and THERM_STAT bits (R41 R42). -/
def State.pwrBit (s : State) (b : Nat) : Bool := s.bget (mgmtPg 3) 0x40 b
def State.setPwr (s : State) (b : Nat) (v : Bool) : State := s.bput (mgmtPg 3) 0x40 b v
def State.therm (s : State) (b : Nat) : Bool := s.bget (mgmtPg 3) 0x54 b

/-- FAULT# is asserted (R49). -/
def State.faultOut (s : State) : Bool :=
  s.fatal || s.pwrBit 11 || s.pwrBit 10 || s.pwrBit 2 || s.pwr.ovuvPending || s.therm 1 || s.therm 2

/-- The lever catch is unlocked (R48). -/
def State.catchOpen (s : State) : Bool := s.pwr.aux && s.pwrBit 7 && s.pwrBit 13

/-- What the front status indicator shows (R50). -/
inductive Indicator where
  | off
  | amberBlink
  | blue
  | blueBlink
  | green
  | greenBlink
  | dark
deriving DecidableEq, Repr

/-- The first state of R50's table whose condition holds; none of them leaves the indicator dark. -/
def State.indicator (s : State) : Indicator :=
  if !s.pwr.aux then .off
  else if s.faultOut then .amberBlink
  else if s.pwrBit 7 then .blue
  else if s.pwrBit 13 then .blueBlink
  else if s.pwr.main then (if s.svcState (glbPg 0) = svcActive then .green else .greenBlink)
  else .dark

/-! Keys that wait for a boundary. -/

/-- The pending change of a key slot takes effect (R126 R127). -/
def State.keyEffect (s : State) (k : Nat) : State :=
  match Tab.get (fun _ => none) s.psto.keyPend k with
  | none => s
  | some (c : KeyPend) =>
    let s := { s with psto := { s.psto with keyPend := Tab.set (fun _ => none) s.psto.keyPend k none } }
    if c.erase then s.setSlot k 0 0 (b2n (decide (k = 0))) 0 [] else s.setSlot k 1 c.bindBase c.bindMask c.keyId c.key

/-! The main domain. -/

/-- Rows of a tile that are withdrawn: retired ones that no spare has replaced (R548 R551). -/
def State.rowsOut (s : State) (t : Nat) : Nat :=
  ((s.psto.retired.filter (fun e => decide (e.1 = pageCode (tilePg t) ∧ e.2.1 < 1024))).length) - s.sparesUsed (tilePg t) 0

/-- Persisted retirements of rows and lanes applied at a main-domain reset (R551); those of instances act at the
power-on test (R598). -/
def State.applyRetired (s : State) : State :=
  let s := (List.range 64).foldl (fun s t =>
    let n := 64 * s.rowsOut t
    if n = 0 then s
    else ((s.put (tilePg t) 0x48 (s.get (tilePg t) 0x48 - n)).put (tilePg t) 0x4C (s.get (tilePg t) 0x4C - n)).put
      (tilePg t) 0x58 (s.get (tilePg t) 0x58 - n)) s
  s.psto.retired.foldl (fun s e =>
    match pageOfCode e.1 with
    | some p =>
      if p.cls = .port ∧ p.page = 1 then
        (s.setLaneState p.inst e.2.1 lnFailed).bput (lanePg p.inst) (laneOff e.2.1) 11 true
      else s
    | none => s) s

/-- A key of a table by page code or address belongs to the auxiliary domain. -/
def auxAddr (a : Nat) : Bool := match locate a with | some (p, _) => auxPage p | none => false
def auxCode (c : Nat) : Bool := match pageOfCode c with | some p => auxPage p | none => false

/-- Main-domain reset (R594): every register of the main domain but its persistent fields, and everything the main
domain holds, HBM included; GEN_SEED advances (R312), the fatal state ends (R578), and persisted retirements apply. -/
def State.mainReset (s : State) : State :=
  let r := State.reset
  let begun := match Tab.get (fun _ => none) s.fw.act 1 with | some (a : FwAct) => a.begun | none => false
  let s := { (s.resetRegs (fun p _ => !auxPage p)) with
    orig := s.orig.filter (fun e => auxAddr (e.1 / 65536)),
    latches := s.latches.filter (fun e => auxCode (e.1 / 65536)),
    heldLo := s.heldLo.filter (fun e => auxAddr (e.1 / 65536 * 4)),
    tick := r.tick,
    jrnl := { r.jrnl with held := s.jrnl.held, overwritten := s.jrnl.overwritten },
    relia := { r.relia with log := s.relia.log,
                            running := s.relia.running.filter (fun e => auxCode e.1),
                            queued := s.relia.queued.filter (fun e => auxCode e.1) },
    fw := { s.fw with reload := [], act := if begun then Tab.set (fun _ => none) s.fw.act 1 none else s.fw.act,
                      raiseBank := if begun then none else s.fw.raiseBank },
    svc := r.svc, lanes := r.lanes, lports := r.lports, spares := r.spares, links := r.links, tiles := r.tiles,
    route := r.route, xpts := r.xpts, wins := r.wins, mwus := r.mwus, vis := r.vis, hostCfg := r.hostCfg, hostRr := r.hostRr,
    hostAts := r.hostAts, groups := r.groups, creations := r.creations, mem := r.mem, noc := r.noc, cleats := r.cleats, stalls := r.stalls,
    lany := r.lany, trig := r.trig, zyn := { s.zyn with reads := [] } }
  let s := (List.range 4).foldl (fun s u =>
    let adv := s.fget (mwuPg u 0) 0x4C 25 16
    s.put (mwuPg u 0) 0x4C (genAdv (s.fget (mwuPg u 0) 0x4C 9 0) (adv + 1))) s
  let s := (s.bput (glbPg 5) 0x40 31 false).put (glbPg 5) 0x5C 0
  s.applyRetired

/-- A session's REG_READ of a cleat word that still stalls is answered as a read of the unpowered array (R130, log 141). -/
def State.endReads (s : State) : State :=
  s.zyn.reads.foldl (fun s r => s.emit (.reply .mgmt (s.replyBytes r.2 stOk 0xFFFF 0 (s.replyKey r.2)))) s

/-- TICK stops: the session's idle time goes on by the management controller's timer (R129). -/
def State.stopSession (s : State) : State :=
  { s with zyn := { s.zyn with sessSpent := s.zyn.sessSpent + (s.nowTick - s.zyn.sessTick), sessTick := 0, sessOff := true } }

/-- A queued command once TICK has stopped: it is due by its ACT_TICK in the next run of TICK (R121). -/
def ZCmd.replan (c : ZCmd) : ZCmd := { c with due := zAct c.frame, carried := false, last := none }

/-- What is lost when the main domain turns off (R599, R126): its state, TICK, and the ramp. It reads as reset until
it is on again. GEN_SEED advances at the closing, and the fatal state and DUMP_STAT end there, not here (R556 R578). -/
def State.mainLost (s : State) : State :=
  let s := s.endReads.stopSession
  let seeds := (List.range 4).map (fun u => s.get (mwuPg u 0) 0x4C)
  let fatal := s.fatal
  let dump := s.get (glbPg 5) 0x5C
  let s := s.mainReset
  let s := (s.bput (glbPg 5) 0x40 31 fatal).put (glbPg 5) 0x5C dump
  let s := (List.range 4).foldl (fun s u => s.put (mwuPg u 0) 0x4C (seeds.getD u 0)) s
  let s := { s with pwr := { s.pwr with main := false, ramp := false, closePermit := false, critPending := false },
                    zyn := { s.zyn with mailbox := [], queue := s.zyn.queue.map ZCmd.replan } }
  let s := ((s.setPwr 5 false).setPwr 6 false).setPwr 7 true
  (List.range 8).foldl State.keyEffect s

/-- The hot-swap switch opens; during the ramp that is a ramp fault (R46). -/
def State.openSwitch (s : State) (fault : Bool) : State :=
  let r := s.pwr.ramp && fault
  let s := s.mainLost
  if r then ({ s with pwr := { s.pwr with rampPending := true } }).setPwr 10 true else s

/-- Every condition for closing the switch (R43 R45-R47 R607), with the management controller running to permit it. -/
def State.canClose (s : State) : Bool :=
  s.pwr.aux && !s.pwr.main && !s.zyn.mcReset && s.pwrBit 0 && s.pwrBit 1 && !s.pwrBit 2 && s.pwrBit 4 && s.pwrBit 3 &&
    !s.pwrBit 11 && !s.pwr.ovuvPending && !s.pwr.rampPending && s.pwr.closePermit &&
    decide (4000 ≤ s.fget (mgmtPg 3) 0x44 15 0 ∧ s.fget (mgmtPg 3) 0x44 15 0 ≤ 6000 ∧
      350 ≤ s.fget (mgmtPg 3) 0x50 15 0 ∧ 18 ≤ s.fget (mgmtPg 3) 0x50 23 16 ∧ s.fget (mgmtPg 3) 0x50 23 16 ≤ 40)

/-- A CRIT condition (R38 R40): the fatal state, and power-off to come. With the main domain off there is nothing to
power off and no dump to write: THERM_STAT.CRIT alone is set (log 140). -/
def State.crit (s : State) : State :=
  let s := s.bput (mgmtPg 3) 0x54 1 true
  if s.pwr.main then ({ s with pwr := { s.pwr with critPending := true } }).enterFatal 4 else s

/-! Reference inputs and the PLL (R57 R58 R615). -/

/-- Input i (false A, true B) is good; REFSEL permits it. -/
def State.refGood (s : State) (b : Bool) : Bool := s.bget (tickPg 0) 0x4C (if b then 3 else 2)
def State.refPermit (s : State) (b : Bool) : Bool :=
  match s.fget (tickPg 0) 0x48 1 0 with
  | 1 => !b
  | 2 => b
  | _ => true
def State.refUsable (s : State) (b : Bool) : Bool := s.refPermit b && s.refGood b

/-- The PLL locks to an input: A when it can be used, else B (R615). -/
def State.pllPick (s : State) : Option Bool :=
  if s.refUsable false then some false else if s.refUsable true then some true else none

def State.pllUse (s : State) (b : Bool) : State := (s.bput (tickPg 0) 0x4C 4 b).bput (tickPg 0) 0x4C 5 true

/-- What the PLL does on the inputs and REFSEL as they now stand: the first lock, which starts TICK; a switch to the
other input; holdover; or a relock within 8 ticks of its entry. -/
def State.pllEval (s : State) : State :=
  if !s.tick.monitors then s
  else if !s.tick.locked then
    match s.pllPick with
    | some b => (({ s with tick := { s.tick with locked := true, running := true } }).pllUse b)
    | none => s
  else if s.bget (tickPg 0) 0x4C 8 then
    match s.pllPick with
    | some b => if s.nowTick ≤ s.tick.holdStart + 8 then (s.bput (tickPg 0) 0x4C 8 false).pllUse b else s
    | none => s
  else
    let cur := s.bget (tickPg 0) 0x4C 4
    if s.refUsable cur then s
    else if s.refUsable (!cur) then
      ((s.pllUse (!cur)).bput (tickPg 0) 0x4C 1 true).bump (tickPg 1) 10 1
    else
      let s := ((s.bput (tickPg 0) 0x4C 8 true).bput (tickPg 0) 0x4C 0 true).bput (tickPg 0) 0x4C 5 false
      { s with tick := { s.tick with holdStart := s.nowTick } }

/-! The power-on test (R598). -/

/-- Page 0 of every instance of a class. -/
def instPages (c : Cls) : List PageRef := (List.range (clsRow c).count).map (fun i => ⟨c, i, 0⟩)

/-- Main-domain instances with a service state of their own: GLB and the clusters follow from others (R511 R607). -/
def servicePages : List PageRef :=
  [Cls.tile, .port, .opte, .xpt, .mwu, .mtch, .coll, .eng, .hbmc, .host].flatMap instPages

/-- A main-domain instance that reports ACTIVE while its domain is powered (R602). -/
def inPlace (p : PageRef) : Bool := alwaysActive p.cls && !auxPage p

/-- Step 7 begins: what is not retired runs its full self-test through SELFTEST. -/
def State.postStart (s : State) : State :=
  servicePages.foldl (fun s p =>
    if s.isRetired p instMark 0 then s.enterSvc p svcRetired else (s.enterSvc p svcSelftest).runFull p) s

/-- An instance enters DOCK with VERDICT 1; a port begins bring-up (R598 R136). -/
def State.enterDock (s : State) (p : PageRef) : State :=
  let s := s.enterSvc p svcDock
  let s := { s with svc := { s.svc with dockPass := Tab.set (fun _ => false) s.svc.dockPass (pageCode p.zero) true } }
  match p.cls with
  | .port => s.bringUp p.inst true
  | .eng => s.dockBank (p.inst / 8)
  | _ => s

/-- The end of the power-on test for one instance. -/
def State.postOne (s : State) (failed : List Nat) (p : PageRef) : State :=
  if s.svcState p ≠ svcSelftest then s
  else if pageCode p ∈ failed then
    let s := (s.setVerdict p 5 2 1).nextTest p
    let s := s.satAdd (glbPg 0) 0x48 7 0 1
    if p.cls = .hbmc then s.retireInst p else s.retire p
  else ((s.setVerdict p 5 1 0).nextTest p).enterDock p

end Sys2Proof.Machine
end

