-- ==== Sys2Proof/Machine/Drain.lean ====
section
/-! DEFINITION. When an instance is drained, by its own chapter's rule, and the fence handshake (15_rings_and_memory.md
R473-R476, 21_bringup_service.md R595). -/

namespace Sys2Proof.Machine

/-- Every port of a list of port pages is OUT or RETIRED. -/
def State.gone (s : State) (p : PageRef) : Bool := decide (s.svcState p = svcOut ∨ s.svcState p = svcRetired)

/-- No record of the journal to the twin waits for its acknowledgement. -/
def State.lanyQuiet (s : State) : Bool := s.lany.awaiting.all (fun e => decide (e.2 = []))

/-- The rule of BLK_STAT.DRAINED that a chapter gives for page 0 of an instance: R191, R220, R260, R307, R343, R380,
R423, R431, R486, R488, R510, R514, R526, R580 and R595. A class without one never drains. -/
def State.drainedAt (s : State) (p : PageRef) : Bool :=
  let i := p.inst
  match p.cls with
  | .port =>
    let l := s.link i
    let t := s.tile (i / 8)
    l.replay.isEmpty && t.cols.all (fun k => decide (k.output ≠ i % 8)) && t.ins.all (fun e => decide (e.input ≠ i % 8))
  | .opte => (List.range 32).all (fun n => s.gone (portPg (32 * i + n)))
  | .tile => decide (s.get p 0x50 = 0 ∧ s.get p 0x54 = 0)
  | .route => !s.bget p 0x44 4 && !s.bget p 0x44 7
  | .xpt =>
    (s.xpt i).ctxs.all (fun c =>
      (match c.tx with | some h => h.unacked.isEmpty | none => true) &&
      (match c.rx with | some h => h.held.isEmpty | none => true)) &&
      decide (s.clrOut (2 * i) = 0 ∧ s.clrOut (2 * i + 1) = 0)
  | .mwu => (s.mwu i).accesses.isEmpty && (s.mwu i).revokes.isEmpty
  | .mtch => s.vis.all (fun e => decide (mtchOf e.1 ≠ i) || e.2.mtch.placing.isEmpty)
  | .coll =>
    s.groups.all (fun e => decide (e.1 % 2 ≠ i) || e.2.steps.all (fun k => !k.isOpen || k.doneSent)) &&
      s.xpts.all (fun e => e.2.presented.all (fun k => decide (agKind (pkLoc k) = 0 ∨ agAddr (pkLoc k) % 2 ≠ i)))
  | .host =>
    s.mwus.all (fun e => e.2.accesses.all (fun a => decide (viPort a.vi ≠ i) || (match a.place with | .host _ => false | _ => true)))
  | .noc => decide (s.nocOut i = 0 ∧ s.nocIn i = 0)
  | .hbmc => s.mem.snoops.all (fun x => decide (s.lineStack x.line ≠ i)) && decide (s.nocIn (hbmcStop i) = 0)
  | .eng => decide (s.fget p 0x44 23 16 = 0 ∧ s.fget p 0x44 11 8 = 0) && !s.bget p 0x44 4
  | .clu =>
    decide (Tab.get (fun _ => ([] : List TrigChange)) s.trig i = []) &&
      s.vis.all (fun e => decide (viPort e.1 ≠ i) || e.2.chains.all (fun c => decide (c.2.state ≠ 2)))
  | .cleat => s.stalls.isEmpty
  | .lany => decide (s.get p 0x50 = 0) && s.lanyQuiet
  | _ => false

/-- BLK_STAT.DRAINED: page 0, and the other pages of the classes whose rule names every page. -/
def State.drained (s : State) (p : PageRef) : Bool :=
  (decide (p.page = 0) || decide (p.cls = .cleat) || decide (p.cls = .hbmc)) && s.powered p && s.drainedAt p.zero

/-- Classes without a ring stop of their own (R595). -/
def stopless (c : Cls) : Bool := decide (c = .port ∨ c = .opte ∨ c = .tile ∨ c = .eng)

/-- The ring stop of an instance, if it has one (R464). -/
def stopOf (p : PageRef) : Option Nat :=
  match p.cls with
  | .host => some (hostStop p.inst)
  | .clu => some (cluStop p.inst)
  | .xpt => some (xptStop p.inst)
  | .mwu => some (mwuStop p.inst)
  | .mtch => some (mtchStop p.inst)
  | .hbmc => some (hbmcStop p.inst)
  | .coll => some (collStop p.inst)
  | .noc => some p.inst
  | _ => none

/-- Units behind ring stops that have a fence (R476). -/
def ringUnits : List PageRef :=
  (List.range 16).map (fun h => hostPg h 0) ++ (List.range 16).map cluPg ++ (List.range 8).map (fun u => xptPg u 0) ++
    (List.range 4).map (fun u => mwuPg u 0) ++ (List.range 4).map (fun u => mtchPg u 0) ++
    (List.range 6).map (fun k => hbmcPg k 0) ++ (List.range 2).map (fun u => collPg u 0)

/-- FENCED sets, journalled (R473). -/
def State.setFenced (s : State) (p : PageRef) : State :=
  let before := s.get p 0xC
  let s := s.bput p 0xC 2 true
  let s := { s with svc := { s.svc with fenceStart := Tab.set (fun _ => 0) s.svc.fenceStart (pageCode p) 0 } }
  s.record3 p 0xC before (s.get p 0xC)

/-- FENCE becomes 1 (R473 R595): the instance's stop recalls its slots; an instance without a stop that is drained is fenced
at once. -/
def State.requestFence (s : State) (p : PageRef) : State :=
  let s := s.bput p 8 3 true
  if s.bget p 0xC 2 then s
  else
    let s := { s with svc := { s.svc with fenceStart := Tab.set (fun _ => 0) s.svc.fenceStart (pageCode p) (s.nowTick + 1) } }
    let s := match stopOf p with
      | some k => s.nocRecall k
      | none => s
    if stopless p.cls && s.drained p then s.setFenced p else s

/-- FENCE becomes 0 and the fence is released or abandoned (R474): the stop grants its slots again. -/
def State.releaseFence (s : State) (p : PageRef) : State :=
  let s := (s.bput p 8 3 false).bput p 0xC 2 false
  let s := { s with svc := { s.svc with fenceStart := Tab.set (fun _ => 0) s.svc.fenceStart (pageCode p) 0 } }
  match stopOf p with
  | some k => s.nocGrant k
  | none => s

end Sys2Proof.Machine
end

