-- ==== Sys2Proof/Machine/Windows.lean ====
section
/-! DEFINITION. Registering and revoking windows (11_remote_memory.md R309-R318, 17 R525). -/

namespace Sys2Proof.Machine

/-- The descriptor of the window that a REGISTER asks for (R311 R453). -/
def winOfDesc (s : State) (v : Nat) (b : Bytes) (old : Win) : Win :=
  { state := wValid, advances := old.advances, base := leAt b 0x10 8, len := leAt b 0x18 8, rights := leAt b 0x20 1,
    attr := leAt b 0x21 1, owner := v, eq := leAt b 0x22 1 % 64, kr := leAt b 0x2C 4, ctr := leAt b 0x30 2 % 4096,
    srcAddr := leAt b 0x34 3, srcPlen := leAt b 0x32 1 % 32, srcVi := leAt b 0x33 1, srcFlags := leAt b 0x37 1,
    regTick := s.nowTick, revTick := old.revTick }

/-- A pool window lies inside its owner's allotment (R313). -/
def State.inAllotment (s : State) (v : Nat) (w : Win) : Bool :=
  let x := s.vi v
  decide (x.poolBase * 2 ^ 21 ≤ w.base ∧ w.base + w.len ≤ (x.poolBase + x.poolLen) * 2 ^ 21)

/-- REGCAP of a VI's host port, with the value that acts (R342). -/
def State.regCap (s : State) (v : Nat) : Nat :=
  min 0x4000000 (s.fget (mwuPg (mwuOfVi v) 0) (0x50 + 4 * (viPort v % 4)) 26 0)

/-- The checks of R314, in order, with R525: the index taken, or the status that refuses. -/
def State.checkRegister (s : State) (v : Nat) (w : Win) : Except Nat Nat :=
  if w.rights % 16 = 0 ∨ (w.hostAtomic ∧ !w.pool ∧ !s.bget (hostPg (viPort v) 0) 0x48 12) ∨
      (w.isCleat ∧ (bit w.rights 2 ∨ bit w.rights 3)) then .error stRights
  else if w.len = 0 ∨ 2 ^ 42 < w.len ∨ 2 ^ 64 ≤ w.base + w.len ∨ (w.pool ∧ !s.inAllotment v w) then .error stBounds
  else if 0 < w.units ∧ s.regCap v < s.regUsed (viPort v) + w.units then .error stBusy
  else
    match s.freeWin v with
    | none => .error stBusy
    | some i => .ok i

/-- Window-management descriptors of a VI that may begin. -/
def State.winDescs (s : State) (v : Nat) : List Desc :=
  if s.viState v = viOn then
    (s.vi v).descs.filter (fun e => decide (dOpcode e.bytes = 8 ∨ dOpcode e.bytes = 9) && !e.begun && mayBegin (s.vi v).descs e)
  else []

/-- No window-management descriptor of the MWU's VIs that may begin was fetched earlier (R314). -/
def State.winTurn (s : State) (v : Nat) (d : Desc) : Bool :=
  s.vis.all (fun e => decide (mwuOfVi e.1 ≠ mwuOfVi v) || (s.winDescs e.1).all (fun f => decide (d.stamp ≤ f.stamp)))

/-- WIN_REGISTER (R314). -/
def execWinRegister (vi queue : Nat) (s : State) : Host.Outcome State Fault Refusal :=
  match s.headDesc vi queue 0x08 with
  | none => .next s
  | some d =>
    if !s.winTurn vi d then .next s
    else
      .next (s.runDesc vi d (fun s =>
        let w := winOfDesc s vi d.bytes winInit
        let p := mwuPg (mwuOfVi vi) 0
        match s.checkRegister vi w with
        | .error e => (e, [], s.bump p 12 1)
        | .ok i =>
          let s := (s.updWin i (winOfDesc s vi d.bytes)).bump p 9 1
          (stOk, leBytes 4 (s.rkey i), s)))

/-- The status that refuses a REVOKE of a key (R315). -/
def State.checkRevoke (s : State) (v key : Nat) : Nat :=
  let i := key / 1024
  if !s.ownsWin v i ∨ (s.win i).state = wPoisoned then stKeyMismatch
  else if key % 1024 ≠ s.winGen i then stGenStale
  else if (s.win i).state = wFree then stKeyMismatch
  else stOk

/-- WIN_REVOKE (R315 R316): the completion waits for the fence. -/
def execWinRevoke (vi queue : Nat) (s : State) : Host.Outcome State Fault Refusal :=
  match s.headDesc vi queue 0x09 with
  | none => .next s
  | some d =>
    if !s.winTurn vi d then .next s
    else
      let key := leAt d.bytes 0x20 4
      let s := s.beginDesc vi d
      let st := s.checkRevoke vi key
      if st = stOk then .next (s.revokeWin (key / 1024) vi (some d.num) 0) else .next (s.complete vi d.num st [])

/-- VIs that exist (R433). -/
def State.viExists (s : State) (v : Nat) : Bool := decide (s.viState v ≠ viNone)

/-- The VI whose range holds a window index (R309). -/
def State.winOwner (s : State) (i : Nat) : Option Nat :=
  ((s.vis.map Prod.fst).filter (fun v => decide (mwuOfVi v = mwuOfWin i) && s.viExists v)).find? (fun v => s.ownsWin v i)

/-- DESCRIPTOR_ECC_ERROR (R318 R343 R547): `row` is the row number within the stack that holds the descriptor. -/
def execDescriptorEccError (window : Nat) (corrected : Bool) (row : Nat) (s : State) : Host.Outcome State Fault Refusal :=
  let p := mwuPg (mwuOfWin window) 0
  match s.mem.part with
  | none => .next s
  | some part =>
    if 2 ^ 22 ≤ window ∨ !s.works p then .next s
    else
      let k := part.winStack window
      let s := s.detect p (if corrected then 16 else 17) (hbmElement row) (hbmExt k row) 4
      if corrected ∨ (s.win window).state = wPoisoned then .next s
      else
        let eq := (s.win window).eq
        let s := s.updWin window (fun w => { w with state := wPoisoned })
        match s.winOwner window with
        | some v => .next (s.postEvent v eq stKeyMismatch 1 (zeros 4 ++ leBytes 4 (s.rkey window)))
        | none => .next s

end Sys2Proof.Machine
end

