-- ==== Sys2Proof/Machine/Coll.lean ====
section
/-! DEFINITION. Steps of collective groups (13_collectives.md R387-R403, R413-R418). -/

namespace Sys2Proof.Machine

/-- A slot opens step k with parameters (R397): steps that an orphan has left behind are ended at once (R418), and
parameters that differ from the first ones close the group (R389). -/
def State.openBy (s : State) (g j k : Nat) (p : StepPar) : State :=
  let x := s.group g
  let s := s.updSlot g j (fun e => { e with opened := k + 1, heard := s.nowTick })
  if k < x.firstStep then
    let (f, s) := s.free
    let b := doneBytes stEpochChanged true x.epoch (f % 2 ^ 24) x.members k
    let e := x.slot j
    if e.kind = 2 then s.collSend g e.id e.ref 0x35 0 k 0 0 0 b
    else
      match (s.group g).msteps.find? (fun m => decide (m.slot = j ∧ m.k = k)) with
      | some m => s.endLocal g m stEpochChanged true
      | none => s
  else
    match (x.step k).bind CStep.par with
    | some q => if q = p then s.run g else (s.bump (coPg g 1) 4 1).collFail g ccMismatch 20
    | none => (s.updStep g k (fun e => { e with par := some p })).run g

/-- Step parameters of a descriptor (R387 R453). -/
def stepOfDesc (b : Bytes) : StepPar :=
  { kind := leAt b 0x30 1, op := leAt b 0x31 1, typ := leAt b 0x32 1, mode := leAt b 0x33 1, count := leAt b 0x20 4,
    root := leAt b 0x34 3 }

/-- COLL_STEP (R388 R389). -/
def execCollStep (vi queue : Nat) (s : State) : Host.Outcome State Fault Refusal :=
  match s.headDesc vi queue 0x20 with
  | none => .next s
  | some d =>
    let s := s.beginDesc vi d
    let b := d.bytes
    let p := stepOfDesc b
    match s.memberGroup vi d with
    | none => .next (s.complete vi d.num stGroupClosed [])
    | some (g, j) =>
      let x := s.group g
      if 8 ≤ (x.msteps.filter (fun m => decide (m.vi = vi))).length then
        .next ((s.bump (coPg g 0) 9 1).complete vi d.num stBusy [])
      else if p.valid x.n = false then .next (s.complete vi d.num stBounds [])
      else
        let k := (x.slot j).opened
        let m : MStep := { vi := vi, slot := j, queue := d.queue, desc := d.num, k := k, inAddr := dLaddr b, outAddr := leAt b 0x18 8,
                           read := 0, directDone := 0, waited := false }
        .next ((s.updGroup g (fun x => { x with msteps := x.msteps ++ [m] })).openBy g j k p).settle

/-- The member's step whose next segment the node reads: the oldest that still has one to deliver (R398 R399). -/
def Group.readTurn (x : Group) (j : Nat) : Option (MStep × StepPar) :=
  let rank := (x.slot j).id
  (x.msteps.filter (fun m => decide (m.slot = j))).findSome? (fun m =>
    match (x.step m.k).bind CStep.par with
    | some p =>
      if p.kind ≠ 3 ∧ (p.kind ≠ 2 ∨ p.root = rank) ∧ m.read < p.segs x.n then some (m, p) else none
    | none => none)

/-- LOCAL_SEGMENT_READ (R391 R398 R529): the next segment of a local member has been read from its IN; up to four segments
beyond the one being combined have a place in the node's buffer (R385). -/
def execLocalSegmentRead (group slot : Nat) (data : Bytes) (s : State) : Host.Outcome State Fault Refusal :=
  let x := s.group group
  match if x.state = gLive then x.readTurn slot else none with
  | none => .next s
  | some (m, p) =>
    let v := m.vi
    let seg := m.read
    let from' := (((x.step m.k).map CStep.next).getD 0)
    if from' + 4 ≤ seg ∨ (x.slot slot).excused ≠ none then .next s
    else
      let mark (f : MStep → MStep) (s : State) : State :=
        s.updGroup group (fun x => { x with msteps := updFirst (fun e => decide (e.slot = slot ∧ e.k = m.k)) f x.msteps })
      if s.shaperAdmits v 2 = false then
        if m.waited then .next s else .next (mark (fun e => { e with waited := true }) (s.bump (viPg v) 9 1))
      else
        let n := p.eb * p.elems x.n seg
        let keys := s.get (vfPg v 2) (0x10C + 16 * m.queue)
        match s.viRead v (m.inAddr + seg * segElems p.typ * p.eb) n (some keys) with
        | .error e => .next ((s.collDepart group slot 2 e).run group).settle
        | .ok s =>
          let s := s.hostTxn (collStop (group % 2)) v 0 false n
          let s := mark (fun e => { e with read := seg + 1, waited := false }) (s.shaperCharge v 2 (1 + ceilDiv n 64))
          let part : Part := { slot := slot, seg := seg, contrib := 1, first := 0, data := padTo data n, whole := true,
                               lastSeg := decide (seg + 1 = p.segs x.n) }
          .next ((s.updStep group m.k (fun e => { e with parts := e.parts ++ [part] })).run group).settle

/-- A step packet of a group in use, from a neighbour that may send it: its slot, or none for the parent; any other is
discarded (R386). -/
def State.fromNeighbour (s : State) (up : Bool) (f : State → Nat → Nat → Bytes → State) (p : Bytes) : State :=
  let g := pkGroup p
  let x := s.group g
  if x.state ≠ gLive ∧ x.state ≠ gRepairWait then s.collDiscard g p
  else if up then
    match x.childOf (pkRouter p) with
    | some j => (f (s.updSlot g j (fun e => { e with heard := s.nowTick })) g j p).disposePkt p
    | none => s.collDiscard g p
  else
    match x.parent with
    | some (r, _) =>
      if r = pkRouter p then (f (s.updGroup g (fun x => { x with heard := s.nowTick })) g 0 p).disposePkt p
      else s.collDiscard g p
    | none => s.collDiscard g p

/-- The next step packet of some opcodes, from the parent or from a child. -/
def State.onStep (s : State) (u : Nat) (op : Nat → Bool) (up : Bool) (f : State → Nat → Nat → Bytes → State) : State :=
  s.onColl u (fun p => op (pkOpcode p)) (fun s p => s.fromNeighbour up f p)

/-- STEP_OPEN_RECEIVE (R397). -/
def execStepOpenReceive (unit : Nat) (s : State) : Host.Outcome State Fault Refusal :=
  .next (s.onStep unit (fun o => decide (o = 0x30)) true (fun s g j p =>
    let b := pkPayload p
    let x := s.group g
    let q : StepPar := { kind := beAt b 0 1, op := beAt b 1 1, typ := beAt b 2 1, mode := beAt b 3 1, count := beAt b 4 4, root := beAt b 8 3 }
    if pkLen p ≠ 16 ∨ q.valid x.n = false then s.collMalformed g
    else s.openBy g j (nearest 16 (x.slot j).opened (beAt b 12 2)) q))

/-- An opcode that R392 does not give. -/
def collReserved (p : Bytes) : Bool := decide (pkOpcode p < 0x30 ∨ 0x38 < pkOpcode p)

/-- UP_RECEIVE (R398 R399); a packet with a reserved opcode, whoever sends it, closes its group here (R392). -/
def execUpReceive (unit : Nat) (s : State) : Host.Outcome State Fault Refusal :=
  .next (s.onColl unit (fun p => decide (pkOpcode p = 0x31) || collReserved p) (fun s p =>
    let g := pkGroup p
    if !collReserved p then s.fromNeighbour true State.takeUp p
    else if (s.group g).state = gFree ∨ (s.group g).state = gQuarantine then s.collDiscard g p
    else (s.collMalformed g).disposePkt p))

/-- DOWN_RECEIVE (R400 R401): a segment of a BROADCAST may come before a slot here has opened the step, and waits. -/
def execDownReceive (unit : Nat) (s : State) : Host.Outcome State Fault Refusal :=
  .next (s.onStep unit (fun o => decide (o = 0x32)) false (fun s g _ p =>
    let x := s.group g
    let k := nearest 8 x.doneNext (pkStep p)
    let bad := match (x.step k).bind CStep.par with | some q => decide (pkLen p ≠ q.eb * q.elems x.n (pkSeg p)) | none => false
    if bad then s.collMalformed g
    else if k < x.doneNext then s
    else (s.updStep g k (fun e => { e with results := e.results ++ [(pkSeg p, pkLastSeg p, pkPayload p)] })).run g))

/-- DIRECT_RECEIVE (R400 R401): only the root sends it (R386). -/
def execDirectReceive (unit : Nat) (s : State) : Host.Outcome State Fault Refusal :=
  .next (s.onColl unit (fun p => decide (pkOpcode p = 0x33)) (fun s p =>
    let g := pkGroup p
    let x := s.group g
    let j := pkContrib p % 64
    let k := nearest 8 x.doneNext (pkStep p)
    if (x.state ≠ gLive ∧ x.state ≠ gRepairWait) ∨ pkRouter p ≠ x.root then s.collDiscard g p
    else
      let s := s.bump (coPg g 1) 6 1
      match (x.step k).bind CStep.par with
      | none => s.disposePkt p
      | some q =>
        if pkLen p % q.eb ≠ 0 then (s.collMalformed g).disposePkt p
        else
          let i := pkSeg p * segElems q.typ + pkFirstElem p
          let pos := if q.kind = 4 then i - (x.slot j).id * q.count else i
          ((s.takeDirect g j k pos q.eb (pkPayload p)).run g).disposePkt p))

/-- CREDIT_RECEIVE (R400): DIR 0 comes from the parent, DIR 1 from a child. -/
def execCreditReceive (unit : Nat) (s : State) : Host.Outcome State Fault Refusal :=
  .next (s.onColl unit (fun p => decide (pkOpcode p = 0x34)) (fun s p =>
    let g := pkGroup p
    let x := s.group g
    let b := pkPayload p
    let cum := beAt b 0 4
    let child := x.childOf (pkRouter p)
    let parent := match x.parent with | some (r, _) => decide (r = pkRouter p) | none => false
    if (x.state ≠ gLive ∧ x.state ≠ gRepairWait) ∨ (child = none ∧ parent = false) then s.collDiscard g p
    else if pkLen p ≠ 8 then (s.collMalformed g).disposePkt p
    else if beAt b 4 1 = 0 ∧ parent then
      ((s.updGroup g (fun x => { x with upCum := cum, heard := s.nowTick })).run g).disposePkt p
    else
      match child with
      | some j =>
        if beAt b 4 1 = 1 then ((s.updSlot g j (fun e => { e with downCum := cum, heard := s.nowTick })).run g).disposePkt p
        else (s.collMalformed g).disposePkt p
      | none => (s.collMalformed g).disposePkt p))

/-- DONE_RECEIVE (R402). -/
def execDoneReceive (unit : Nat) (s : State) : Host.Outcome State Fault Refusal :=
  .next (s.onStep unit (fun o => decide (o = 0x35)) false (fun s g _ p =>
    let x := s.group g
    let b := pkPayload p
    let k := nearest 16 x.doneNext (beAt b 10 2)
    if pkLen p ≠ 16 then s.collMalformed g
    else if k < x.doneNext then s
    else
      let disc := decide (beAt b 1 1 % 2 = 1)
      let s := if disc then s.dropParts g k else s
      let left := ((s.group g).step k).map (fun e => e.results.length)
      let s := match x.parent, if disc then left else none with
        | some (r, l), some n =>
          let cum := wrapAdd 32 x.downDone n
          if n = 0 then s else (s.updGroup g (fun x => { x with downDone := cum })).sendCredit g r l cum 1
        | _, _ => s
      (s.updStep g k (fun e =>
        if disc then { e with done := some b, results := [], handed := 0 } else { e with done := some b })).run g))

/-- The lowest step whose verdict the root has not decided (R417). -/
def Group.undecided (x : Group) : Nat :=
  match x.steps.find? (fun e => e.verdict.isNone) with
  | some e => e.k
  | none => max x.next x.doneNext

/-- Firmware at the root repairs the tree after the loss of a node (R417): `repairs` gives each orphan and its new parent
as 4096 * router + local index, or 2^32 where no surviving node has a free slot. -/
def State.repair (s : State) (g : Nat) (repairs : List (Nat × Nat)) : State :=
  if repairs.any (fun e => decide (2 ^ 32 ≤ e.2)) then s.collFail g ccRepairFail 21
  else if repairs.isEmpty then s
  else
    let x := s.group g
    let first := match x.repair with | some (_, f) => f | none => x.undecided + 8
    let c : Gctl := { sub := 5, status := 0, epoch := x.epoch, ctag := x.ctag, creator := x.creator, loc := g, peer := 0, parent := 0,
                      parentLocal := 0, firstStep := first % 65536, members := x.members, slots := [] }
    let go (s : State) (e : Nat × Nat) : State :=
      let (oR, oL) := (e.1 / 4096, e.1 % 4096)
      let (pR, pL) := (e.2 / 4096, e.2 % 4096)
      let cp := { c with peer := pL, slots := [⟨2, oR, oL, first % 65536⟩] }
      let s := if pR = s.self then (s.adopt g cp).1 else s.sendGctl pR pL cp
      s.sendGctl oR oL { c with peer := oL, parent := pR, parentLocal := pL }
    let owed := repairs.flatMap (fun e => (if e.2 / 4096 = s.self then [] else [e.2 / 4096]) ++ [e.1 / 4096])
    let before := match x.repair with | some (l, _) => l | none => []
    repairs.foldl go (s.updGroup g (fun x => { x with repair := some (before ++ owed, first) }))

/-- A DEPART for which firmware at the root repairs the tree (R417), a service task (R498). -/
def State.forRepair (s : State) (p : Bytes) : Bool :=
  (s.group (pkGroup p)).parent.isNone && decide ((s.group (pkGroup p)).state = gLive ∧ beAt (pkPayload p) 3 1 = 3)

/-- DEPART_RECEIVE (R413 R417): forwarded toward the root, which changes the epoch, and after the loss of a node repairs
the tree. `orphaned` are the ranks below the lost node. -/
def execDepartReceive (unit : Nat) (orphaned : List Nat) (repairs : List (Nat × Nat)) (s : State) : Host.Outcome State Fault Refusal :=
  .next (s.onColl unit (fun p => decide (pkOpcode p = 0x36) && !(s.forRepair p && s.svcEngines.isEmpty)) (fun s p =>
    let g := pkGroup p
    let x := s.group g
    let b := pkPayload p
    let what := beAt b 0 3
    let cause := beAt b 3 1
    let known := (x.childOf (pkRouter p)).isSome || (x.parent.isNone && decide (pkRouter p = s.self))
    if (x.state ≠ gLive ∧ x.state ≠ gRepairWait) ∨ known = false then s.collDiscard g p
    else if pkLen p ≠ 8 ∨ 3 < cause then (s.collMalformed g).disposePkt p
    else
      match x.parent with
      | some _ => (s.passDepart g b).disposePkt p
      | none =>
        if cause < 3 then ((s.rootDepart g [what] what [what]).run g).disposePkt p
        else
          let router := what % 2 ^ 20
          let lost := (List.range x.places.length).filter (fun r => decide ((x.places.getD r (0, 0)).1 / 4096 = router ∧ r ∉ x.gone))
          let s := s.updGroup g (fun x => { x with repair := x.repair.map (fun q => (q.1.filter (fun y => decide (y ≠ router)), q.2)) })
          let s := s.rootDepart g lost 0xFFFFFF (lost ++ orphaned)
          let s := if (s.group g).state = gLive then s.svcTask.repair g repairs else s
          ((s.endRepair g).run g).disposePkt p))

/-- EPOCH_RECEIVE (R413). -/
def execEpochReceive (unit : Nat) (s : State) : Host.Outcome State Fault Refusal :=
  .next (s.onStep unit (fun o => decide (o = 0x37)) false (fun s g _ p =>
    let b := pkPayload p
    if pkLen p ≠ 8 then s.collMalformed g
    else (s.updGroup g (fun x => { x with epoch := beAt b 0 2, members := beAt b 2 3 })).tellEpoch g (beAt b 5 3)))

/-- COLL_HEARTBEAT (R403): slot 64 stands for the parent. -/
def execCollHeartbeat (group slot : Nat) (s : State) : Host.Outcome State Fault Refusal :=
  let x := s.group group
  let waits (takes : Nat → Bool) (heard : Nat) : Bool :=
    x.steps.any (fun e => e.isOpen && e.done.isNone && takes e.k && decide (max heard e.started + s.hbTicks group ≤ s.nowTick))
  if x.state ≠ gLive then .next s
  else if slot < 64 then
    let e := x.slot slot
    if e.kind = 2 ∧ waits e.takes e.heard then
      .next (((s.updSlot group slot (fun e => { e with heard := s.nowTick })).bump (coPg group 0) 10 1).sendCredit group e.id e.ref e.upDone 0).settle
    else .next s
  else
    match x.parent with
    | some (r, l) =>
      if waits (fun _ => true) x.heard then
        .next (((s.updGroup group (fun x => { x with heard := s.nowTick })).bump (coPg group 0) 10 1).sendCredit group r l x.downDone 1).settle
      else .next s
    | none => .next s

end Sys2Proof.Machine
end

