-- ==== Sys2Proof/Machine/Matching.lean ====
section
/-! DEFINITION. Matched messages: descriptors, arrivals and errors (12_matching.md R345-R376). -/

namespace Sys2Proof.Machine

/-- The receive that a MRECV, RECV_CLAIMED or PROBE descriptor describes (R453). -/
def postedOf (s : State) (d : Desc) : Posted :=
  let b := d.bytes
  let mf := leAt b 0x22 1
  { buf := dLaddr b, bufLen := dLen b, comm := leAt b 0x20 2, srcRank := leAt b 0x28 3, anySrc := bit mf 0, anyTag := bit mf 1,
    tag := leAt b 0x24 4, cq := dCplq b, queue := d.queue, stamp := 0, cookie := dCookie b, desc := d.num,
    postTick := s.nowTick }

/-- MSEND (R346 R348 R288). -/
def execMsend (vi queue : Nat) (s : State) : Host.Outcome State Fault Refusal :=
  match s.headDesc vi queue 0x10 with
  | none => .next s
  | some d =>
    let b := d.bytes
    let n := dLen b
    let ulp := beBytes 1 0x20 ++ beBytes 2 (s.vi vi).domain ++ beBytes 2 (leAt b 0x20 2) ++ beBytes 3 (leAt b 0x28 3) ++
      beBytes 4 (leAt b 0x24 4)
    .next (s.launch vi d (s.dLoc vi) (dRem b) (if 8192 < n then 0 else if 4096 < n then 2 else 1) (decide (8192 < n))
      (fun s => s.startData (s.dLoc vi) (dRem b) vi d.num .msend (s.msgHdr (s.dLoc vi) (dRem b) vi (dDstVi b) ulp)
        (dLaddr b) d.keys n flOrd))

/-- A post meets an unexpected entry, enters its list, or is deferred (R356 R371). -/
def State.post (s : State) (v : Nat) (d : Desc) : State :=
  let r := postedOf s d
  let m := s.mtch v
  match m.search r with
  | some e =>
    let s := (s.beginDesc v d).countWalk v (m.searchCost r) 0
    ((s.bump (mtPg v 0) 2 1).bumpVf v 12 1).deliver v e r false
  | none =>
    if (s.vi v).postMax ≤ m.posted.length ∨ mtchEntries ≤ s.mtchSum (mtchOf v) (fun m => m.posted.length) then
      s.deferDesc v d (fun s => s.bump (mtPg v 0) 12 1)
    else
      let s := (s.beginDesc v d).countWalk v (m.searchCost r) 0
      (s.updMtch v (fun m => { m with posted := m.posted ++ [{ r with stamp := m.postStamp }],
                                      postStamp := wrapAdd 64 m.postStamp 1 })).bump (mtPg v 0) 3 1

/-- MRECV (R356); of a poisoned VI it never completes (R375). -/
def execMrecv (vi queue : Nat) (s : State) : Host.Outcome State Fault Refusal :=
  match s.headDesc vi queue 0x11 with
  | none => .next s
  | some d => .next (if s.poisoned vi then s.beginDesc vi d else s.post vi d)

/-- PROBE, with or without CLAIM (R365 R366); poisoned match state is no longer used, so nothing is found (R375). -/
def State.probe (s : State) (v : Nat) (d : Desc) : State :=
  let r := postedOf s d
  let m := s.mtch v
  let s := (s.bump (mtPg v 1) 0 1).countWalk v (m.searchCost r) 0
  match if s.poisoned v then none else m.search r with
  | none => s.complete v d.num stOk (recvExt 0 0 0 0 0 0 0 0)
  | some e =>
    let claim := bit (leAt d.bytes 0x22 1) 2
    let handle := if claim then e.index * 8192 + e.stamp % 8192 else 0
    let s := (s.bump (mtPg v 1) 1 1).bump (mtPg v 1) 2 (b2n claim)
    let s := if claim then
        s.updMtch v (fun m => { m with unexp := updFirst (fun x => decide (x.index = e.index)) (fun x => { x with claimed := true }) m.unexp })
      else s
    s.complete v d.num stOk (recvExt 0 e.msgLen e.src e.srcVi e.srcRank 2 e.tag handle)

/-- PROBE (R365 R366). -/
def execProbe (vi queue : Nat) (s : State) : Host.Outcome State Fault Refusal :=
  match s.headDesc vi queue 0x12 with
  | none => .next s
  | some d =>
    .next ((s.beginDesc vi d).probe vi d)

/-- RECV_CLAIMED (R366). -/
def execRecvClaimed (vi queue : Nat) (s : State) : Host.Outcome State Fault Refusal :=
  match s.headDesc vi queue 0x13 with
  | none => .next s
  | some d =>
    let s := s.beginDesc vi d
    let h := leAt d.bytes 0x2C 4
    if s.poisoned vi then .next s
    else
      match (s.mtch vi).unexp.find? (fun e => e.claimed && decide (e.index = h / 8192 ∧ e.stamp % 8192 = h % 8192)) with
      | none => .next ((s.bump (mtPg vi 1) 3 1).complete vi d.num stKeyMismatch (recvExt 0 0 0 0 0 0 0 0))
      | some e => .next (s.deliver vi e (postedOf s d) true)

/-- CANCEL (R367); in poisoned match state no receive is found (R375). -/
def execCancel (vi queue : Nat) (s : State) : Host.Outcome State Fault Refusal :=
  match s.headDesc vi queue 0x14 with
  | none => .next s
  | some d =>
    let s := s.beginDesc vi d
    let cookie := leAt d.bytes 0x30 8
    match if s.poisoned vi then none else (s.mtch vi).posted.find? (fun r => decide (r.cookie = cookie)) with
    | none => .next ((s.bump (mtPg vi 1) 5 1).complete vi d.num stOk (leBytes 4 1))
    | some r =>
      let s := s.updMtch vi (fun m => { m with posted := delFirst (fun x => decide (x.stamp = r.stamp)) m.posted })
      let s := s.complete vi r.desc stOk (recvExt 0 0 0 0 0 1 0 0)
      .next ((s.bump (mtPg vi 1) 4 1).complete vi d.num stOk (leBytes 4 0))

/-- MATCH_RESUME (R373). -/
def execMatchResume (vi queue : Nat) (s : State) : Host.Outcome State Fault Refusal :=
  match s.headDesc vi queue 0x15 with
  | none => .next s
  | some d =>
    let s := (s.beginDesc vi d).bump (mtPg vi 1) 8 1
    if s.poisoned vi then .next (s.complete vi d.num stBusy [])
    else .next ((s.updMtch vi (fun m => { m with stopCause := 0 })).complete vi d.num stOk [])

/-- The first presented packet of a unit with one of the matched opcodes. -/
def State.onMatch (s : State) (u : Nat) (op : Nat → Bool) (f : State → Bytes → State) : State :=
  if !s.works (xptPg u 0) then s
  else
    s.handPresented u (fun p => decide ((pkType p = 1 ∨ pkType p = 2) ∧ agKind (pkLoc p) = 0) && op (pkOpcode p))
      (fun p => mtchStop (agPort (pkLoc p) / 4)) f

/-- MSEND_ARRIVAL (R355 R358 R372): MSEND packets are taken in the order of their presentation. -/
def execMsendArrival (unit : Nat) (s : State) : Host.Outcome State Fault Refusal :=
  .next (s.onMatch unit (fun o => decide (o = 0x20)) State.rxMsend)

/-- MDATA_ARRIVAL (R359); packets with the reserved opcodes of R347 are rejected here. -/
def execMdataArrival (unit : Nat) (s : State) : Host.Outcome State Fault Refusal :=
  .next (s.onMatch unit (fun o => decide (0x21 ≤ o ∧ o < 0x30)) State.rxMdata)

/-- BOUNCE_COPY_DONE (R360-R362): what has arrived of a parked message is copied to the receive's buffer. -/
def execBounceCopyDone (vi copy : Nat) (s : State) : Host.Outcome State Fault Refusal :=
  match (s.mtch vi).placing.find? (fun x => decide (x.id = copy)) with
  | none => .next s
  | some x =>
    if x.copySlots = 0 ∨ x.copyData.isEmpty ∨ s.poisoned vi ∨ s.viMayWrite vi = false then .next s
    else
      let s := s.countBounce vi 0 x.copyData.length false
      match s.place vi 0 x x.copyOfs x.copyData with
      | .error e => .next ((s.bump (mtPg vi 1) 7 1).endRecv vi x e)
      | .ok (s, n) =>
        let s := s.bump (mtPg vi 0) 9 (ceilDiv n 64)
        let x := { x with placed := x.placed + n, copyOfs := x.copyOfs + x.copyData.length, copyData := [] }
        if x.awaitSecond then .next (s.updPlacing vi x.id (fun _ => x)) else .next (s.endPlaced vi x)

/-- MATCH_ECC_ERROR (R375 R380 R547): `row` is 2^36 times the stack plus the row number. -/
def execMatchEccError (vi : Nat) (corrected : Bool) (row : Nat) (s : State) : Host.Outcome State Fault Refusal :=
  if 4096 ≤ vi ∨ !s.works (mtPg vi 0) then .next s
  else
    let s := s.detect (mtPg vi 0) (if corrected then 16 else 17) (hbmElement row) (hbmExt (row / 2 ^ 36) row) 4
    if corrected then .next s else .next (s.stopMatch vi 5)

end Sys2Proof.Machine
end

