-- ==== Sys2Proof/Machine/Mwu.lean ====
section
/-! DEFINITION. RMA packets at their target and responses at their initiator (11_remote_memory.md R319-R339). -/

namespace Sys2Proof.Machine

/-- The first presented DATA packet of an opcode is taken by the initiator's XPT unit. -/
def State.onData (s : State) (u : Nat) (op : Nat → Bool) (f : State → Bytes → State) : State :=
  if !s.works (xptPg u 0) then s
  else
    match s.takePresented u (fun p => decide (pkType p = 1 ∧ agKind (pkLoc p) = 0) && op (pkOpcode p)) with
    | none => s
    | some (p, s) => f s p

/-- The first presented DATA packet of an opcode is handed to its MWU. -/
def State.onMwu (s : State) (u : Nat) (op : Nat → Bool) : State :=
  if !s.works (xptPg u 0) then s
  else
    s.handPresented u (fun p => decide (pkType p = 1 ∧ agKind (pkLoc p) = 0) && op (pkOpcode p))
      (fun p => mwuStop (mwuOfVi (pkVi p))) State.rxRma

/-- PUT_PACKET_RECEIVE (R324-R328); a packet with a reserved opcode of the RMA range is rejected here (R323). -/
def execPutPacketReceive (unit : Nat) (s : State) : Host.Outcome State Fault Refusal :=
  .next (s.onMwu unit (fun o => decide (o = opPut ∨ (0x16 ≤ o ∧ o < 0x20))))

/-- GET_REQ_RECEIVE (R324 R329 R335). -/
def execGetReqReceive (unit : Nat) (s : State) : Host.Outcome State Fault Refusal :=
  .next (s.onMwu unit (fun o => decide (o = opGetReq)))

/-- SIGNAL_RECEIVE (R324 R330). -/
def execSignalReceive (unit : Nat) (s : State) : Host.Outcome State Fault Refusal :=
  .next (s.onMwu unit (fun o => decide (o = opSignal)))

/-- ATOMIC_RECEIVE (R324 R331). -/
def execAtomicReceive (unit : Nat) (s : State) : Host.Outcome State Fault Refusal :=
  .next (s.onMwu unit (fun o => decide (o = opAtomic)))

/-- Data that a response brings is written at the initiator (R329 R331); of a VI that is not ON it is discarded (R459).
The status of a failed translation becomes the message's, unless it has one. -/
def State.placeResponse (s : State) (loc rem : Nat) (m : TxMsg) (addr : Nat) (data : Bytes) : State :=
  if s.viState m.vi ≠ viOn ∨ (s.desc m.vi m.desc).isNone then s
  else
    match s.viWrite m.vi addr (some m.keys) data with
    | .ok s => s.hostTxn (xptStop (agPort loc / 2)) m.vi 0 true data.length
    | .error e => s.updMsg loc rem m.id (fun m => { m with status := some (m.status.getD e) })

/-- A response whose LEN is wrong is rejected with RIGHTS (R323). -/
def State.badResponse (s : State) (p : Bytes) : State :=
  (s.raise (mwuPg (mwuOfVi (pkVi p)) 0) 19).rejectRma (pkVi p) p stRights

/-- A GET_RSP at the initiator (R323 R329). -/
def State.rxGetRsp (s : State) (p : Bytes) : State :=
  let loc := pkLoc p
  let rem := pkRem p
  let id := pkUlp p 0x16 4
  let msg := (s.txOf loc rem).bind (fun h => h.msg id)
  let asked := msg.bind (fun m => (m.reads.find? (fun r => decide (r.ofs = pkOfs p))).map RdReq.len)
  if !rspFormed p asked then s.badResponse p
  else
  match msg with
  | none => s.disposePkt p
  | some m =>
    if m.reads.any (fun r => decide (r.ofs = pkOfs p)) then
      let s := s.placeResponse loc rem m (m.laddr + pkOfs p) (pkPayload p)
      let s := s.updMsg loc rem id (fun m => { m with reads := delFirst (fun r => decide (r.ofs = pkOfs p)) m.reads })
      (s.disposePkt p).endAnswered loc rem
    else s.disposePkt p

/-- GET_RSP_RECEIVE (R329). -/
def execGetRspReceive (unit : Nat) (s : State) : Host.Outcome State Fault Refusal :=
  .next (s.onData unit (fun o => decide (o = opGetRsp)) State.rxGetRsp)

/-- An ATOMIC_RSP at the initiator (R323 R331). -/
def State.rxAtomicRsp (s : State) (p : Bytes) : State :=
  let loc := pkLoc p
  let rem := pkRem p
  let id := pkUlp p 0x16 4
  let msg := (s.txOf loc rem).bind (fun h => h.msg id)
  let asked := msg.bind (fun m => if m.fetching && m.adopt.isEmpty then some (if bit (beAt m.hdr 0x35 1) 4 then 16 else 8) else none)
  if !rspFormed p asked then s.badResponse p
  else
  match msg with
  | none => s.disposePkt p
  | some m =>
    if m.fetching then
      let s := s.placeResponse loc rem m m.laddr (pkPayload p)
      ((s.updMsg loc rem id (fun m => { m with fetching := false })).disposePkt p).endAnswered loc rem
    else s.disposePkt p

/-- ATOMIC_RSP_RECEIVE (R331). -/
def execAtomicRspReceive (unit : Nat) (s : State) : Host.Outcome State Fault Refusal :=
  .next (s.onData unit (fun o => decide (o = opAtomicRsp)) State.rxAtomicRsp)

/-- The MWU and the access of an identity. -/
def State.findAccess (s : State) (id : Nat) : Option (Nat × Access) :=
  (List.range 4).findSome? (fun u => ((s.mwu u).accesses.find? (fun a => decide (a.id = id))).map (fun a => (u, a)))

/-- A read whose fence has ended reaches its cleat (R335 R525). -/
def State.wakeCleat (s : State) (u : Nat) (a : Access) : State := if s.fenceDone a then s.cleatAccess u a else s

/-- ACCESS_DISPOSED (R326): the access takes effect at its point of execution; `data` is what host memory answered. -/
def execAccessDisposed (access : Nat) (data : Bytes) (s : State) : Host.Outcome State Fault Refusal :=
  match s.findAccess access with
  | none => .next s
  | some (u, a) =>
    if !s.works (mwuPg u 0) then .next s
    else
      let s := s.wakeCleat u a
      match (s.mwu u).accesses.find? (fun a => decide (a.id = access)) with
      | none => .next s
      | some a =>
        if !s.accessReady a then .next s
        else if !s.slotFree (mwuStop u) (s.accessStop a) 1 then .next (s.nocWait (mwuStop u) (s.accessStop a) 1)
        else
          match s.accessHole a with
          | some off => .fault (.poolHole off)
          | none => .next (s.execAccess u a data)

/-- ATOMICOP_ERROR_COMPLETION (R332): the atomic is rejected with RIGHTS. -/
def execAtomicopErrorCompletion (access : Nat) (s : State) : Host.Outcome State Fault Refusal :=
  match s.findAccess access with
  | none => .next s
  | some (u, a) =>
    match a.place with
    | .host ps =>
      if s.accessReady a && s.byAtomicOp a then
        let s := s.sendAtomicOp a ps
        .next ((s.raise (mwuPg u 0) 18).abandonAccess u a stRights)
      else .next s
    | _ => .next s

/-- FENCE_DEADLINE (R316): the fenced accesses of a window that are still in flight are abandoned. -/
def execFenceDeadline (window : Nat) (s : State) : Host.Outcome State Fault Refusal :=
  let u := mwuOfWin window
  let late := (s.mwu u).accesses.filter (fun a =>
    decide (a.window = window) && (match a.deadline with | some (t, _) => decide (t ≤ s.nowAbs) | none => false))
  .next (late.foldl (fun s a => (s.bump (mwuPg u 0) 11 1).abandonAccess u a stGenStale) s)

end Sys2Proof.Machine
end

