-- ==== Sys2Proof/Machine/Xpt.lean ====
section
/-! DEFINITION. The Wiluth transport: packets that arrive, grants and notices, clearances, admission and timers
(10_wiluth_transport.md R270-R304, 18 R528-R537). -/

namespace Sys2Proof.Machine

/-! Arrivals (R274-R287). -/

/-- A packet of a kind reaches its XPT unit. -/
def State.arrive (s : State) (pkt : Bytes) (ok : Bool) : State :=
  if ok && s.works (xptPg (s.xptOf pkt) 0) then (s.rxWiluth pkt).settle else s

/-- A gap fill (R573): DATA with VOID set and GRANTED clear. -/
def pkGap (p : Bytes) : Bool := decide (pkType p = 1) && pkVoid p && !pkGranted p

/-- WILUTH_DATA_RECEIVE (R274): every packet but those of the four rows below, reserved types included. -/
def execWiluthDataReceive (pkt : Bytes) (s : State) : Host.Outcome State Fault Refusal :=
  .next (s.arrive pkt (decide (pkType pkt ≠ 4 ∧ pkType pkt ≠ 5 ∧ pkType pkt ≠ 7) && !pkGap pkt))

/-- WILUTH_ACK_RECEIVE (R281). -/
def execWiluthAckReceive (pkt : Bytes) (s : State) : Host.Outcome State Fault Refusal :=
  .next (s.arrive pkt (decide (pkType pkt = 4)))

/-- RESET_RECEIVE (R300). -/
def execResetReceive (pkt : Bytes) (s : State) : Host.Outcome State Fault Refusal :=
  .next (s.arrive pkt (decide (pkType pkt = 5)))

/-- CLOSE_RECEIVE (R275). -/
def execCloseReceive (pkt : Bytes) (s : State) : Host.Outcome State Fault Refusal :=
  .next (s.arrive pkt (decide (pkType pkt = 7)))

/-- GAP_FILL_RECEIVE (R573). -/
def execGapFillReceive (pkt : Bytes) (s : State) : Host.Outcome State Fault Refusal :=
  .next (s.arrive pkt (pkGap pkt))

/-! Announcements, grants and notices (R291 R294 R297 R298 R328). -/

/-- The INTENT of a put: checked over its whole range, and accepted or refused (R291 R324 R328). -/
def State.rxIntentPut (s : State) (p : Bytes) : State :=
  let v := pkVi p
  match s.viRejects p with
  | some st => s.rejectVi p st
  | none =>
    if pkOpcode p ≠ opPut ∨ rmaFormed p = false then (s.raise (mwuPg (mwuOfVi v) 0) 19).rejectRma v p stRights
    else
      match s.checkAccess v p with
      | .error st => s.rejectRma v p st
      | .ok _ =>
        (s.acceptAnn (pkLoc p) (pkRem p) (pkMsg p) (pkOfs p)).disposePkt p

/-- The first presented INTENT, and for a matched one no MSEND of its direction before it (R286). -/
def State.intentTurn (s : State) (u : Nat) : Option Bytes :=
  let ps := (s.xpt u).presented
  ps.find? (fun p => decide (pkType p = 2 ∧ agKind (pkLoc p) = 0 ∧ 0x10 ≤ pkOpcode p ∧ pkOpcode p < 0x30) &&
    (decide (pkOpcode p ≠ 0x20) ||
      decide (ps.find? (fun q => decide (pkLoc q = pkLoc p ∧ pkRem q = pkRem p ∧ pkOpcode q = 0x20 ∧ pkType q < 3)) = some p)))

/-- INTENT_RECEIVE (R291): of a put or of a matched message. -/
def execIntentReceive (unit : Nat) (s : State) : Host.Outcome State Fault Refusal :=
  if !s.works (xptPg unit 0) then .next s
  else
    match s.intentTurn unit with
    | none => .next s
    | some p =>
      let s := s.updXpt unit (fun x => { x with presented := delFirst (fun q => decide (q = p)) x.presented })
      if pkOpcode p < 0x20 then .next (s.rxIntentPut p)
      else if pkOpcode p = 0x20 then .next (s.rxMsend p)
      else .next (s.rxMdata p)

/-- No packet of a message waits to be built. -/
def State.noneWaiting (s : State) (loc rem id : Nat) : Bool :=
  !(s.xpt (s.unitOf loc rem)).waiting.any (fun e => e.ofMsg loc rem id && !pkVoid e.pkt)

/-- The sender stops a message: what waits of it goes, granted packets turning into VOID (R294 R328). -/
def State.stopMsg (s : State) (loc rem : Nat) (m : TxMsg) : State :=
  let u := s.unitOf loc rem
  let mine := (s.xpt u).waiting.filter (fun e => e.ofMsg loc rem m.id && !pkVoid e.pkt)
  let s := s.updXpt u (fun x => { x with waiting := x.waiting.filter (fun e => !e.ofMsg loc rem m.id || pkVoid e.pkt) })
  let s := mine.foldl (fun s e => if pkGranted e.pkt then s.pushVoid e.vi loc rem m.id (pkOfs e.pkt) m.hdr else s) s
  (s.updMsg loc rem m.id (fun m => { m with allSent := true })).touchIdle loc rem

/-- A granted packet: MDATA for a matched message (R288 R291 R347). -/
def State.pushGranted (s : State) (loc rem : Nat) (m : TxMsg) (ofs len : Nat) : State :=
  let hdr := match m.kind with
    | .msend => patch m.hdr 0x34 (beBytes 1 0x21 ++ zeros 11)
    | _ => m.hdr
  let last := decide (ofs + len = m.len)
  let s := s.updMsg loc rem m.id (fun m => { m with granted := max m.granted (ofs + len) })
  s.pushReq (reqOf m.vi loc rem m.id (msgPkt hdr 1 (flGranted + (if last then flLast else 0)) m.id ofs)
    (some (m.laddr + ofs, m.keys)) len [] last)

/-- A GRANT at the sender (R291 R294). The VOID packet that answers a GRANT for a message that is gone has an open
upper-layer area. -/
def State.rxGrant (s : State) (p : Bytes) : State :=
  let loc := pkLoc p
  let rem := pkRem p
  let id := pkMsg p
  let ofs := pkOfs p
  let len := pkUlp p 0x14 2
  let st := pkUlp p 0x16 1
  match (s.txOf loc rem).bind (fun h => h.msg id) with
  | none =>
    if len = 0 then s
    else
      let (f, s) := s.free
      s.pushVoid (pkVi p) loc rem id ofs (s.msgHdr loc rem (pkVi p) (pkSrcVi p) (beBytes 12 f))
  | some m =>
    if len = 0 then
      let s := s.updMsg loc rem id (fun m => { m with status := some (m.status.getD st), len := m.granted })
      if st = stOk then
        (if s.noneWaiting loc rem id then s.updMsg loc rem id (fun m => { m with allSent := true }) else s).endAnswered loc rem
      else (s.stopMsg loc rem m).endAnswered loc rem
    else if m.status.isSome ∨ !m.announced ∨ m.len ≤ ofs then s.pushVoid m.vi loc rem id ofs m.hdr
    else s.pushGranted loc rem m ofs (min len (m.len - ofs))

/-- GRANT_RECEIVE (R291 R294). -/
def execGrantReceive (unit : Nat) (s : State) : Host.Outcome State Fault Refusal :=
  if !s.works (xptPg unit 0) then .next s
  else
    match s.takePresented unit (fun p => decide (pkType p = 3)) with
    | none => .next s
    | some (p, s) => .next ((s.rxGrant p).disposePkt p)

/-- A NOTICE at the sender (R298): the status noted is the first; an announced message stops, and a read or a fetch that
it concerns has had its answer, while a get's other requests go on (R328 R329 R331). -/
def State.rxNotice (s : State) (p : Bytes) : State :=
  let loc := pkLoc p
  let rem := pkRem p
  let id := pkMsg p
  let seq := pkUlp p 0x10 3
  let st := pkUlp p 0x13 1
  match (s.txOf loc rem).bind (fun h => h.msg id) with
  | none => s
  | some m =>
    let s := s.updMsg loc rem id (fun m =>
      { m with status := some (m.status.getD st), reads := m.reads.filter (fun r => decide (r.seq ≠ seq)), fetching := false })
    if m.announced then s.stopMsg loc rem m else s

/-- NOTICE_RECEIVE (R298). -/
def execNoticeReceive (unit : Nat) (s : State) : Host.Outcome State Fault Refusal :=
  if !s.works (xptPg unit 0) then .next s
  else
    match s.takePresented unit (fun p => decide (pkType p = 6)) with
    | none => .next s
    | some (p, s) =>
      let loc := pkLoc p
      let rem := pkRem p
      .next ((((s.rxNotice p).disposePkt p).applyAcks loc rem).endAnswered loc rem)

/-! Clearance scheduling (R291-R294). -/

/-- The heads of the lists, then the heads of what is left of them, and so on. -/
def roundRobin {α : Type} : Nat → List (List α) → List α
  | 0, _ => []
  | f + 1, ls => ls.filterMap List.head? ++ roundRobin f ((ls.map List.tail).filter (fun l => !l.isEmpty))

/-- Inserts an announced message at its place by MSG_ID. -/
def insertAnn (a : Ann) : List Ann → List Ann
  | [] => [a]
  | b :: t => if serLt 32 a.msg b.msg then a :: b :: t else b :: insertAnn a t

/-- Inserts a receive half's messages at their place by remote agent. -/
def insertHalf (e : Nat × List Ann) : List (Nat × List Ann) → List (Nat × List Ann)
  | [] => [e]
  | d :: t => if e.1 < d.1 then e :: d :: t else d :: insertHalf e t

/-- The messages of host port h that may receive a GRANT in this tick, in the order of R291: round robin across receive
halves, in MSG_ID order within a half. -/
def State.clrOrder (s : State) (h : Nat) : List (Nat × Nat) :=
  let x := s.xpt (h / 2)
  let limit := s.nowTick * 2048 + 64
  let start := Tab.get (fun _ => 0) x.rr (h % 2)
  let halves := (x.ctxs.filter (fun c => decide (c.loc = s.locEp h))).filterMap (fun c =>
    c.rx.map (fun r => (c.rem, (r.anns.filter (fun a =>
      (a.accepted || a.refuse.isSome) && !a.past && decide (a.since < limit))).foldl (fun l a => insertAnn a l) [])))
  let live := (halves.filter (fun e => !e.2.isEmpty)).foldl (fun l e => insertHalf e l) []
  let turn := live.filter (fun e => decide (start < e.1)) ++ live.filter (fun e => !decide (start < e.1))
  roundRobin (live.foldl (fun n e => n + e.2.length) 0) (turn.map (fun e => e.2.map (fun a => (e.1, a.msg))))

/-- Serves one message of a clearance run (R291-R294 R361). -/
def State.serveAnn (s : State) (h : Nat) (e : Nat × Nat) : State :=
  let loc := s.locEp h
  let (rem, msg) := e
  match s.annOf loc rem msg with
  | none => s
  | some a =>
    let s' := s.updXpt (h / 2) (fun x => { x with rr := Tab.set (fun _ => 0) x.rr (h % 2) rem })
    match a.refuse with
    | some st =>
      let s := s'.sendGrant loc rem a.vi (pkSrcVi a.intent) msg a.granted 0 st
      (s.updAnn loc rem msg (fun b => { b with past := true })).updRx loc rem RxHalf.prune
    | none =>
      if s.clrFree h then
        let n := min 4096 (a.limit - a.granted)
        let s := (s'.takeClr h).sendGrant loc rem a.vi (pkSrcVi a.intent) msg a.granted n stOk
        s.updAnn loc rem msg (fun b =>
          let done := decide (b.limit ≤ b.granted + n)
          { b with granted := b.granted + n, tokens := b.tokens ++ [b.granted],
                   refuse := if done && decide (b.limit < b.len) then some stOk else none,
                   past := done && decide (b.len ≤ b.limit) })
      else s

/-! Admission (R278 R289 R295 R299 R302 R530 R535-R537). -/

def TxReq.isRead (e : TxReq) : Bool := decide (e.cls = 0 ∧ pkType e.pkt = 1 ∧ pkOpcode e.pkt = 0x11) && !pkVoid e.pkt

/-- The waiting packets that no earlier one of their VI, class and direction precedes; a read request holds back those
of its own message only. -/
def firstOf (f : TxReq → TxReq → Bool) : List TxReq → List TxReq → List TxReq
  | _, [] => []
  | seen, e :: t => if seen.any (fun d => f d e) then firstOf f (seen ++ [e]) t else e :: firstOf f (seen ++ [e]) t

def State.headReqs (s : State) (u : Nat) : List TxReq :=
  firstOf (fun d e => decide (d.vi = e.vi ∧ d.cls = e.cls ∧ d.loc = e.loc ∧ d.rem = e.rem) && (!d.isRead || decide (d.msg = e.msg)))
    [] ((s.xpt u).waiting.filter (fun e => decide (e.cls < 2)))

/-- The first request of a get-with-fence waits: an earlier operation of its VI toward the peer has packets that have not
been sent for the first time, the SIGNAL of a put-with-signal among them (R335). -/
def TxHalf.fenced (h : TxHalf) (m : TxMsg) : Bool :=
  m.fence && decide (m.ofs = 0) && h.msgs.any (fun x => decide (x.vi = m.vi ∧ x.id ≠ m.id ∧ x.adopt = []) &&
    (serLt 32 x.id m.id || decide (x.kind = .signal ∧ x.desc < m.desc)) && (!x.allSent || decide (x.kind = .putSignal)))

/-- Tests a waiting packet. -/
def State.heldReq (s : State) (u : Nat) (e : TxReq) : Held :=
  if !s.shaperAdmits e.vi e.cls then .shaper
  else
    match s.openTx e.loc e.rem with
    | none => .record
    | some s' =>
      match s'.txOf e.loc e.rem with
      | none => .record
      | some h =>
        if !s.windowOk u (pkClass e.pkt) h then .window
        else if !s.ceilOk e.loc h then .ceiling
        else if s.heldBy (pkClass e.pkt) e.rem then .other
        else if pkEager e.pkt && decide (s.unsched u ≤ (h.unacked.filter (fun p => pkEager p.pkt)).length) then .allowance
        else if e.isRead then
          let paced := match h.msg e.msg with | some m => decide (m.paced = some s.nowTick) || h.fenced m | none => false
          if paced || !s.clrFree (agPort e.loc) then .other else .free
        else .free

/-- Counts the waits that begin (R304 R308 R542 R566). -/
def State.countWaits (s : State) (u : Nat) (es : List TxReq) : State :=
  es.foldl (fun s e => s.countWait u e (s.heldReq u e)) s

/-- The admissible packet served next: RSP pairs before REQ pairs, round robin over the pairs (R537). -/
def State.nextReq (s : State) (u : Nat) : Option TxReq :=
  argMin (fun e => (if e.cls = 1 then 0 else 2 ^ 20) + wrapSub 14 (4 * e.vi + e.cls) ((s.xpt u).lastPair + 1))
    ((s.headReqs u).filter (fun e => decide (s.heldReq u e = .free)))

/-- A message whose first packet has still to be sent. -/
def State.unsent (s : State) (e : TxReq) : Option TxMsg :=
  match (s.txOf e.loc e.rem).bind (fun h => h.msg e.msg) with
  | some m => if m.seqs.isEmpty ∧ m.allSent = false ∧ m.granted = 0 ∧ m.reads.isEmpty ∧ e.cls = 0 ∧ pkVoid e.pkt = false then some m else none
  | none => none

/-- After a packet of a message has left: its sequence number, its read request, and whether it was the last
(R295 R298). -/
def State.sentOf (s : State) (e : TxReq) (seq : Nat) : State :=
  if e.cls ≠ 0 ∨ pkVoid e.pkt then s
  else
    match (s.txOf e.loc e.rem).bind (fun h => h.msg e.msg) with
    | none => s
    | some m =>
      let s := s.updMsg e.loc e.rem e.msg (fun m => { m with seqs := m.seqs ++ [seq] })
      if e.isRead then
        let n := beAt e.data 0 4
        let ofs := pkOfs e.pkt
        let s := (s.takeClr (agPort e.loc)).updMsg e.loc e.rem e.msg (fun m =>
          { m with paced := some s.nowTick, ofs := ofs + n, reads := m.reads ++ [⟨ofs, n, seq, true⟩], allSent := e.last })
        if e.last then s else s.pushReq (getReq m.vi e.loc e.rem m.id m.hdr (ofs + n) m.len m.fence)
      else if m.announced then
        let past := decide (m.len ≤ m.granted) && s.noneWaiting e.loc e.rem e.msg && decide (pkType e.pkt = 1)
        s.updMsg e.loc e.rem e.msg (fun m => { m with allSent := m.allSent || past })
      else s.updMsg e.loc e.rem e.msg (fun m => { m with allSent := m.allSent || e.last })

/-- An admitted packet is charged, built with its payload and sent (R273 R278 R528-R530). A read of local memory that
fails ends the message with its status; RSP packets take the next MSG_ID. -/
def State.buildReq (s : State) (u : Nat) (e : TxReq) (data : Bytes) : State :=
  let s := s.updXpt u (fun x => { x with waiting := delFirst (fun d => decide (d = e)) x.waiting, lastPair := 4 * e.vi + e.cls })
  let len := beAt e.pkt 2 2
  let go (s : State) (payload : Bytes) : State :=
    match s.openTx e.loc e.rem with
    | none => s
    | some s =>
      let s := (s.shaperCharge e.vi e.cls (1 + ceilDiv len 64)).bump (xptPg u 0) 13 (b2n (pkVoid e.pkt))
      match s.txOf e.loc e.rem with
      | none => s
      | some h =>
        let pkt := withPayload e.pkt payload
        let s :=
          if e.cls = 1 then
            (s.updTx e.loc e.rem (fun h => { h with nextMsg := wrapAdd 32 h.nextMsg 1 })).sendNew e.loc e.rem
              (patch pkt 0x2C (beBytes 4 h.nextMsg))
          else s.sendNew e.loc e.rem pkt
        s.sentOf e h.txNext
  match e.read with
  | none => go s (padTo e.data len)
  | some (a, k) =>
    match s.viRead e.vi a len (some k) with
    | .ok s => go (s.hostTxn (xptStop (s.unitOf e.loc e.rem)) e.vi 0 false len) (padTo data len)
    | .error st =>
      let s := if pkGranted e.pkt then s.pushVoid e.vi e.loc e.rem e.msg (pkOfs e.pkt) e.pkt else s
      match (s.txOf e.loc e.rem).bind (fun h => h.msg e.msg) with
      | none => s
      | some m => s.endMsg e.loc e.rem m st

/-- A packet waits for a record that no half of the unit is already closing for (R272 R275). -/
def State.wantsRecord (s : State) (u : Nat) : Bool :=
  s.ctxFull u && !((s.xpt u).ctxs.any (fun c => decide (c.tx.map TxHalf.state = some .closing))) &&
    (s.xpt u).waiting.any (fun e => (s.ctx e.loc e.rem).isNone && !s.reopenWait e.loc e.rem)

/-- The unit's own packets that may go now (R278 R302 R304). -/
def State.retryOwn (s : State) (u : Nat) : State :=
  let s := if s.wantsRecord u then s.closeLru u else s
  ((((s.xpt u).waiting.filter (fun e => decide (e.cls = 2))).map (fun e => (e.loc, e.rem))).eraseDups).foldl
    (fun s e => s.flush e.1 e.2) s

/-- PACKET_ADMIT (R299 R530 R535-R537): the packet that is served next; `data` is what its VI's memory holds. Toward an
unreachable peer its message is refused and the direction ends. -/
def execPacketAdmit (unit : Nat) (data : Bytes) (s : State) : Host.Outcome State Fault Refusal :=
  if !s.works (xptPg unit 0) then .next s
  else
    let s := s.retryOwn unit
    let s := s.countWaits unit (s.headReqs unit)
    match s.nextReq unit with
    | none => .next s.settle
    | some e =>
      if s.noRoute e.loc e.rem then
        .next ((s.bump (xptPg unit 0) 8 (b2n ((s.unsent e).isSome || decide (e.cls = 1)))).endDir e.loc e.rem stUnreachable).settle
      else .next (s.buildReq unit e data).settle

/-! Timers (R273 R275 R277 R282 R283). -/

/-- The unacknowledged packet of a sequence number. -/
def State.unackedOf (s : State) (loc rem seq : Nat) : Option UPkt :=
  (s.txOf loc rem).bind (fun h => h.unacked.find? (fun p => decide (p.seq = seq)))

/-- The packet's retransmission timer has expired (R282 R302). -/
def UPkt.expired (p : UPkt) (now : Nat) : Bool := decide (p.last + p.stalled + p.interval ≤ now)

/-- RETRANSMIT_TIMER_EXPIRY (R282 R284 R299). -/
def execRetransmitTimerExpiry (loc rem seq : Nat) (s : State) : Host.Outcome State Fault Refusal :=
  match s.unackedOf loc rem seq with
  | none => .next s
  | some p =>
    if s.works (xptPg (s.unitOf loc rem) 0) && p.expired s.nowTick then .next (s.resend loc rem p 1).settle else .next s

/-- GIVEUP_EXPIRY (R283 R301): the direction ends with TRANSPORT_TIMEOUT. -/
def execGiveupExpiry (loc rem seq : Nat) (s : State) : Host.Outcome State Fault Refusal :=
  match s.unackedOf loc rem seq with
  | none => .next s
  | some p =>
    let u := s.unitOf loc rem
    let old := decide (p.first + p.heldTicks + s.giveupTicks u ≤ s.nowTick)
    let spent := decide (s.retryMax u ≤ p.copies) && p.expired s.nowTick
    if s.works (xptPg u 0) && (old || spent) && !s.heldBy (pkClass p.pkt) rem then .next (s.timeoutHalf loc rem).settle
    else .next s

/-- CONTEXT_IDLE_CLOSE (R275). -/
def execContextIdleClose (loc rem : Nat) (s : State) : Host.Outcome State Fault Refusal :=
  let u := s.unitOf loc rem
  match s.txOf loc rem with
  | none => .next s
  | some h =>
    if s.works (xptPg u 0) && s.txIdle loc rem && s.mayFlush loc rem 3 && decide (h.idleSince + s.ctxIdle u ≤ s.nowTick)
    then .next (s.sendClose loc rem) else .next s

/-- TOMBSTONE_EXPIRY (R277). -/
def execTombstoneExpiry (loc rem : Nat) (s : State) : Host.Outcome State Fault Refusal :=
  match (s.ctx loc rem).bind Ctx.tomb with
  | none => .next s
  | some (_, t) =>
    if t ≤ s.nowTick then .next ((s.updCtx loc rem (fun c => { c with tomb := none })).freeCtx loc rem) else .next s

/-- REOPEN_DELAY_END (R273): packets of the unit's own that waited for it go. -/
def execReopenDelayEnd (loc rem : Nat) (s : State) : Host.Outcome State Fault Refusal :=
  let u := s.unitOf loc rem
  if (s.xpt u).closed.any (fun e => decide (e.1 = loc ∧ e.2.1 = rem ∧ e.2.2 + 256 ≤ s.nowTick)) then
    .next ((s.updXpt u (fun x => { x with closed := x.closed.filter (fun e => !decide (e.1 = loc ∧ e.2.1 = rem)) })).flush loc rem)
  else .next s

end Sys2Proof.Machine
end

