-- ==== Sys2Proof/Machine/HostLib.lean ====
section
/-! DEFINITION. The life of a VI and what resets of a host port do to it (14_host_and_vis.md R433-R435, R456-R463,
16 R508 R509). -/

namespace Sys2Proof.Machine

/-- VI.CTL.ENABLE and VI.STAT.ENABLE_PENDING. -/
def State.viEn (s : State) (v : Nat) : Bool := s.bget (viPg v) 0x40 0
def State.viPend (s : State) (v : Nat) : Bool := s.bget (viPg v) 0x44 4

/-- Contexts of a VI's host port. -/
def State.portCtxs (s : State) (h : Nat) : List Ctx := (s.xpt (h / 2)).ctxs.filter (fun c => decide (c.loc = s.locEp h))

/-- No further packet of a VI's messages is built: those not sent whole end with VI_STOPPING (R459 step 1, R294). -/
def State.stopBuild (s : State) (v : Nat) : State :=
  (s.portCtxs (viPort v)).foldl (fun s c =>
    match c.tx with
    | none => s
    | some h => (h.msgs.filter (fun m => decide (m.vi = v) && !m.allSent)).foldl (fun s m =>
        (s.updMsg c.loc c.rem m.id (fun m => { m with status := some (m.status.getD stViStopping) })).stopMsg c.loc c.rem m) s) s

/-- A stop begins with a cause, or a further cause reaches one (R456 R459 R461). -/
def State.stopVi (s : State) (v cause : Nat) : State :=
  let p := viPg v
  let before := s.get p 0x44
  let old := if s.viState v = viStopping then s.viCause v else 0
  let s' := (s.fput p 0x44 11 8 (max old cause)).fput p 0x44 2 0 viStopping
  let quiet (s : State) : State := if 1 < max old cause then s.updVi v (fun x => { x with waiting := [] }) else s
  if s.viState v = viStopping then quiet s'
  else ((quiet (s'.record3 p 0x44 before (s'.get p 0x44))).stopBuild v).cleatStopVi v

/-- VF pages 1-3 return to their reset values, and the VI's queues, trigger counters and chain slots with them
(R458 R502). -/
def State.enterEnabling (s : State) (v : Nat) : State :=
  let s := (s.bput (viPg v) 0x44 4 false).setViState v viEnabling
  let s := s.resetRegs (fun p _ => decide (p.cls = .vf ∧ p.inst = v ∧ 1 ≤ p.page))
  s.updVi v (fun x => { x with cmdq := [], cplq := [], waiting := [], wrrQueue := 0, wrrLeft := 0, ctrs := [], chains := [], firings := [] })

/-- The value of ENABLE has changed by a write (R456). -/
def State.viEnabled (s : State) (v : Nat) (b : Bool) : State :=
  let st := s.viState v
  if st = viOff ∧ b = true then s.enterEnabling v
  else if st = viOn ∧ b = false then s.stopVi v 1
  else if st = viStopping then s.bput (viPg v) 0x44 4 b
  else s

/-- A chain slot is disarmed: FREE, its entries that have not begun are not begun (R508). -/
def State.disarm (s : State) (v slot : Nat) : State :=
  s.updChain v slot freed

/-- Every slot of a stopping VI is disarmed; entries of a firing that have not begun complete as R460 says (R509). -/
def State.disarmAll (s : State) (v : Nat) : State :=
  (s.vi v).chains.foldl (fun s e =>
    let c := e.2
    let s := s.disarm v e.1
    if c.state = 2 then
      (c.entries.drop c.next).foldl (fun s b =>
        s.postCompletion v (dCplq b) (cplBytes stViStopping (dOpcode b) c.queue (dCookie b) [])) s
    else s) s

/-- Step 3 of R459: windows revoked with fences, 16 in a cycle (R317), match state cleared, memberships departed, cleats
abandoned, chains disarmed. -/
def State.stopUnits (s : State) (v : Nat) : State :=
  let mine := (s.wins.filter (fun e => s.ownsWin v e.1 && decide (e.2.state = wValid))).map Prod.fst
  let s := mine.zipIdx.foldl (fun s e => s.revokeWin e.1 v none (e.2 / 16)) s
  let s := s.updVi v (fun x => { x with fencing := true })
  ((((s.matchClear v).collLeave v 1 stViStopping).settle).cleatAbandonOrigin (0x1000 + v)).disarmAll v

/-- Step 4 of R459: every descriptor that has not completed completes with VI_STOPPING, as far as R460 lets it be
written; what then still waits for room is discarded. -/
def State.stopDescs (s : State) (v : Nat) : State :=
  let s := (s.vi v).descs.foldl (fun s d => s.complete v d.num stViStopping []) s
  let s := s.bump (hostPg (viPort v) 0) 8 (s.vi v).waiting.length
  let s := s.updVi v (fun x => { x with waiting := [], firings := [] })
  let s := { s with trig := Tab.upd (fun _ => ([] : List TrigChange)) s.trig (viPort v) (fun q => q.filter (fun t => decide (t.vi ≠ v))) }
  (s.portCtxs (viPort v)).foldl (fun s c => s.endAnswered c.loc c.rem) s

/-- The VI ceases to exist (R435 R318): its block registers are cleared, its window range is released and POISONED
indexes return to FREE. -/
def State.viGone (s : State) (v : Nat) : State :=
  let u := mwuOfVi v
  let bad := s.wins.filter (fun e => s.ownsWin v e.1 && decide (e.2.state = wPoisoned))
  let s := bad.foldl (fun s e =>
    (s.winAdvance e.1 (s.fget (mwuPg u 0) 0x4C 25 16 + 1)).updWin e.1 (fun w => { w with state := wFree })) s
  let s := s.resetRegs (fun p off => decide (p.cls = .vi ∧ p.inst = v ∧ 0x400 ≤ off ∧ off < 0x800))
  let s := s.fput (viPg v) 0x50 12 8 0
  let s := s.updVi v (fun x => { viInit with nextDesc := x.nextDesc, bme := x.bme, ats := x.ats })
  s.setViState v viNone

/-- The stop goes on to its steps 3 and 4, and ends when the fences of its windows have (R317 R456 R459): OFF, ENABLING or
NONE. -/
def State.endStop (s : State) (v : Nat) : State :=
  let s := if (s.vi v).fencing then s else s.stopUnits v
  if (s.mwu (mwuOfVi v)).accesses.any (fun a => decide (a.vi = v)) then s
  else
  let s := (s.updVi v (fun x => { x with fencing := false })).stopDescs v
  let s := (s.bump (hostPg (viPort v) 0) 14 1)
  let s := if (s.vi v).destroy then s.viGone v
    else if s.viPend v then s.enterEnabling v
    else s.setViState v viOff
  s.pfEvent (viPort v) 4

/-- VI_DESTROY in its execution cycle (R435). -/
def State.viDestroyed (s : State) (v : Nat) : State :=
  let s := (s.bput (viPg v) 0x40 0 false).bput (viPg v) 0x44 4 false
  if s.viState v = viOff then s.viGone v
  else (s.stopVi v 4).updVi v (fun x => { x with destroy := true })

/-! Resets of functions and ports (R462 R463). -/

/-- A reset of a VF, or the loss of its Bus Master Enable (R462). -/
def State.vfStop (s : State) (v : Nat) : State :=
  let s := s.updVi v (fun x => { x with bme := false })
  if s.viState v = viOn ∨ s.viState v = viStopping then (s.bput (viPg v) 0x44 4 (s.viEn v)).stopVi v 2 else s

/-- What R463's causes do to one VI of the port. -/
def State.portStopVi (s : State) (v : Nat) : State :=
  let st := s.viState v
  if st = viNone then s
  else
    let s := (s.bput (viPg v) 0x40 0 false).bput (viPg v) 0x44 4 false
    let s := s.updVi v (fun x => { x with bme := false, ats := false })
    if st = viOff then s else s.stopVi v 3

/-- R463: every VI of the port stops, the mailbox transfer ends, and the mirror is disabled. -/
def State.portReset (s : State) (h : Nat) : State :=
  let s := (List.range 256).foldl (fun s i => s.portStopVi (256 * h + i)) s
  let s := (s.bput (hostPg h 2) 0x50 31 false).bput (hostPg h 2) 0x54 31 false
  let s := { s with zyn := { s.zyn with mailbox := Tab.set (fun _ => ZBox.idle) s.zyn.mailbox h .idle } }
  let s := { s with mem := { s.mem with atc := s.mem.atc.filter (fun e => decide (e.1 ≠ h)) } }
  s.bput (hostPg h 3) 0x808 31 false

/-- The link of a port is down (R430-R432 R485). -/
def State.portDown (s : State) (h : Nat) : State :=
  if s.bget (hostPg h 0) 0x44 31 then
    let s := (s.put (hostPg h 0) 0x44 0).put (hostPg h 0) 0x48 0x40
    (((s.raise (hostPg h 0) 21).bump (hostPg h 0) 13 1).pfEvent h 5).dropHolder h
  else s

/-- HOST.CFG in force (R426). -/
def State.hostCfgOf (s : State) (h : Nat) : Nat :=
  (Tab.get (fun h => regDefault ((hostPg h 0).addr + 0x40)) s.hostCfg h).toNat

/-- A powered host port of the device. -/
def State.portWorks (s : State) (h : Nat) : Bool := decide (h < 16) && s.works (hostPg h 0)

/-- PERST (R426 R463 R485 R524). -/
def execPerst (port : Nat) (s : State) : Host.Outcome State Fault Refusal :=
  if !s.portWorks port then .next s
  else
    let s := ((s.portReset port).portDown port).dropHolder port
    let s := { s with hostCfg := Tab.set (fun h => regDefault ((hostPg h 0).addr + 0x40)) s.hostCfg port (s.reg ((hostPg port 0).addr + 0x40)),
                      mem := { s.mem with poisoned := s.mem.poisoned.filter (fun h => decide (h ≠ port)) } }
    .next ((s.bput (hostPg port 1) 0x48 31 false).cleatAbandonOrigin (0x10 + port))

/-- PF_FLR (R463 R524): the function's configuration, which FEAT reports, is reset with it. -/
def execPfFlr (port : Nat) (s : State) : Host.Outcome State Fault Refusal :=
  if !s.portWorks port then .next s
  else .next (((s.portReset port).put (hostPg port 0) 0x48 0x40).cleatAbandonOrigin (0x10 + port))

/-- VF_FLR (R462). -/
def execVfFlr (vi : Nat) (s : State) : Host.Outcome State Fault Refusal :=
  if 4096 ≤ vi ∨ !s.portWorks (viPort vi) ∨ s.viState vi = viNone then .next s
  else .next ((s.updVi vi (fun x => { x with ats := false })).vfStop vi)

/-- VF_BUS_MASTER_CLEAR (R462). -/
def execVfBusMasterClear (vi : Nat) (s : State) : Host.Outcome State Fault Refusal :=
  if 4096 ≤ vi ∨ !s.portWorks (viPort vi) ∨ s.viState vi = viNone then .next s else .next (s.vfStop vi)

/-- VF_ENABLE_CLEAR (R463). -/
def execVfEnableClear (port : Nat) (s : State) : Host.Outcome State Fault Refusal :=
  if !s.portWorks port then .next s
  else .next ((s.portReset port).bput (hostPg port 0) 0x48 15 false)

/-- HOST_LINK_DOWN (R431 R463 R485). -/
def execHostLinkDown (port : Nat) (s : State) : Host.Outcome State Fault Refusal :=
  if !s.portWorks port ∨ s.bget (hostPg port 0) 0x44 31 = false then .next s
  else .next ((s.portReset port).portDown port)

/-- HOST_LINK_UP (R425-R430 R598): an ACTIVE port's link comes up, within what HOST.CFG in force offers, and the host's
settings are taken; a later one takes new settings only. -/
def execHostLinkUp (port : Nat) (cfg : HostCfg) (s : State) : Host.Outcome State Fault Refusal :=
  if !s.portWorks port ∨ s.active (hostPg port 0) = false then .next s
  else
    let c := s.hostCfgOf port
    let cxl := cfg.cxl && bit c 19
    let width := [16, 8, 4, 16].getD (fld c 21 20) 16
    let rate := min (max 1 cfg.rate) (min (max 1 (min 7 (fld c 27 24))) (if cxl then 6 else 7))
    let was := s.bget (hostPg port 0) 0x44 31
    let stat := 2 ^ 31 + b2n cxl * 2 ^ 30 + min cfg.lanes width * 2 ^ 16 + rate * 2 ^ 8
    let feat := min cfg.numVfs (min 256 (fld c 8 0)) * 2 ^ 16 + b2n cfg.vfEnable * 2 ^ 15 + b2n cfg.ari * 2 ^ 14 + b2n cfg.tag10 * 2 ^ 13 +
      b2n cfg.atomicReq * 2 ^ 12 + b2n cfg.pfBme * 2 ^ 11 + cfg.mps % 8 * 2 ^ 8 + cfg.mrrs % 8 * 2 ^ 5
    let s := if was then s else s.put (hostPg port 0) 0x44 stat
    let s := { s.put (hostPg port 0) 0x48 feat with hostAts := Tab.set (fun _ => false) s.hostAts port cfg.ats }
    .next (if was then s else s.pfEvent port 5)

/-- ENABLING_END (R456 R458): the VF exists, its VF Enable is set and it can master. -/
def execEnablingEnd (vi : Nat) (s : State) : Host.Outcome State Fault Refusal :=
  let h := viPort vi
  let p := hostPg h 0
  if 4096 ≤ vi ∨ s.works p = false ∨ s.viState vi ≠ viEnabling ∨ s.bget p 0x44 31 = false ∨ s.bget p 0x48 15 = false ∨
      s.fget p 0x48 24 16 < viFn vi then .next s
  else
    let s := s.updVi vi (fun x => { x with bme := true, ats := Tab.get (fun _ => false) s.hostAts h })
    .next (if s.viEn vi then s.setViState vi viOn else s.stopVi vi 1)

/-- VI_STOP_END (R459). -/
def execViStopEnd (vi : Nat) (s : State) : Host.Outcome State Fault Refusal :=
  if 4096 ≤ vi ∨ s.works (hostPg (viPort vi) 0) = false ∨ s.viState vi ≠ viStopping then .next s
  else .next (s.endStop vi)

/-- COMPLETION_TIMEOUT (R425 R431 R432): logged in AER. -/
def execCompletionTimeout (port : Nat) (s : State) : Host.Outcome State Fault Refusal :=
  if !s.portWorks port then .next s
  else .next (((s.raise (hostPg port 0) 19).bump (hostPg port 0) 3 1).pfEvent port 0)

/-- ATS_INVALIDATE (R442). -/
def execAtsInvalidate (port fn base len : Nat) (s : State) : Host.Outcome State Fault Refusal :=
  if !s.portWorks port then .next s
  else
    let gone (e : Nat × Nat × Nat) : Bool :=
      decide (e.1 = port ∧ e.2.1 = fn ∧ base < (e.2.2 + 1) * 4096 ∧ e.2.2 * 4096 < base + len)
    .next (({ s with mem := { s.mem with atc := s.mem.atc.filter (fun e => !gone e) } }).bump (hostPg port 0) 11 1)

end Sys2Proof.Machine
end

