-- ==== Sys2Proof/Machine/SvcLib.lean ====
section
/-! DEFINITION. Service states: what a request needs, and what entering a state does (16_halyard_engines.md R510 R511,
19_reliability.md R551 R552, 21_bringup_service.md R601-R607). -/

namespace Sys2Proof.Machine

/-! Conditions of R602 and R606. -/

/-- Every VI of a list of ports is NONE or OFF. -/
def State.visOff (s : State) (mine : Nat → Bool) : Bool :=
  (List.range 4096).all (fun v => !mine (viPort v) || decide (s.viState v = viNone ∨ s.viState v = viOff))

/-- OUT from ACTIVE may begin (R602 R606). -/
def State.mayLeave (s : State) (p : PageRef) : Bool :=
  let i := p.inst
  let served (n : Nat) : Bool := (List.range n).all (fun k => decide (s.svcState (hostPg (n * i + k) 0) = svcOut))
  match p.cls with
  | .port => !s.admitted i || decide (s.linkState i = lkHold)
  | .opte => (List.range 32).all (fun n => s.gone (portPg (32 * i + n)))
  | .tile => (List.range 8).all (fun n => s.gone (portPg (8 * i + n)))
  | .host => s.visOff (fun h => decide (h = i))
  | .xpt => served 2
  | .mwu => served 4
  | .mtch => served 4
  | .coll => s.groups.all (fun e => decide (e.1 % 2 ≠ i ∨ (e.2.state ≠ gJoining ∧ e.2.state ≠ gLive ∧ e.2.state ≠ gRepairWait)))
  | .hbmc => !bit (s.get (hbmcPg 0 1) 0x48) i
  | .glb => s.visOff (fun _ => true) && !s.bget (lanyPg 0) 0x40 31 && !s.bget routePg 0x44 4
  | _ => true

/-- PART_STAT.VALID. -/
def State.partValid (s : State) : Bool := s.bget (hbmcPg 0 1) 0x44 0

/-- ACTIVE from DOCK may be entered (R601 R602). -/
def State.mayEnter (s : State) (p : PageRef) : Bool :=
  let ready := s.en p && Tab.get (fun _ => false) s.svc.dockPass (pageCode p)
  let glb := s.active (glbPg 0)
  match p.cls with
  | .hbmc => ready
  | .glb => ready && s.partValid
  | .port =>
    ready && glb && decide (s.linkState p.inst = lkUp) && s.bget p 0x50 31 &&
      decide (s.fget p 0x54 29 0 = s.fget p 0x50 29 0)
  | .opte => ready && glb
  | .tile => ready && glb
  | .eng => ready && glb
  | _ => ready && glb && s.partValid

/-! Effects of entering a state. -/

/-- A transition begins: SVC_BUSY, and the state it leads to (R601). -/
def State.startTransition (s : State) (p : PageRef) (st : Nat) : State :=
  { (s.bput p 0xC 8 true) with
      svc := { s.svc with target := Tab.set (fun _ => none) s.svc.target (pageCode p) (some st) } }

/-- DRAINING begins (R604). -/
def State.startDrain (s : State) (p : PageRef) : State :=
  let s := (s.startTransition p svcOut).enterSvc p svcDraining
  { s with svc := { s.svc with drainStart := Tab.set (fun _ => 0) s.svc.drainStart (pageCode p) s.nowTick,
                               drainTold := Tab.set (fun _ => false) s.svc.drainTold (pageCode p) false } }

/-- What leaving ACTIVE does beyond DRAINING (R190 R510 R524 R598 R606). -/
def State.leaveActive (s : State) (p : PageRef) : State :=
  match p.cls with
  | .port => if (s.link p.inst).session && !decide (s.linkState p.inst = lkUp) then (s.endSession p.inst).reExchange p.inst else s
  | .host => if s.bget p 0x44 31 then (s.portReset p.inst).portDown p.inst else s
  | .eng => s.cleatAbandonOrigin (0x100 + p.inst)
  | _ => s

/-- GLB leaves: every ADMIT bit clears and every host link is held in Detect (R606). -/
def State.moduleLeaves (s : State) : State :=
  let s := (List.range 16).foldl (fun s k => s.put routePg (0x100 + 4 * k) 0) s
  (List.range 16).foldl (fun s h => if s.bget (hostPg h 0) 0x44 31 then (s.portReset h).portDown h else s) s

/-- OUT: the lanes of a port go OFF, an engine's diodes go dark (R602). -/
def State.enterOut (s : State) (p : PageRef) : State :=
  let s := (s.endTransition p).enterSvc p svcOut
  match p.cls with
  | .port =>
    let s := if (s.link p.inst).session then s.endSession p.inst else s
    (s.linkDrop p.inst).lanesOff p.inst false true
  | .opte => s.darken p.inst
  | _ => s

/-- DOCK from OUT, from SELFTEST or at a test's abort; `pass` is a VERDICT of 1 (R601). From OUT the unit is powered on
again (`relight`), which lights an optical engine's diodes. -/
def State.enterDockAs (s : State) (p : PageRef) (pass relight : Bool) : State :=
  let s := (s.endTransition p).enterSvc p svcDock
  let s := { s with svc := { s.svc with dockPass := Tab.set (fun _ => false) s.svc.dockPass (pageCode p) pass } }
  match p.cls with
  | .eng => s.dockBank (p.inst / 8)
  | .opte => if relight then s.lightEngine p.inst else s
  | _ => s

/-- A request for one instance (R601 R602): the state, and the status of the reply. -/
def State.svcRequest (s : State) (p : PageRef) (st : Nat) : State × Nat :=
  let from' := s.svcState p
  let busy := s.bget p 0xC 8
  let refuse : State × Nat := (s.raise p 6, stBusy)
  if from' = svcDraining ∧ st = svcActive then
    (((s.releaseFence p).endTransition p).enterSvc p svcActive, stOk)
  else if busy then (s, stBusy)
  else if from' = svcActive ∧ st = svcOut then
    if !s.mayLeave p then refuse
    else
      let s := (s.startDrain p).leaveActive p
      (if p.cls = .glb then s.moduleLeaves else s.requestFence p, stOk)
  else if from' = svcDock ∧ st = svcOut then
    if p.cls = .glb then (if s.mayLeave p then ((s.startDrain p).moduleLeaves, stOk) else refuse)
    else ((s.startTransition p svcOut).requestFence p, stOk)
  else if from' = svcRetired ∧ st = svcOut then (s.enterOut p, stOk)
  else if from' = svcOut ∧ st = svcDock then
    if p.cls = .glb then
      ({ (s.startTransition p svcDock) with pwr := { s.pwr with closePermit := true } }, stOk)
    else
      let s := (s.releaseFence p).enterDockAs p false true
      (if p.cls = .port then s.bringUp p.inst true else s, stOk)
  else if from' = svcDock ∧ st = svcSelftest then
    let s := (s.endTransition p).enterSvc p svcSelftest
    (s.runFull p, stOk)
  else if from' = svcDock ∧ st = svcActive then
    if s.mayEnter p then ((s.endTransition p).enterSvc p svcActive, stOk) else refuse
  else (s, stBusy)

/-- The registers a request writes: SVC_REQ of page 0 (R86). -/
def State.noteSvcReq (s : State) (p : PageRef) (st : Nat) : State := s.fput p 8 7 4 st

/-- Classes that an SVC_STATE command may name (R602). -/
def svcNamed (c : Cls) : Bool :=
  decide (c ∈ [Cls.port, .opte, .tile, .host, .xpt, .mwu, .mtch, .coll, .eng, .clu, .hbmc, .glb])

/-- SVC_STATE for an instance, or for a cluster's eight engines (R602): the state, the status, RESULT and whether the
named page's SVC_REQ was written. -/
def State.svcCommand (s : State) (p : PageRef) (st : Nat) : State × Nat × Nat :=
  if p.cls = .clu then
    let r := (List.range 8).foldl (fun (r : State × Nat × Nat) n =>
      let (s, code) := r.1.svcRequest (engPg (8 * p.inst + n)) st
      let s := if code = stOk then s.noteSvcReq (engPg (8 * p.inst + n)) st else s
      (s, if r.2.1 = stOk then code else r.2.1, if code = stOk then r.2.2 + 2 ^ n else r.2.2)) (s, stOk, 0)
    (r.1, r.2.1, r.2.2)
  else
    let (s, code) := s.svcRequest p st
    (if code = stOk then s.noteSvcReq p st else s, code, 0)

/-! Ends of transitions. -/

/-- DRAINED and FENCED hold, or DOCK's fence is complete: OUT follows (R601). -/
def State.drainComplete (s : State) (p : PageRef) : State :=
  if p.cls = .glb ∨ s.bget p 0xC 8 = false ∨ Tab.get (fun _ => none) s.svc.target (pageCode p) ≠ some svcOut ∨ s.bget p 0xC 2 = false then s
  else if s.svcState p = svcDock ∨ (s.svcState p = svcDraining ∧ s.drained p = true) then s.enterOut p
  else s

/-- The drain limit in ticks (R604 R610). -/
def State.drainTicks (s : State) : Nat := 2 ^ max 10 (s.fget (glbPg 0) 0x4C 4 0)

/-- An instance has been DRAINING for the limit. -/
def State.overdue (s : State) (p : PageRef) : Bool :=
  decide (s.svcState p = svcDraining ∧ Tab.get (fun _ => 0) s.svc.drainStart (pageCode p) + s.drainTicks ≤ s.nowTick)

/-! Full self-tests (R547 R551 R601 R605). -/

/-- Lanes that a full test of a port finds FAILED already count as failures; one lane is enough with ALLOW_1LANE
(R605). -/
def State.fullVerdict (s : State) (p : PageRef) (verdict fails : Nat) : Nat × Nat :=
  if p.cls = .port ∧ verdict = 1 then
    let n := ([0, 1].filter (fun l => decide (s.laneState p.inst l = lnFailed))).length
    let n := max n fails
    (if n = 0 ∨ (n = 1 ∧ s.bget (lanePg p.inst) 0x40 2 = true) then 1 else 2, n)
  else (verdict, fails)

/-- The verdict of the full self-test of an instance in SELFTEST: DOCK, or RETIRED. -/
def State.fullEnd (s : State) (p : PageRef) (verdict fails : Nat) : State :=
  let (verdict, fails) := s.fullVerdict p verdict fails
  let s := ((s.setVerdict p 5 verdict fails).bput p 0x2C 31 false).nextTest p
  let s := if p.cls = .eng then s.fput p 0x44 11 8 0 else s
  if verdict = 1 then
    let lost := match p.cls with | .port => (s.lport p.inst).fullFails | _ => 0
    let s := s.clearRetired p
    let s := [0, 1].foldl (fun s l => if bit lost l then s.retireElement (lanePg p.inst) l 0 else s) s
    s.enterDockAs p true false
  else if verdict = 2 then s.retire p
  else s.enterDockAs p false false

/-! Sessions and the management controller's reset (R129 R524 R594 R596). -/

/-- The management-port session closes (R129): the fabric manager's cleats are abandoned (R524). -/
def State.closeSession (s : State) : State :=
  match s.zyn.session with
  | none => s
  | some (o, _) =>
    let s := { s with zyn := { s.zyn with session := none } }
    let s := ((s.bput (zynPg 0) 0x44 7 false).bput (zynPg 0) 0x44 4 false).fput (zynPg 0) 0x44 3 1 0
    if o = 1 then s.cleatAbandonOrigin 1 else s

/-- Registers that a management-controller reset returns to their reset values (R594); PWR_STAT's reset is the power-up
of the auxiliary domain (R41). -/
def mcRegs (p : PageRef) (off : Nat) : Bool :=
  decide (p.cls = .zyn ∨ p.cls = .psto ∨ (p.cls = .mgmt ∧ ¬(p.page = 3 ∧ off = 0x40)))

/-- A page of the units that are reset with the management controller. -/
def mcPage (p : PageRef) : Bool := decide (p.cls = .zyn ∨ p.cls = .psto ∨ p.cls = .mgmt)
def mcAddr (a : Nat) : Bool := match locate a with | some (p, _) => mcPage p | none => false
def mcCode (a : Nat) : Bool := match pageOfCode a with | some p => mcPage p | none => false

/-- The management controller resets (R594 R596). -/
def State.mcResetNow (s : State) : State :=
  let s := (s.closeSession).resetRegs mcRegs
  let s := { s with
    orig := s.orig.filter (fun e => !mcAddr (e.1 / 65536)),
    latches := s.latches.filter (fun e => !mcCode (e.1 / 65536)),
    heldLo := s.heldLo.filter (fun e => !mcAddr (e.1 / 65536 * 4)),
    zyn := { s.zyn with queue := [], mcReset := true, mcResetDue := false },
    fw := { s.fw with stage := [],
                      act := s.fw.act.filter (fun e => match e.2 with | some a => a.checked | none => false) } }
  (s.loadHwms.bump (pstoPg 1) 2 1).cleatAbandonOrigin 0

end Sys2Proof.Machine
end

