-- ==== Sys2Proof/Machine/ReadLib.lean ====
section
/-! DEFINITION. What a read of a register returns: the registers that report live state, the pairs and their latches,
and the copies that each origin has (04_register_model.md R83-R85 R91 R94 R107, 20_counters.md R584). -/

namespace Sys2Proof.Machine

/-! Copies per origin. -/

/-- The register of an origin's own, where the map says each origin has one. -/
def State.ownReg (s : State) (p : PageRef) (off origin : Nat) : Nat :=
  (Tab.get (fun k => regDefault (k / 65536)) s.orig (65536 * (p.addr + off) + origin)).toNat
def State.setOwn (s : State) (p : PageRef) (off origin v : Nat) : State :=
  { s with orig := Tab.set (fun k => regDefault (k / 65536)) s.orig (65536 * (p.addr + off) + origin) (BitVec.ofNat 32 v) }
def isOwn (p : PageRef) (off : Nat) : Bool := match regRow p off with | some r => r.perOrigin | none => false

/-! Live registers. -/

/-- BLK_VER (R2 R84). -/
def blkVer (p : PageRef) : Nat := if p = glbPg 0 then 0x512000B0 else 0x000100B0

/-- A live value that saturates at the greatest of a field of w bits. -/
def sat (w n : Nat) : Nat := min n (2 ^ w - 1)

/-- The record at an origin's RD, with RDSTAT (R107). -/
def State.rdStat (s : State) (origin : Nat) : Nat :=
  let rd := s.ownReg (jrnlPg 1) 0x40 origin + 2 ^ 32 * s.ownReg (jrnlPg 1) 0x44 origin
  let gone := decide (rd + s.ringSize < s.jrnl.wr ∨ rd < s.jrnl.start)
  b2n gone + 2 * b2n (decide (s.jrnl.wr ≤ rd))
def State.rdRec (s : State) (origin : Nat) : Bytes :=
  if s.rdStat origin = 0 then
    Tab.get (fun _ => ([] : Bytes)) s.jrnl.ring (s.ownReg (jrnlPg 1) 0x40 origin + 2 ^ 32 * s.ownReg (jrnlPg 1) 0x44 origin)
  else []

/-- Registers of MTCH pages (R379), as an origin sees them. -/
def State.peekMtch (s : State) (u page off origin : Nat) : Option Nat :=
  if page = 0 then
    match off with
    | 0x44 => some (s.mtchSum u (fun m => m.posted.length))
    | 0x4C => some (s.mtchSum u (fun m => m.unexp.length))
    | 0x54 => some (s.mtchSum u Match.slots)
    | 0x58 => some (s.mtchSum u (fun m => if m.stopCause = 0 then 0 else 1))
    | _ => none
  else if page = 1 ∧ 0x44 ≤ off ∧ off ≤ 0x50 then
    let v := 1024 * u + s.ownReg (mtchPg u 1) 0x40 origin % 1024
    if 0x10 ≤ origin ∧ origin < 0x20 ∧ viPort v ≠ origin - 0x10 then some 0
    else
      let m := s.mtch v
      match off with
      | 0x44 => some (b2n (decide (m.stopCause ≠ 0)) * 2 ^ 31 + m.stopCause * 2 ^ 28 + m.posted.length)
      | 0x48 => some m.unexp.length
      | 0x4C => some m.slots
      | 0x50 => some (s.vi v).postMax
      | _ => none
  else none

/-- Registers of COLL pages (R422), as an origin sees them. -/
def State.peekColl (s : State) (u page off origin : Nat) : Option Nat :=
  if page = 0 then
    match off with
    | 0x48 => some ((s.groups.filter (fun e => decide (e.1 % 2 = u ∧ e.2.state ≠ gFree))).length)
    | 0x50 => some (s.collUsed u)
    | _ => none
  else if page = 1 then
    let x := s.group (2 * (s.ownReg (collPg u 1) 0x40 origin % 2048) + u)
    match off with
    | 0x44 => some (x.state * 2 ^ 29 + b2n (decide (x.state ≠ gFree ∧ x.state ≠ gQuarantine) && x.parent.isNone) * 2 ^ 28 +
        (x.slots.filter Slot.used).length % 128 * 2 ^ 16 + x.epoch % 2 ^ 16)
    | 0x48 => some (x.doneNext % 2 ^ 16 * 2 ^ 16 + x.next % 2 ^ 16)
    | 0x4C => some (match x.parent with | some (r, l) => l % 4096 * 2 ^ 20 + r % 2 ^ 20 | none => 0xFFF00000)
    | 0x50 => some (x.members % 2 ^ 24)
    | _ => none
  else none

/-- INSPECT and INSPECT_HOLDER of a cleat (R526). -/
def State.inspect (s : State) (k : Nat) : Nat :=
  let c := s.cleat k
  let kind := match c.holder with | none => 0 | some (.origin _) => 1 | some (.remote _ _ _) => 2
  b2n c.holder.isSome * 2 ^ 31 + b2n c.abandoned * 2 ^ 30 + kind * 2 ^ 28 +
    sat 8 (s.stalls.filter (fun x => decide (x.cleat = k))).length * 2 ^ 16 + c.seq % 2 ^ 16
def State.inspectHolder (s : State) (k : Nat) : Nat :=
  match (s.cleat k).holder with | none => 0 | some (.origin o) => o | some (.remote e v _) => e % 2 ^ 24 * 256 + v % 256

/-- Registers of CLEAT page 0 (R526). -/
def State.peekCleat (s : State) (off origin : Nat) : Option Nat :=
  let k := s.ownReg (cleatPg 0) 0x140 origin % 4096
  match off with
  | 0x144 => some (s.inspect k)
  | 0x148 => some (s.inspectHolder k)
  | 0x14C => some ((s.cleat k).tag % 2 ^ 24 * 256)
  | 0x150 => some s.stalls.length
  | _ => none

/-- Registers of a port's page 0 that show the link (R193). -/
def State.peekPort (s : State) (p off : Nat) : Option Nat :=
  let l := s.link p
  match off with
  | 0x40 => some (setFld (s.get (portPg p) 0x40) 1 1 (b2n (s.isLany p)))
  | 0x60 => some ((match l.replay with | f :: _ => f.seq | [] => l.txNext) * 2 ^ 16 + l.txNext)
  | 0x64 => some (l.slots * 2 ^ 16 + l.rxNext)
  | _ =>
    if 0x80 ≤ off ∧ off < 0xC0 then
      let v := (off - 0x80) / 4
      let g (t : Tab Nat) : Nat := Tab.get (fun _ => 0) t v
      some (g l.limit * 2 ^ 16 + wrapSub 16 (g l.sent) (g l.peerFreed))
    else none

/-- Registers that show state held elsewhere. -/
def State.live (s : State) (p : PageRef) (off origin : Nat) : Option Nat :=
  let i := p.inst
  match p.cls with
  | .port => if p.page = 0 then s.peekPort i off else none
  | .tile => if 0x100 ≤ off ∧ off < 0x190 then some (s.occ i ((off - 0x100) / 16) ((off - 0x100) / 4 % 4)) else none
  | .route => if off = 0x58 then some (if s.route.commit.isSome then s.inflight else 0) else none
  | .xpt =>
    if p.page = 0 ∧ off = 0x50 then some (s.xpt i).ctxs.length
    else if p.page = 1 ∧ off = 0x44 then
      some ((s.xpt i).ctxs.foldl (fun n c => n + (match c.rx with | some h => h.held.length | none => 0)) 0)
    else if p.page = 2 ∧ (off = 0x44 ∨ off = 0x54) then
      let h := 2 * i + (off - 0x44) / 16
      let n := (s.xpt i).ctxs.foldl (fun n c => n + (match c.rx with
        | some x => if c.loc = s.locEp h then (x.anns.filter (fun a => a.accepted && !a.past && decide (a.granted < a.limit))).length else 0
        | none => 0)) 0
      some (setFld (s.get p off) 15 0 (sat 16 n))
    else if p.page = 2 ∧ (off = 0x48 ∨ off = 0x58) then some (s.clrOut (2 * i + (off - 0x48) / 16))
    else none
  | .mwu =>
    if p.page ≠ 0 then none
    else if off = 0x48 then some (s.winUsed i)
    else if 0x60 ≤ off ∧ off < 0x70 then some (s.regUsed (4 * i + (off - 0x60) / 4))
    else if off = 0x70 then
      some (sat 8 (s.mwu i).revokes.length * 2 ^ 16 + sat 16 ((s.mwu i).accesses.filter (fun a => a.deadline.isSome)).length)
    else none
  | .mtch => s.peekMtch i p.page off origin
  | .coll => s.peekColl i p.page off origin
  | .cleat => if p.page = 0 then s.peekCleat off origin else none
  | .noc => if off = 0x44 then some (sat 8 (s.recallPend i) * 2 ^ 16 + sat 16 (s.nocOut i)) else none
  | .eng =>
    if off = 0x44 ∧ s.fget p 0x44 11 8 = 0 then some (s.get p 0x44 + b2n (!(s.sharesRun i).isEmpty) * 2 ^ 8) else none
  | .clu => if off = 0x48 then some (sat 16 (s.slotsIn i 2) * 2 ^ 16 + sat 16 (s.slotsIn i 1)) else none
  | .hbmc => if p.page = 0 ∧ off = 0x44 then some (s.filterUsed i) else none
  | .host =>
    if p.page = 0 ∧ off = 0x54 then some ((List.range 256).filter (fun n => decide (s.viState (256 * i + n) = viOn))).length
    else if p.page = 1 ∧ off = 0x48 then
      some (setFld (s.get p off) 20 0 (s.mem.filter.filter (fun e => decide (i ∈ e.2.1))).length)
    else none
  | .vf =>
    if p.page ≠ 0 then none
    else
      match off with
      | 0x40 => some ((16 * s.self + viPort i) * 256 + i % 256)
      | 0x44 => some (s.get (viPg i) 0x44)
      | 0x48 => some (s.vi i).domain
      | 0x4C => some (s.vi i).winFirst
      | 0x50 => some (s.vi i).winCount
      | _ => none
  | .zyn =>
    if p.page = 0 ∧ off = 0x44 then some (setFld (s.get p off) 22 16 s.zyn.queue.length)
    else if p.page = 2 ∧ 0x100 ≤ off ∧ off < 0x100 + 8 * 147 then
      let v := Tab.get hwmD s.zyn.hwm ((off - 0x100) / 8)
      some (if (off - 0x100) % 8 = 0 then v % 2 ^ 32 else v / 2 ^ 32)
    else none
  | .jrnl =>
    if p.page = 0 then
      match off with
      | 0x48 => some (s.jrnl.wr % 2 ^ 32)
      | 0x4C => some (s.jrnl.wr / 2 ^ 32)
      | 0x50 => some (s.jrnl.start % 2 ^ 32)
      | 0x54 => some (s.jrnl.start / 2 ^ 32)
      | _ => none
    else if p.page = 1 ∧ off = 0x48 then some (s.rdStat origin)
    else if p.page = 1 ∧ 0x60 ≤ off ∧ off < 0x80 then some (leAt (s.rdRec origin) (off - 0x60) 4)
    else none
  | .mgmt => if p.page = 3 ∧ off = 0x40 then some (setFld (s.get p off) 14 14 (b2n s.faultOut)) else none
  | .tick =>
    if p.page = 0 ∧ off = 0x40 then some (s.nowTick % 2 ^ 32)
    else if p.page = 0 ∧ off = 0x44 then some (s.nowTick / 2 ^ 32)
    else none
  | .glb =>
    if p.page = 6 ∧ 0x48 ≤ off ∧ off < 0x58 then
      let e := Tab.get errD s.relia.log (s.ownReg (glbPg 6) 0x44 origin % 256)
      match off with
      | 0x48 => some e.tick
      | 0x4C => some e.page
      | 0x50 => some (e.element % 2 ^ 16 * 2 ^ 16 + e.bit % 256 * 2 ^ 8 + e.kind % 16 * 2 ^ 4 + e.verdict % 16)
      | _ => some (e.action % 256 * 2 ^ 24 + e.ext % 2 ^ 24)
    else none
  | _ => none

/-- BLK_STAT as it reads (R84 R85). -/
def State.blkStat (s : State) (p : PageRef) : Nat :=
  let inst := setFld (setFld (s.get p.zero 0xC) 2 2 0) 3 3 0
  let own := Nat.land (s.get p 0xC) 0xC
  setFld (setFld (inst + own) 1 1 (b2n (s.drained p))) 0 0 (b2n (s.active p))

/-- The value of a defined register as an origin reads it, with no effect. -/
def State.peek (s : State) (p : PageRef) (off origin : Nat) : Nat :=
  match off with
  | 0x00 => p.blkId
  | 0x04 => blkVer p
  | 0x08 => if p.page = 0 ∨ p.cls = .vf then s.get p 8 else s.get p 8 + Nat.land (s.get p.zero 8) 0xF1
  | 0x0C => s.blkStat p
  | _ =>
    match s.live p off origin with
    | some v => v
    | none =>
      match regRow p off with
      | none => 0
      | some r => if r.perOrigin then s.ownReg p off origin else s.get p off - Nat.land (s.get p off) r.wo

/-! Reads. -/

/-- The 64-bit pairs of the map (R91): class, page, first offset, how many, and their distance. -/
def pairRows : List (Cls × Nat × Nat × Nat × Nat) :=
  [(.tick, 0, 0x40, 1, 8), (.jrnl, 0, 0x48, 2, 8), (.jrnl, 1, 0x40, 1, 8), (.host, 3, 0x800, 1, 8), (.host, 3, 0x810, 2, 8),
   (.host, 2, 0x40, 2, 8), (.zyn, 2, 0x100, 147, 8), (.port, 0, 0x58, 1, 8), (.glb, 4, 0x4C, 1, 8), (.glb, 5, 0x44, 1, 8),
   (.glb, 5, 0x50, 1, 8), (.glb, 0, 0x40, 1, 8), (.lany, 0, 0x48, 1, 8), (.lany, 0, 0x58, 1, 8), (.pmon, 0, 0x48, 3, 8),
   (.vi, 0, 0x400, 32, 32), (.vi, 0, 0x408, 32, 32), (.vi, 0, 0x410, 32, 32), (.vf, 2, 0x100, 64, 16), (.vf, 3, 0x100, 64, 16),
   (.psto, 1, 0x48, 1, 8)]

/-- The offset is that of the _LO register of a pair; counters are pairs. -/
def isLo (p : PageRef) (off : Nat) : Bool :=
  pairRows.any (fun (c, g, o, n, d) => decide (c = p.cls ∧ g = p.page ∧ o ≤ off ∧ (off - o) % d = 0 ∧ (off - o) / d < n)) ||
    ((ctrMask p).isSome && decide (0xC00 ≤ off ∧ off < 0xC80 ∧ off % 8 = 0))
def isHi (p : PageRef) (off : Nat) : Bool := decide (4 ≤ off) && isLo p (off - 4)

/-- Reads that return zero and do nothing (R94). -/
def State.readBarred (_s : State) (p : PageRef) (origin : Nat) : Bool :=
  let pf := decide (0x10 ≤ origin ∧ origin < 0x20)
  match p.cls with
  | .host => pf && decide (p.inst ≠ origin - 0x10)
  | .vi => pf && decide (viPort p.inst ≠ origin - 0x10)
  | .jrnl => decide (p.page = 1 ∧ 1 < origin)
  | _ => false

def noLatch : Nat → Option Latch := fun _ => none

/-- The latch that a read of a _LO register takes: the pair, and with CHAIN the next counter too (R91 R584). -/
def State.latchOf (s : State) (p : PageRef) (off origin : Nat) : Latch :=
  let w (o : Nat) : Nat × Word := (o, BitVec.ofNat 32 (s.peek p o origin))
  let n := (off - 0xC00) / 8
  let chained := match ctrMask p with
    | some m => decide (0xC00 ≤ off ∧ off < 0xC78) && s.bget p 0xC80 n && bit m (n + 1)
    | none => false
  ⟨off, [w off, w (off + 4)] ++ (if chained then [w (off + 8), w (off + 12)] else [])⟩

/-- A read by an origin: the value, and what the read does (R5 RC, R91, R94, R107, R584). -/
def State.readReg (s : State) (origin : Nat) (p : PageRef) (off : Nat) : State × Nat :=
  if !s.powered p || s.readBarred p origin || (regRow p off).isNone then (s, 0)
  else
    let k := 65536 * pageCode p + origin
    let held := match Tab.get noLatch s.latches k with
      | some (l : Latch) =>
        if off = l.off then none
        else (l.words.find? (fun (w : Nat × Word) => decide (w.1 = off))).map (fun (w : Nat × Word) => w.2.toNat)
      | none => none
    match held with
    | some v => (s, v)
    | none =>
      let v := s.peek p off origin
      let l := if isLo p off then some (s.latchOf p off origin)
        else (Tab.get noLatch s.latches k).map (fun (l : Latch) => { l with words := l.words.take 2 })
      let s := { s with latches := Tab.set noLatch s.latches k l }
      let rc := match regRow p off with | some r => r.rc | none => 0
      let s := if rc = 0 then s else s.put p off (s.get p off - Nat.land (s.get p off) rc)
      let s := if p.cls = .port ∧ p.page = 1 ∧ (off = 0x84 ∨ off = 0xA4) then
          s.updLane p.inst (b2n (decide (off = 0xA4))) (fun x => { x with minFresh := true })
        else s
      let s := if p = jrnlPg 1 ∧ off = 0x7C ∧ s.rdStat origin = 0 then
          let rd := wrapAdd 64 (s.ownReg p 0x40 origin + 2 ^ 32 * s.ownReg p 0x44 origin) 1
          (s.setOwn p 0x40 origin (rd % 2 ^ 32)).setOwn p 0x44 origin (rd / 2 ^ 32)
        else s
      (s, v)

/-! The doorbell area of a VF BAR, as it reads (R447). -/

/-- DB_STAT and DB_HEAD of a command queue, CQ_TAIL and CQ_STAT of a completion queue. -/
def State.dbStat (s : State) (v q : Nat) : Nat :=
  let c := s.cmq v q
  b2n (decide (wrapSub 32 c.tail c.head = 2 ^ qSize (s.cmdCtl v q))) * 2 ^ 31 + b2n c.deferred * 2 ^ 30 +
    b2n (decide (c.error ≠ 0)) * 2 ^ 29 + c.error % 4
def State.cqStat (s : State) (v q : Nat) : Nat :=
  let c := s.cq v q
  b2n (s.cqFull v q) * 2 ^ 31 + b2n c.error * 2 ^ 30 + b2n c.armed * 2 ^ 29 + c.evLost % 2 ^ 16

end Sys2Proof.Machine
end

