-- ==== Sys2Proof/Machine/WriteRules.lean ====
section
/-! DEFINITION. What a register write would leave, and the state rules that refuse it (04_register_model.md R87 R97 R614
and the chapters of the blocks). -/

namespace Sys2Proof.Machine

/-- A page that can be reached: its domain is powered, and a VF page belongs to a VI that exists. -/
def State.pageOn (s : State) (p : PageRef) : Bool :=
  s.powered p && (decide (p.cls ≠ .vf) || decide (s.viState p.inst ≠ viNone))

/-- What a write of `v` leaves in a register that holds `old`: only the bits of `m` are written (R5 R6). -/
def RegRow.apply (r : RegRow) (m old v : Nat) : Nat :=
  let rw := Nat.land (Nat.lor r.rw r.wk) m
  let o := Nat.land old (Nat.xor 0xFFFFFFFF (Nat.lor rw (Nat.land (Nat.land r.w1c v) m)))
  Nat.lor (Nat.lor o (Nat.land v rw)) (Nat.land (Nat.land r.w1s v) m)

/-- Cells of a tile's shared region under its allotments (R200). -/
def State.sharedOf (s : State) (t : Nat) : Int :=
  let vc := (List.range 16).foldl (fun n v => n + s.vcAllot t v) 0
  let gw := if t ∈ gatewayTiles then (List.range 4).foldl (fun n c => n + s.gwAllot t c) 0 else 0
  (s.get (tilePg t) 0x48 : Int) - ((8 * vc + gw + 128 * s.colRes t : Nat) : Int)

/-- A dump is being copied to host memory (R561 R578). -/
def State.copying (s : State) : Bool :=
  match s.relia.dump with
  | some d => d.done
  | none => false

/-- GO of STAGE_CTL is refused (R608): the fields are those that the write carries. -/
def State.stageBusy (s : State) (new : Nat) : Bool :=
  let kind := fld new 5 4
  let bank := fld new 0 0
  let fw := s.get (pstoPg 1) 0x60
  decide (kind ≠ 1 ∧ kind ≠ 2) ||
    (decide (kind = 1) && (List.range 16).any (fun c => decide (s.fget (cluPg c) 0x40 0 0 = bank))) ||
    (decide (kind = 2) && decide (fld fw 0 0 = bank ∨ fld fw 1 1 = bank)) ||
    (Tab.get (fun _ => none) s.fw.act kind).isSome || s.bget (pstoPg 1) 0x5C 31

/-- A field that the write changes (R614). -/
def changes (old new hi lo : Nat) : Bool := decide (fld old hi lo ≠ fld new hi lo)

/-- Refusals of R87, R473 and R476 for the collar. -/
def State.refusesCollar (s : State) (p : PageRef) (off old new v : Nat) : Bool :=
  let st := s.svcState p
  match off with
  | 0x08 =>
    (decide (p.page = 0 ∧ p.cls ≠ .jrnl) && bit old 0 && !bit new 0 && decide (st = svcActive ∨ st = svcDraining)) ||
      (bit v 1 && !s.bget p 0xC 2) ||
      (decide (p.page = 0) && !bit old 3 && bit new 3 &&
        (decide (st = svcActive) || (decide (p.cls = .hbmc) && bit (s.get (hbmcPg 0 1) 0x48) p.inst)))
  | 0x2C => bit v 31 && (decide (st ≠ svcSelftest) || (s.testOf p).isSome)
  | _ => false

/-- Refusals of the blocks' own chapters: `old` and `new` are the register's values, or those of a pair. -/
def State.refusesBlock (s : State) (p : PageRef) (off old new v : Nat) : Bool :=
  let i := p.inst
  match p.cls with
  | .port => decide (p.page = 1 ∧ off = 0x44) && changes old new 15 0 && decide (fld new 15 8 ≤ fld new 7 0)
  | .tile =>
    let allot := (decide (0x80 ≤ off ∧ off < 0xD0) && changes old new 13 0) || (decide (off = 0x44) && changes old new 7 0)
    allot && (!s.bget p 8 2 || !s.drained p || decide ((s.put p off new).sharedOf i < 2048))
  | .route => decide (off = 0x40) && bit v 2 && s.bget p 0x44 4
  | .xpt => decide (p.page = 2 ∧ (off = 0x40 ∨ off = 0x50)) && changes old new 27 16 && decide (s.clrOut (2 * i + (off - 0x40) / 16) ≠ 0)
  | .hbmc =>
    decide (p.page = 1) && ((decide (off = 0x40) && bit v 0) || (decide (0x48 ≤ off ∧ off ≤ 0x54) && decide (old ≠ new))) && !s.partOpen
  | .host =>
    let range (base size : Nat) : Bool := decide (size ≠ 0 ∧ s.poolSize < (base + size) * 2 ^ 28)
    if p.page = 1 ∧ (off = 0x40 ∨ off = 0x44) then
      decide (old ≠ new) && (s.bget (hostPg i 0) 0x44 30 ||
        (if off = 0x40 then range new (s.get p 0x44) else range (s.get p 0x40) new))
    else decide (p.page = 2 ∧ off = 0x50) && bit v 31 && s.bget p 0x54 31
  | .vi =>
    decide (off = 0x40) && ((changes old new 1 1 && decide (s.viState i ≠ viOff)) ||
      (changes old new 0 0 && bit new 0 && (decide (s.viState i = viNone) || (s.vi i).destroy)))
  | .vf =>
    if 2 ≤ p.page ∧ 0x100 ≤ off ∧ off < 0x500 then
      let on := s.bget p (off - off % 16 + 8) 31
      on && ((decide (off % 16 = 0) && decide (old ≠ new)) || (decide (off % 16 = 8) && changes old new 20 16))
    else false
  | .lany =>
    decide (p.page = 0 ∧ (off = 0x40 ∨ off = 0x48)) && decide (old ≠ new) &&
      (s.bget p 0x40 31 || decide (s.lanyState ≠ laUnpaired))
  | .glb => decide (p.page = 5 ∧ (off = 0x50 ∨ off = 0x58)) && decide (old ≠ new) && s.copying
  | .jrnl => decide (p.page = 0 ∧ off = 0x40) && changes old new 4 0 && s.en p
  | .cleat =>
    let g := (off - 0x40) / 4
    decide (p.page = 0 ∧ 0x40 ≤ off ∧ off < 0x140) && changes old new 8 8 &&
      ((s.cleats.any (fun e => decide (e.1 / 64 = g) && e.2.holder.isSome)) || s.stalls.any (fun x => decide (x.cleat / 64 = g)))
  | .pmon =>
    decide (p.page = 0) && s.bget p 0x40 31 &&
      ((decide (off = 0x40) && (changes old new 12 8 || changes old new 6 0 || changes old new 27 24)) ||
        (decide (off = 0x48 ∨ (0x100 ≤ off ∧ off < 0x200)) && decide (old ≠ new)))
  | .psto => decide (p.page = 1 ∧ off = 0x40) && bit v 31 && s.stageBusy new
  | _ => false

/-- A state rule refuses the write (R97 step 4). -/
def State.refuses (s : State) (p : PageRef) (off old new v : Nat) : Bool :=
  s.refusesCollar p off old new v || s.refusesBlock p off old new v

/-- Two fields of registers that do not take every value: REFSEL 3, and FENCE 0 on an unpowered or OUT unit (R76 R474). -/
def State.adjust (s : State) (p : PageRef) (off old new : Nat) : Nat :=
  if p = tickPg 0 ∧ off = 0x48 ∧ fld new 1 0 = 3 then setFld new 1 0 (fld old 1 0)
  else if off = 8 ∧ p.page = 0 ∧ bit old 3 = true ∧ bit new 3 = false ∧ s.svcState p = svcOut then setFld new 3 3 1
  else new

end Sys2Proof.Machine
end

