-- ==== Sys2Proof/Machine/WriteEff.lean ====
section
/-! DEFINITION. What an accepted register write does beyond storing its value: the collar's controls, and the blocks'
enables, commits and triggers. -/

namespace Sys2Proof.Machine

/-! Soft reset (R88). -/

/-- Registers that a soft reset of an instance returns to their reset values. -/
def softSel (z : PageRef) (p : PageRef) (off : Nat) : Bool :=
  decide (p.zero = z ∧ off ≠ 0x08 ∧ off ≠ 0x0C ∧ off ≠ 0x14 ∧ off ≠ 0x20 ∧ off ≠ 0x24 ∧ off ≠ 0x28)

/-- Pages of an instance. -/
def pagesOf (z : PageRef) : List PageRef := (List.range (clsRow z.cls).pages).map (fun n => { z with page := n })

/-- What a block's registers show after a soft reset of its instance: capacities of the partition in force, persisted
retirements, and a port whose lanes and link start anew. -/
def State.softBlock (s : State) (z : PageRef) : State :=
  let i := z.inst
  match z.cls with
  | .xpt => (match s.mem.part with | some (q : Partition) => s.fput (xptPg i 1) 0x40 16 0 q.reseq | none => s)
  | .mtch => (match s.mem.part with | some (q : Partition) => s.fput (mtchPg i 0) 0x50 19 0 q.bounce | none => s)
  | .coll => (match s.mem.part with | some (q : Partition) => s.fput (collPg i 0) 0x4C 23 0 (q.collMib * 256) | none => s)
  | .hbmc => if i = 0 then { s with mem := { s.mem with part := none } } else s
  | .jrnl => { s with jrnl := { s.jrnl with wr := 0, start := 0, ring := [] } }
  | .tile =>
    let n := 64 * s.rowsOut i
    ((s.put z 0x48 (s.get z 0x48 - n)).put z 0x4C (s.get z 0x4C - n)).put z 0x58 (s.get z 0x58 - n)
  | .opte => s.updSpare i (fun _ => spareD i)
  | .port =>
    let s := s.lanesOff i false false
    [0, 1].foldl (fun s l =>
      if s.isRetired (lanePg i) l 0 then (s.setLaneState i l lnFailed).bput (lanePg i) (laneOff l) 11 true else s) s
  | _ => s

/-- Registers of a page as a soft reset leaves BLK_CTL and BLK_STAT: EN at its reset value; SVC_REQ, FENCE, SVC_STATE and
FENCED kept; SVC_BUSY and STEST_BUSY 0 (R88). -/
def State.softCollar (s : State) (p : PageRef) : State :=
  (s.put p 8 (Nat.land (s.get p 8) 0xF8 + (regDefault (p.addr + 8)).toNat)).put p 0xC (Nat.land (s.get p 0xC) 0xF4)

/-- The changes of EN and VERDICT that a soft reset of an instance makes, journalled page by page; `s0` is the state
before it (R102). -/
def State.softRecords (s0 s : State) (z : PageRef) : State :=
  (pagesOf z).foldl (fun s p =>
    let s := if p.page = 0 ∧ s0.bget p 8 0 ≠ s.bget p 8 0 then s.record3 p 8 (s0.get p 8) (s.get p 8) else s
    if s0.fget p 0x2C 1 0 ≠ s.fget p 0x2C 1 0 then s.record3 p 0x2C (s0.get p 0x2C) (s.get p 0x2C) else s) s

/-- SRST of an instance (R88): registers, each origin's copies among them, return to their reset values, but for those R88
keeps, the service state and the fence. The instance's tests end without a verdict. -/
def State.softReset (s0 : State) (z : PageRef) : State :=
  let ring := s0.ringOn
  let s := if z.cls = .port then
      ((if (s0.link z.inst).session then s0.endSession z.inst else s0).updLink z.inst (fun _ => linkInit))
    else s0
  let s := s.resetRegs (softSel z)
  let mine (a : Nat) : Bool := match locate a with | some (p, _) => decide (p.zero = z) | none => false
  let s := { s with orig := s.orig.filter (fun e => !mine (e.1 / 65536)),
                    relia := { s.relia with running := Tab.set noTest s.relia.running (pageCode z) none,
                                            queued := Tab.set noQueue s.relia.queued (pageCode z) [] },
                    svc := { s.svc with dockPass := Tab.set (fun _ => false) s.svc.dockPass (pageCode z) false } }
  let s := (pagesOf z).foldl State.softCollar s
  s0.softRecords ((s.softBlock z).followRing ring) z

/-! BLK_CTL (R85 R87 R88 R473 R474). -/

/-- EN of an instance has changed. `ring` is whether the journal's ring ran before. -/
def State.enChanged (s : State) (p : PageRef) (ring on : Bool) : State :=
  match p.cls with
  | .jrnl => s.followRing ring
  | .port =>
    if !on then ((s.linkDrop p.inst).lanesOff p.inst true false) else s
  | _ => s

def State.ctlWritten (s : State) (p : PageRef) (ring : Bool) (old new : Nat) : State :=
  let s := if p.page = 0 ∧ bit old 0 ≠ bit new 0 then s.enChanged p ring (bit new 0) else s
  let s := if p.page ≠ 0 ∨ bit old 3 = bit new 3 then s else if bit new 3 then s.requestFence p else s.releaseFence p
  if bit new 1 then s.softReset p.zero else s

/-! Blocks. -/

/-- RETRAIN is written (R136 R159): bring-up starts, from OFF too; a port up goes down first (R185). In OUT and RETIRED the
lanes stay OFF. -/
def State.retrain (s : State) (p : Nat) : State :=
  if s.svcState (portPg p) = svcOut ∨ s.svcState (portPg p) = svcRetired then s.bput (lanePg p) 0x40 1 false
  else if s.bget (lanePg p) 0x48 0 then s.syncLink (s.setBond p 0) p
  else s.bringUp p true

/-- A spare switch is asked for on each wavelength of a mask (R152 R154). -/
def State.forceSpares (s : State) (k mask : Nat) : State :=
  (List.range 4).foldl (fun s w =>
    if !bit mask w then s
    else if s.spareFree k w then s.askSpare k w
    else s.bput (optePg k 1) 0x40 w false) s

/-- Translation block b of the shadow set, when VALID (R437). -/
def State.shadowBlock (s : State) (v b : Nat) : Option (TBlock × Bool) :=
  let p := viPg v
  let o := 0x400 + 32 * b
  let a := s.get p (o + 0x18)
  if bit a 31 then
    some (⟨b, s.get64 p o, s.get64 p (o + 8), s.get64 p (o + 16), fld a 27 24, fld a 1 0⟩, bit a 30)
  else none

/-- The checks of R439 in their order: 0, or the first that fails. -/
def xlateCheck (bs : List (TBlock × Bool)) : Nat :=
  let ok1 (e : TBlock × Bool) : Bool :=
    decide (2 ^ 16 ≤ e.1.len ∧ e.1.len ≤ 2 ^ 52 ∧ e.1.vbase + e.1.len ≤ 2 ^ 64 ∧ e.1.pbase + e.1.len ≤ 2 ^ 64)
  let apart (x y : TBlock) : Bool :=
    decide (x.index = y.index ∨ x.vbase + x.len ≤ y.vbase ∨ y.vbase + y.len ≤ x.vbase)
  let follows (x y : TBlock) : Bool :=
    decide (y.index + 1 = x.index ∧ x.vbase = y.vbase + y.len ∧ x.pbase = y.pbase + y.len)
  if bs.any (fun e => !ok1 e) then 1
  else if bs.any (fun x => bs.any (fun y => !apart x.1 y.1)) then 2
  else if bs.any (fun x => x.2 && !bs.any (fun y => follows x.1 y.1)) then 3
  else if 16 < (bs.filter (fun e => !e.2)).length then 4
  else 0

/-- XLATE_CTL.COMMIT (R439). -/
def State.xlateCommit (s : State) (v : Nat) : State :=
  let p := viPg v
  let bs := (List.range 32).filterMap (fun b => s.shadowBlock v b)
  let c := xlateCheck bs
  let s := (s.bput p 0x4C 0 false).fput p 0x50 3 0 c
  if c = 0 then
    (s.fput p 0x50 12 8 (bs.filter (fun e => !e.2)).length).updVi v (fun x => { x with blocks := bs.map Prod.fst })
  else s.raise p 16

/-- Staging begins (R608): the bank is erased, and stays broken until it has been written. -/
def State.beginStaging (s : State) : State :=
  let p := pstoPg 1
  let i := fwIdx (s.fget p 0x40 5 4) (s.fget p 0x40 0 0)
  let s := (s.bput p 0x5C 31 true).bput p 0x5C 30 false
  { s with psto := { s.psto with fwBank := Tab.set (fun _ => ([] : Bytes)) s.psto.fwBank i [],
                                 fwBroken := Tab.set (fun _ => false) s.psto.fwBroken i true } }

/-- A word of STAGE_DATA is stored at OFS, and OFS advances (R611). -/
def State.stageWord (s : State) (v : Nat) : State :=
  let p := pstoPg 1
  let o := s.get p 0x54
  let s := s.put p 0x54 ((o + 4) % 2 ^ 20)
  { s with fw := { s.fw with stage := Tab.set (fun _ => (0 : Word)) s.fw.stage (o / 4) (BitVec.ofNat 32 v) } }

/-- Setting EN of a queue (R446). -/
def State.queueEnabled (s : State) (v page q : Nat) : State :=
  if page = 2 then s.updCmq v q (fun _ => ⟨0, 0, 0, false⟩)
  else s.updCq v q (fun c => { c with head := 0, tail := 0, error := false })

/-- Effects of a write of a block's register, already stored: `old` and `new` are the register's values (of a pair, the
whole quantity), `v` the value written. -/
def State.blockWritten (s : State) (p : PageRef) (off old new v : Nat) : State :=
  let i := p.inst
  match p.cls with
  | .mgmt =>
    if p.page = 3 ∧ off = 0x40 ∧ bit v 12 = true then { s with psto := { s.psto with surprise := false } }
    else if p.page = 3 ∧ off = 0x54 ∧ bit v 2 = true then { s with psto := { s.psto with trip := false } }
    else if p.page = 0 ∧ off = 0x40 ∧ bit new 0 = true then
      ({ s with zyn := { s.zyn with mcResetDue := true } }).bput p 0x40 0 false
    else s
  | .tick => if p.page = 0 ∧ off = 0x48 ∧ fld old 1 0 ≠ fld new 1 0 then s.pllEval else s
  | .jrnl => if p.page = 0 ∧ off = 0x40 ∧ fld old 4 0 ≠ fld new 4 0 then s.emptyRing else s
  | .psto =>
    if p.page = 1 ∧ off = 0x40 ∧ bit v 31 = true then s.beginStaging
    else if p.page = 1 ∧ off = 0x58 then s.stageWord v
    else s
  | .port => if p.page = 1 ∧ off = 0x40 ∧ bit v 1 = true then s.retrain i else s
  | .opte =>
    if p.page = 1 ∧ off = 0x40 then s.forceSpares i (fld v 3 0)
    else if p.page = 1 ∧ 0x60 ≤ off ∧ off < 0x80 then s.biasWritten i ((off - 0x60) / 4)
    else s
  | .tile =>
    if (0x80 ≤ off ∧ off < 0xD0) ∨ off = 0x44 then s.put p 0x58 (s.sharedOf i).toNat else s
  | .route => if off = 0x40 ∧ bit v 2 = true then s.bput p 0x44 7 true else s
  | .hbmc => if p.page = 1 ∧ off = 0x40 ∧ bit v 0 = true then (s.commitPartition).bput p 0x40 0 false else s
  | .host =>
    if p.page = 2 ∧ off = 0x50 ∧ bit v 31 = true then
      ({ s with zyn := { s.zyn with mailbox := Tab.set (fun _ => ZBox.idle) s.zyn.mailbox i .reading } }).bput p 0x54 31 true
    else s
  | .vi =>
    if off = 0x40 ∧ bit old 0 ≠ bit new 0 then s.viEnabled i (bit new 0)
    else if off = 0x4C ∧ bit v 0 = true then s.xlateCommit i
    else s
  | .vf =>
    if 2 ≤ p.page ∧ 0x100 ≤ off ∧ off % 16 = 8 ∧ bit old 31 = false ∧ bit new 31 = true then s.queueEnabled i p.page ((off - 0x100) / 16) else s
  | .lany => if p.page = 0 ∧ off = 0x40 ∧ bit old 31 = false ∧ bit new 31 = true then s.startSync else s
  | .pmon =>
    if off = 0x40 ∧ bit old 31 = false ∧ bit new 31 = true then (s.put64 p 0x50 0).put64 p 0x58 0 else s
  | _ => s

/-- Counters cleared by CTR_CLR, which reads 0 again (R581 R582 R585). -/
def State.clearCtrs (s : State) (p : PageRef) (mask : Nat) : State :=
  ((List.range 16).foldl (fun s n => if bit mask n then s.putCtr p n 0 else s) s).put p 0xC84 0

/-- Effects of any accepted write. `ring` is whether the journal's ring ran before the cycle. -/
def State.written (s : State) (p : PageRef) (off : Nat) (ring : Bool) (old new v : Nat) : State :=
  if off = 0x08 then s.ctlWritten p ring old new
  else if off = 0x2C then
    if bit v 31 then (s.bput p 0x2C 31 true).runFull p else s
  else if off = 0xC84 ∧ (ctrMask p).isSome = true then s.clearCtrs p v
  else s.blockWritten p off old new v

end Sys2Proof.Machine
end

