-- ==== Sys2Proof/Machine/WriteLib.lean ====
section
/-! DEFINITION. The register writes of one core cycle: checks, precedence, the effects and the journal records
(00_scope.md R5-R8, 04_register_model.md R87 R90-R104 R612 R614). -/

namespace Sys2Proof.Machine

/-- How a write fares. -/
inductive Fate where
  /-- no page, an undefined offset, an RO register, or a page that cannot be reached: ignored -/
  | skip
  /-- narrow or unaligned (R8) -/
  | access
  /-- a _LO half, held (R92) -/
  | held
  /-- rejected with a status, setting a BLK_ERR bit -/
  | deny (status err : Nat)
  /-- takes effect -/
  | ok
  /-- superseded by an origin (R99) -/
  | lost (winner : Nat)
deriving DecidableEq, Repr

/-- A judged write: its register (of a commit the _LO one), the quantity before and after, and the halves of a commit. -/
structure Judged where
  w : RegWrite
  /-- the bits a REG_WRITE_KEYED changes; none for a direct write -/
  mask : Option Nat
  p : PageRef
  off : Nat
  pair : Bool
  /-- the value written, of the bits that the write changes (R614) -/
  val : Nat
  old : Nat
  new : Nat
  fate : Fate
deriving DecidableEq, Repr

/-- The page whose ACCESS bit a narrow or unaligned access sets (R8). -/
def accessPage (a : Nat) : Option PageRef :=
  if vfBase ≤ a then
    let v := (a - vfBase) / 0x10000
    if 4096 ≤ v then none
    else match locate a with
      | some (p, _) => some p
      | none => some (vfPg v 0)
  else if 0xE00000 ≤ a ∧ a < 0xF00000 then some routePg
  else (locate a).map Prod.fst

/-- A narrow or unaligned access (R8): the ACCESS bit of the page it addresses. -/
def State.badAccess (s : State) (path : APath) (a : Nat) : State :=
  if !pathReaches path a then s
  else match accessPage a with
    | some p => if s.pageOn p then s.raise p 0 else s
    | none => s

/-- A narrow or unaligned read is completed as a read of zero (R8). -/
def State.badRead (s : State) (path : APath) (a : Nat) : State :=
  (s.badAccess path a).emit (.value path.origin a 0)

/-- A register as an origin writes it: its own copy, or the register. -/
def State.getFor (s : State) (p : PageRef) (off origin : Nat) : Nat :=
  if isOwn p off then s.ownReg p off origin else s.get p off
def State.putFor (s : State) (p : PageRef) (off origin v : Nat) : State :=
  if isOwn p off then s.setOwn p off origin v else s.put p off v

/-- Key of an origin's held _LO (R92). -/
def loKey (p : PageRef) (off origin : Nat) : Nat := 65536 * ((p.addr + off) / 4) + origin
def noHeld : Nat → Option Word := fun _ => none
def State.heldOf (s : State) (p : PageRef) (off origin : Nat) : Option Word := Tab.get noHeld s.heldLo (loKey p off origin)
def State.setHeld (s : State) (p : PageRef) (off origin : Nat) (w : Option Word) : State :=
  { s with heldLo := Tab.set noHeld s.heldLo (loKey p off origin) w }

/-- The checks of R97 on a write to a register of row `r`, after width and alignment. -/
def State.judgeRow (s : State) (w : RegWrite) (mask : Option Nat) (p : PageRef) (off : Nat) (r : RegRow) : Judged :=
  let m := mask.getD 0xFFFFFFFF
  let v := Nat.land w.value.toNat m
  let cur := s.getFor p off w.origin
  let base : Judged := ⟨w, mask, p, off, false, v, cur, cur, .skip⟩
  let lo := if isHi p off then regRow p (off - 4) else none
  if r.writable = 0 then base
  else if mask.isNone && !s.mayWrite p w.origin then { base with fate := .deny stNotOwner 1 }
  else if isLo p off then { base with new := r.apply m cur v, fate := .held }
  else if mask.isNone && decide (Nat.land (Nat.xor cur v) r.wk ≠ 0) then { base with fate := .deny stAuthFail 2 }
  else
    match lo with
    | none =>
      let new := s.adjust p off cur (r.apply m cur v)
      { base with new := new, fate := if s.refuses p off cur new v then .deny stBusy 6 else .ok }
    | some l =>
      let curLo := s.getFor p (off - 4) w.origin
      let vLo := match s.heldOf p (off - 4) w.origin with | some x => x.toNat | none => curLo
      let old := curLo + 2 ^ 32 * cur
      let new := l.apply 0xFFFFFFFF curLo vLo + 2 ^ 32 * r.apply m cur v
      let val := vLo + 2 ^ 32 * v
      ⟨w, mask, p, off - 4, true, val, old, new, if s.refuses p (off - 4) old new val then .deny stBusy 6 else .ok⟩

/-- Judges a write. -/
def State.judge (s : State) (e : RegWrite × Option Nat) : Judged :=
  let w := e.1
  let none' : Judged := ⟨w, e.2, glbPg 0, 0, false, 0, 0, 0, .skip⟩
  if !pathReaches w.path w.addr then none'
  else if w.addr % 4 ≠ 0 then { none' with fate := .access }
  else
    match locate w.addr with
    | none => none'
    | some (p, off) =>
      if !s.pageOn p then none'
      else match regRow p off with
        | none => none'
        | some r => s.judgeRow w e.2 p off r

/-- A _LO half that passes its checks is held (R92). -/
def State.holdLo (s : State) (e : RegWrite × Option Nat) : State :=
  let j := s.judge e
  if j.fate = .held then s.setHeld j.p j.off j.w.origin (some (BitVec.ofNat 32 j.new)) else s

/-- Whether writes to the register compete in one cycle: not those whose writable fields are all W1C or W1S, nor those
of which each origin has its own copy (R99 R100). -/
def Judged.competes (j : Judged) : Bool :=
  match regRow j.p j.off with
  | some r => !r.perOrigin && decide (Nat.lor (Nat.lor r.rw r.wo) r.wk ≠ 0)
  | none => false

/-- The origin that wins the register a write goes to (R98 R99). -/
def winnerOf (js : List Judged) (j : Judged) : Nat :=
  match argMin (fun k : Judged => rankKey k.w.origin) (js.filter (fun k => decide (k.fate = .ok ∧ k.p = j.p ∧ k.off = j.off))) with
  | some k => k.w.origin
  | none => j.w.origin

/-- The registers that the Zynken command executing in this cycle writes, and its origin (R120). -/
structure Rival where
  origin : Nat
  regs : List (PageRef × Nat)
deriving DecidableEq, Repr

/-- Precedence (R99 R612), among direct writes and against the command of the cycle: what another origin outranks is
superseded. -/
def settle1 (rival : Option Rival) (js : List Judged) (j : Judged) : Judged :=
  if j.fate = .ok && j.competes then
    let o := winnerOf js j
    let o := match rival with
      | some r => if (j.p, j.off) ∈ r.regs ∧ rankKey r.origin < rankKey o then r.origin else o
      | none => o
    if o = j.w.origin then j else { j with fate := .lost o }
  else j

/-- Puts a write in its place by rank, behind those of its own rank (R104 R612). -/
def insRank (j : Judged) : List Judged → List Judged
  | [] => [j]
  | k :: t => if rankKey j.w.origin < rankKey k.w.origin then j :: k :: t else k :: insRank j t

/-- Stores an accepted write, on what the register now holds. -/
def State.storeOne (s : State) (j : Judged) : State × Judged :=
  if j.fate ≠ .ok then (s, j)
  else if j.pair then
    let s := (s.putFor j.p j.off j.w.origin (j.new % 2 ^ 32)).putFor j.p (j.off + 4) j.w.origin (j.new / 2 ^ 32)
    ((s.setHeld j.p j.off j.w.origin none).chg j.p, j)
  else
    match regRow j.p j.off with
    | none => (s, j)
    | some r =>
      let cur := s.getFor j.p j.off j.w.origin
      let new := s.adjust j.p j.off cur (r.apply (j.mask.getD 0xFFFFFFFF) cur j.val)
      let kept := Nat.land new (Nat.xor 0xFFFFFFFF r.wo)
      (((s.putFor j.p j.off j.w.origin kept).chg j.p), { j with old := cur, new := new })

/-- The BLK_ERR bit of a write that did not take effect. -/
def State.blame (s : State) (j : Judged) : State :=
  match j.fate with
  | .access => s.badAccess j.w.path j.w.addr
  | .deny _ b => s.raise j.p b
  | .lost _ => s.raise j.p 3
  | _ => s

/-- Status and WINNER of a record (R103). -/
def Judged.status (j : Judged) : Nat :=
  match j.fate with
  | .deny st _ => st
  | .lost _ => stSuperseded
  | _ => stOk
def Judged.winner (j : Judged) : Nat := match j.fate with | .lost o => o | _ => 0xFFFF

/-- The record of a direct write (R102 R103); `s0` is the state before the cycle. -/
def State.recordOne (s0 s : State) (j : Judged) : State :=
  match j.fate with
  | .skip => s
  | .access => s
  | .held => s
  | _ =>
    if j.pair then s.record (s.jrec j.w.origin j.p j.off j.status 1 j.winner (j.val % 2 ^ 32) (j.val / 2 ^ 32))
    else s.record (s.jrec j.w.origin j.p j.off j.status 0 j.winner (s0.peek j.p j.off j.w.origin) j.w.value.toNat)

/-- The writes of one cycle as they are judged: those that pass their checks, before precedence. -/
def State.judgeAll (s : State) (ws : List (RegWrite × Option Nat)) : List Judged :=
  let s := ws.foldl State.holdLo s
  ws.map s.judge

/-- The writes of one cycle, judged and carried out, without their records. -/
def State.runWrites (s : State) (rival : Option Rival) (ws : List (RegWrite × Option Nat)) : State × List Judged :=
  let ring := s.ringOn
  let s := ws.foldl State.holdLo s
  let js := ws.map s.judge
  let js := (js.map (settle1 rival js)).foldl (fun l j => insRank j l) []
  let (s, js) := js.foldl (fun (a : State × List Judged) j => let (s, j) := a.1.storeOne j; (s, a.2 ++ [j])) (s, [])
  let s := js.foldl State.blame s
  (js.foldl (fun s j => if j.fate = .ok then s.written j.p j.off ring j.old j.new j.val else s) s, js)

/-- The direct writes of one core cycle, against the command that executes in it. -/
def State.directWrites (s : State) (rival : Option Rival) (ws : List RegWrite) : State × List Judged :=
  s.runWrites rival (ws.map (fun w => (w, none)))

/-- Their records (R102). -/
def State.records (s0 s : State) (js : List Judged) : State := js.foldl (State.recordOne s0) s

/-- The status that the first of the writes meets. -/
def statusOf (js : List Judged) : Nat := match js with | j :: _ => j.status | [] => stOk

/-- The write of an executing command, and the status it meets (R116 R120); the command's record stands for it. -/
def State.writeKeyed (s : State) (w : RegWrite) (mask : Nat) : State × Nat :=
  let (s', js) := s.runWrites none [(w, some mask)]
  (s', statusOf js)

/-! Reads. -/

/-- A read of an address by a path: a register, the doorbell area of a VF BAR (R447), or the route table window (R229);
elsewhere 0 (R7). -/
def State.readAt (s : State) (path : APath) (a : Nat) : State × Nat :=
  let origin := path.origin
  if !pathReaches path a then (s, 0)
  else match locate a with
  | some (p, off) => if s.pageOn p then s.readReg origin p off else (s, 0)
  | none =>
    if vfBase ≤ a then
      let v := (a - vfBase) / 0x10000
      let o := a % 0x10000
      let q := o / 64 % 64
      if 4096 ≤ v ∨ s.pageOn (vfPg v 0) = false then (s, 0)
      else if 0x4000 ≤ o ∧ o < 0x5000 then
        (s, match o % 64 with | 4 => s.dbStat v q | 8 => (s.cmq v q).head | _ => 0)
      else if 0x5000 ≤ o ∧ o < 0x6000 then
        (s, match o % 64 with | 8 => (s.cq v q).tail | 12 => s.cqStat v q | _ => 0)
      else (s, 0)
    else if 0xE00000 ≤ a ∧ a < 0xF00000 ∧ s.powered routePg = true then
      (s, s.bankWord (s.bget routePg 0x40 1) (a - 0xE00000))
    else (s, 0)

/-- A read, and the value returned to its origin; an unaligned one returns 0 (R8). -/
def State.readOut (s : State) (path : APath) (a : Nat) : State :=
  if a % 4 ≠ 0 then s.badRead path a
  else
    let (s, v) := s.readAt path a
    s.emit (.value path.origin a (BitVec.ofNat 32 v))

end Sys2Proof.Machine
end

