-- ==== Sys2Proof/Machine/Cleats.lean ====
section
/-! DEFINITION. The commands of the cleat array (17_cleats.md R516-R522). -/

namespace Sys2Proof.Machine

/-- What an access to the cleat words meets (R517 R518). -/
inductive CleatWord where
  /-- no cleat word of this origin's -/
  | none
  /-- a VF word at or beyond CLEAT_COUNT: an undefined offset -/
  | undefined
  /-- a word of a VI that is STOPPING -/
  | stopping
  | cleat (k : Nat)
deriving DecidableEq, Repr

/-- The cleat word that an origin's access reaches (R517 R518). -/
def State.cleatWord (s : State) (origin addr : Nat) : CleatWord :=
  if !s.pwr.main || addr % 4 ≠ 0 then .none
  else if vfBase ≤ addr then
    let v := (addr - vfBase) / 0x10000
    let j := (addr % 0x10000 - 0x8000) / 4
    if 4096 ≤ v ∨ origin ≠ 0x1000 + v ∨ addr % 0x10000 < 0x8000 ∨ s.viState v = viNone then .none
    else if s.viState v = viStopping then .stopping
    else if (s.vi v).cleatCount ≤ j then .undefined
    else .cleat ((s.vi v).cleatFirst + j)
  else
    let a := addr - 0xC00000
    if addr < 0xC00000 ∨ 0xC08000 ≤ addr ∨ a % 0x1000 < 0x400 ∨ 0xC00 ≤ a % 0x1000 ∨ 0x1000 ≤ origin then .none
    else .cleat (512 * (a / 0x1000) + (a % 0x1000 - 0x400) / 4)

/-- The ring stop that a path's accesses leave: a host port's, an engine's cluster's, or the management controller's. -/
def pathStop : APath → Nat
  | .bar0 h => hostStop h
  | .vfBar v => hostStop (viPort v)
  | .engine e => cluStop (e / 8)
  | .lanyard | .session | .firmware | .command _ => mcStop

/-- CLEAT_READ (R517-R522): the value returns at once, or when the stall ends; an unaligned read is one of R8. -/
def execCleatRead (path : APath) (addr : Nat) (s : State) : Host.Outcome State Fault Refusal :=
  let origin := path.origin
  if addr % 4 ≠ 0 then .next (s.badRead path addr)
  else match (if pathReaches path addr then s.cleatWord origin addr else .none) with
  | .none => .next s
  | .undefined => .next (s.emit (.value origin addr 0))
  | .stopping => .next (s.emit (.value origin addr (BitVec.ofNat 32 cvStopping)))
  | .cleat k =>
    match s.cleatReadFrom (pathStop path) 0 k (.origin origin) addr none with
    | (s, some v) => .next (s.emit (.value origin addr (BitVec.ofNat 32 v)))
    | (s, none) => .next s

/-- CLEAT_WRITE (R517-R520); an unaligned write is one of R8. -/
def execCleatWrite (path : APath) (addr : Nat) (value : Word) (s : State) : Host.Outcome State Fault Refusal :=
  if addr % 4 ≠ 0 then .next (s.badAccess path addr)
  else match (if pathReaches path addr then s.cleatWord path.origin addr else .none) with
  | .cleat k => .next (s.cleatWriteFrom (pathStop path) 0 k (.origin path.origin) value.toNat)
  | .none => .next s
  | .undefined => .next s
  | .stopping => .next s

/-- CLEAT_STALL_END (R521): a stalled read that has waited its time returns CLEAT_TIMEOUT. -/
def execCleatStallEnd (stall : Nat) (s : State) : Host.Outcome State Fault Refusal :=
  match s.stalls.find? (fun x => decide (x.id = stall)) with
  | some x => if x.start + x.limit ≤ s.nowAbs ∨ s.tick.running = false then .next (s.endStall x cvTimeout) else .next s
  | none => .next s

end Sys2Proof.Machine
end

