-- ==== Sys2Proof/Machine/ZynCheck.lean ====
section
/-! DEFINITION. The Zynken unit's handling of an arriving frame: its form, the checks, replies and records of refusals
(05_zynken_commands.md R111-R118, R124-R130). -/

namespace Sys2Proof.Machine

/-! Objects and payloads (R115). -/

/-- The page that an OBJECT in the page or instance layout names; with `all`, PAGE 0xFFF stands for page 0. -/
def objPage (all : Bool) (o : Nat) : Option PageRef :=
  match classTable.find? (fun r => decide (r.code = oClass o)) with
  | none => none
  | some r =>
    if r.count ≤ oInst o then none
    else if oPage o < r.pages then some ⟨r.cls, oInst o, oPage o⟩
    else if all ∧ oPage o = 0xFFF then some ⟨r.cls, oInst o, 0⟩
    else none

/-- The object is a block instance, named by its page 0. -/
def objInst (o : Nat) : Option PageRef := if oPage o = 0 then objPage false o else none

/-- Payload length by opcode; none for an undefined opcode. -/
def zLen (op : Nat) : Option Nat :=
  match op with
  | 0x0001 => some 12
  | 0x0002 => some 4
  | 0x0003 => some 40
  | 0x0004 => some 0
  | 0x0005 => some 48
  | 0x0006 => some 32
  | 0x0007 => some 16
  | 0x0008 => some 0
  | 0x0009 => some 4
  | 0x000A => some 8
  | 0x000B => some 4
  | 0x000C => some 4
  | 0x000D => some 12
  | 0x0F00 => some 0
  | 0x0F01 => some 0
  | 0x0F02 => some 4
  | 0x0F03 => some 8
  | _ => none

/-- Session frames (R115); the other opcodes are critical commands. -/
def zSession (op : Nat) : Bool := decide (0x0F00 ≤ op)

/-- Payload fields. -/
def zp (f : Bytes) (o n : Nat) : Nat := beAt (zPayload f) o n

/-- The reserved bits of a VI_CREATE payload are zero (R433). -/
def viPayloadOk (f : Bytes) : Bool :=
  decide (zp f 0 4 < 2 ^ 22 ∧ zp f 4 4 ≤ 2 ^ 16 ∧ zp f 10 1 < 2 ∧ zp f 11 1 = 0 ∧ zp f 12 4 < 2 ^ 20 ∧ zp f 16 4 < 2 ^ 20 ∧
    zp f 20 4 < 2 ^ 20 ∧ zp f 24 2 < 2 ^ 12 ∧ zp f 26 2 < 2 ^ 13 ∧ zp f 28 4 < 2 ^ 18 ∧ zp f 32 4 < 2 ^ 18)

def isVi (o : Nat) : Bool := decide ((objInst o).map PageRef.cls = some .vi)

/-- Check 4 of R117: the payload's length, OBJECT's class and form, and the zero bits of the payload. -/
def zForm (f : Bytes) : Bool :=
  let o := zObj f
  some (zPlen f) == zLen (zOp f) &&
    match zOp f with
    | 0x0001 => decide (o = 0x13000000 ∧ zp f 6 1 % 64 = 0 ∧ zp f 7 1 = 0 ∧ zp f 8 1 = 0)
    | 0x0002 => (objInst o).isSome && decide (zp f 0 4 < 16)
    | 0x0003 => isVi o && viPayloadOk f
    | 0x0004 => isVi o
    | 0x0005 => decide (oClass o = 2 ∧ oInst o < 8 ∧ oPage o = 0 ∧ zp f 7 1 < 2 ∧ zp f 8 8 = 0)
    | 0x0006 => decide (o = 0x02000000)
    | 0x0007 =>
      decide (((oClass o = 1 ∧ oInst o = 0) ∨ (oClass o = 0x31 ∧ oInst o < 16)) ∧ oPage o = 0 ∧ zp f 2 1 < 2 ∧ zp f 3 1 = 0 ∧
        zp f 6 2 = 0)
    | 0x0008 => decide (oClass o = 0x60 ∧ oInst o = 0)
    | 0x0009 => decide (o = 0x03000000 ∧ fld (zp f 0 4) 30 21 = 0 ∧ bit (zp f 0 4) 31 = true)
    | 0x000A => decide (o = 0x71000000)
    | 0x000B => decide (o = 0x01000000 ∧ zp f 0 4 < 2)
    | 0x000C => (objPage true o).isSome
    | 0x000D => (objPage false o).isSome && decide (zp f 0 4 < 4096)
    | 0x0F00 => decide (o = 0x02000000)
    | 0x0F01 => decide (o = 0x02000000)
    | 0x0F02 => (objPage false o).isSome && decide (zp f 0 4 < 4096 ∧ zp f 0 4 % 4 = 0)
    | 0x0F03 => (objPage false o).isSome && decide (zp f 0 4 < 4096 ∧ zp f 0 4 % 4 = 0)
    | _ => false

/-- The register that a command writes or targets (R103); none for a command that targets no register, or whose frame is
not well formed. -/
def zTarget (f : Bytes) : Option (PageRef × Nat) :=
  if !zForm f then none
  else
    match zOp f with
    | 0x0002 => (objInst (zObj f)).map (fun p => (p, 0x08))
    | 0x0005 => some (zynPg 1, 0x40 + 8 * oInst (zObj f))
    | 0x0006 => some (zynPg 1, 0x40)
    | 0x0003 => (objInst (zObj f)).map (fun p => (p, 0x40))
    | 0x0004 => (objInst (zObj f)).map (fun p => (p, 0x40))
    | 0x0007 => if zp f 0 1 = 2 then some (pstoPg 1, 0x60) else none
    | 0x0009 => some (tickPg 0, 0x50)
    | 0x000C => (objPage true (zObj f)).map (fun p => (p, 0x20))
    | 0x000D => (objPage false (zObj f)).map (fun p => (p, zp f 0 4))
    | 0x0F02 => (objPage false (zObj f)).map (fun p => (p, zp f 0 4))
    | 0x0F03 => (objPage false (zObj f)).map (fun p => (p, zp f 0 4))
    | _ => none

/-! Origins, replies and records. -/

/-- The origin of a frame's path (R103 R111). -/
def State.pathOrigin (s : State) (path : ZPath) (f : Bytes) : Nat :=
  match path with
  | .mgmt =>
    if zOp f = 6 then zOrigin f
    else match s.zyn.session with
      | some (o, _) => o
      | none => zOrigin f
  | .host h => 0x10 + h
  | .engine e => 0x100 + e
  | .lanyard => 0x200

/-- A reply `b` to frame `f` leaves on the path the frame came by (R130); into a mailbox only while its transfer is still
owed the reply to that frame (R112). -/
def State.zReply (s : State) (path : ZPath) (f b : Bytes) : State :=
  match path with
  | .lanyard => s.sendLany 2 0 b
  | .host h =>
    if Tab.get (fun _ => ZBox.idle) s.zyn.mailbox h = .owed f then
      let p := hostPg h 2
      let s := s.hostWrite h (s.get64 p 0x48) b
      let s := (s.bput p 0x50 31 false).put p 0x54 (beAt b 1 1)
      ({ s with zyn := { s.zyn with mailbox := Tab.set (fun _ => ZBox.idle) s.zyn.mailbox h .idle } }).pfEvent h 1
    else s
  | _ => s.emit (.reply path b)

/-- The KIND 2 record of a command at a register (R103). -/
def State.zRecordAt (s : State) (o : Nat) (f : Bytes) (status winner : Nat) (t : PageRef × Nat) : State :=
  s.record (s.jrec o t.1 t.2 status 2 winner (zCtr f % 2 ^ 32) (zOp f * 2 ^ 16))

/-- The KIND 2 record of a command. -/
def State.zRecord (s : State) (path : ZPath) (f : Bytes) (status winner : Nat) : State :=
  s.zRecordAt (s.pathOrigin path f) f status winner ((zTarget f).getD (glbPg 0, 0))

/-- The counter of ZYN page 0 that counts a status (R132). -/
def State.zCount (s : State) (status : Nat) : State :=
  if status = stOk then s.bump (zynPg 0) 0 1
  else if status = stAuthFail then s.bump (zynPg 0) 1 1
  else if status = stStaleCounter then s.bump (zynPg 0) 2 1
  else if status = stSuperseded then s.bump (zynPg 0) 3 1
  else if status = stBusy then s.bump (zynPg 0) 4 1
  else s

/-- A critical command is answered, its record apart: it is counted, and the reply goes out with EXEC_TICK `tick`. -/
def State.zAnswerAt (s : State) (tick : Nat) (path : ZPath) (f : Bytes) (status winner result : Nat) : State :=
  let s := s.zCount status
  s.zReply path f (s.replyAt tick f status winner result (s.replyKey f))
def State.zAnswer (s : State) (path : ZPath) (f : Bytes) (status winner result : Nat) : State :=
  s.zAnswerAt s.nowTick path f status winner result

/-- A command is answered and recorded, executed without writing a register or refused. -/
def State.zFinish (s : State) (path : ZPath) (f : Bytes) (status winner result : Nat) : State :=
  (s.zRecord path f status winner).zAnswer path f status winner result

/-- A frame that failed check 1 or 2: its reply has a zero MAC (R117 R130). -/
def State.zReject (s : State) (path : ZPath) (f : Bytes) : State :=
  let s := (s.zRecord path f stAuthFail 0xFFFF).zCount stAuthFail
  s.zReply path f (s.replyBytes f stAuthFail 0xFFFF 0 none)

/-! Checks (R117). -/

/-- Check 1. -/
def State.zCheck1 (s : State) (f : Bytes) : Bool :=
  decide (f.length = 80 + zPlen f ∧ zVersion f = 1 ∧ beAt f 1 1 = 0 ∧ beAt f 7 1 = 0 ∧
    slice f 0x28 24 = zeros 24 ∧ (zLen (zOp f)).isSome = true ∧ zSerial f = s.serial)

/-- ORIGIN is that of the path; session frames come by the management port, from the session's origin and slot, and
SESSION_OPEN opens one (R111 R128 R129). -/
def State.zPathOk (s : State) (path : ZPath) (f : Bytes) : Bool :=
  match path with
  | .mgmt =>
    if zOp f = 0x0F00 then decide (zOrigin f ≤ 1)
    else match s.zyn.session with
      | some (o, k) => decide (zOrigin f = o) && (!zSession (zOp f) || decide (zSlot f = k))
      | none => false
  | _ => !zSession (zOp f) && decide (zOrigin f = s.pathOrigin path f)

/-- Check 2: path, slot, binding and MAC; no critical command while slot 0 is EMPTY (R4). -/
def State.zCheck2 (s : State) (path : ZPath) (f : Bytes) : Bool :=
  let k := zSlot f
  s.zPathOk path f && decide (k < 8) && s.slotChecks k && s.slotCovers k (zOrigin f) &&
    (zSession (zOp f) || decide (s.slotState 0 ≠ 0)) && macOk (s.slotKey k) f

/-- The checks of KEY_LOAD_INITIAL in place of check 2 (R125). -/
def State.zCheckLoad (s : State) (path : ZPath) (f : Bytes) : Bool :=
  decide (path = .mgmt ∧ s.slotState 0 = 0 ∧ zOrigin f ≤ 1 ∧ zSlot f = 0 ∧ zPlen f = 32) && macOk (zPayload f) f

/-- First tick of a command's window (R75 R119). -/
def State.zDue (s : State) (f : Bytes) : Nat :=
  if zOp f = 6 then 0 else max (zAct f) (s.nowTick + (if s.nowCc ≤ 1000 then 1 else 2))

/-- Check 5 (R117); ACT_TICK of a KEY_LOAD_INITIAL is ignored (R125). -/
def State.zCheck5 (s : State) (f : Bytes) : Bool :=
  decide (s.zyn.queue.length < 64 ∧ (zOp f = 6 ∨ zAct f ≤ s.nowTick + 2 ^ 24))

/-- An accepted critical command is queued (R119). -/
def State.zQueue (s : State) (path : ZPath) (f : Bytes) : State :=
  { s with zyn := { s.zyn with queue := s.zyn.queue ++ [⟨path, f, s.zDue f, false, none, [], none⟩] } }

end Sys2Proof.Machine
end

