-- ==== Sys2Proof/Machine/ZynExec.lean ====
section
/-! DEFINITION. Execution of critical commands: permission, conflicts, the tick window, and what each command does
(05_zynken_commands.md R115 R116 R119-R127 R613, and the chapters the opcodes name). -/

namespace Sys2Proof.Machine

/-! Step 1 of R119: permission. -/

/-- The pages that a command's object names. -/
def zPages (f : Bytes) : List PageRef :=
  match objPage true (zObj f) with
  | none => []
  | some p => if oPage (zObj f) = 0xFFF then pagesOf p else [p]

/-- REG_WRITE_KEYED's mask covers a field that it never writes (R116). -/
def zBarred (p : PageRef) (off mask : Nat) : Bool :=
  let m (x : Nat) : Bool := decide (Nat.land mask x ≠ 0)
  (decide (off = 0x08) && m 0xF0) || (decide (off = 0x20) && m 0xFFFFFFFF) ||
    (decide (p = tickPg 0 ∧ off = 0x50) && m 0x801FFFFF) ||
    (decide (p = zynPg 1 ∧ 0x40 ≤ off ∧ off < 0x80) && (if off % 8 = 0 then m 0xC00FFFFF else m 0xFFFFFFFF))

/-- Holder and SEQ of the cleat that a CLEAT_RELEASE names, captured at cc 0; none while it is FREE (R523). -/
def State.zCapture (s : State) (f : Bytes) : Option (CleatHolder × Nat) :=
  if zOp f = 8 then
    let c := s.cleat (oPage (zObj f))
    c.holder.map (fun (h : CleatHolder) => (h, c.seq))
  else none

/-- The captured holder is physical function h or a VI of its port (R523). -/
def holderOfPf (o : Nat) (cap : Option (CleatHolder × Nat)) : Bool :=
  match cap with
  | none => true
  | some (.origin x, _) => decide (x = o ∨ (0x1000 ≤ x ∧ x < 0x2000 ∧ 0x10 + (x - 0x1000) / 256 = o))
  | some (.remote _ _ _, _) => false

/-- Permitted origins (R115 R116 R523). -/
def State.zPermit (s : State) (f : Bytes) (cap : Option (CleatHolder × Nat)) : Bool :=
  let o := zOrigin f
  let high := decide (o ≤ 1)
  let pf := decide (0x10 ≤ o ∧ o < 0x20)
  match zOp f with
  | 0x0001 => high
  | 0x0002 => high
  | 0x0003 => high || decide (o = 0x10 + oInst (zObj f) / 256)
  | 0x0004 => high || decide (o = 0x10 + oInst (zObj f) / 256)
  | 0x0005 => high && decide (zSlot f = 0)
  | 0x0007 => high
  | 0x0008 => decide (o = 0) || (pf && holderOfPf o cap)
  | 0x0009 => high
  | 0x000A => high || decide (o = 0x200)
  | 0x000B => high || pf || decide (0x100 ≤ o ∧ o < 0x180)
  | 0x000C =>
    (zPages f).all (fun p =>
      let w := s.fget p 0x20 15 0
      decide (o = 0 ∨ (o = 1 ∧ w ≠ 0) ∨ o = w))
  | 0x000D => (zPages f).all (fun p => s.mayWrite p o && !zBarred p (zp f 0 4) (zp f 8 4))
  | _ => false

/-! Step 2: conflicts. -/

/-- Two OBJECT words name the same object (R119); CLEAT_RELEASE's holds a cleat index. -/
def zSame (f g : Bytes) : Bool :=
  let a := zObj f
  let b := zObj g
  decide (a = b) ||
    (decide (zOp f ≠ 8 ∧ zOp g ≠ 8) && decide (a / 2 ^ 12 = b / 2 ^ 12 ∧ (oPage a = 0xFFF ∨ oPage b = 0xFFF)))

/-- Takes the next command by rank: it goes on unless one that goes on conflicts with it, to which it is then attached. A
command that conflicts only with one already superseded goes on (log 141). -/
def zTake (won : List ZCmd) (c : ZCmd) : List ZCmd :=
  let beats (w : ZCmd) : Bool := decide (zOrigin w.frame ≠ zOrigin c.frame) && zSame w.frame c.frame
  if won.any beats then
    updFirst beats (fun w => { w with losers := w.losers ++ [(c.path, c.frame)] }) won
  else won ++ [c]

/-- Puts a command in its place by rank, behind those of its own (R98). -/
def zRank (c : ZCmd) : List ZCmd → List ZCmd
  | [] => [c]
  | k :: t => if rankKey (zOrigin c.frame) < rankKey (zOrigin k.frame) then c :: k :: t else k :: zRank c t

/-- The commands that go on, in the order given. -/
def zResolve (cs : List ZCmd) : List ZCmd :=
  let won := (cs.foldl (fun l c => zRank c l) []).foldl zTake []
  cs.filterMap (fun c => won.find? (fun w => decide (w.path = c.path ∧ w.frame = c.frame)))

/-! Step 3: what each command does. -/

/-- A command's outcome: status and RESULT, the pages it wrote beyond the one its record names, and whether its reply is
owed later. -/
structure ZDone where
  status : Nat
  result : Nat
  also : List (PageRef × Nat)
  later : Bool
deriving DecidableEq, Repr

def zOk (result : Nat) : ZDone := ⟨stOk, result, [], false⟩
def zNo (status : Nat) : ZDone := ⟨status, 0, [], false⟩

/-- ROUTE_COMMIT (R235 R251 R252 R258). -/
def State.doRouteCommit (s : State) (f : Bytes) : State × ZDone :=
  let cid := zp f 4 2
  let imm := bit (zp f 6 1) 6
  let fail (c : Nat) : State × ZDone := ((s.fput routePg 0x44 19 16 4).fput routePg 0x44 23 20 c, zNo stBusy)
  if s.bget routePg 0x44 4 ∨ s.bget routePg 0x44 7 then (s, zNo stBusy)
  else if cid = 0 then (s, zNo stBounds)
  else
    let c := s.checkShadow (zp f 0 4) imm
    if c ≠ 0 then fail c
    else if imm && s.bankValid && (List.range 16).any (fun k => decide (s.get routePg (0x100 + 4 * k) ≠ 0)) then fail 10
    else
      let all := bit (zp f 6 1) 7
      let n := s.rtN false 0 * s.rtN false 1 * s.rtN false 2 * s.rtN false 3
      let dests := if all then [] else (List.range n).filter (fun i => bit (s.exc false i) 30)
      let lim := if zp f 8 4 = 0 then 8192 else zp f 8 4
      let s := (((s.bput routePg 0x44 4 true).bput routePg 0x44 6 (!imm)).bput routePg 0x44 5 false).fput routePg 0x44 3 0 0
      let s := (s.fput routePg 0x44 23 20 0).put routePg 0x50 cid
      ({ s with route := { s.route with commit := some ⟨all, dests, imm, s.nowTick + 1 + lim, s.linkedTrunks⟩, ttCid := cid, ttCommit := 0x80 } },
        zOk cid)

/-- SVC_STATE (R86 R601 R602). -/
def State.doSvcState (s : State) (f : Bytes) : State × ZDone :=
  match objInst (zObj f) with
  | none => (s, zNo stBounds)
  | some p =>
    if !svcNamed p.cls then (s, zNo stBounds)
    else
      let st := zp f 0 4
      let (s, code, res) := s.svcCommand p st
      if p.cls = .clu then
        let es := ((List.range 8).filter (fun n => bit res n)).map (fun n => engPg (8 * p.inst + n))
        let s := es.foldl State.chg s
        let s := if code = stOk then (s.noteSvcReq p st).chg p else s
        (s, ⟨code, res, es.map (fun e => (e, 0x08)), false⟩)
      else if code = stOk then (s.chg p, zOk 0)
      else (s, zNo code)

/-- The window range of VI_CREATE lies outside MWU v / 1,024 or in another VI's (R434). -/
def State.badWindows (s : State) (v first count : Nat) : Bool :=
  let u := v / 1024
  decide (count ≠ 0 ∧ (first < u * 2 ^ 20 ∨ (u + 1) * 2 ^ 20 < first + count)) ||
    s.vis.any (fun e => decide (e.1 ≠ v ∧ count ≠ 0 ∧ e.2.winCount ≠ 0 ∧ first < e.2.winFirst + e.2.winCount ∧
      e.2.winFirst < first + count ∧ s.viState e.1 ≠ viNone))

/-- A quota, the cleats or the pool allotment of VI_CREATE do not fit (R434). -/
def State.badQuota (s : State) (v : Nat) (f : Bytes) : Bool :=
  let m := mtchPg (v / 1024) 0
  decide (s.get m 0x40 < zp f 12 4 ∨ s.get m 0x48 < zp f 16 4 ∨ s.fget m 0x50 19 0 < zp f 20 4 ∨
    4096 < zp f 24 2 + zp f 26 2 ∨ (zp f 32 4 ≠ 0 ∧ s.poolSize < (zp f 28 4 + zp f 32 4) * 2 ^ 21))

/-- VI_CREATE (R433 R434): it writes VI.CTL and KR_CEIL, one change of the VI's page (R104). -/
def State.doViCreate (s : State) (f : Bytes) : State × ZDone :=
  let v := oInst (zObj f)
  if s.viState v ≠ viNone then (s, zNo stBusy)
  else if s.badWindows v (zp f 0 4) (zp f 4 4) || s.badQuota v f then (s, zNo stBounds)
  else
    let s := s.resetRegs (fun p off => decide (p.cls = .vi ∧ p.inst = v ∧ ((0x40 ≤ off ∧ off < 0x54) ∨ (0x400 ≤ off ∧ off < 0x800))))
    let s := (s.put (viPg v) 0x40 (2 * zp f 10 1)).put (viPg v) 0x48 (zp f 36 4)
    let s := s.updVi v (fun x =>
      { viInit with nextDesc := x.nextDesc, bme := x.bme, ats := x.ats, winFirst := zp f 0 4, winCount := zp f 4 4,
                    domain := zp f 8 2, postMax := zp f 12 4, unexpMax := zp f 16 4, bounceMax := zp f 20 4,
                    cleatFirst := zp f 24 2, cleatCount := zp f 26 2, poolBase := zp f 28 4, poolLen := zp f 32 4 })
    ((s.setViState v viOff).chg (viPg v), zOk 0)

/-- VI_DESTROY (R435): it clears VI.CTL.ENABLE, one change of the VI's page (R104). -/
def State.doViDestroy (s : State) (f : Bytes) : State × ZDone :=
  let v := oInst (zObj f)
  if s.viState v = viNone ∨ (s.vi v).destroy = true then (s, zNo stBusy) else ((s.viDestroyed v).chg (viPg v), zOk 0)

/-- The new key of a KEY_UPDATE (R126). -/
def State.zUnwrap (s : State) (f : Bytes) (k : Nat) : Bytes :=
  let pad := hmacSha256 (s.slotKey 0) (beBytes 8 (zCtr f) ++ beBytes 1 k ++ beBytes 4 (zp f 0 4))
  List.zipWith (fun (a b : Byte) => a ^^^ b) (slice (zPayload f) 16 32) pad

/-- KEY_UPDATE (R126 R127): at once while the main domain is off (R121). -/
def State.doKeyUpdate (s : State) (f : Bytes) : State × ZDone :=
  let k := oInst (zObj f)
  let erase := decide (zp f 7 1 = 1)
  if (Tab.get (fun _ => none) s.psto.keyPend k).isSome then (s, zNo stBusy)
  else if erase && decide (k = 0) && (List.range 8).any (fun j => decide (0 < j ∧ s.slotState j ≠ 0)) then (s, zNo stBusy)
  else if !erase && decide (12 < zp f 6 1 ∨ (k = 0 ∧ (zp f 4 2 ≠ 0 ∨ zp f 6 1 ≠ 1))) then (s, zNo stBounds)
  else
    let c : KeyPend := ⟨erase, s.zUnwrap f k, zp f 0 4, zp f 4 2, zp f 6 1, max (s.nowTick + 1) (zAct f + 1)⟩
    let s := { s with psto := { s.psto with keyPend := Tab.set (fun _ => none) s.psto.keyPend k (some c) } }
    let s := if s.tick.running then
        (s.fput (zynPg 1) (0x40 + 8 * k) 31 30 2).bput (zynPg 0) 0x44 0 (decide (k ≠ 0 ∧ s.slotState 0 = 1))
      else s.keyEffect k
    (s.chg (zynPg 1), zOk 0)

/-- FW_ACTIVATE (R494 R495): the image check begins; the reply is sent when it ends. -/
def State.doFwActivate (s : State) (path : ZPath) (f : Bytes) : State × ZDone :=
  let kind := zp f 0 1
  if (kind ≠ 1 ∧ kind ≠ 2) ∨ 1 < zp f 1 1 ∨ (kind = 2 ∧ oClass (zObj f) ≠ 1) then (s, zNo stBounds)
  else if (Tab.get (fun _ => none) s.fw.act kind).isSome then (s, zNo stBusy)
  else
    let a : FwAct := ⟨zp f 1 1, bit (zp f 2 1) 0, false, false, [], f, path, s.nowTick⟩
    ({ s with fw := { s.fw with act := Tab.set (fun _ => none) s.fw.act kind (some a) } }, ⟨stOk, 0, [], true⟩)

/-- CLEAT_RELEASE (R523). -/
def State.doCleatRelease (s : State) (f : Bytes) (cap : Option (CleatHolder × Nat)) : State × ZDone :=
  let k := oPage (zObj f)
  let c := s.cleat k
  match cap with
  | none => (s, zOk 0)
  | some (h, q) =>
    if c.holder = some h ∧ c.seq = q then ((s.bump (cleatPg 0) 6 1).cleatRelease k true, zOk 1) else (s, zOk 0)

/-- Writes one register in the name of a command (R120), over the bits of a mask. -/
def State.zWrite (s : State) (f : Bytes) (p : PageRef) (off value mask : Nat) : State × Nat :=
  s.writeKeyed ⟨.command (zOrigin f), p.addr + off, BitVec.ofNat 32 value⟩ mask

/-- TICK_ELECT (R62 R78): MASTER compares with SELF of the active bank, which reads 0 before the first route commit, and
is not evaluated again at a commit (log 142). -/
def State.doTickElect (s : State) (f : Bytes) : State × ZDone :=
  let v := zp f 0 4
  let (s, st) := s.zWrite f (tickPg 0) 0x50 v 0xFFFFFFFF
  (s.bput (tickPg 0) 0x4C 7 (!bit v 20 && decide (fld v 19 0 = s.rtSelf true)), ⟨st, 0, [], false⟩)

/-- PAIR_FAILOVER (R570 R572). -/
def State.doFailover (s : State) (f : Bytes) : State × ZDone :=
  let st := s.lanyState
  if zp f 0 8 ≠ s.get64 (lanyPg 0) 0x48 then (s, zNo stBounds)
  else if st = laUnpaired ∨ st = laTaken ∨ (st = laSyncing ∧ s.lany.syncDone = false) then (s, zNo stBusy)
  else
    let s := { s with lany := { s.lany with frozen := true, staged := [], lostSince := s.nowTick } }
    let s := (s.sendLany 3 0 []).fput (lanyPg 0) 0x44 2 0 laTaken
    (((s.raise (lanyPg 0) 18)).event 1 (.pair laTaken), zOk 0)

/-- DUMP_TRIGGER (R562). -/
def State.doDumpTrigger (s : State) (f : Bytes) : State × ZDone :=
  if s.bget (glbPg 5) 0x5C 31 ∨ s.relia.dump.isSome = true then (s, zNo stBusy)
  else ({ s with relia := { s.relia with dump := some ⟨true, zOrigin f, bit (zp f 0 4) 0, s.nowTick, s.nowCc, false⟩ } }, zOk 0)

/-- OWNER_CHANGE (R96 R115). -/
def State.doOwnerChange (s : State) (f : Bytes) : State × ZDone :=
  let ps := zPages f
  let s := ps.foldl (fun s p => (s.zWrite f p 0x20 (zp f 0 4) 0xFFFFFFFF).1) s
  (s, ⟨stOk, 0, (ps.drop 1).map (fun p => (p, 0x20)), false⟩)

/-- REG_WRITE_KEYED (R115 R116 R120). -/
def State.doRegWriteKeyed (s : State) (f : Bytes) : State × ZDone :=
  match objPage false (zObj f) with
  | none => (s, zNo stBounds)
  | some p =>
    let (s, st) := s.zWrite f p (zp f 0 4) (zp f 4 4) (zp f 8 4)
    (s, ⟨st, 0, [], false⟩)

/-- What a command does (R119 step 3). -/
def State.zDo (s : State) (c : ZCmd) : State × ZDone :=
  let f := c.frame
  match zOp f with
  | 0x0001 => s.doRouteCommit f
  | 0x0002 => s.doSvcState f
  | 0x0003 => s.doViCreate f
  | 0x0004 => s.doViDestroy f
  | 0x0005 => s.doKeyUpdate f
  | 0x0007 => s.doFwActivate c.path f
  | 0x0008 => s.doCleatRelease f c.captured
  | 0x0009 => s.doTickElect f
  | 0x000A => s.doFailover f
  | 0x000B => s.doDumpTrigger f
  | 0x000C => s.doOwnerChange f
  | 0x000D => s.doRegWriteKeyed f
  | _ => (s, zNo stBounds)

/-- The commands that a command has superseded are recorded and answered, with the origin that won as WINNER (R119 R130). -/
def State.zLosers (s : State) (c : ZCmd) : State :=
  c.losers.foldl (fun s l => s.zFinish l.1 l.2 stSuperseded (zOrigin c.frame) 0) s

/-- What an executing command does, its records and reply apart. Until slot 0 holds a key it is rejected (R4), and in the
fatal state only KEY_UPDATE and DUMP_TRIGGER execute while TICK runs (R556). -/
def State.zEffect (s : State) (c : ZCmd) : State × ZDone :=
  if s.slotState 0 = 0 then (s, zNo stAuthFail)
  else if s.fatal ∧ s.tick.running = true ∧ zOp c.frame ≠ 5 ∧ zOp c.frame ≠ 0xB then (s, zNo stBusy)
  else s.zDo c

/-- The records of an executed command: one for each page that it writes (R102). -/
def State.zRecords (s : State) (c : ZCmd) (d : ZDone) : State :=
  if d.later then s
  else
    let s := s.zRecord c.path c.frame d.status 0xFFFF
    d.also.foldl (fun s t => s.zRecordAt (zOrigin c.frame) c.frame stOk 0xFFFF t) s

/-- Its reply, and the answers to the commands that it superseded. -/
def State.zReplies (s : State) (c : ZCmd) (d : ZDone) : State :=
  (if d.later then s else s.zAnswer c.path c.frame d.status 0xFFFF d.result).zLosers c

/-- A command executes in a cycle without direct writes. -/
def State.zExec (s : State) (c : ZCmd) : State :=
  let (s, d) := s.zEffect c
  (s.zRecords c d).zReplies c d

/-! A core cycle with direct writes (R99 R104 R120 R612). -/

/-- The registers that a command writes when it completes, a pair by its _LO register. -/
def ZDone.regs (d : ZDone) (f : Bytes) : List (PageRef × Nat) :=
  let lo (t : PageRef × Nat) : PageRef × Nat := if isHi t.1 t.2 then (t.1, t.2 - 4) else t
  if d.status ≠ stOk ∨ d.later = true then [] else ((zTarget f).toList ++ d.also).map lo

/-- The command whose last cycle is the present one (R613). -/
def State.zNow (s : State) : Option ZCmd :=
  match s.zyn.queue with
  | c :: _ => if s.tick.running = true ∧ c.last = some s.tick.cc then some c else none
  | [] => none

/-- The origin whose direct write outranks a command on a register that both write (R99 R120). -/
def outranks (js : List Judged) (r : Rival) : Option Nat :=
  (argMin (fun j : Judged => rankKey j.w.origin)
    (js.filter (fun j => j.fate = .ok && j.competes && decide ((j.p, j.off) ∈ r.regs ∧ rankKey j.w.origin < rankKey r.origin)))).map
    (fun j => j.w.origin)

/-- Direct writes and the command of their cycle: the direct writes first, then the command's, unless a direct write
outranks it, when it is answered SUPERSEDED. The records of the cycle follow in the order of rank. -/
def State.jointCycle (s0 : State) (ws : List RegWrite) (c : ZCmd) : State × List Judged :=
  let o := zOrigin c.frame
  let s0 := { s0 with zyn := { s0.zyn with queue := s0.zyn.queue.drop 1 } }
  let r : Rival := ⟨o, (s0.zEffect c).2.regs c.frame⟩
  match outranks (s0.judgeAll (ws.map (fun w => (w, none)))) r with
  | some w =>
    let (s, js) := s0.directWrites none ws
    (((s0.records s js).zFinish c.path c.frame stSuperseded w 0).zLosers c, js)
  | none =>
    let (s, js) := s0.directWrites (some r) ws
    let (s, d) := s.zEffect c
    let before (j : Judged) : Bool := decide (rankKey j.w.origin ≤ rankKey o)
    let s := (s0.records s (js.filter before)).zRecords c d
    ((s0.records s (js.filter (fun j => !before j))).zReplies c d, js)

/-- The direct writes of one core cycle, with the command whose last cycle it is. -/
def State.cycle (s : State) (ws : List RegWrite) : State × List Judged :=
  match s.zNow with
  | some c => s.jointCycle ws c
  | none =>
    let (s', js) := s.directWrites none ws
    (s.records s' js, js)
def State.cycleWrites (s : State) (ws : List RegWrite) : State := (s.cycle ws).1

/-- One direct write, and the status it meets. -/
def State.cycleOne (s : State) (w : RegWrite) : State × Nat :=
  let (s, js) := s.cycle [w]
  (s, statusOf js)

/-! The window (R119 R613). -/

/-- Cycles that a command occupies. -/
def zCycles (op : Nat) : Nat :=
  match op with
  | 0x0001 => 12
  | 0x0003 => 12
  | 0x0004 => 8
  | 0x0005 => 15
  | 0x000A => 8
  | _ => 4

/-- Commands execute one after another from cc 1, each with its last cycle; the first that does not fit, and every later
one, are carried. -/
def zSchedule : Nat → List ZCmd → List ZCmd
  | _, [] => []
  | n, c :: t =>
    let e := n + zCycles (zOp c.frame)
    if 63 < e then (c :: t).map (fun c => { c with carried := true, last := none })
    else { c with carried := false, last := some e } :: zSchedule e t

/-- Steps 1 and 2 of R119, at cc 0 of a tick: what lacks permission is refused, conflicts are resolved, and the window is
laid out. What a carried command superseded is answered at once, and what an executing one superseded when it executes. -/
def State.zWindow (s : State) : State :=
  let due (c : ZCmd) : Bool := decide (zOp c.frame ≠ 6) && (c.carried || decide (c.due ≤ s.nowTick))
  let ready := s.zyn.queue.filter due
  let fresh := (ready.filter (fun c => !c.carried)).map (fun c => { c with captured := s.zCapture c.frame })
  let good := fresh.filter (fun c => s.zPermit c.frame c.captured)
  let bad := fresh.filter (fun c => !s.zPermit c.frame c.captured)
  let plan := zSchedule 0 (zResolve (ready.filter (fun c => c.carried) ++ good))
  let carried := plan.filter (fun c => c.last.isNone)
  let plan := plan.map (fun c => if c.last.isNone then { c with losers := [] } else c)
  let s := { s with zyn := { s.zyn with queue := plan ++ s.zyn.queue.filter (fun c => !due c) } }
  let s := bad.foldl (fun s c => s.zFinish c.path c.frame stNotOwner 0xFFFF 0) s
  (carried.foldl State.zLosers s).bump (zynPg 0) 5 carried.length

/-- The commands of the window whose last cycle is `cc` or earlier execute in turn; the cycle reached is then that of the
last of them. -/
def State.zRunTo (cc : Nat) : Nat → State → State
  | 0, s => s
  | n + 1, s =>
    match s.zyn.queue with
    | [] => s
    | c :: t =>
      match c.last with
      | none => s
      | some e =>
        if cc < e then s
        else
          let s := { s with zyn := { s.zyn with queue := t }, tick := { s.tick with cc := max s.tick.cc e } }
          State.zRunTo cc n ((s.refillTo s.tick.cc).zExec c)

/-- The window up to a cycle that a command's rule says has been reached. -/
def State.zReached (s : State) (cc : Nat) : State := State.zRunTo cc s.zyn.queue.length s

/-- The whole window: it ends by cc 63 (R613). -/
def State.zFlush (s : State) : State := s.zReached 63

/-- A core cycle with no command of the queue: what the window executes in it, then TICK's cycle advances, to the refills of
the next one (R532). -/
def State.idle (s : State) : State :=
  let t := idleCycle ((if s.tick.running then s.zReached s.tick.cc else s).nocTick)
  if t.tick.running then t.refillTo t.tick.cc else t

/-- Pending changes of key slots take effect at their boundary (R126 R127). -/
def State.keysDue (s : State) : State :=
  (List.range 8).foldl (fun s k =>
    match Tab.get (fun _ => none) s.psto.keyPend k with
    | none => s
    | some (c : KeyPend) => if c.boundary ≤ s.nowTick then s.keyEffect k else s) s

/-! KEY_LOAD_INITIAL, and commands while the main domain is off. -/

/-- The HWM of a command's origin has been persisted at its counter or beyond (R122). -/
def State.zPersisted (s : State) (f : Bytes) : Bool :=
  match hwmIdx (zOrigin f) with
  | some i => decide (zCtr f ≤ Tab.get (fun _ => 0) s.psto.hwm i)
  | none => false

/-- KEY_LOAD_INITIAL executes (R125); refused when slot 0 has been loaded meanwhile. -/
def State.zLoad (s : State) (c : ZCmd) : State :=
  if s.slotState 0 ≠ 0 then s.zFinish c.path c.frame stAuthFail 0xFFFF 0
  else ((s.setSlot 0 1 0 1 0 (zPayload c.frame)).chg (zynPg 1)).zFinish c.path c.frame stOk 0xFFFF 0

/-- Every KEY_LOAD_INITIAL whose HWM has been persisted executes. -/
def State.zLoads (s : State) : State :=
  let now (s : State) (c : ZCmd) : Bool := decide (zOp c.frame = 6) && s.zPersisted c.frame
  let cs := s.zyn.queue.filter (now s)
  let s' := { s with zyn := { s.zyn with queue := s.zyn.queue.filter (fun c => !now s c) } }
  cs.foldl State.zLoad s'

/-- The commands that can execute while the main domain is off (R121). -/
def zOffOk (f : Bytes) : Bool :=
  let aux := decide (oClass (zObj f) = 2 ∨ oClass (zObj f) = 5 ∨ oClass (zObj f) = 6)
  decide (zAct f = 0) &&
    match zOp f with
    | 0x0005 => true
    | 0x0007 => decide (zp f 0 1 = 2 ∧ oClass (zObj f) = 1)
    | 0x000C => aux
    | 0x000D => aux
    | _ => false

/-- One command while the main domain is off. -/
def State.zOffOne (s : State) (c : ZCmd) : State :=
  if s.slotState 0 = 0 then (s.zFinish c.path c.frame stAuthFail 0xFFFF 0).zLosers c
  else if !zOffOk c.frame then (s.zFinish c.path c.frame stBusy 0xFFFF 0).zLosers c
  else if !s.zPermit c.frame none then (s.zFinish c.path c.frame stNotOwner 0xFFFF 0).zLosers c
  else s.zExec c

/-- In queue order, while the first command's HWM has been persisted (R121). -/
def State.zOffRun : Nat → State → State
  | 0, s => s
  | n + 1, s =>
    match s.zyn.queue with
    | [] => s
    | c :: t =>
      if s.zPersisted c.frame then State.zOffRun n (({ s with zyn := { s.zyn with queue := t } }).zOffOne c) else s

/-- HWMs have reached the persistent store, or the main domain has turned off (R121). -/
def State.zAfterPersist (s : State) : State :=
  let s := s.zLoads
  if s.tick.running then s else State.zOffRun s.zyn.queue.length s

/-- The hot-swap switch opens, and the Zynken unit goes on as R121 says. -/
def State.powerOff (s : State) (fault : Bool) : State := (s.openSwitch fault).zAfterPersist

end Sys2Proof.Machine
end

