-- ==== Sys2Proof/Machine/Access.lean ====
section
/-! DEFINITION. The commands of register access (00_scope.md R5-R8, 04_register_model.md R85-R101, 20_counters.md R584
R585) and of the registers whose writes have rows of their own. -/

namespace Sys2Proof.Machine

/-! Reads. -/

/-- NARROW_ACCESS (R8): a read that is narrow or unaligned returns 0, a write is discarded. -/
def execNarrowAccess (access : Narrow) (addr : Nat) (s : State) : Host.Outcome State Fault Refusal :=
  .next (if access.write then s.badAccess access.path addr else s.badRead access.path addr)

/-- PAIR_LO_READ (R91 R584): latches the pair for the origin. -/
def execPairLoRead (path : APath) (addr : Nat) (s : State) : Host.Outcome State Fault Refusal :=
  if addr % 4 ≠ 0 then .next (s.badRead path addr)
  else match locate addr with
    | some (p, off) => if isLo p off then .next (s.readOut path addr) else .next s
    | none => .next s

/-- READ_CLEAR (R5 R93 R94): a read returns the register, and clears its RC fields. A register without such fields, or a
_HI register, reads by this row too (R91). -/
def execReadClear (path : APath) (addr : Nat) (s : State) : Host.Outcome State Fault Refusal :=
  .next (s.readOut path addr)

/-- JOURNAL_RECORD_READ (R107): word `word` of the record at the origin's RD; REC7 advances RD. -/
def execJournalRecordRead (path : APath) (word : Nat) (s : State) : Host.Outcome State Fault Refusal :=
  if word < 8 then .next (s.readOut path ((jrnlPg 1).addr + 0x60 + 4 * word)) else .next s

/-! Writes. -/

/-- REGISTER_WRITE (R97-R101 R612): the writes that arrive in one core cycle; a Zynken command whose last cycle this is
executes with them (R120). -/
def execRegisterWrite (ws : List RegWrite) (s : State) : Host.Outcome State Fault Refusal := .next (s.cycleWrites ws)

/-- The writes of a cycle that name what `f` selects, by page, offset and value. -/
def namedWrite (f : PageRef → Nat → Nat → Bool) (w : RegWrite) : Bool :=
  match locate w.addr with
  | some (p, off) => f p off w.value.toNat
  | none => false

/-- A write of the kind a command names. -/
def State.writeIf (s : State) (f : PageRef → Nat → Nat → Bool) (w : RegWrite) : State :=
  if namedWrite f w then s.cycleWrites [w] else s

/-- PAIR_LO_WRITE (R92). -/
def execPairLoWrite (w : RegWrite) (s : State) : Host.Outcome State Fault Refusal :=
  .next (s.writeIf (fun p off _ => isLo p off) w)

/-- PAIR_HI_COMMIT (R92 R99 R101). -/
def execPairHiCommit (ws : List RegWrite) (s : State) : Host.Outcome State Fault Refusal :=
  .next (s.cycleWrites (ws.filter (namedWrite (fun p off _ => isHi p off))))

/-- CTR_CLEAR (R581 R585). -/
def execCtrClear (w : RegWrite) (s : State) : Host.Outcome State Fault Refusal :=
  .next (s.writeIf (fun p off _ => (ctrMask p).isSome && decide (off = 0xC84)) w)

/-- SNAP_ENABLE (R592). -/
def execSnapEnable (w : RegWrite) (s : State) : Host.Outcome State Fault Refusal :=
  .next (s.writeIf (fun p off v => decide (p = pmonPg ∧ off = 0x40) && bit v 31) w)

/-- BLK_ENABLE_WRITE (R85 R87). -/
def execBlkEnableWrite (w : RegWrite) (s : State) : Host.Outcome State Fault Refusal :=
  .next (s.writeIf (fun p off _ => decide (p.page = 0 ∧ off = 0x08)) w)

/-- SOFT_RESET (R87 R88). -/
def execSoftReset (w : RegWrite) (s : State) : Host.Outcome State Fault Refusal :=
  .next (s.writeIf (fun _ off v => decide (off = 0x08) && bit v 1) w)

/-- FENCE_REQUEST (R473 R476 R595). -/
def execFenceRequest (w : RegWrite) (s : State) : Host.Outcome State Fault Refusal :=
  .next (s.writeIf (fun _ off v => decide (off = 0x08) && bit v 3) w)

/-- FENCE_RELEASE (R474). -/
def execFenceRelease (w : RegWrite) (s : State) : Host.Outcome State Fault Refusal :=
  .next (s.writeIf (fun _ off v => decide (off = 0x08) && !bit v 3) w)

/-- BLK_ERRINJ_WRITE (R89). -/
def execBlkErrinjWrite (w : RegWrite) (s : State) : Host.Outcome State Fault Refusal :=
  .next (s.writeIf (fun _ off _ => decide (off = 0x18)) w)

/-- SELF_TEST_START (R87). -/
def execSelfTestStart (w : RegWrite) (s : State) : Host.Outcome State Fault Refusal :=
  .next (s.writeIf (fun _ off v => decide (off = 0x2C) && bit v 31) w)

/-- REFSEL_WRITE (R76 R615). -/
def execRefselWrite (w : RegWrite) (s : State) : Host.Outcome State Fault Refusal :=
  .next (s.writeIf (fun p off _ => decide (p = tickPg 0 ∧ off = 0x48)) w)

/-- JOURNAL_SIZE_WRITE (R108). -/
def execJournalSizeWrite (w : RegWrite) (s : State) : Host.Outcome State Fault Refusal :=
  .next (s.writeIf (fun p off _ => decide (p = jrnlPg 0 ∧ off = 0x40)) w)

/-- RETRAIN (R136 R159). -/
def execRetrain (w : RegWrite) (s : State) : Host.Outcome State Fault Refusal :=
  .next (s.writeIf (fun p off v => decide (p.cls = .port ∧ p.page = 1 ∧ off = 0x40) && bit v 1) w)

/-- FORCE_SPARE (R152-R154). -/
def execForceSpare (w : RegWrite) (s : State) : Host.Outcome State Fault Refusal :=
  .next (s.writeIf (fun p off v => decide (p.cls = .opte ∧ p.page = 1 ∧ off = 0x40 ∧ fld v 3 0 ≠ 0)) w)

/-- ALLOTMENT_WRITE (R202). -/
def execAllotmentWrite (w : RegWrite) (s : State) : Host.Outcome State Fault Refusal :=
  .next (s.writeIf (fun p off _ => decide (p.cls = .tile ∧ ((0x80 ≤ off ∧ off < 0xD0) ∨ off = 0x44))) w)

/-- REEF_WRITE (R217-R219). -/
def execReefWrite (w : RegWrite) (s : State) : Host.Outcome State Fault Refusal :=
  .next (s.writeIf (fun p off _ => decide (off = 0x08 ∧ p.page = 0 ∧ (p.cls = .tile ∨ p.cls = .port))) w)

/-- ROUTE_COPY (R229 R261). -/
def execRouteCopy (w : RegWrite) (s : State) : Host.Outcome State Fault Refusal :=
  .next (s.writeIf (fun p off v => decide (p = routePg ∧ off = 0x40) && bit v 2) w)

/-- VI_ENABLE_WRITE (R437 R456). -/
def execViEnableWrite (w : RegWrite) (s : State) : Host.Outcome State Fault Refusal :=
  .next (s.writeIf (fun p off _ => decide (p.cls = .vi ∧ off = 0x40)) w)

/-- XLATE_COMMIT (R439). -/
def execXlateCommit (w : RegWrite) (s : State) : Host.Outcome State Fault Refusal :=
  .next (s.writeIf (fun p off v => decide (p.cls = .vi ∧ off = 0x4C) && bit v 0) w)

/-- CMDQ_ENABLE (R445 R446). -/
def execCmdqEnable (w : RegWrite) (s : State) : Host.Outcome State Fault Refusal :=
  .next (s.writeIf (fun p off _ => decide (p.cls = .vf ∧ p.page = 2 ∧ 0x100 ≤ off ∧ off < 0x500 ∧ off % 16 = 8)) w)

/-- CPLQ_ENABLE (R445 R446). -/
def execCplqEnable (w : RegWrite) (s : State) : Host.Outcome State Fault Refusal :=
  .next (s.writeIf (fun p off _ => decide (p.cls = .vf ∧ p.page = 3 ∧ 0x100 ≤ off ∧ off < 0x500 ∧ off % 16 = 8)) w)

/-- PARTITION_COMMIT (R477). -/
def execPartitionCommit (w : RegWrite) (s : State) : Host.Outcome State Fault Refusal :=
  .next (s.writeIf (fun p off v => decide (p = hbmcPg 0 1 ∧ off = 0x40) && bit v 0) w)

/-- PAIRING_ENABLE (R565 R580). -/
def execPairingEnable (w : RegWrite) (s : State) : Host.Outcome State Fault Refusal :=
  .next (s.writeIf (fun p off v => decide (p = lanyPg 0 ∧ off = 0x40) && bit v 31) w)

/-- FW_STAGE (R608). -/
def execFwStage (w : RegWrite) (s : State) : Host.Outcome State Fault Refusal :=
  .next (s.writeIf (fun p off v => decide (p = pstoPg 1 ∧ off = 0x40) && bit v 31) w)

/-- STAGE_DATA (R611). -/
def execStageData (w : RegWrite) (s : State) : Host.Outcome State Fault Refusal :=
  .next (s.writeIf (fun p off _ => decide (p = pstoPg 1 ∧ off = 0x58)) w)

end Sys2Proof.Machine
end

