-- ==== Sys2Proof/Machine/ClockLib.lean ====
section
/-! DEFINITION. Tick markers, the parent and alignment (03_reference_and_tick.md R64-R70; 07_link_layer.md R179). -/

namespace Sys2Proof.Machine

/-- Fields of a marker's cell (R179). -/
def mkCount (b : Bytes) : Nat := beAt b 0 8
def mkStamp (b : Bytes) : Nat := beAt b 8 8
def mkHops (b : Bytes) : Nat := fld (beAt b 0x10 4) 26 24
def mkAligned (b : Bytes) : Bool := bit (beAt b 0x10 4) 23
def mkCrossed (b : Bytes) : Bool := bit (beAt b 0x10 4) 22
def mkRetValid (b : Bytes) : Bool := bit (beAt b 0x10 4) 21
def mkMaster (b : Bytes) : Nat := fld (beAt b 0x10 4) 19 0
def mkDepart (b : Bytes) : Nat := beAt b 0x14 2
def mkRet (b : Bytes) : Int := signed 32 (beAt b 0x18 4)

def State.marker (s : State) (p : Nat) : Option Marker := Tab.get (fun _ => none) s.tick.marker p

/-- MASTER and HOPS, PARENT_PORT of TICK.STAT (R77). -/
def State.isMaster (s : State) : Bool := s.bget (tickPg 0) 0x4C 7
def State.hops (s : State) : Nat := s.fget (tickPg 0) 0x4C 28 26

/-- The port that PARENT_PORT names, none when free-running (R77). -/
def State.parent (s : State) : Option Nat :=
  let n := s.fget (tickPg 0) 0x4C 25 16
  if n = 0x3FF then none else if n = 0x200 ∨ n = 0x201 then some (s.lanyPorts.getD (n - 0x200) 0) else some n

/-- PARENT_PORT of a port. -/
def State.parentCode (s : State) (p : Nat) : Nat := if s.isLany p then 0x200 + s.lanyPorts.idxOf p else p

/-- TICK.OFFSET: the mean of the offsets of the last 2^AVG_LOG2 ticks, rounded down (R66 R76; log 25). -/
def State.showOffset (s : State) : State :=
  let n := 2 ^ min 10 (s.fget (tickPg 0) 0x48 7 4)
  let os := s.tick.offsets.take n
  let m : Int := if os.isEmpty then 0 else (os.foldl (· + ·) 0).fdiv os.length
  s.put (tickPg 0) 0x54 (unsigned 32 m)

def State.offset (s : State) : Int := signed 32 (s.get (tickPg 0) 0x54)

/-- ALIGNED (R69): COUNT_AHEAD keeps it 0 (R70). -/
def State.setAligned (s : State) : State :=
  let up := s.isMaster || (match s.parent with
    | some p => (match s.marker p with | some m => m.aligned | none => false)
    | none => false)
  s.bput (tickPg 0) 0x4C 6 (up && decide (s.hops ≤ 5 ∧ s.offset.natAbs ≤ 16) && !s.bget (tickPg 0) 0x4C 9)

/-- A port whose latest marker makes it a parent candidate (R65); the marker's stamp lags the count that the marker itself
carries (log 142). -/
def State.candidate (s : State) (p : Nat) (m : Marker) : Bool :=
  s.bget (tickPg 0) 0x50 31 && decide (s.linkState p = lkUp) &&
    decide (m.master = s.fget (tickPg 0) 0x50 19 0 ∧ mkCrossed m.bytes = s.bget (tickPg 0) 0x50 20 ∧ m.hops ≤ 5 ∧
      m.count ≤ m.stamp + 16)

/-- The parent: the candidate of least hop count, then of lowest port number (R65); a Lanyard port is numbered 0x200 or
0x201. -/
def State.bestParent (s : State) : Option (Nat × Marker) :=
  if s.isMaster then none
  else
    let cs := s.tick.marker.filterMap (fun e => match e.2 with
      | some m => if s.candidate e.1 m then some (e.1, m) else none
      | none => none)
    argMin (fun c => c.2.hops * 1024 + s.parentCode c.1) cs

/-- Whether some fabric port is in routing: its ADMIT bit is set (R237 R70). -/
def State.inRouting (s : State) : Bool := (List.range 16).any (fun k => s.get routePg (0x100 + 4 * k) ≠ 0)

/-- Parent selection, once in each tick (R65), and the step alignment of a module that gains its first parent since the
main-domain reset: the only load of TICK.COUNT and the only step tick (R60 R61 R70). -/
def State.selectParent (s : State) : State :=
  let old := s.parent
  match s.bestParent with
  | none =>
    let s := if old.isSome then ({ s with tick := { s.tick with offsets := [] } }).bump (tickPg 1) 13 1 else s
    let s := (s.fput (tickPg 0) 0x4C 25 16 0x3FF).fput (tickPg 0) 0x4C 28 26 (if s.isMaster then 0 else 7)
    s.showOffset.setAligned
  | some (p, m) =>
    let s := if old = some p then s
      else ({ s with tick := { s.tick with offsets := [] } }).bump (tickPg 1) 13 1
    let s := (s.fput (tickPg 0) 0x4C 25 16 (s.parentCode p)).fput (tickPg 0) 0x4C 28 26 (m.hops + 1)
    let s := if s.tick.hadParent || s.bget (tickPg 0) 0x4C 6 || s.inRouting then s
      -- the tick that ends here, in which the marker came, had the count before this boundary's increment
      else if m.count + 1 < s.tick.count then s.bput (tickPg 0) 0x4C 9 true
      else
        let s := (s.put64 (tickPg 0) 0x40 (m.count + 1)).bump (tickPg 1) 9 1
        { s with tick := { s.tick with count := m.count + 1 } }
    ({ s with tick := { s.tick with hadParent := true } }).showOffset.setAligned

/-- Phase tracking (R67): one unit of 1/64 cc per tick toward zero offset. -/
def State.trackPhase (s : State) : State :=
  if !s.bget (tickPg 0) 0x48 3 || s.parent.isNone then s
  else
    let o := s.offset
    if o.natAbs ≤ 1 then s
    else { s with tick := { s.tick with phase := s.tick.phase + (if o < 0 then 1 else -1) } }

/-- The marker that leaves on a port (R64 R179); DEPART_OFS and CR_VEC are set when it leaves. A free-running module has no
marker to descend from, and sends master stamp 0 (log 142). -/
def State.markerCell (s : State) (p : Nat) : Bytes :=
  let stamp := if s.isMaster then s.nowTick else match s.parent with
    | some q => (match s.marker q with | some m => m.stamp | none => 0)
    | none => 0
  let crossed := s.bget (tickPg 0) 0x50 20 != s.isLany p
  let (rv, ra) := match s.marker p with | some m => (true, unsigned 32 m.arrival) | none => (false, 0)
  let flags := s.hops * 2 ^ 24 + b2n (s.bget (tickPg 0) 0x4C 6) * 2 ^ 23 + b2n crossed * 2 ^ 22 + b2n rv * 2 ^ 21 +
    s.fget (tickPg 0) 0x50 19 0
  beBytes 8 s.nowTick ++ beBytes 8 stamp ++ beBytes 4 flags ++ zeros 4 ++ beBytes 4 ra ++ zeros 36

end Sys2Proof.Machine
end

