-- ==== Sys2Proof/Machine/Link.lean ====
section
/-! DEFINITION. The commands of the link layer (07_link_layer.md R163-R190). -/

namespace Sys2Proof.Machine

/-- Link frames can pass a port: its lanes hold a bond and no re-bond is under way (R136 R156). -/
def State.carries (s : State) (p : Nat) : Bool :=
  decide (p < 512) && s.works (portPg p) && s.bget (lanePg p) 0x48 0 && !s.bget (lanePg p) 0x48 1

/-- PORT_UP (R181 R185): the identity exchange begins. -/
def execPortUp (port : Nat) (s : State) : Host.Outcome State Fault Refusal :=
  if s.carries port && !(s.link port).exch && !decide (s.linkState port = lkUp) then .next (s.startExchange port)
  else .next s

/-- The packet that a frame had begun to bring is discarded when the frame does not count (R215). -/
def State.failOpen (s : State) (open' : Option Nat) : State := match open' with | some id => s.discardPacket id | none => s

/-- A sequenced frame is whole: it is checked, sequenced, and accepted, NAKed or discarded (R166-R170, R186). `open'`: the
packet whose cells have entered before the check. -/
def State.rxSeq (s : State) (port : Nat) (frame : Bytes) (open' : Option Nat) : State :=
    match s.rxFrame port frame with
    | (s, false) => s.failOpen open'
    | (s, true) =>
      if (frType frame ≠ frData ∧ frType frame ≠ frLany) ∨ (s.link port).session = false then s.failOpen open'
      else
        let d := wrapSub 12 (frSeq frame) (s.link port).rxNext
        if d = 0 then
          if frType frame = frData then s.acceptData port frame (decide (frCheck frame = .stomped)) open'
          else
            let s := s.updLink port (fun l => { l with rxNext := wrapAdd 12 l.rxNext 1, nakAt := none, unreported := true })
            -- a ZYNKEN frame comes to the Zynken unit as a command of its own (log 24)
            if frCheck frame = .good ∧ s.isLany port = true ∧ beAt (frBody frame) 0 1 ≠ 2 then
              s.updLink port (fun l => { l with lanyIn := l.lanyIn ++ [frBody frame] })
            else s
        else if d ≤ 2047 then (s.failOpen open').gap port
        else s.failOpen open'

/-- DATA_FRAME_RECEIVE (R166-R170, R186): bytes of a sequenced frame arrive, DATA or, on a Lanyard port, LANY: a whole frame,
or the next part of one, whose cells are forwarded before its check (R167). -/
def execDataFrameReceive (port : Nat) (frame : Bytes) (s : State) : Host.Outcome State Fault Refusal :=
  if !s.carries port then .next s
  else
    let buf := (s.link port).rxBuf ++ frame
    if rxPartial buf then .next ((s.updLink port (fun l => { l with rxBuf := buf })).rxCells port buf)
    else
      let open' := (s.link port).rxPkt
      .next ((s.updLink port (fun l => { l with rxBuf := [], rxPkt := none })).rxSeq port buf open')

/-- ACK_FRAME_RECEIVE (R169 R172 R178): acknowledgement and all 16 credit counters. -/
def execAckFrameReceive (port : Nat) (frame : Bytes) (s : State) : Host.Outcome State Fault Refusal :=
  if !s.carries port then .next s
  else
    match s.rxFrame port frame with
    | (s, false) => .next s
    | (s, true) =>
      if frType frame = frAck ∧ frCheck frame = .good ∧ (s.link port).session = true then
        .next (s.updLink port (fun l => { l with peerFreed := readVec (slice (frBody frame) 0x20 32) }))
      else .next s

/-- IDENT_FRAME_RECEIVE (R180-R182, R188, R190). -/
def execIdentFrameReceive (port : Nat) (frame : Bytes) (s : State) : Host.Outcome State Fault Refusal :=
  if !s.carries port then .next s
  else
    match frCheck frame with
    | .header => .next ((s.linkError port true).gap port)
    | .check => .next ((s.linkError port false).gap port)
    | .stomped => .next (s.bump (portPg port) 4 1)
    | .good => if frType frame = frIdent then .next (s.rxIdent port frame) else .next s

/-- IDENT_RESEND_TIMER (R181): IDENT is due again at the next frame boundary. -/
def execIdentResendTimer (port : Nat) (s : State) : Host.Outcome State Fault Refusal :=
  if s.carries port && (s.link port).exch then .next (s.updLink port (fun l => { l with identDue := true })) else .next s

/-- FRAME_BOUNDARY (R173 R213 R214): a frame in progress ends, and the next one is chosen. -/
def execFrameBoundary (port : Nat) (underrun : Bool) (s : State) : Host.Outcome State Fault Refusal :=
  if !s.carries port then .next s
  else
    match s.endBegun port underrun with
    | none => .next s
    | some s => .next (s.chooseFrame port)

/-- REPLAY_TIMER_EXPIRY (R171 R183-R185). -/
def execReplayTimerExpiry (port : Nat) (s : State) : Host.Outcome State Fault Refusal :=
  if s.carries port && decide (s.linkState port = lkUp) && !(s.link port).replay.isEmpty then
    .next ((s.bump (portPg port) 8 1).startReplay port)
  else .next s

/-- EMPTY_ACK_TIMER (R172): an ACK frame is due at the next frame boundary. -/
def execEmptyAckTimer (port : Nat) (s : State) : Host.Outcome State Fault Refusal :=
  if s.carries port && decide (s.linkState port = lkUp) && (s.link port).unreported then
    .next (s.updLink port (fun l => { l with ackDue := true }))
  else .next s

/-- The errors of a window are too many: the lanes are tested and the link goes down (R183 R185 R547). -/
def State.windowExceeded (s : State) (p : Nat) : State :=
  (((s.raise (portPg p) 28).testLanes p 28).updLink p (fun l => { l with errors := 0 })).linkDown p

/-- ERROR_WINDOW_EXCEEDED (R183 R185). -/
def execErrorWindowExceeded (port : Nat) (s : State) : Host.Outcome State Fault Refusal :=
  if s.carries port && decide (s.failMode port ≠ 1 ∧ max 1 (s.fget (portPg port) 0x44 31 24) ≤ (s.link port).errors) then
    .next (s.windowExceeded port)
  else .next s

/-- HOLD_EXPIRY (R189 R190): the hold has run out, and the session ends. -/
def execHoldExpiry (port : Nat) (s : State) : Host.Outcome State Fault Refusal :=
  if port < 512 ∧ (s.link port).session = true ∧ s.linkState port ≠ lkUp ∧ s.fget (portPg port) 0x48 25 16 = 0 then
    .next ((s.endSession port).reExchange port)
  else .next s

end Sys2Proof.Machine
end

