-- ==== Sys2Proof/Machine/Clock.lean ====
section
/-! DEFINITION. The commands of the reference inputs and the tick markers (03_reference_and_tick.md R57-R70). -/

namespace Sys2Proof.Machine

/-- REF_INPUT_GOOD (R57 R615): once the monitors run. -/
def execRefInputGood (inputB : Bool) (s : State) : Host.Outcome State Fault Refusal :=
  if s.pwr.main && s.tick.monitors then .next (s.bput (tickPg 0) 0x4C (if inputB then 3 else 2) true).pllEval else .next s

/-- REF_INPUT_LOSS (R57 R58). -/
def execRefInputLoss (inputB : Bool) (s : State) : Host.Outcome State Fault Refusal :=
  if s.pwr.main && s.tick.monitors then .next (s.bput (tickPg 0) 0x4C (if inputB then 3 else 2) false).pllEval else .next s

/-- HOLDOVER_TIMEOUT (R58): holdover has lasted more than 8 ticks. -/
def execHoldoverTimeout (s : State) : Host.Outcome State Fault Refusal :=
  if s.pwr.main && s.bget (tickPg 0) 0x4C 8 && decide (s.tick.holdStart + 8 ≤ s.nowTick) then .next (s.enterFatal 3)
  else .next s

/-- A delay measured on a port (R66 R78). -/
def State.putDelay (s : State) (port d : Nat) : State :=
  let off := if s.isLany port then 0x900 + 4 * s.lanyPorts.idxOf port else 0x100 + 4 * port
  s.put (tickPg 2) off (2 ^ 31 + d % 2 ^ 24)

/-- What a returned arrival time tells: the one-way delay, and from the parent the offset, each rounded down (R66). -/
def State.measure (s : State) (port : Nat) (a r : Int) : State :=
  let s := s.putDelay port ((a + r).fdiv 2).toNat
  if s.parent = some port then
    { s with tick := { s.tick with offsets := ((r - a).fdiv 2 :: s.tick.offsets).take 1024 } }
  else s

/-- A marker taken from a port (R64-R66 R178 R179). -/
def State.takeMarker (s : State) (port : Nat) (b : Bytes) (arrival : Int) : State :=
  let s := s.updLink port (fun l => { l with peerFreed := readVec (slice b 0x20 32) })
  let a : Int := arrival - Int.ofNat (mkDepart b)
  let m : Marker := { count := mkCount b, hops := mkHops b, aligned := mkAligned b, master := mkMaster b,
                      stamp := mkStamp b, arrival := a, tick := s.nowTick, bytes := b }
  let s := { s with tick := { s.tick with marker := Tab.set (fun _ => none) s.tick.marker port (some m) } }
  let s := if mkRetValid b then s.measure port a (mkRet b) else s
  s.showOffset.setAligned

/-- TICK_MARKER_RECEIVE (R65 R66 R179): the credits it carries, the delay of its port, and from the parent the offset.
`arrival` is the arrival of the frame's first byte from this module's tick boundary, in 1/64 cc. -/
def execTickMarkerReceive (port : Nat) (frame : Bytes) (arrival : Int) (s : State) : Host.Outcome State Fault Refusal :=
  if !s.carries port then .next s
  else
    match s.rxFrame port frame with
    | (s, false) => .next s
    | (s, true) =>
      if frType frame ≠ frTick ∨ frCheck frame ≠ .good ∨ (s.link port).session = false then .next s
      else
        .next (s.takeMarker port (frBody frame) arrival)

end Sys2Proof.Machine
end

