-- ==== Sys2Proof/Machine/Errors.lean ====
section
/-! DEFINITION. Detected errors that no other family's command reports (19_reliability.md R547 R548). -/

namespace Sys2Proof.Machine

/-- CFG_PARITY_ERROR (R547): CFG_PARITY sets, and the march of the register array starts. -/
def execCfgParityError (page : Nat) (s : State) : Host.Outcome State Fault Refusal :=
  match pageOfCode page with
  | none => .next s
  | some p => if s.powered p then .next (s.detect p 5 0 0 1) else .next s

/-- The self-check of an engine starts on an error: what it holds of the cleats is abandoned (R514 R524). -/
def State.engineCheck (s : State) (e b : Nat) : State :=
  ((s.fput (engPg e) 0x44 11 8 5).detect (engPg e) b 0 0 3).cleatAbandonOrigin (0x100 + e)

/-- ENGINE_MEMORY_ECC_ERROR (R514 R515). -/
def execEngineMemoryEccError (engine : Nat) (corrected : Bool) (s : State) : Host.Outcome State Fault Refusal :=
  if 128 ≤ engine ∨ s.works (engPg engine) = false then .next s
  else .next ((s.bump (engPg engine) (if corrected then 5 else 6) 1).engineCheck engine (if corrected then 16 else 17))

/-- BUS_LANE_PARITY_ERROR (R223 R547). -/
def execBusLaneParityError (tile element : Nat) (s : State) : Host.Outcome State Fault Refusal :=
  if 64 ≤ tile ∨ s.works (tilePg tile) = false then .next s else .next (s.detect (tilePg tile) 18 element 0 2)

/-- RING_HOP_PARITY_ERROR (R486 R547). -/
def execRingHopParityError (stop element : Nat) (s : State) : Host.Outcome State Fault Refusal :=
  if 64 ≤ stop ∨ s.works (nocPg stop) = false then .next s else .next (s.detect (nocPg stop) 16 element 0 2)

/-- HBM_ECC_ERROR (R488 R547). -/
def execHbmEccError (stack row : Nat) (corrected : Bool) (s : State) : Host.Outcome State Fault Refusal :=
  let p := hbmcPg stack 0
  if 6 ≤ stack ∨ s.works p = false then .next s
  else
    .next ((s.bump p (if corrected then 7 else 8) 1).detect p (if corrected then 16 else 17) (hbmElement row)
      (hbmExt stack row) 4)

/-- ROUTING_UNIT_ECC_ERROR (R262): an uncorrectable error causes the fatal state. -/
def execRoutingUnitEccError (row : Nat) (corrected : Bool) (s : State) : Host.Outcome State Fault Refusal :=
  if s.powered routePg = false then .next s
  else
    let s' := s.rowError routePg (if corrected then 24 else 25) row
    if corrected ∨ (s'.fatal = true ∧ s.fatal = false) then .next s' else .next (s'.enterFatal 5)

/-- CONTEXT_CACHE_ECC_ERROR (R547): the line is re-read, the outcome of the operation is unchanged, and the row's march
starts; GLB's error log reports it. -/
def execContextCacheEccError (row : Nat) (_corrected : Bool) (s : State) : Host.Outcome State Fault Refusal :=
  if s.pwr.main then .next (s.rowStart (glbPg 6) 0 row) else .next s

/-- REPLAY_BUFFER_ECC_ERROR (R547 R548): TILE bit 16 or 17; a frame lost to it is sent stomped. -/
def execReplayBufferEccError (port row : Nat) (corrected : Bool) (seq : Nat) (s : State) : Host.Outcome State Fault Refusal :=
  if 512 ≤ port ∨ 32 ≤ row ∨ s.works (portPg port) = false then .next s
  else
    let s := if corrected then s else s.updLink port (fun l =>
      { l with replay := updFirst (fun f => decide (f.seq = seq)) (fun f => { f with stomp := true }) l.replay })
    let t := tilePg (port / 8)
    .next ((s.bump t (if corrected then 12 else 13) 1).rowError t (if corrected then 16 else 17)
      (1024 + 32 * (port % 8) + row))

/-- PCIE_ERROR_DETECTED (R431): the error's BLK_ERR bit, 16 to 18, 20 or 22, and its AER entry. -/
def execPcieErrorDetected (port kind : Nat) (s : State) : Host.Outcome State Fault Refusal :=
  if 16 ≤ port ∨ s.works (hostPg port 0) = false ∨ kind ∉ [16, 17, 18, 20, 22] then .next s
  else .next ((s.raise (hostPg port 0) kind).pfEvent port 0)

end Sys2Proof.Machine
end

