-- ==== Sys2Proof/Machine/Collar.lean ====
section
/-! DEFINITION. What follows the writes of the collar: the ends of fences and self-tests
(15_rings_and_memory.md R473-R475, 19_reliability.md R547-R550). -/

namespace Sys2Proof.Machine

/-- What a fence waits for is over (R473 R595): every slot has returned, and no transaction of the unit is outstanding; an
instance without a stop of its own must be drained. -/
def State.fenceOver (s : State) (p : PageRef) : Bool :=
  match stopOf p with
  | some k => decide (s.recallPend k = 0 ∧ s.nocOut k = 0)
  | none => s.drained p

/-- FENCE_COMPLETE (R473 R595): FENCED sets, once what is on the rings has arrived. -/
def execFenceComplete (page : Nat) (s : State) : Host.Outcome State Fault Refusal :=
  match pageOfCode page with
  | none => .next s
  | some p =>
    if s.powered p ∧ p.page = 0 ∧ s.bget p 8 3 = true ∧ s.bget p 0xC 2 = false then
      let s := s.nocRun nocFuel none
      .next (if s.fenceOver p then s.setFenced p else s)
    else .next s

/-- FENCE_TIMEOUT (R475): NOC bit 19 of the instance's stop; the fence stays requested. -/
def execFenceTimeout (page : Nat) (s : State) : Host.Outcome State Fault Refusal :=
  match pageOfCode page with
  | none => .next s
  | some p =>
    match stopOf p with
    | none => .next s
    | some k =>
      let t := Tab.get (fun _ => 0) s.svc.fenceStart (pageCode p)
      let limit := 2 ^ max 10 (s.fget (nocPg k) 0x40 12 8)
      if s.powered p ∧ t ≠ 0 ∧ s.bget p 0xC 2 = false ∧ t - 1 + limit ≤ s.nowTick then
        let s := { s with svc := { s.svc with fenceStart := Tab.set (fun _ => 0) s.svc.fenceStart (pageCode p) 0 } }
        .next (s.raise (nocPg k) 19)
      else .next s

/-- SELF_TEST_VERDICT (R547-R550 R601): the end of the test that runs on a page's instance. -/
def execSelfTestVerdict (page verdict fails : Nat) (s : State) : Host.Outcome State Fault Refusal :=
  match pageOfCode page with
  | none => .next s
  | some p =>
    match s.testOf p with
    | none => .next s
    | some t =>
      if s.powered p = false ∨ verdict = 0 ∨ 3 + 1 ≤ verdict then .next s
      else if t.kind = 5 then
        if s.svcState p = svcSelftest ∧ ¬ (p.cls = .port ∧ (s.lport p.inst).test.isSome) then .next (s.fullEnd ((pageOfCode t.page).getD p) verdict fails) else .next s
      else
        let s := s.targetVerdict p.zero t verdict fails
        .next (if p.cls = .eng ∧ s.testOf p = none then s.fput p.zero 0x44 11 8 0 else s)

end Sys2Proof.Machine
end

