-- ==== Sys2Proof/Machine/ZynArrive.lean ====
section
/-! DEFINITION. Session frames, and the arrival of a frame at the Zynken unit (05_zynken_commands.md R111 R117-R119 R128
R129). -/

namespace Sys2Proof.Machine

/-! Session frames (R128 R129). -/

/-- The record of an executed session frame (R102): that of a REG_WRITE is the record of its write (log 141). -/
def State.zSessionRec (s : State) (f : Bytes) (status : Nat) : State :=
  if zOp f = 0x0F03 then s else s.zRecord .mgmt f status 0xFFFF

/-- A session frame executes on arrival, and is answered at once. -/
def State.zSessionDone (s : State) (f : Bytes) (status result : Nat) : State :=
  ((s.zSessionRec f status).bump (zynPg 0) 6 1).emit (.reply .mgmt (s.replyBytes f status 0xFFFF result (s.replyKey f)))

/-- The session's idle time starts anew (R129). -/
def State.touchSession (s : State) : State :=
  { s with zyn := { s.zyn with sessTick := s.nowTick, sessSpent := 0, sessOff := !s.tick.running } }

/-- SESSION_OPEN: the port is bound, and a session already open is replaced. -/
def State.openSession (s : State) (f : Bytes) : State :=
  let s := s.closeSession.touchSession
  let s := { s with zyn := { s.zyn with session := some (zOrigin f, zSlot f) } }
  ((s.bput (zynPg 0) 0x44 7 true).bput (zynPg 0) 0x44 4 (decide (zOrigin f = 0))).fput (zynPg 0) 0x44 3 1 (zSlot f)

/-- The path of the session's accesses (R90 R128): a console's are made by the management controller's firmware. -/
def sessionPath (f : Bytes) : APath := if zOrigin f = 0 then .firmware else .session

/-- REG_READ: a read of a cleat word that stalls is answered when it ends (R521). -/
def State.sessionRead (s : State) (f : Bytes) (p : PageRef) (off : Nat) : State :=
  let o := zOrigin f
  match s.cleatWord o (p.addr + off) with
  | .cleat k =>
    let id := s.nextId
    match s.cleatReadFrom mcStop 0 k (.origin o) (p.addr + off) none with
    | (s, some v) => s.zSessionDone f stOk v
    | (s, none) => (({ s with zyn := { s.zyn with reads := s.zyn.reads ++ [(id, f)] } }).zSessionRec f stOk).bump (zynPg 0) 6 1
  | _ =>
    let (s, v) := s.readAt (sessionPath f) (p.addr + off)
    s.zSessionDone f stOk v

/-- REG_WRITE: a write by the session's origin. -/
def State.sessionWrite (s : State) (f : Bytes) (p : PageRef) (off : Nat) : State :=
  let o := zOrigin f
  match s.cleatWord o (p.addr + off) with
  | .cleat k => (s.cleatWriteFrom mcStop 0 k (.origin o) (zp f 4 4)).zSessionDone f stOk 0
  | _ =>
    let (s, st) := s.cycleOne ⟨sessionPath f, p.addr + off, BitVec.ofNat 32 (zp f 4 4)⟩
    s.zSessionDone f st 0

def State.sessionFrame (s : State) (f : Bytes) : State :=
  match zOp f with
  | 0x0F00 => (s.openSession f).zSessionDone f stOk 0
  | 0x0F01 => (s.closeSession).zSessionDone f stOk 0
  | 0x0F02 =>
    match objPage false (zObj f) with
    | some p => s.sessionRead f p (zp f 0 4)
    | none => s
  | 0x0F03 =>
    match objPage false (zObj f) with
    | some p => s.sessionWrite f p (zp f 0 4)
    | none => s
  | _ => s

/-! Arrival. -/

/-- A frame can reach the unit by the path: the unit runs, the management controller is not resetting (R596), and the
path's end is powered. -/
def State.zReach (s : State) (path : ZPath) : Bool :=
  s.pwr.aux && !s.zyn.mcReset &&
    match path with
    | .mgmt => true
    | .host h => decide (h < 16) && s.pwr.main
    | .engine e => decide (e < 128) && s.works (engPg e)
    | .lanyard => s.pwr.main

/-- A frame arrives: checks 1 to 5 in their order, HWM at check 3 (R118), then the queue or the session (R117 R119). -/
def State.zArrive (s : State) (path : ZPath) (f : Bytes) : State :=
  if !s.zCheck1 f then s.zReject path f
  else if !(if zOp f = 6 then s.zCheckLoad path f else s.zCheck2 path f) then s.zReject path f
  else if zCtr f ≤ s.hwm (zOrigin f) then s.zFinish path f stStaleCounter 0xFFFF 0
  else
    let s := s.setHwm (zOrigin f) (zCtr f)
    let mine : Bool := match s.zyn.session with | some (o, _) => decide (path = .mgmt ∧ o = zOrigin f) | none => false
    let s := if mine then s.touchSession else s
    if !zForm f then s.zFinish path f stBounds 0xFFFF 0
    else if zSession (zOp f) then s.sessionFrame f
    else if !s.zCheck5 f then s.zFinish path f stBusy 0xFFFF 0
    else s.zQueue path f

/-- A session's read of a cleat word waits at the management controller's stop, which holds no free slot of the array
(R471 R522). -/
def State.readWaits (s : State) (f : Bytes) : Bool :=
  decide (zOp f = 0x0F02) && (match objPage false (zObj f) with
    | some p => (match s.cleatWord (zOrigin f) (p.addr + zp f 0 4) with | .cleat _ => !s.slotFree mcStop cleatStop 0 | _ => false)
    | none => false)

/-- The meaning of a frame row: the frame arrives when its opcode is the row's, or is none of R115's, so that check 1
refuses it. -/
def State.zRow (s : State) (op : Nat) (path : ZPath) (f : Bytes) : State :=
  if s.zReach path && (decide (zOp f = op) || (zLen (zOp f)).isNone) then
    if s.readWaits f then s.nocWait mcStop cleatStop 0 else s.zArrive path f
  else s

end Sys2Proof.Machine
end

