-- ==== Sys2Proof/Machine/Zynken.lean ====
section
/-! DEFINITION. The Zynken rows: a frame arrives (R111 R117), and what happens around the unit (R112 R121 R122 R126 R129).
A critical command's effect comes when it executes, in the window of TICK_BOUNDARY, or, while the main domain is off,
when its high-water mark has been persisted. -/

namespace Sys2Proof.Machine

/-! Frames. -/

/-- ROUTE_COMMIT (R235 R251-R258): a frame of this opcode arrives. -/
def execRouteCommit (path : ZPath) (frame : Bytes) (s : State) : Host.Outcome State Fault Refusal := .next (s.zRow 0x0001 path frame)

/-- SVC_STATE (R601-R607): a frame of this opcode arrives. -/
def execSvcState (path : ZPath) (frame : Bytes) (s : State) : Host.Outcome State Fault Refusal := .next (s.zRow 0x0002 path frame)

/-- VI_CREATE (R433 R434): a frame of this opcode arrives. -/
def execViCreate (path : ZPath) (frame : Bytes) (s : State) : Host.Outcome State Fault Refusal := .next (s.zRow 0x0003 path frame)

/-- VI_DESTROY (R435): a frame of this opcode arrives. -/
def execViDestroy (path : ZPath) (frame : Bytes) (s : State) : Host.Outcome State Fault Refusal := .next (s.zRow 0x0004 path frame)

/-- KEY_UPDATE (R126 R127): a frame of this opcode arrives. -/
def execKeyUpdate (path : ZPath) (frame : Bytes) (s : State) : Host.Outcome State Fault Refusal := .next (s.zRow 0x0005 path frame)

/-- KEY_LOAD_INITIAL (R125): a frame of this opcode arrives. -/
def execKeyLoadInitial (path : ZPath) (frame : Bytes) (s : State) : Host.Outcome State Fault Refusal := .next (s.zRow 0x0006 path frame)

/-- FW_ACTIVATE (R494 R495): a frame of this opcode arrives. -/
def execFwActivate (path : ZPath) (frame : Bytes) (s : State) : Host.Outcome State Fault Refusal := .next (s.zRow 0x0007 path frame)

/-- CLEAT_RELEASE (R523): a frame of this opcode arrives. -/
def execCleatRelease (path : ZPath) (frame : Bytes) (s : State) : Host.Outcome State Fault Refusal := .next (s.zRow 0x0008 path frame)

/-- TICK_ELECT (R62 R63): a frame of this opcode arrives. -/
def execTickElect (path : ZPath) (frame : Bytes) (s : State) : Host.Outcome State Fault Refusal := .next (s.zRow 0x0009 path frame)

/-- PAIR_FAILOVER (R570 R572): a frame of this opcode arrives. -/
def execPairFailover (path : ZPath) (frame : Bytes) (s : State) : Host.Outcome State Fault Refusal := .next (s.zRow 0x000A path frame)

/-- DUMP_TRIGGER (R562): a frame of this opcode arrives. -/
def execDumpTrigger (path : ZPath) (frame : Bytes) (s : State) : Host.Outcome State Fault Refusal := .next (s.zRow 0x000B path frame)

/-- OWNER_CHANGE (R96 R115): a frame of this opcode arrives. -/
def execOwnerChange (path : ZPath) (frame : Bytes) (s : State) : Host.Outcome State Fault Refusal := .next (s.zRow 0x000C path frame)

/-- REG_WRITE_KEYED (R115 R116 R120): a frame of this opcode arrives. -/
def execRegWriteKeyed (path : ZPath) (frame : Bytes) (s : State) : Host.Outcome State Fault Refusal := .next (s.zRow 0x000D path frame)

/-- SESSION_OPEN (R128): a frame of this opcode arrives. -/
def execSessionOpen (path : ZPath) (frame : Bytes) (s : State) : Host.Outcome State Fault Refusal := .next (s.zRow 0x0F00 path frame)

/-- SESSION_CLOSE (R129): a frame of this opcode arrives. -/
def execSessionClose (path : ZPath) (frame : Bytes) (s : State) : Host.Outcome State Fault Refusal := .next (s.zRow 0x0F01 path frame)

/-- REG_READ (R128 R130): a frame of this opcode arrives. -/
def execRegRead (path : ZPath) (frame : Bytes) (s : State) : Host.Outcome State Fault Refusal := .next (s.zRow 0x0F02 path frame)

/-- REG_WRITE (R128): a frame of this opcode arrives. -/
def execRegWrite (path : ZPath) (frame : Bytes) (s : State) : Host.Outcome State Fault Refusal := .next (s.zRow 0x0F03 path frame)

/-! Around the unit. -/

/-- KEY_PENDING_EFFECT (R126): from the pending change's boundary, where TICK_BOUNDARY makes it before it opens the window,
the new key and binding replace the old. -/
def execKeyPendingEffect (slot : Nat) (s : State) : Host.Outcome State Fault Refusal :=
  match Tab.get (fun _ => none) s.psto.keyPend slot with
  | none => .next s
  | some c => if s.pwr.aux ∧ s.tick.running ∧ c.boundary ≤ s.nowTick then .next (s.keyEffect slot) else .next s

/-- Ticks of the session's idle limit (R129 R131). -/
def State.idleTicks (s : State) : Nat := 2 ^ min 26 (max 16 (s.fget (zynPg 0) 0x40 4 0))

/-- Idle ticks of the session that TICK has counted since its last valid frame (R129). -/
def State.idleTime (s : State) : Nat := s.zyn.sessSpent + (s.nowTick - s.zyn.sessTick)

/-- SESSION_IDLE_TIMEOUT (R129): once the limit has passed by TICK; where TICK has not run all the time since the last valid
frame, the management controller's own timer says that it has. -/
def execSessionIdleTimeout (s : State) : Host.Outcome State Fault Refusal :=
  if !s.zyn.sessOff && decide (s.idleTime < s.idleTicks) then .next s else .next s.closeSession

/-- MGMT_LINK_LOSS (R129). -/
def execMgmtLinkLoss (s : State) : Host.Outcome State Fault Refusal := .next s.closeSession

/-- HWM_PERSISTED (R121 R122 R125): an origin's mark is in the persistent store; what waited for it executes. -/
def execHwmPersisted (origin : Nat) (s : State) : Host.Outcome State Fault Refusal :=
  if !s.pwr.aux then .next s
  else
    match hwmIdx origin with
    | some i => .next (s.persistHwm i).zAfterPersist
    | none => .next s

/-- The mailbox of a host port reads the LEN bytes of its frame, and the frame comes to the Zynken unit (R112). -/
def State.readMailbox (s : State) (h : Nat) (frame : Bytes) : State :=
  let f := frame.take (s.fget (hostPg h 2) 0x50 8 0)
  if Tab.get (fun _ => ZBox.idle) s.zyn.mailbox h = .reading ∧ s.zReach (.host h) = true ∧ s.bget (hostPg h 0) 0x44 31 = true then
    ({ s with zyn := { s.zyn with mailbox := Tab.set (fun _ => ZBox.idle) s.zyn.mailbox h (.owed f) } }).zArrive (.host h) f
  else s

/-- ZCMD_GO (R112): a write of GO, accepted while no transfer is pending; then the transfer whose frame is still to be
read, the one this write begins or one that GO began through another write, reads it as `frame`. -/
def execZcmdGo (w : RegWrite) (frame : Bytes) (s : State) : Host.Outcome State Fault Refusal :=
  match locate w.addr with
  | some (p, off) =>
    if p.cls = .host ∧ p.page = 2 ∧ off = 0x50 ∧ bit w.value.toNat 31 = true then
      .next ((s.cycleWrites [w]).readMailbox p.inst frame)
    else .next s
  | none => .next s

end Sys2Proof.Machine
end

