-- ==== Sys2Proof/Machine/Firmware.lean ====
section
/-! DEFINITION. Firmware: the image check of an activation, the reload of clusters, and the end of a staging
(16_halyard_engines.md R493-R497, 21_bringup_service.md R608 R609). -/

namespace Sys2Proof.Machine

def State.fwActOf (s : State) (kind : Nat) : Option FwAct := Tab.get (fun _ => none) s.fw.act kind
def State.setFwAct (s : State) (kind : Nat) (a : Option FwAct) : State :=
  { s with fw := { s.fw with act := Tab.set (fun _ => none) s.fw.act kind a } }
def State.reloadOf (s : State) (c : Nat) : Option (Nat × Nat × Bool) := Tab.get (fun _ => none) s.fw.reload c
def State.setReload (s : State) (c : Nat) (r : Option (Nat × Nat × Bool)) : State :=
  { s with fw := { s.fw with reload := Tab.set (fun _ => none) s.fw.reload c r } }

/-- The image check of an activation, with the VERSION and DIGEST8 that its command expects (R493 R495). -/
def State.activationCheck (s : State) (kind : Nat) (a : FwAct) : Nat :=
  let b := s.fwImage kind a.bank
  let c := s.imageCheck kind a.bank
  if c ≠ 0 then c
  else if zp a.frame 4 2 ≠ imVersion b then 5
  else if slice (zPayload a.frame) 8 8 ≠ (imDigest b).take 8 then 4
  else 0

/-- FW_IMAGE_CHECK_END (R495 R609): the reply is sent, with the tick of execution, or of a refusal that the check makes;
KIND 2 names the bank to boot, KIND 1 waits for the next
boundary. -/
def execFwImageCheckEnd (kind : Nat) (s : State) : Host.Outcome State Fault Refusal :=
  match s.fwActOf kind with
  | none => .next s
  | some a =>
    if a.checked || !s.pwr.aux || s.zyn.mcReset then .next s
    else
      let c := s.activationCheck kind a
      if c ≠ 0 then .next ((s.setFwAct kind none).zFinish a.path a.frame stAuthFail 0xFFFF c)
      else
        let s := if kind = 2 then ((s.setFwAct 2 none).fput (pstoPg 1) 0x60 1 1 a.bank).chg (pstoPg 1)
          else s.setFwAct kind (some { a with checked := true })
        .next ((s.zRecord a.path a.frame stOk 0xFFFF).zAnswerAt a.tick a.path a.frame stOk 0xFFFF 0)

/-- A checked activation of KIND 1 begins at a boundary: clusters that are not ACTIVE record the bank (R495 R497). -/
def State.beginFw (s : State) : State :=
  match s.fwActOf 1 with
  | none => s
  | some a =>
    if !a.checked || a.begun then s
    else
      let glb := decide (oClass (zObj a.frame) = 1)
      let cs := if glb then List.range 16 else [oInst (zObj a.frame)]
      let on (c : Nat) : Bool := decide (s.svcState (cluPg c) = svcActive)
      let pend := (cs.filter (fun c => !on c)).foldl (fun t c => Tab.set (fun _ => none) t c (some a.bank)) s.fw.pendBank
      let todo := cs.filter on
      let s := { s with fw := { s.fw with pendBank := pend,
                                          raiseBank := if glb && a.raiseSvn then some a.bank else s.fw.raiseBank } }
      if todo.isEmpty then (s.setFwAct 1 none).settleSvn else s.setFwAct 1 (some { a with begun := true, todo := todo })

/-- A cluster is no longer to be reloaded; with the last of them the activation ends (R495). -/
def State.reloadDone (s : State) (c : Nat) : State :=
  match s.fwActOf 1 with
  | none => s.settleSvn
  | some a =>
    let todo := a.todo.filter (fun d => decide (d ≠ c))
    if todo.isEmpty then (s.setFwAct 1 none).settleSvn else s.setFwAct 1 (some { a with todo := todo })

/-- CLUSTER_RELOAD (R496 R497): even clusters before odd ones, each once its buddy is ACTIVE; a cluster that is no
longer ACTIVE records the bank. -/
def execClusterReload (cluster : Nat) (s : State) : Host.Outcome State Fault Refusal :=
  match s.fwActOf 1 with
  | none => .next s
  | some a =>
    if s.fatal || !a.begun || !decide (cluster ∈ a.todo) || (s.reloadOf cluster).isSome then .next s
    else if s.svcState (cluPg cluster) ≠ svcActive then
      let pend := Tab.set (fun _ => none) s.fw.pendBank cluster (some a.bank)
      .next (({ s with fw := { s.fw with pendBank := pend } }).reloadDone cluster)
    else if s.svcState (cluPg (Nat.xor cluster 1)) ≠ svcActive ∨ (cluster % 2 = 1 ∧ a.todo.any (fun d => decide (d % 2 = 0)) = true) then
      .next s
    else .next ((s.bput (cluPg cluster) 0x40 1 true).setReload cluster (some (s.nowTick, a.bank, false)))

/-- The self-check verdicts of a cluster's engines in a reload (R496 R548): a failing engine is retired. -/
def State.reloadVerdict (s : State) (fails : List Nat) (e : Nat) : State :=
  let p := engPg e
  if e ∈ fails then
    (((s.putVerdict p 3 2 1).logErr p 0 0 0 3 2 acEngine).cleatAbandonOrigin (0x100 + e)).retire p
  else (s.setVerdict p 3 1 0).cleatAbandonOrigin (0x100 + e)

/-- CLUSTER_RELOAD_COMPLETE (R496): every engine of the cluster has ended its self-check; `failed` lists the engines,
0-127, that failed. -/
def execClusterReloadComplete (cluster : Nat) (failed : List Nat) (s : State) : Host.Outcome State Fault Refusal :=
  match s.reloadOf cluster with
  | none => .next s
  | some (_, bank, _) =>
    if s.fatal then .next s
    else
      let es := (List.range 8).map (fun n => 8 * cluster + n)
      let tested := es.filter (fun e => s.works (engPg e))
      let bad := tested.filter (fun e => decide (e ∈ failed))
      let p := cluPg cluster
      let s := s.setReload cluster none
      if bad.length = tested.length then
        let s := tested.foldl (fun s e => (s.putVerdict (engPg e) 3 2 1).cleatAbandonOrigin (0x100 + e)) s
        let s := ((s.bput p 0x40 1 false).bput p 0x40 2 true).bump p 8 1
        let s := { s with fw := { s.fw with raiseBank := none } }
        .next ((s.raise p 18).reloadDone cluster)
      else
        let s := tested.foldl (fun s e => s.reloadVerdict bad e) s
        .next (((s.clusterRuns cluster bank).bump p 7 1).reloadDone cluster)

/-- RELOAD_TIMEOUT (R496): raised once for a reload, 1,024 tk after it began. -/
def execReloadTimeout (cluster : Nat) (s : State) : Host.Outcome State Fault Refusal :=
  match s.reloadOf cluster with
  | none => .next s
  | some (start, bank, told) =>
    if told || decide (s.nowTick < start + 1024) then .next s
    else .next ((s.setReload cluster (some (start, bank, true))).raise (cluPg cluster) 19)

/-- STAGING_END (R608 R611): the bank is written, with what was read from host memory (`image`) or with what came
through STAGE_DATA, and checked. -/
def execStagingEnd (image : Bytes) (s : State) : Host.Outcome State Fault Refusal :=
  let p := pstoPg 1
  if !s.pwr.aux || !s.bget p 0x5C 31 then .next s
  else
    let kind := s.fget p 0x40 5 4
    let bank := s.fget p 0x40 0 0
    let len := min (s.fget p 0x50 20 0) (2 ^ 20)
    let b := if s.bget p 0x40 12 then image.take len else s.stageBytes len
    let i := fwIdx kind bank
    let s := { s with psto := { s.psto with fwBank := Tab.set (fun _ => ([] : Bytes)) s.psto.fwBank i b,
                                            fwBroken := Tab.set (fun _ => false) s.psto.fwBroken i false } }
    let c := s.imageCheck kind bank
    let s := ((s.put p 0x5C (2 ^ 30 + c)).bput p 0x40 31 false).bump p 0 1
    .next (s.bump p 1 (b2n (decide (c ≠ 0))))

end Sys2Proof.Machine
end

