-- ==== Sys2Proof/Machine/LanyLib.lean ====
section
/-! DEFINITION. The Lanyard pair: journal records and runs, the mirror, and adoption (16_halyard_engines.md R499-R501,
19_reliability.md R563-R576). Records are built and read as LANY frames carry them, most significant byte first. -/

namespace Sys2Proof.Machine

/-! Shares and their holders (R499 R501). -/

/-- The lowest ACTIVE engine of a cluster with TICK set, unless the cluster is reloading (R496). -/
def State.tickEngine (s : State) (c : Nat) : Option Nat :=
  if s.bget (cluPg c) 0x40 1 then none else ((List.range 8).map (fun n => 8 * c + n)).find? (fun e => s.engRole e 0)

/-- The engine that is to hold share c. -/
def State.shareHolder (s : State) (c : Nat) : Option Nat :=
  match s.tickEngine c with
  | some e => some e
  | none => s.tickEngine (Nat.xor c 1)

/-- CL_SHARE at a boundary: the share moves unless its run is in progress. -/
def State.moveShare (s : State) (c : Nat) : State :=
  let p := cluPg c
  let s := if Tab.get (fun _ => false) s.tick.busy (16 + c) then s
    else
      match s.shareHolder c with
      | some e => s.put p 0x44 (e + 128 * b2n (decide (e / 8 ≠ c)))
      | none =>
        let was := s.bget p 0x44 8
        let s := s.put p 0x44 256
        if was then s else s.raise p 17
  if s.bget p 0x44 8 then s.bump p 9 1 else s

/-- Every share at a boundary, and ENG_STAT.SHARE of every engine. -/
def State.moveShares (s : State) : State :=
  let s := (List.range 16).foldl State.moveShare s
  let held (e : Nat) : Bool := (List.range 16).any (fun c => decide (s.get (cluPg c) 0x44 % 256 % 128 = e) && !s.bget (cluPg c) 0x44 8)
  (List.range 128).foldl (fun s e => if s.bget (engPg e) 0x44 4 = held e then s else s.bput (engPg e) 0x44 4 (held e)) s

/-! Records (R569 R571). -/

/-- Code of a transmit half's state (R276, in the order of its table). -/
def txCode : Option TxHalf → Nat
  | none => 0
  | some h => match h.state with
    | .syn => 1
    | .opened => 2
    | .closing => 3

/-- TX_OLDEST: the lowest sequence number unacknowledged. -/
def TxHalf.oldest (h : TxHalf) : Nat :=
  h.unacked.foldl (fun a p => if serLt 24 p.seq a then p.seq else a) h.txNext

/-- The ceiling that a run sets (R566). -/
def TxHalf.nextCeil (h : TxHalf) : Nat :=
  wrapAdd 24 h.oldest (min (wrapSub 24 h.txNext h.oldest + 512) 1024)

/-- CTX record (R571). -/
def ctxRec (c : Ctx) : Bytes :=
  let flags := b2n c.tx.isSome + 2 * b2n c.rx.isSome + 4 * b2n c.crossed +
    8 * b2n (match c.rx with | some r => r.gapped | none => false) + 16 * txCode c.tx
  let tx (f : TxHalf → Nat) : Nat := match c.tx with | some h => f h | none => 0
  let rx (f : RxHalf → Nat) : Nat := match c.rx with | some r => f r | none => 0
  let sack (r : RxHalf) : Nat :=
    (List.range 64).foldl (fun n i => if wrapAdd 24 r.rcvNext (1 + i) ∈ r.received then n + 2 ^ i else n) 0
  beBytes 1 1 ++ beBytes 1 flags ++ beBytes 2 (tx TxHalf.cgen) ++ beBytes 3 (agAddr c.loc) ++
    beBytes 1 (agKind c.loc + 4 * agKind c.rem) ++ beBytes 3 (agAddr c.rem) ++ zeros 1 ++ beBytes 3 (tx TxHalf.txNext) ++ zeros 1 ++
    beBytes 3 (tx TxHalf.oldest) ++ zeros 1 ++ beBytes 3 (tx TxHalf.nextCeil) ++ zeros 1 ++ beBytes 2 (rx RxHalf.cgen) ++
    beBytes 3 (rx RxHalf.rcvNext) ++ beBytes 3 (rx RxHalf.doneNext) ++ beBytes 8 (rx sack) ++ beBytes 4 (tx TxHalf.nextMsg) ++
    zeros 4 ++ beBytes 8 c.touched ++ zeros 8

/-- PKT record. -/
def pktRec (p : Bytes) : Bytes :=
  let n := if pkLen p ≤ 32 then pkLen p else 0
  let b := beBytes 1 2 ++ beBytes 1 n ++ zeros 6 ++ patch (patch (slice p 0 32) 0xC (zeros 4)) 0x1C (zeros 4) ++ slice p 32 32 ++
    slice p 64 n
  padTo b (8 * ceilDiv b.length 8)

/-- MSG record: an adopted message keeps the one it came with. -/
def State.msgRec (s : State) (c : Ctx) (cgen : Nat) (m : TxMsg) : Bytes :=
  let d := match s.desc m.vi m.desc with | some d => (d.queue, d.bytes) | none => (0, [])
  beBytes 1 3 ++ beBytes 1 d.1 ++ beBytes 2 m.vi ++ beBytes 1 (dCplq d.2) ++ beBytes 1 (dOpcode d.2) ++ beBytes 2 cgen ++
    beBytes 8 (dCookie d.2) ++ beBytes 8 m.laddr ++ beBytes 4 m.len ++ beBytes 4 m.id ++ beBytes 3 (agAddr c.rem) ++ zeros 5

/-- REC, and the fields that name what a record is about: CGEN and peer, and for PKT and MSG the sequence number or
message. -/
def jrRec (b : Bytes) : Nat := beAt b 0 1
def jrKey (b : Bytes) : Nat × Nat × Nat × Nat :=
  match jrRec b with
  | 1 => (1, beAt b 2 2, beAt b 8 3, 0)
  | 2 => (2, pkCgen (b.drop 8), pkDest (b.drop 8), pkSeq (b.drop 8))
  | 3 => (3, beAt b 6 2, beAt b 0x20 3, beAt b 0x1C 4)
  | _ => (0, 0, 0, 0)

/-- END record for what a record was about. -/
def endRec (b : Bytes) : Bytes :=
  let (r, cgen, peer, n) := jrKey b
  let what := if r = 2 then 0 else if r = 3 then 1 else 2
  beBytes 1 4 ++ beBytes 1 what ++ beBytes 2 cgen ++ beBytes 3 peer ++ zeros 1 ++ beBytes 4 n ++ zeros 4

/-- COMMIT record. -/
def commitRec (c n tick : Nat) : Bytes := beBytes 1 5 ++ beBytes 1 c ++ zeros 2 ++ beBytes 4 n ++ beBytes 8 tick

/-! A run (R566 R567). -/

/-- The records of one context: its own, its packets' and its messages'. -/
structure CtxJ where
  own : Bytes
  pkts : List Bytes
  msgs : List Bytes
deriving DecidableEq, Repr

def State.ctxJ (s : State) (c : Ctx) : CtxJ :=
  match c.tx with
  | none => ⟨ctxRec c, [], []⟩
  | some h => ⟨ctxRec c, h.unacked.map (fun p => pktRec p.pkt), h.msgs.map (s.msgRec c h.cgen)⟩

/-- Splits records among frames of at most 240 bytes of records (R163 R564). -/
def lanyChunks : List Bytes → Bytes → List Bytes
  | [], acc => if acc = [] then [] else [acc]
  | r :: t, acc => if 240 < acc.length + r.length then acc :: lanyChunks t r else lanyChunks t (acc ++ r)

/-- Contexts of a share's host port that are the module's own. -/
def State.shareCtxs (s : State) (c : Nat) : List Ctx := (s.portCtxs c).filter (fun x => !x.adopted)

/-- The run of a share: what has changed since its last committed run, every packet left unacknowledged, what has ended,
and COMMIT. An UNCOVERED share journals everything. -/
def State.journalRun (s : State) (c : Nat) : State :=
  if s.lanyUp.isNone then s
  else
    let old := if s.bget (lanyPg 1) (0x40 + 4 * c) 31 then [] else Tab.get (fun _ => ([] : List Bytes)) s.lany.journalled c
    let xs := s.shareCtxs c
    let js := xs.map s.ctxJ
    let now := js.flatMap (fun j => j.own :: (j.pkts ++ j.msgs))
    let changed (j : CtxJ) : Bool := decide (j.own ∉ old) || j.msgs.any (fun m => decide (m ∉ old))
    let keys := now.map jrKey
    let ends := (old.filter (fun b => decide (jrKey b ∉ keys))).map endRec
    let recs := js.flatMap (fun j => if changed j then j.own :: j.msgs else []) ++ js.flatMap CtxJ.pkts ++ ends
    let all := recs ++ [commitRec c recs.length s.nowTick]
    let s := (lanyChunks all []).foldl (fun s b => s.sendLany 1 c b) s
    let ceils := xs.filterMap (fun x => x.tx.map (fun (h : TxHalf) => (x.loc, x.rem, h.nextCeil)))
    let run : LanyRun := ⟨s.nowTick, now, ceils⟩
    let q := Tab.get (fun _ => ([] : List LanyRun)) s.lany.awaiting c
    ({ s with lany := { s.lany with awaiting := Tab.set (fun _ => ([] : List LanyRun)) s.lany.awaiting c (q ++ [run]) } }).bump
      (lanyPg 0) 1 all.length

/-! The mirror (R567 R568). -/

/-- Length of the record that a run of bytes begins with; 0 for none. -/
def jrLen (b : Bytes) : Nat :=
  match jrRec b with
  | 1 => 64
  | 2 => 8 * ceilDiv (72 + beAt b 1 1) 8
  | 3 => 40
  | 4 => 16
  | 5 => 16
  | _ => 0

def splitRecs : Nat → Bytes → List Bytes
  | 0, _ => []
  | f + 1, b => if jrLen b = 0 ∨ b.length < jrLen b then [] else b.take (jrLen b) :: splitRecs f (b.drop (jrLen b))

/-- A run is applied to a mirror: its contexts with their messages replace the old ones, its packets all packets, and
what has ended goes. -/
def applyRun (mirror recs : List Bytes) : List Bytes :=
  let ctxs := recs.filter (fun b => decide (jrRec b = 1))
  let renewed (b : Bytes) : Bool := ctxs.any (fun x => decide (beAt x 2 2 = (jrKey b).2.1 ∧ beAt x 8 3 = (jrKey b).2.2.1))
  let ends := recs.filter (fun b => decide (jrRec b = 4))
  let ended (b : Bytes) : Bool := ends.any (fun e =>
    decide (beAt e 2 2 = (jrKey b).2.1 ∧ beAt e 4 3 = (jrKey b).2.2.1) &&
      (decide (beAt e 1 1 = 2) || (decide (beAt e 1 1 = 1 ∧ jrRec b = 3 ∧ beAt e 8 4 = (jrKey b).2.2.2))))
  let samePeer (b : Bytes) : Bool := decide (jrRec b = 1) && ctxs.any (fun x => decide (beAt x 7 4 = beAt b 7 4))
  mirror.filter (fun b => !decide (jrRec b = 2) && !renewed b && !ended b && !samePeer b) ++
    recs.filter (fun b => decide (jrRec b = 1 ∨ jrRec b = 2 ∨ jrRec b = 3))

/-- COMMIT of a run of the twin: the mirror takes it when it is whole; a mirror that would exceed MIRROR_MIB is dropped.
When every share has been taken, SYNC_DONE goes back. -/
def State.takeCommit (s : State) (c : Nat) (commit : Bytes) : State :=
  let recs := Tab.get (fun _ => ([] : List Bytes)) s.lany.staged c
  let s := { s with lany := { s.lany with staged := Tab.set (fun _ => ([] : List Bytes)) s.lany.staged c [] } }
  if recs.length ≠ beAt commit 4 4 ∨ beAt commit 1 1 ≠ c then s
  else
    let m := applyRun (Tab.get (fun _ => ([] : List Bytes)) s.lany.mirror c) recs
    let size := m.foldl (fun n b => n + b.length) 0
    let fits := decide (size ≤ s.fget (lanyPg 0) 0x44 31 24 * 2 ^ 20)
    let m := if fits then m else []
    let new := fits && !decide (c ∈ s.lany.got)
    let got := if !fits then s.lany.got.filter (fun d => decide (d ≠ c)) else if new then s.lany.got ++ [c] else s.lany.got
    let s := { s with lany := { s.lany with mirror := Tab.set (fun _ => ([] : List Bytes)) s.lany.mirror c m, got := got } }
    let s := s.fput (lanyPg 1) (0x40 + 4 * c) 15 0 (if fits then size / 2 ^ 20 else 0)
    if new && decide (got.length = 16) then s.sendLany 4 0 [] else s

/-- The records of a JOURNAL frame. -/
def State.takeJournal (s : State) (f : Bytes) : State :=
  let c := beAt f 1 1 % 16
  (splitRecs (beAt f 2 2) (slice f 16 (beAt f 2 2))).foldl (fun s r =>
    if jrRec r = 5 then s.takeCommit c r
    else { s with lany := { s.lany with
      staged := Tab.upd (fun _ => ([] : List Bytes)) s.lany.staged c (fun q => q ++ [r]) } }) s

/-- The oldest LANY frame of a kind that waits at a port, from the twin. -/
def State.takeLany (s : State) (port sub : Nat) : Option (Bytes × State) :=
  match (s.link port).lanyIn.find? (fun f => decide (beAt f 0 1 = sub)) with
  | none => none
  | some f => some (f, s.updLink port (fun l => { l with lanyIn := l.lanyIn.erase f }))

/-- The frame's sender is the expected twin, while pairing is enabled. -/
def State.fromTwin (s : State) (f : Bytes) : Bool :=
  s.bget (lanyPg 0) 0x40 31 && decide (beAt f 4 8 = s.get64 (lanyPg 0) 0x48)

/-- Ticks after which a twin or a share counts as lost (R565 R567 R580). -/
def State.lostTicks (s : State) : Nat := 2 ^ max 4 (s.fget (lanyPg 0) 0x40 26 22)

/-! Adoption (R572-R575). -/

/-- A mirrored packet: the record's headers, with its payload. -/
def recPkt (r payload : Bytes) : Bytes :=
  let p := slice r 8 64
  p ++ padTo (if beAt r 1 1 = 0 then payload else slice r 72 (beAt r 1 1)) (pkLen p)

/-- Whether a packet's payload must be read again. -/
def needsPayload (r : Bytes) : Bool := decide (beAt r 1 1 = 0 ∧ pkLen (slice r 8 64) ≠ 0)

/-- Pairs packet records with the payloads read again, in order. -/
def recPkts : List Bytes → List Bytes → List Bytes
  | [], _ => []
  | r :: t, ps =>
    if needsPayload r then
      match ps with
      | p :: ps => recPkt r p :: recPkts t ps
      | [] => recPkt r [] :: recPkts t []
    else recPkt r [] :: recPkts t ps

/-- Kind of an adopted message, by its descriptor's opcode (R452); an ATOMIC fetches as its mirrored packet says. -/
def kindOf (op : Nat) (fetching : Bool) : MsgKind :=
  match op with
  | 1 => .put
  | 2 => .putSignal
  | 3 => .get
  | 4 => if fetching then .fetch else .atomic
  | _ => .msend

/-- An adopted message. It waits for the disposal of its mirrored packets, or of the last packet acknowledged; a message
of which more was to be sent ends with the half (R574). -/
def State.adoptMsg (s : State) (rec : Bytes) (loc rem vi oldest : Nat) (pkts : List Bytes) : TxMsg :=
  let id := beAt rec 0x1C 4
  let len := beAt rec 0x18 4
  let mine := pkts.filter (fun p => decide (pkMsg p = id ∧ (pkType p = 1 ∨ pkType p = 2)))
  let kind := kindOf (beAt rec 5 1) (mine.any (fun p => bit (pkRflags p) 6))
  let reads := (mine.filter (fun p => decide (pkOpcode p = 0x11 ∧ pkType p = 1))).map (fun p =>
    (⟨pkOfs p, beAt p 64 4, pkSeq p, false⟩ : RdReq))
  let whole := match kind with
    | .get => decide (reads.foldl (fun n r => n + r.len) 0 = len)
    | _ => mine.any pkLast || (mine.isEmpty && decide (len ≤ 8192))
  let dst := match mine with | p :: _ => pkDstVi p | [] => 0
  { id := id, vi := vi, desc := 0, kind := kind, len := len, hdr := s.msgHdr loc rem vi dst (zeros 12), laddr := beAt rec 0x10 8,
    keys := 0, fence := false, ofs := len, paced := none, reads := reads, fetching := decide (kind = .fetch), status := none,
    seqs := if mine.isEmpty then [wrapSub 24 oldest 1] else mine.map pkSeq, allSent := whole, announced := false,
    granted := 0, adopt := rec }

/-- A mirrored context of a host-port endpoint is adopted: halves restored, packets sent again, the gap fill and CLOSE
(R572 R573). One without a transmit half only resets its peer's direction. -/
def State.adoptCtx (s : State) (share : Nat) (r : Bytes) (pkts msgs : List Bytes) : State :=
  let flags := beAt r 1 1
  let loc := s.locEp share
  let rem := 2 ^ 28 + 16 * beAt r 8 3 + fld (beAt r 7 1) 3 2
  let u := s.unitOf loc rem
  let rcv := beAt r 0x1A 3
  let rx : Option RxHalf := if bit flags 1 then some
    { cgen := beAt r 0x18 2, rcvNext := rcv,
      received := ((List.range 64).filter (fun i => bit (beAt r 0x20 8) i)).map (fun i => wrapAdd 24 rcv (1 + i)),
      held := [], undisposed := [], closeSeq := none, ackDue := false, inOrder := 0, anns := [], openMsgs := [], rejected := [],
      gapped := bit flags 3 } else none
  if !bit flags 0 then (match rx with | some x => s.sendReset loc rem x.cgen | none => s)
  else if s.ctxFull u then s
  else
    let cgen := beAt r 2 2
    let next := beAt r 0xC 3
    let oldest := beAt r 0x10 3
    let ceil := beAt r 0x14 3
    let h0 := s.newTx loc rem
    let mk (p : Bytes) : UPkt :=
      { pkt := p, seq := pkSeq p, first := s.nowTick, last := s.nowTick, copies := 1, interval := s.rto u h0, heldTicks := 0, stalled := 0 }
    let h : TxHalf :=
      { h0 with state := if fld flags 6 4 = 1 then .syn else .opened, cgen := cgen, txNext := next, unacked := pkts.map mk,
                msgs := msgs.map (fun m => s.adoptMsg m loc rem (viOf share (beAt m 2 2 % 256)) oldest pkts),
                nextMsg := beAt r 0x28 4, ceil := none }
    let c : Ctx := { newCtx loc rem with tx := some h, rx := rx, adopted := true, crossed := bit flags 2, touched := s.nowTick }
    let s := s.updXpt u (fun x => { x with ctxs := x.ctxs ++ [c] })
    let s := ((s.bump (lanyPg 0) 3 1).fput (lanyPg 0) 0x50 19 0 (s.fget (lanyPg 0) 0x50 19 0 + 1)).bump (lanyPg 0) 4 pkts.length
    if s.noRoute loc rem then s.endHalf loc rem stUnreachable
    else
    let s := pkts.foldl (fun s p => (s.noteCopy loc rem true).sendCopy loc rem p true) s
    let n := wrapSub 24 ceil next
    let s := if n = 0 then s else
      ((s.sendNew loc rem (s.hdr 0 loc rem 0 ++ patch (wiluthHdr 1 2 0 0 0 0 []) 0x10 (beBytes 4 n))).bump (lanyPg 0) 5 1).bump
        (xptPg u 0) 13 1
    (s.updTx loc rem (fun h => { h with txNext := ceil })).sendClose loc rem

/-- The records of one context in a mirror. -/
def ofCtx (r : Bytes) (n : Nat) (m : List Bytes) : List Bytes :=
  m.filter (fun b => decide (jrRec b = n ∧ (jrKey b).2.1 = beAt r 2 2 ∧ (jrKey b).2.2.1 = beAt r 8 3))

/-- Adopts the contexts of a share one after another, taking each one's payloads from the front. -/
def State.adoptAll (share : Nat) (m : List Bytes) : List Bytes → List Bytes → State → State
  | [], _, s => s
  | r :: t, ps, s =>
    let recs := ofCtx r 2 m
    let n := (recs.filter needsPayload).length
    State.adoptAll share m t (ps.drop n) (s.adoptCtx share r (recPkts recs (ps.take n)) (ofCtx r 3 m))

end Sys2Proof.Machine
end

