-- ==== Sys2Proof/Machine/DumpLib.lean ====
section
/-! DEFINITION. The sections of a state dump and its image (19_reliability.md R557-R561, R569; 11 R311, 12 R352 R353,
13 R396). -/

namespace Sys2Proof.Machine

/-! Record images, least significant byte first (R9). -/

/-- Reverses the fields, by offset and length, of a record that is held most significant byte first. -/
def swapFields (b : Bytes) (fs : List (Nat × Nat)) : Bytes := fs.foldl (fun b f => patch b f.1 (slice b f.1 f.2).reverse) b

/-- A record of R569 or R571 as a dump stores it; the headers that a PKT record carries keep their own order. -/
def storedRec (b : Bytes) : Bytes :=
  match jrRec b with
  | 1 => swapFields b [(2, 2), (4, 3), (8, 3), (0xC, 3), (0x10, 3), (0x14, 3), (0x18, 2), (0x1A, 3), (0x1D, 3), (0x20, 8), (0x28, 4),
                       (0x30, 8)]
  | 3 => swapFields b [(2, 2), (6, 2), (8, 8), (0x10, 8), (0x18, 4), (0x1C, 4), (0x20, 3)]
  | _ => b

/-- A window descriptor (R311). -/
def State.winBytes (s : State) (i : Nat) : Bytes :=
  let w := s.win i
  leBytes 8 w.base ++ leBytes 8 w.len ++ leBytes 2 (w.state * 2 ^ 14 + s.winGen i) ++ leBytes 1 w.rights ++ leBytes 1 w.attr ++
    leBytes 2 w.owner ++ leBytes 1 w.eq ++ zeros 1 ++ leBytes 4 w.kr ++ leBytes 2 w.ctr ++ zeros 2 ++ leBytes 3 w.srcAddr ++
    leBytes 1 w.srcPlen ++ leBytes 1 w.srcVi ++ leBytes 1 w.srcFlags ++ zeros 10 ++ leBytes 8 w.regTick ++ leBytes 4 w.revTick ++
    zeros 4

/-- A posted entry of VI v (R352); the index of the next entry of its list is open. -/
def State.postedBytes (s : State) (v : Nat) (e : Posted) : Bytes × State :=
  let (next, s) := s.free
  (leBytes 8 e.buf ++ leBytes 4 e.bufLen ++ leBytes 2 e.comm ++ leBytes 3 e.srcRank ++
    leBytes 1 (b2n e.anySrc + 2 * b2n e.anyTag) ++ leBytes 4 e.tag ++ leBytes 1 e.cq ++ leBytes 1 e.queue ++ leBytes 8 e.stamp ++
    leBytes 8 e.cookie ++ leBytes 4 next ++ leBytes 2 v ++ zeros 2 ++ leBytes 8 e.postTick ++ zeros 8, s)

/-- An unexpected entry of VI v (R353); its bounce slots and the next entries of its lists are open. -/
def State.unexpBytes (s : State) (v : Nat) (e : Unexp) : Bytes × State :=
  let (slot0, s) := s.free
  let (slot1, s) := s.free
  let (bin, s) := s.free
  let (arr, s) := s.free
  (leBytes 8 e.stamp ++ leBytes 4 e.msgLen ++ leBytes 2 e.comm ++ leBytes 3 e.srcRank ++
    leBytes 1 (b2n e.announced + 4 * b2n e.complete + 8 * b2n e.claimed) ++ leBytes 4 e.tag ++ leBytes 3 e.src ++ leBytes 1 e.srcVi ++
    leBytes 2 v ++ leBytes 4 e.msgId ++ leBytes 4 (if e.slots = 0 then 0xFFFFFFFF else slot0) ++
    leBytes 4 (if e.slots < 2 then 0xFFFFFFFF else slot1) ++ leBytes 4 bin ++ leBytes 4 arr ++ leBytes 8 e.arrTick ++
    leBytes 2 e.cgen ++ zeros 6, s)

/-- A group record, in the layout of a COMMIT payload (R396). -/
def Group.image (x : Group) (g : Nat) : Bytes :=
  let up := x.parent.getD (0xFFFFFF, 0xFFFF)
  let kind (e : Slot) : Nat := if e.excused.isSome then 3 else e.kind
  leBytes 1 3 ++ zeros 1 ++ leBytes 2 x.epoch ++ leBytes 4 x.ctag ++ leBytes 3 x.creator ++ zeros 1 ++ leBytes 2 g ++
    leBytes 2 up.2 ++ leBytes 3 up.1 ++ zeros 1 ++ leBytes 2 up.2 ++ leBytes 2 (x.firstStep % 2 ^ 16) ++ leBytes 3 x.members ++
    leBytes 1 x.slots.length ++ zeros 36 ++
    x.slots.flatMap (fun e => leBytes 1 (kind e) ++ leBytes 3 e.id ++ leBytes 2 e.ref ++ leBytes 2 (e.fromStep % 2 ^ 16))

/-- A port's link state (R559): how wide TX_NEXT, RX_NEXT and EPOCH are stored is open (log 138). -/
def State.portImage (s : State) (p : Nat) : Bytes :=
  let l := s.link p
  let g (t : Tab Nat) (v : Nat) : Bytes := leBytes 2 (Tab.get (fun _ => 0) t v)
  padTo (leBytes 2 l.txNext ++ leBytes 2 l.rxNext ++ leBytes 2 (s.fget (portPg p) 0x4C 31 24) ++
    (List.range 16).flatMap (fun v => g l.sent v ++ g l.freed v ++ g l.peerFreed v ++ g l.arrived v ++ g l.limit v)) 256

/-- An entry of the error log (R579). -/
def ErrEntry.image (e : ErrEntry) : Bytes :=
  leBytes 4 e.tick ++ leBytes 4 e.page ++
    leBytes 4 (e.element % 2 ^ 16 * 2 ^ 16 + e.bit % 256 * 2 ^ 8 + e.kind % 16 * 2 ^ 4 + e.verdict % 16) ++
    leBytes 4 (e.action % 256 * 2 ^ 24 + e.ext % 2 ^ 24)

/-- A register page as the management controller reads it, with no effect. -/
def State.pageImage (s : State) (p : PageRef) : Bytes := (List.range 1024).flatMap (fun i => leBytes 4 (s.peek p (4 * i) 0))

/-- Open values have been taken from the counter. -/
def State.tookFree (s : State) (n : Nat) : State := { s with freeCtr := s.freeCtr + n }

/-- Bytes that the spec leaves open. -/
def State.freeBytes (s : State) (n : Nat) : Bytes × State :=
  ((List.range n).map (fun i => BitVec.ofNat 8 (Config.freeNat (s.freeCtr + i))), s.tookFree n)

/-- An open arrangement of a list: which of the `n` elements left comes next is a free value each time. -/
def arrange : Nat → List Nat → Nat → List Nat
  | 0, _, _ => []
  | n + 1, l, c =>
    let i := Config.freeNat c % max 1 l.length
    l.getD i 0 :: arrange n (l.take i ++ l.drop (i + 1)) (c + 1)

/-- Cell states of a tile, four cells in a byte; which cells are in which state is open (R200 R559). -/
def State.cellImage (s : State) (t : Nat) : Bytes × State :=
  let n (off k : Nat) : List Nat := List.replicate (s.get (tilePg t) off) k
  let l := n 0x4C 0 ++ n 0x50 1 ++ n 0x54 2
  let l := l ++ List.replicate (65536 - l.length) 3
  let a := arrange l.length l s.freeCtr
  ((List.range 16384).map (fun i => BitVec.ofNat 8
    (a.getD (4 * i) 0 + 4 * a.getD (4 * i + 1) 0 + 16 * a.getD (4 * i + 2) 0 + 64 * a.getD (4 * i + 3) 0)),
    s.tookFree l.length)

/-! Sections (R557 R559). -/

/-- The die whose dump holds a block (R16 R464 R557). -/
def dieOf (p : PageRef) : Nat :=
  match p.cls with
  | .host | .clu => p.inst / 8
  | .eng => p.inst / 64
  | .xpt => p.inst / 4
  | .mwu | .mtch => p.inst / 2
  | .coll => p.inst
  | .hbmc => p.inst / 3
  | .noc => if p.inst ≤ 32 then 0 else 1
  | _ => 0

/-- Register pages of a die's blocks, in BAR0 order. -/
def diePages (die : Nat) : List PageRef :=
  ((List.range 0x2000).filterMap (fun i => (locate (0x1000 * i)).map Prod.fst)).filter (fun p => decide (dieOf p = die))

/-- Instances of a die among `n`, which both dies share evenly. -/
def onDie (die n : Nat) : List Nat := (List.range (n / 2)).map (fun i => die * (n / 2) + i)

/-- An engine of the die may write dumps (R498 R557). -/
def State.dumpEngine (s : State) (die : Nat) : Bool :=
  (onDie die 128).any (fun e => s.engRole e 3)

/-- Sections gathered in order, each with what it takes of the open values. -/
def State.sections (s : State) (is : List Nat) (typ : Nat) (f : State → Nat → Bytes × State) : List (Nat × Nat × Bytes) × State :=
  is.foldl (fun a i => let r := f a.2 i; (a.1 ++ [(typ, i, r.1)], r.2)) ([], s)

/-- The posted and unexpected entries of a unit. -/
def State.matchImage (s : State) (u : Nat) : Bytes × State :=
  (s.vis.filter (fun e => decide (mtchOf e.1 = u))).foldl (fun a e =>
    let a := e.2.mtch.posted.foldl (fun a x => let r := a.2.postedBytes e.1 x; (a.1 ++ r.1, r.2)) a
    e.2.mtch.unexp.foldl (fun a x => let r := a.2.unexpBytes e.1 x; (a.1 ++ r.1, r.2)) a) ([], s)

/-- The journal's ring, behind JRNL.WR (R106). -/
def State.ringImage (s : State) : Bytes := leBytes 8 s.jrnl.wr ++ s.jrnl.ring.flatMap Prod.snd

/-- What a die's dump holds: type, instance and contents of each section (R559). -/
def State.dumpSections (s : State) (die : Nat) : List (Nat × Nat × Bytes) × State :=
  let all := 0xFFFF
  let pure (f : State → Nat → Bytes) (s : State) (i : Nat) : Bytes × State := (f s i, s)
  let zero := if die = 0 then [0] else []
  let a := s.sections [all] 1 (pure (fun s _ => (diePages die).flatMap s.pageImage))
  let add (a : List (Nat × Nat × Bytes) × State) (is : List Nat) (typ : Nat) (f : State → Nat → Bytes × State) :
      List (Nat × Nat × Bytes) × State :=
    let r := a.2.sections is typ f
    (a.1 ++ r.1, r.2)
  let a := add a (zero.map (fun _ => all)) 2 (pure (fun s _ => s.ringImage))
  let a := add a (zero.map (fun _ => all)) 3 (pure (fun s _ => [4, 5, 6].flatMap (fun n => s.pageImage (glbPg n)) ++
    (List.range 256).flatMap (fun i => (Tab.get errD s.relia.log i).image)))
  if s.dumpEngine die then
    let a := add a (zero.flatMap (fun _ => List.range 64)) 4 State.cellImage
    let a := add a (zero.flatMap (fun _ => List.range 512)) 5 (pure State.portImage)
    let a := add a (onDie die 8) 6 (pure (fun s u => (s.xpt u).ctxs.flatMap (fun c => storedRec (ctxRec c))))
    let a := add a (onDie die 4) 7 (pure (fun s u =>
      (s.wins.filter (fun e => decide (mwuOfWin e.1 = u ∧ e.2.state ≠ wFree))).flatMap (fun e => s.winBytes e.1)))
    let a := add a (onDie die 4) 8 State.matchImage
    let a := add a (onDie die 2) 9 (pure (fun s u =>
      (s.groups.filter (fun e => decide (e.1 % 2 = u ∧ e.2.state ≠ gFree))).flatMap (fun e => e.2.image e.1)))
    let a := add a (zero.map (fun _ => all)) 0xA (pure (fun s _ =>
      (List.range 4096).flatMap (fun k => leBytes 4 (s.inspect k) ++ leBytes 4 (s.inspectHolder k))))
    let a := add a (onDie die 128) 0xB (fun s e =>
      let r := s.freeBytes 131072
      (leBytes 4 (s.peek (engPg e) 0x44 0) ++ r.1, r.2))
    add a (zero.map (fun _ => all)) 0xC (pure (fun s _ =>
      (List.range 16).flatMap (fun c => (Tab.get (fun _ => ([] : List Bytes)) s.lany.mirror c).flatMap storedRec)))
  else a

/-! The image (R558 R560). -/

/-- Offset of the first section's place behind what ends at `n`. -/
def onPage (n : Nat) : Nat := ceilDiv n 4096 * 4096

/-- The sections with their places: one that the region cannot hold, and every later one, is skipped (R560). `room` is the
region's size, `left` how many are written in time. -/
def placeSecs : List (Nat × Nat × Bytes) → Nat → Nat → Nat → Nat → List DumpSec
  | [], _, _, _, _ => []
  | (typ, inst, data) :: t, tick, pos, room, left =>
    if room < pos + data.length then
      ((typ, inst, data) :: t).map (fun e => { typ := e.1, inst := e.2.1, status := 2, off := 0, tick := tick, data := [] })
    else if left = 0 then
      ((typ, inst, data) :: t).map (fun e => { typ := e.1, inst := e.2.1, status := 4, off := 0, tick := tick, data := [] })
    else
      { typ := typ, inst := inst, status := 0, off := pos, tick := tick, data := data } ::
        placeSecs t tick (onPage (pos + data.length)) room (left - 1)

/-- Sections that come from HBM, and whose holes are filled with zero (R559 R560). -/
def fromHbm (typ : Nat) : Bool := decide (typ = 2 ∨ (6 ≤ typ ∧ typ ≤ 9))

/-- Holes of a section: which of its 4 KiB pieces could not be read is open, and one at least is among them. -/
def DumpSec.punch (d : DumpSec) (c : Nat) : DumpSec :=
  let n := ceilDiv d.data.length 4096
  let hole (i : Nat) : Bool := decide (i = Config.freeNat c % max 1 n) || decide (Config.freeNat (c + 1 + i) % 2 = 1)
  { d with status := 3, data := (List.range n).flatMap (fun i =>
      let b := slice d.data (4096 * i) (min 4096 (d.data.length - 4096 * i))
      if hole i then zeros b.length else b) }

/-- A section table entry (R558). -/
def DumpSec.entry (d : DumpSec) : Bytes :=
  leBytes 2 d.typ ++ leBytes 2 d.inst ++ leBytes 1 d.status ++ zeros 3 ++ leBytes 8 d.off ++ leBytes 8 d.data.length ++
    leBytes 4 (crc32c d.data) ++ leBytes 4 (d.tick % 2 ^ 32)

/-- Bytes from MAGIC to the end of the last section. -/
def dumpLength (l : List DumpSec) : Nat := l.foldl (fun n d => max n (d.off + d.data.length)) (128 + 32 * l.length)

/-- A dump header with its section table (R558). `flags` holds [0] COMPLETE, [2] HOST_COPY, [3] TRUNCATED and [4] HOLES. -/
def State.dumpHeader (s : State) (d : DumpRun) (die flags : Nat) (secs : List DumpSec) : Bytes :=
  let cause := if d.live then 0 else s.fget (glbPg 5) 0x40 7 0
  let fw := s.fget (cluPg 0) 0x40 31 16 * 2 ^ 16 + s.fget (pstoPg 1) 0x60 31 16
  let head := leBytes 4 0x504D5544 ++ leBytes 1 1 ++ leBytes 1 (flags + 2 * b2n d.live) ++ leBytes 2 secs.length ++
    leBytes 8 s.serial ++ leBytes 8 d.start ++ leBytes 1 cause ++ leBytes 1 die ++ leBytes 2 d.origin ++ leBytes 4 d.cycle ++
    leBytes 8 s.nowTick ++ leBytes 4 (blkVer (glbPg 0)) ++ leBytes 4 fw ++ leBytes 4 (s.get (glbPg 4) 0x40) ++
    leBytes 4 (s.get (glbPg 4) 0x4C) ++ leBytes 8 (dumpLength secs) ++ zeros 60
  let table := secs.flatMap DumpSec.entry
  head ++ leBytes 4 (crc32c (head ++ table)) ++ table

/-- Space of a die's state-dump region (R479). -/
def State.dumpRoom (s : State) : Nat := match s.mem.part with | some p => p.dumpGib * 2 ^ 30 | none => 0

/-- The sections of a die as they are written, with `left` of them in time and the holes that pages of HBM leave (R560). -/
def State.writeSecs (s : State) (die left : Nat) (holes : Bool) : List DumpSec × State :=
  let (l, s) := s.dumpSections die
  let secs := placeSecs l s.nowTick (onPage (128 + 32 * l.length)) s.dumpRoom left
  let mine (d : DumpSec) : Bool := holes && fromHbm d.typ && decide (d.status = 0) && !d.data.isEmpty
  secs.foldl (fun a d =>
    let (k, s) := a.2.free
    if mine d && decide (k % 2 = 1) then
      (a.1 ++ [d.punch s.freeCtr], s.tookFree (ceilDiv d.data.length 4096 + 1))
    else (a.1 ++ [d], s)) ([], s)

end Sys2Proof.Machine
end

