-- ==== Sys2Proof/Machine/Dump.lean ====
section
/-! DEFINITION. The state dump (19_reliability.md R557-R562 R578). -/

namespace Sys2Proof.Machine

/-- The dump of a die is written: its sections, then its header and table (R557 R560). -/
def State.writeDump (s : State) (d : DumpRun) (complete holes : Bool) (die : Nat) : State :=
  let (k, s) := s.free
  let (secs, s) := s.writeSecs die (if complete then 1000 else k % 1000) holes
  let h := s.dumpHeader d die (b2n complete + 16 * b2n (secs.any (fun x => decide (x.status = 3)))) secs
  { s with relia := { s.relia with dumpHdr := Tab.set (fun _ => ([] : Bytes)) s.relia.dumpHdr die h,
                                   dumpSecs := Tab.set (fun _ => ([] : List DumpSec)) s.relia.dumpSecs die secs } }

/-- Both headers are written (R560): DUMP_DONE, DUMP_STAT, and the copy to host memory begins when it is wanted. -/
def State.dumpDone (s : State) (d : DumpRun) (complete holes : Bool) : State :=
  let s := [0, 1].foldl (fun s die => s.writeDump d complete holes die) s
  let s := if d.live then s else s.bput (glbPg 5) 0x40 30 true
  let s := s.put (glbPg 5) 0x5C (2 ^ 31 + 2 ^ 30 * b2n d.live + 2 ^ 29 * b2n complete)
  { s with relia := { s.relia with dump := if d.host then some { d with done := true } else none } }

/-- DUMP_COMPLETE (R560): both headers are written; `holes` says that an HBM page could not be read. -/
def execDumpComplete (holes : Bool) (s : State) : Host.Outcome State Fault Refusal :=
  match s.relia.dump with
  | none => .next s
  | some d => if d.done then .next s else .next (s.dumpDone d true holes)

/-- LIMIT_MS in ticks of 512 ns (R560 R578). -/
def State.dumpLimit (s : State) : Nat := max 1 (s.fget (glbPg 5) 0x4C 15 0) * 1000000 / 512

/-- DUMP_LIMIT_EXPIRY (R560): the headers are written without COMPLETE; how many sections were written in time, and
whether any has holes, is open. -/
def execDumpLimitExpiry (s : State) : Host.Outcome State Fault Refusal :=
  match s.relia.dump with
  | none => .next s
  | some d =>
    if d.done || decide (s.nowTick < d.start + s.dumpLimit) then .next s
    else
      let (k, s) := s.free
      .next (s.dumpDone d false (decide (k % 2 = 1)))

/-- The sections of a die's copy, at `base` of the buffer: each that fits whole is written to host memory (R561). What is
left out carries the status of a section without space. -/
def State.copySecs (s : State) (h addr base room : Nat) (l : List DumpSec) : List DumpSec × State :=
  l.foldl (fun a x =>
    if x.status = 2 ∨ x.status = 4 then (a.1 ++ [x], a.2)
    else if room < base + x.off + x.data.length then (a.1 ++ [{ x with status := 2, off := 0, data := [] }], a.2)
    else (a.1 ++ [x], a.2.emit (.hostWrite h (addr + base + x.off) 0 x.data))) ([], s)

/-- The header of a die's copy, with its section table. -/
def State.copyHeader (s : State) (die : Nat) (old new : List DumpSec) : Bytes :=
  let b := (Tab.get (fun _ => ([] : Bytes)) s.relia.dumpHdr die).take 0x7C
  let head := patch (patch b 5 [BitVec.ofNat 8 (beAt b 5 1 + 4 + 8 * b2n (decide (new ≠ old)))]) 0x38 (leBytes 8 (dumpLength new))
  let table := new.flatMap DumpSec.entry
  head ++ leBytes 4 (crc32c (head ++ table)) ++ table

/-- DUMP_HOST_COPY_END (R561): the sections of die 0 and then of die 1 are copied, and both headers after them, at the start
of the die 0 image and of the die 1 image behind it, `gap` pages further than its own pages, a place that the spec leaves open; a copy to a port whose link is down is
abandoned. -/
def execDumpHostCopyEnd (gap : Nat) (s : State) : Host.Outcome State Fault Refusal :=
  match s.relia.dump with
  | none => .next s
  | some d =>
    if !d.done then .next s
    else
      let h := s.fget (glbPg 5) 0x4C 23 20
      let s := { s with relia := { s.relia with dump := none } }
      if !s.bget (hostPg h 0) 0x44 31 then .next s
      else
        let a := s.get64 (glbPg 5) 0x50
        let room := s.fget (glbPg 5) 0x58 15 0 * 2 ^ 20
        let secs (die : Nat) : List DumpSec := Tab.get (fun _ => ([] : List DumpSec)) s.relia.dumpSecs die
        let base := onPage (dumpLength (secs 0)) + 4096 * gap
        let (c0, s) := s.copySecs h a 0 room (secs 0)
        let (c1, s) := s.copySecs h a base room (secs 1)
        let head (s : State) (at' die : Nat) (c : List DumpSec) : State :=
          let b := s.copyHeader die (secs die) c
          if room < at' + b.length then s else s.emit (.hostWrite h (a + at') 0 b)
        let s := head (head s 0 0 c0) base 1 c1
        .next (if d.live then s else s.bput (glbPg 5) 0x40 29 true)

end Sys2Proof.Machine
end

