-- ==== Sys2Proof/Machine/Queues.lean ====
section
/-! DEFINITION. Doorbells, descriptor fetch and waiting completions (14_host_and_vis.md R445-R454, 18 R536 R537). -/

namespace Sys2Proof.Machine

/-! Doorbells (R447 R448 R450). -/

/-- A doorbell of a queue reaches its VI: the VI is ON, the fatal state has not closed the doorbells, and every doorbell
write is counted (R432 R447 R555). -/
def State.doorbell (s : State) (v q : Nat) (f : State → State) : State :=
  if 4096 ≤ v ∨ 64 ≤ q ∨ s.works (hostPg (viPort v) 0) = false then s
  else
    let s := s.bump (hostPg (viPort v) 0) 4 1
    if s.viState v ≠ viOn ∨ s.fatal then s else f s

/-- A command queue enters ERROR with a cause (R448). -/
def State.cmdError (s : State) (v q cause : Nat) : State :=
  (s.updCmq v q (fun c => { c with error := cause })).raise (vfPg v 0) 16

/-- DB_TAIL (R447 R448). -/
def execDbTail (vi queue : Nat) (value : Word) (s : State) : Host.Outcome State Fault Refusal :=
  .next (s.doorbell vi queue (fun s =>
    let ctl := s.cmdCtl vi queue
    let c := s.cmq vi queue
    let t := value.toNat
    if bit ctl 31 = false then s
    else if 2 ^ 31 ≤ wrapSub 32 t c.tail ∨ 2 ^ qSize ctl < wrapSub 32 t c.head then
      if c.error = 0 then s.cmdError vi queue 1 else s
    else s.updCmq vi queue (fun c => { c with tail := t })))

/-- A completion queue's ERROR (R448). -/
def State.cplError (s : State) (v q : Nat) : State := (s.updCq v q (fun c => { c with error := true })).raise (vfPg v 0) 17

/-- DB_HEAD (R447 R448). -/
def execDbHead (vi queue : Nat) (value : Word) (s : State) : Host.Outcome State Fault Refusal :=
  .next (s.doorbell vi queue (fun s =>
    let c := s.cq vi queue
    let h := value.toNat
    if bit (s.cplCtl vi queue) 31 = false then s
    else if wrapSub 32 c.tail c.head < wrapSub 32 h c.head then (if c.error then s else s.cplError vi queue)
    else s.updCq vi queue (fun c => { c with head := h })))

/-- DB_ARM (R450): with entries between HEAD and TAIL, the interrupt is sent at once. -/
def execDbArm (vi queue : Nat) (value : Word) (s : State) : Host.Outcome State Fault Refusal :=
  .next (s.doorbell vi queue (fun s =>
    let ctl := s.cplCtl vi queue
    let c := s.cq vi queue
    if bit ctl 31 = false ∨ bit value.toNat 0 = false then s
    else if bit ctl 15 && decide (c.head ≠ c.tail) then
      (s.updCq vi queue (fun c => { c with armed := false })).emit (.msix (viPort vi) (viFn vi) (fld ctl 5 0))
    else s.updCq vi queue (fun c => { c with armed := true })))

/-! Descriptors (R451-R453, 16 R504). -/

/-- Where a descriptor's bytes may be nonzero: offset, length and mask of each byte. -/
abbrev Spans := List (Nat × Nat × Nat)

/-- The fields that R453 and R504 name for an opcode; none for a reserved opcode. -/
def bodySpans (op : Nat) : Option Spans :=
  let rma : Spans := [(0x10, 26, 0xFF)]
  let mat : Spans := [(0x10, 8, 0xFF), (0x18, 4, 0xFF), (0x20, 2, 0xFF), (0x22, 1, 7), (0x24, 7, 0xFF)]
  let win : Spans := [(0x10, 16, 0xFF), (0x2C, 4, 0xFF), (0x30, 1, 0xFF), (0x31, 1, 0xF), (0x32, 1, 0x1F), (0x33, 4, 0xFF), (0x37, 1, 1)]
  let grp : Spans := [(0x2C, 1, 0xFF), (0x2D, 1, 0xF)]
  match op with
  | 0x00 => some []
  | 0x01 => some rma
  | 0x02 => some (rma ++ [(0x2A, 1, 7), (0x2C, 4, 0xFF), (0x30, 6, 0xFF), (0x38, 8, 0xFF)])
  | 0x03 => some (rma ++ [(0x2A, 1, 0x80)])
  | 0x04 => some (rma ++ [(0x2A, 1, 0x5F), (0x30, 16, 0xFF)])
  | 0x08 => some (win ++ [(0x20, 1, 0xF), (0x21, 1, 0xF), (0x22, 1, 0x3F)])
  | 0x09 => some (win ++ [(0x20, 4, 0xFF)])
  | 0x10 => some (mat ++ [(0x1C, 4, 0xFF)])
  | 0x11 => some mat
  | 0x12 => some mat
  | 0x13 => some (mat ++ [(0x2C, 4, 0xFF)])
  | 0x14 => some (mat ++ [(0x30, 8, 0xFF)])
  | 0x15 => some []
  | 0x20 => some (grp ++ [(0x10, 20, 0xFF), (0x30, 7, 0xFF)])
  | 0x21 => some (grp ++ [(0x10, 19, 0xFF), (0x30, 7, 0xFF)])
  | 0x22 | 0x23 => some (grp ++ [(0x10, 20, 0xFF), (0x30, 7, 0xFF)])
  | 0x30 => some [(0x10, 1, 0xC0), (0x11, 8, 0xFF), (0x19, 1, 0x3F), (0x1A, 1, 0x3F), (0x1B, 1, 3), (0x1C, 1, 0xFF), (0x1D, 1, 0xF), (0x1E, 1, 0xFF),
      (0x1F, 1, 0x8F), (0x20, 16, 0xFF)]
  | 0x31 => some [(0x10, 8, 0xFF), (0x19, 1, 0x3F)]
  | 0x32 => some [(0x1C, 1, 0xFF), (0x1D, 1, 0xF), (0x20, 8, 0xFF)]
  | 0x33 => some [(0x1C, 1, 0xFF), (0x1D, 1, 0xF), (0x20, 8, 0xFF)]
  | 0x34 => some [(0x10, 8, 0xFF), (0x1C, 1, 0xFF), (0x1D, 1, 0xF)]
  | _ => none

/-- Bits that may be set in a byte of the body. -/
def spanMask (l : Spans) (i : Nat) : Nat :=
  l.foldl (fun m e => if e.1 ≤ i ∧ i < e.1 + e.2.1 then Nat.lor m e.2.2 else m) 0

/-- The header's reserved bits are zero (R451). -/
def headerOk (b : Bytes) : Bool := decide (dFlags b < 4 ∧ leAt b 2 1 < 64 ∧ leAt b 3 5 = 0)

/-- A descriptor with a defined opcode and no nonzero reserved field; a reserved AOP or SOP is none of R320's
(R451). -/
def descOk (b : Bytes) : Bool :=
  headerOk b &&
    match bodySpans (dOpcode b) with
    | none => false
    | some l =>
      (List.range 48).all (fun i => decide (Nat.land (leAt b (0x10 + i) 1) (255 - spanMask l (0x10 + i)) = 0)) &&
        (!decide (dOpcode b = 4) || decide (dRflags b % 16 < 7)) && (!decide (dOpcode b = 2) || decide (dRflags b % 4 < 2))

/-! Fetching (R446 R448 R449 R536 R537). -/

/-- A command queue holds a descriptor that may be fetched. -/
def State.fetchable (s : State) (v q : Nat) : Bool :=
  let c := s.cmq v q
  bit (s.cmdCtl v q) 31 && decide (c.error = 0 ∧ c.head ≠ c.tail) && !c.deferred

/-- A VI whose descriptors may be fetched: none of its completions waits, and no fetched descriptor is held back under
R536. -/
def State.viFetches (s : State) (v : Nat) : Bool :=
  decide (s.viState v = viOn) && (s.vi v).waiting.isEmpty && !(s.vi v).descs.any (fun d => d.held && d.firing.isNone) &&
    (s.vi v).cmdq.any (fun e => s.fetchable v e.1)

/-- The queue whose turn it is (R449): the one being served while its weight lasts, else the next that holds one. -/
def State.wrrNext (s : State) (v : Nat) : Option (Nat × Nat) :=
  let x := s.vi v
  if 0 < x.wrrLeft ∧ s.fetchable v x.wrrQueue then some (x.wrrQueue, x.wrrLeft)
  else
    (argMin (fun q => wrapSub 6 q (x.wrrQueue + 1)) ((x.cmdq.map Prod.fst).filter (fun q => s.fetchable v q))).map (fun q =>
      (q, max 1 (fld (s.cmdCtl v q) 11 8)))

/-- Disposes of the 64 bytes fetched from a queue (R448 R451). -/
def State.takeDesc (s : State) (v q : Nat) (b : Bytes) : State :=
  if bit (s.cplCtl v (dCplq b)) 31 = false then s.cmdError v q 3
  else if !descOk b then s.postCompletion v (dCplq b) (cplBytes stBounds (dOpcode b) q (dCookie b) [])
  else
    let k := s.get (vfPg v 2) (0x10C + 16 * q)
    let (n, s) := s.fresh
    s.updVi v (fun x => { x with nextDesc := x.nextDesc + 1, descs := x.descs ++
      [{ num := x.nextDesc, queue := q, bytes := b, keys := k, begun := false, firing := none, held := false, stamp := n }] })

/-- Fetches from a queue of a VI: `data` is what the ring holds. -/
def State.fetchFrom (s : State) (v q left : Nat) (data : Bytes) : State :=
  let c := s.cmq v q
  let s := s.updVi v (fun x => { x with wrrQueue := q, wrrLeft := left - 1 })
  match s.viRead v (s.get64 (vfPg v 2) (0x100 + 16 * q) + 64 * (c.head % 2 ^ qSize (s.cmdCtl v q))) 64 none with
  | .error _ => s.cmdError v q 2
  | .ok s =>
    let s := s.updCmq v q (fun c => { c with head := wrapAdd 32 c.head 1 })
    ((s.bump (hostPg (viPort v) 0) 5 1).bumpVf v 0 1).takeDesc v q (padTo data 64)

/-- DESCRIPTOR_FETCH (R449 R537): the next VI of a host port in turn, and the next of its queues. -/
def execDescriptorFetch (port : Nat) (data : Bytes) (s : State) : Host.Outcome State Fault Refusal :=
  if !s.portWorks port ∨ s.fatal then .next s
  else
    let last := Tab.get (fun _ => 0) s.hostRr port
    match argMin (fun v => wrapSub 8 (v % 256) (last + 1))
        ((s.vis.map Prod.fst).filter (fun v => decide (viPort v = port) && s.viFetches v)) with
    | none => .next s
    | some v =>
      match s.wrrNext v with
      | none => .next s
      | some (q, left) => .next (({ s with hostRr := Tab.set (fun _ => 0) s.hostRr port (v % 256) }).fetchFrom v q left data)

/-- COMPLETION_WRITE (R450): the first completion of the VI whose queue has room, or takes no entries any more. -/
def execCompletionWrite (vi : Nat) (s : State) : Host.Outcome State Fault Refusal :=
  match (s.vi vi).waiting.find? (fun w => !s.cqLive vi w.1 || !s.cqFull vi w.1) with
  | none => .next s
  | some w =>
    if s.works (hostPg (viPort vi) 0) && s.viMayWrite vi then
      let s := s.updVi vi (fun x => { x with waiting := delFirst (fun y => decide (y = w)) x.waiting })
      if s.cqLive vi w.1 then .next (s.putCompletion vi w.1 w.2) else .next (s.bump (hostPg (viPort vi) 0) 8 1)
    else .next s

end Sys2Proof.Machine
end

