-- ==== Sys2Proof/Machine/Trigger.lean ====
section
/-! DEFINITION. Trigger counters and triggered-operation chains (16_halyard_engines.md R502-R512). -/

namespace Sys2Proof.Machine

/-- Fields of the descriptors of R504. -/
def dSlot (b : Bytes) : Nat := leAt b 0x19 1
def dCtr (b : Bytes) : Nat := leAt b 0x1C 2 % 4096
def dValue (b : Bytes) : Nat := leAt b 0x20 8

/-- The changes that reached the trigger stage before a chain operation come first (R503). -/
def State.stage1 (s : State) (v : Nat) : State := s.drainTrig (viPort v)

/-- CTR_SET (R503 R504). -/
def execCtrSet (vi queue : Nat) (s : State) : Host.Outcome State Fault Refusal :=
  match s.headDesc vi queue 0x32 with
  | none => .next s
  | some d => .next (s.runDesc vi d (fun s => (stOk, [], (s.pushTrig vi (dCtr d.bytes) true (dValue d.bytes)).stage1 vi)))

/-- CTR_ADD (R503 R504). -/
def execCtrAdd (vi queue : Nat) (s : State) : Host.Outcome State Fault Refusal :=
  match s.headDesc vi queue 0x33 with
  | none => .next s
  | some d => .next (s.runDesc vi d (fun s => (stOk, [], (s.pushTrig vi (dCtr d.bytes) false (dValue d.bytes)).stage1 vi)))

/-- CTR_READ (R504). -/
def execCtrRead (vi queue : Nat) (s : State) : Host.Outcome State Fault Refusal :=
  match s.headDesc vi queue 0x34 with
  | none => .next s
  | some d => .next (s.runDesc vi d (fun s =>
      let s := s.stage1 vi
      match s.viWrite vi (dLaddr d.bytes) (some d.keys) (leBytes 8 (s.trigCtr vi (dCtr d.bytes))) with
      | .ok s => (stOk, [], s.hostTxn (cluStop (viPort vi)) vi 0 true 8)
      | .error e => (e, [], s)))

/-- An entry that a chain may hold (R505). -/
def chainEntryOk (b : Bytes) : Bool :=
  headerOk b && decide (dOpcode b ∈ [0x00, 0x01, 0x02, 0x03, 0x04, 0x10, 0x20, 0x32, 0x33])

/-- The arm of a slot with the entries read, or the first failing status (R505). -/
def State.arm (s : State) (v : Nat) (d : Desc) (list : Bytes) : Nat × State :=
  let b := d.bytes
  let n := leAt b 0x18 1
  let slot := dSlot b
  let read := s.viRead v (dLaddr b) (64 * n) (some d.keys)
  let entries := (List.range n).map (fun i => padTo (slice list (64 * i) 64) 64)
  let bad := match read with
    | .ok _ => !entries.all chainEntryOk
    | .error _ => false
  if n = 0 ∨ 8 < n ∨ bad = true then (stBounds, s)
  else if (s.chain v slot).state ≠ 0 then (stBusy, s)
  else
    match read with
    | .error e => (e, s)
    | .ok s =>
      let s := s.hostTxn (cluStop (viPort v)) v 0 false (64 * n)
      let fl := leAt b 0x1B 1
      let dc := leAt b 0x1E 2
      let c : Chain :=
        { state := 1, entries := entries, queue := leAt b 0x1A 1 % 64, rearm := bit fl 0, orderAll := bit fl 1, ctr := dCtr b,
          doneCtr := if bit dc 15 then some (dc % 4096) else none, threshold := dValue b, stride := leAt b 0x28 8, next := 0,
          firing := 0, firings := 0 }
      let s := (s.updChain v slot (fun _ => c)).bump (cluPg (viPort v)) 1 1
      (stOk, s.testSlot v slot)

/-- CHAIN_ARM (R505 R506); `list` is what LIST holds. -/
def execChainArm (vi queue : Nat) (list : Bytes) (s : State) : Host.Outcome State Fault Refusal :=
  match s.headDesc vi queue 0x30 with
  | none => .next s
  | some d => .next (s.runDesc vi d (fun s => let (st, s) := (s.stage1 vi).arm vi d list; (st, [], s)))

/-- CHAIN_DISARM (R508): it always completes with OK. -/
def execChainDisarm (vi queue : Nat) (s : State) : Host.Outcome State Fault Refusal :=
  match s.headDesc vi queue 0x31 with
  | none => .next s
  | some d => .next (s.runDesc vi d (fun s =>
      let s := s.stage1 vi
      let slot := dSlot d.bytes
      let c := s.chain vi slot
      let s := (s.disarm vi slot).bump (cluPg (viPort vi)) 3 1
      let s := if c.state = 2 then
          s.updVi vi (fun x => { x with descs := x.descs.filter (fun e => e.begun || decide (e.firing ≠ some c.firing)),
                                        firings := x.firings.filter (fun f => decide (f.id ≠ c.firing)) })
        else s
      let s := if dLaddr d.bytes = 0 then s else
        match s.viWrite vi (dLaddr d.bytes) (some d.keys) (leBytes 8 (c.state + 2 ^ 32 * (c.firings % 2 ^ 32))) with
        | .ok s => s.hostTxn (cluStop (viPort vi)) vi 0 true 8
        | .error _ => s
      (stOk, [], s)))

/-- The engine serves the chains of a cluster: it is ACTIVE with TRIG, in a cluster that is not reloading; in the buddy
cluster only when the cluster's own engines cannot (R496 R499 R506). -/
def State.servesChains (s : State) (engine c : Nat) : Bool :=
  let k := engine / 8
  s.engRole engine 1 && !s.bget (cluPg k) 0x40 1 &&
    (decide (k = c) || (decide (k = Nat.xor c 1) && !s.canFire c))

/-- CHAIN_ENTRY_BEGIN (R506): the next entry is handed to its operation, with the key-rights of the moment; the first one
of a firing tells whether the buddy cluster serves it (R515); one whose
completion queue is disabled is discarded and counted, and one with a nonzero reserved field completes with BOUNDS, as
if it had been fetched (R340 R451). -/
def execChainEntryBegin (vi slot engine : Nat) (s : State) : Host.Outcome State Fault Refusal :=
  let c := s.chain vi slot
  let k := viPort vi
  let mine (d : Desc) : Bool := decide (d.firing = some c.firing)
  if 4096 ≤ vi ∨ s.viState vi ≠ viOn ∨ s.fatal ∨ c.state ≠ 2 ∨ s.servesChains engine k = false then .next s
  else if (s.vi vi).descs.any (fun d => mine d && (c.orderAll || !d.begun)) then .next s
  else
    match c.entries[c.next]? with
    | none => .next s
    | some b =>
      let s := s.updChain vi slot (fun c => { c with next := c.next + 1 })
      let s := s.bump (cluPg k) 6 (b2n (decide (c.next = 0 ∧ engine / 8 ≠ k)))
      if bit (s.cplCtl vi (dCplq b)) 31 then
        let key := s.get (vfPg vi 2) (0x10C + 16 * c.queue)
        let s := s.bump (engPg engine) 2 1
        let (n, s) := s.fresh
        let add (begun : Bool) : State := s.updVi vi (fun x => { x with nextDesc := x.nextDesc + 1, descs := x.descs ++
          [{ num := x.nextDesc, queue := c.queue, bytes := b, keys := key, begun := begun, firing := some c.firing, held := false, stamp := n }] })
        if descOk b then .next (add false)
        else
          .next ((((add true).bump (cluPg k) 4 1).chainBegun vi c.firing).complete vi (s.vi vi).nextDesc stBounds [])
      else .next (((s.bump (cluPg k) 5 1).firingEntryDone vi c.firing false).chainBegun vi c.firing)

/-- CHAIN_FIRING_COMPLETE (R507): every entry of a firing of the slot has completed. -/
def execChainFiringComplete (vi slot : Nat) (s : State) : Host.Outcome State Fault Refusal :=
  match (s.vi vi).firings.find? (fun f => decide (f.slot = slot ∧ f.left = 0)) with
  | none => .next s
  | some f =>
    let s := s.updVi vi (fun x => { x with firings := x.firings.filter (fun g => decide (g.id ≠ f.id)) })
    match f.ok, f.doneCtr with
    | true, some c => .next (s.pushTrig vi c false 1)
    | _, _ => .next s

/-- TRIGGER_COUNTER_CHANGE (R503 R506): the first change that waits at the cluster's trigger stage. -/
def execTriggerCounterChange (cluster : Nat) (s : State) : Host.Outcome State Fault Refusal :=
  if !s.powered (cluPg cluster) then .next s
  else
    match Tab.get (fun _ => ([] : List TrigChange)) s.trig cluster with
    | [] => .next s
    | t :: q => .next (({ s with trig := Tab.set (fun _ => ([] : List TrigChange)) s.trig cluster q }).applyTrig t)

/-- The run of share c is skipped in this tick: its engine counts it, and the TICK block once for all shares (R500). -/
def State.skipShare (s : State) (c : Nat) : State :=
  let s := if s.bget (cluPg c) 0x44 8 then s else s.bump (engPg (s.get (cluPg c) 0x44 % 128)) 1 1
  if Tab.get (fun _ => false) s.tick.skipped 8 then s
  else ({ s with tick := { s.tick with skipped := Tab.set (fun _ => false) s.tick.skipped 8 true } }).bump (tickPg 1) 8 1

/-- An engine's watchdog stops it: it checks itself, a share run in progress counts as skipped, and its cleats are abandoned
(R512 R524). -/
def State.watchdogStop (s : State) (engine : Nat) : State :=
  let p := engPg engine
  let s := (s.sharesRun engine).foldl (fun s c =>
    ({ s with tick := { s.tick with busy := Tab.set (fun _ => false) s.tick.busy (16 + c) false } }).skipShare c) s
  let s := (s.fput p 0x44 11 8 5).bump p 4 1
  (s.detect p 18 0 0 3).cleatAbandonOrigin (0x100 + engine)

/-- ENGINE_WATCHDOG (R512). -/
def execEngineWatchdog (engine : Nat) (s : State) : Host.Outcome State Fault Refusal :=
  if 128 ≤ engine ∨ s.works (engPg engine) = false then .next s else .next (s.watchdogStop engine)

end Sys2Proof.Machine
end

