-- ==== Sys2Proof/Machine/Lanyard.lean ====
section
/-! DEFINITION. Commands of the Lanyard pair (16_halyard_engines.md R499-R501, 19_reliability.md R563-R576). -/

namespace Sys2Proof.Machine

/-- The pair journals: SYNCING or PAIRED. -/
def State.journals (s : State) : Bool := decide (s.lanyState = laSyncing ∨ s.lanyState = laPaired)

/-- PAIRED_JOURNALLING (R499 R500 R567): the run of a share at cc 128, after the Zynken window, ending in a core cycle of the tick. -/
def execPairedJournalling (share endCc : Nat) (s : State) : Host.Outcome State Fault Refusal :=
  let s := s.zFlush
  if 16 ≤ share ∨ s.tick.running = false ∨ s.fatal then .next s
  else if s.bget (cluPg share) 0x44 8 || Tab.get (fun _ => false) s.tick.busy (16 + share) then .next (s.skipShare share)
  else
    let s := if s.journals then s.journalRun share else s
    .next ((s.bump (engPg (s.get (cluPg share) 0x44 % 128)) 0 1).jobEnd 8 endCc)

/-- JOURNAL_FRAME_RECEIVE (R567): the oldest JOURNAL frame of a port; a frozen mirror takes none (R572). -/
def execJournalFrameReceive (port : Nat) (s : State) : Host.Outcome State Fault Refusal :=
  match s.takeLany port 1 with
  | none => .next s
  | some (f, s) => .next (if s.fromTwin f && !s.lany.frozen then s.takeJournal f else s)

/-- SYNC_DONE_RECEIVE (R565). -/
def execSyncDoneReceive (port : Nat) (s : State) : Host.Outcome State Fault Refusal :=
  match s.takeLany port 4 with
  | none => .next s
  | some (f, s) =>
    if s.fromTwin f then .next (({ s with lany := { s.lany with syncDone := true } }).trySync) else .next s

/-- TAKEOVER_RECEIVE (R572): the twin has taken over. A module that has itself taken over ends only when its serial is
the higher. -/
def execTakeoverReceive (port : Nat) (s : State) : Host.Outcome State Fault Refusal :=
  match s.takeLany port 3 with
  | none => .next s
  | some (f, s) =>
    if !s.fromTwin f then .next s
    else
      let s := s.raise (lanyPg 0) 19
      if s.fatal ∨ (s.lanyState = laTaken ∧ s.serial ≤ beAt f 4 8) then .next s else .next (s.enterFatal 9)

/-- TWIN_LOST (R565). -/
def execTwinLost (s : State) : Host.Outcome State Fault Refusal :=
  if s.journals && decide (s.lany.lostSince + s.lostTicks ≤ s.nowTick) then
    .next (((s.fput (lanyPg 0) 0x44 2 0 laLost).raise (lanyPg 0) 16).event 1 (.pair laLost))
  else .next s

/-- SHARE_UNCOVERED (R567): CEIL no longer applies to the halves of the share. -/
def execShareUncovered (share : Nat) (s : State) : Host.Outcome State Fault Refusal :=
  if share < 16 && s.journals && !s.bget (lanyPg 1) (0x40 + 4 * share) 31 &&
      decide (Tab.get (fun _ => 0) s.lany.committed share + s.lostTicks ≤ s.nowTick) then
    let s := (s.bput (lanyPg 1) (0x40 + 4 * share) 31 true).bput (lanyPg 0) 0x44 3 true
    .next ((s.raise (lanyPg 0) 17).event 1 (.pair 5))
  else .next s

/-- The contexts of host-port endpoints in the mirror of a share (R572 R571). -/
def State.mirrorCtxs (s : State) (share : Nat) : List Bytes :=
  (Tab.get (fun _ => ([] : List Bytes)) s.lany.mirror share).filter (fun b => decide (jrRec b = 1 ∧ beAt b 7 1 % 4 = 0))

/-- CONTEXT_ADOPTION (R572-R575): a share whose turn has come is adopted, with the payloads read again through the VIs
of the share's host port. -/
def execContextAdoption (share : Nat) (payloads : List Bytes) (s : State) : Host.Outcome State Fault Refusal :=
  let m := Tab.get (fun _ => ([] : List Bytes)) s.lany.mirror share
  let lower := s.lany.mirror.any (fun e => decide (e.1 < share) && !e.2.isEmpty)
  let need := (s.mirrorCtxs share).foldl (fun n r => n + ((ofCtx r 2 m).filter needsPayload).length) 0
  if 16 ≤ share ∨ s.lanyState ≠ laTaken ∨ s.fatal ∨ m = [] ∨ lower ∨ s.nowTick ≤ s.lany.lostSince ∨ payloads.length ≠ need then
    .next s
  else
    let t := s.adoptAll share m (s.mirrorCtxs share) payloads
    .next { t with lany := { t.lany with mirror := Tab.set (fun _ => ([] : List Bytes)) t.lany.mirror share [] } }

end Sys2Proof.Machine
end

