-- ==== Sys2Proof/Machine/Inject.lean ====
section
/-! DEFINITION. Injected errors (04_register_model.md R89): each bit of BLK_ERRINJ acts as the real event of its block. An
injected error names no element (R616), and no packet, message, window, group or VI that a real event would end (log 57). -/

namespace Sys2Proof.Machine

/-- The lowest stack of a die in the partition that its regions may lie in (R478). -/
def State.dieStack (s : State) (die : Nat) : Nat :=
  match s.mem.part with
  | some p => (p.ofDie die).headD (3 * die)
  | none => 3 * die

/-- A PORT page's lane-layer events (R158): LOS, LOL, the loss of the bond, a burst, a fallback. -/
def State.injectLane (s : State) (i b : Nat) : State :=
  if b < 18 then s.losOn i (b - 16)
  else if b < 20 then s.lolOn i (b - 18)
  else if b = 20 then
    let s' := s.raise (portPg i) 20
    if s.bget (lanePg i) 0x48 0 then
      s'.syncLink ([0, 1].foldl (fun s l => if s.laneState i l = lnReady then s.toSignal i l else s) (s'.setBond i 0)) i
    else s'
  else if b < 23 then s.burst i (b - 21)
  else if 2 ≤ s.portStep i ∧ s.bget (lanePg i) 0x48 0 = false then s.fallback i
  else (s.raise (portPg i) 23).bump (lanePg i) 11 1

/-- A PORT page's link-layer events (R194): link down, session end, identity check, retrain, error window, replay limit,
credit overrun. One that the link's state leaves nothing to do is reported and counted alone. -/
def State.injectLink (s : State) (i b : Nat) : State :=
  let p := portPg i
  let up := decide (s.linkState i = lkUp)
  if b = 24 then if s.linkState i = lkDown then (s.raise p 24).bump p 12 1 else s.linkDown i
  else if b = 25 then if (s.link i).session then (s.endSession i).reExchange i else (s.raise p 25).bump p 14 1
  else if b = 26 then
    let s' := (s.raise p 26).bump p 15 1
    if (s.link i).exch then s'.fput p 0x4C 3 0 lkFail else s'
  else if b = 27 then if up then s.retrainNow i else (s.raise p 27).bump p 11 1
  else if b = 28 then if s.linkState i = lkDown then (s.raise p 28).testLanes i 28 else s.windowExceeded i
  else if b = 29 then
    let s' := (s.raise p 29).testLanes i 29
    if up then s'.linkRetrain i else s'
  else if b = 30 ∧ (s.link i).session = true then s.creditOverrun i
  else s.raise p b

/-- A ROUTE page's events (R262): discards are counted, an armed commit ends as at its deadline, and an uncorrectable error
is one of the routing unit's own copy. -/
def State.injectRoute (s : State) (b : Nat) : State :=
  let armed := s.route.commit.isSome
  let ph := s.bget routePg 0x44 5
  if b = 16 then (s.raise routePg 16).bump routePg 7 1
  else if b = 17 ∨ b = 18 then (s.raise routePg b).bump routePg 8 1
  else if b = 19 then (s.raise routePg 19).bump routePg 9 1
  else if b = 21 then if armed && !ph then s.deadlineCommit else (s.raise routePg 21).bump routePg 15 1
  else if b = 22 then if armed && ph then s.deadlineCommit else s.raise routePg 22
  else if b = 24 then s.rowError routePg 24 0
  else if b = 25 then (s.rowError routePg 25 0).enterFatal 5
  else s.raise routePg b

/-- An XPT unit's events (R307 R308). -/
def State.injectXpt (s : State) (u b : Nat) : State :=
  let s' := s.raise (xptPg u 0) b
  if b = 16 then s'.bump (xptPg u 1) 1 1
  else if b = 17 then s'.bump (xptPg u 1) 9 1
  else if b = 18 then s'.bump (xptPg u 0) 7 1
  else if b = 19 then (s'.closeLru u).bump (xptPg u 1) 11 1
  else if b = 20 then s'.bump (xptPg u 1) 5 1
  else if b = 21 then s'.bump (xptPg u 1) 3 1
  else s'

/-- A HOST page 0's events (R430 R431): AER errors, the completion timeout, the loss of the link. -/
def State.injectHost (s : State) (h b : Nat) : State :=
  let p := hostPg h 0
  if b = 19 then ((s.raise p 19).bump p 3 1).pfEvent h 0
  else if b = 21 then
    if s.bget p 0x44 31 then (s.portReset h).portDown h else ((s.raise p 21).bump p 13 1).pfEvent h 5
  else if 16 ≤ b ∧ b ≤ 22 then (s.raise p b).pfEvent h 0
  else s.raise p b

/-- LANY page 0's events (R565 R580): twin lost, share uncovered, takeover executed, TAKEOVER received. -/
def State.injectLany (s : State) (b : Nat) : State :=
  let s' := s.raise (lanyPg 0) b
  if b = 16 then if s.journals then (s'.fput (lanyPg 0) 0x44 2 0 laLost).event 1 (.pair laLost) else s'
  else if b = 17 then s'.event 1 (.pair 5)
  else if b = 18 then s'.event 1 (.pair laTaken)
  else if b = 19 ∧ s.fatal = false then s'.enterFatal 9
  else s'

/-- An OPTE page's events (R151 R161): HEADROOM of a wavelength, and a switch that ended dark. -/
def State.injectOpte (s : State) (k b : Nat) : State :=
  let pg := optePg k 1
  let s' := s.raise (optePg k 0) b
  if 16 ≤ b ∧ b < 20 then
    ((s'.bput pg 0x44 (b - 16) true).bput pg 0x44 (b - 12) true).updSpare k (fun x =>
      { x with since := Tab.set (fun _ => 0) x.since (b - 16) s.nowTick })
  else if b = 20 then (s'.logErr (optePg k 0) 0 0 20 0 2 acNone).bump pg 5 1
  else s'

/-- The event of a block bit on page 0 of a working instance. -/
def State.injectBlock (s : State) (p : PageRef) (b : Nat) : State :=
  let i := p.inst
  let ecc := decide (b = 16 ∨ b = 17)
  match p.cls with
  | .tile =>
    if ecc then (s.bump p (b - 4) 1).rowError p b 0
    else if b = 18 then s.detect p 18 0 0 2
    else if b = 19 then s.withdrawRow i
    else s.raise p b
  | .port => if b < 24 then s.injectLane i b else s.injectLink i b
  | .opte => s.injectOpte i b
  | .route => s.injectRoute b
  | .xpt => s.injectXpt i b
  | .mwu =>
    if ecc then s.detect p b 0 (hbmExt (s.dieStack (i / 2)) 0) 4 else (s.raise p b).bump p 14 (b2n (decide (b = 20)))
  | .mtch =>
    if ecc then s.detect p b 0 (hbmExt (s.dieStack (i / 2)) 0) 4 else (s.raise p b).bump p 15 (b2n (decide (b = 18)))
  | .coll =>
    if ecc then s.detect p b 0 (hbmExt (s.dieStack i) 0) 4
    else ((s.raise p b).bump p 11 (b2n (decide (b = 19)))).bump { p with page := 1 } 4 (b2n (decide (b = 20)))
  | .eng =>
    if ecc then (s.bump p (b - 11) 1).engineCheck i b else if b = 18 then s.watchdogStop i else s.raise p b
  | .clu =>
    if b = 17 then ((s.raise p 17).bput p 0x44 8 true).bump p 9 1
    else if b = 18 then ((s.raise p 18).bput p 0x40 2 true).bump p 8 1
    else s.raise p b
  | .noc =>
    if b = 16 then s.detect p 16 0 0 2
    else if b = 17 then (s.satAdd p 0x48 7 0 1).raise p 17
    else if b = 18 then (s.raise p 18).enterFatal 7
    else s.raise p b
  | .hbmc =>
    if ecc then (s.bump p (b - 9) 1).detect p b 0 (hbmExt i 0) 4 else (s.raise p b).bump p 6 (b2n (decide (b = 18)))
  | .host => s.injectHost i b
  | .cleat =>
    if b = 16 then (s.raise p 16).bump p 5 1 else if b = 17 then ((s.raise p 17).bump p 10 1).bump p 3 1 else s.raise p b
  | .lany => s.injectLany b
  | .vf =>
    if b = 18 then ((s.raise p 18).bump (hostPg (viPort i) 0) 8 1).bumpVf i 4 1 else s.raise p b
  | .glb => if b = 16 then (s.raise p 16).event 1 (.drainLimit (pageCode p)) else s.raise p b
  | _ => s.raise p b

/-- One requested injection (R89): INJECTED and the event of its bit; a parity error of the register array starts its
march. HOST page 1 bit 16 fails the port's CXL.mem (R485). -/
def State.injectOne (s : State) (p : PageRef) (b : Nat) : State :=
  let s := (s.bput p 0x18 b false).raise p 4
  if b = 4 then s
  else if b = 5 then s.detect p 5 0 0 1
  else if b < 16 ∨ s.works p = false then s.raise p b
  else if p.page = 0 then s.injectBlock p b
  else if p.cls = .host ∧ p.page = 1 ∧ b = 16 then
    let s := (s.raise p 16).bput p 0x48 31 true
    { s with mem := { s.mem with poisoned := s.mem.poisoned ++ [p.inst] } }
  else s.raise p b

/-- The injections of a page that are raised now: at a tick boundary those requested before it, and while TICK is not
running those of a page of the auxiliary domain (R89). -/
def State.injectDue (s : State) (p : PageRef) : Nat :=
  if s.tick.running then if s.nowCc = 0 then Nat.land (s.get p 0x18) (s.cfg p 0x18) else 0
  else if auxPage p then s.get p 0x18 else 0

/-- ERROR_INJECTION_RAISE (R89). -/
def execErrorInjectionRaise (page : Nat) (s : State) : Host.Outcome State Fault Refusal :=
  match pageOfCode page with
  | none => .next s
  | some p =>
    if s.pageOn p then
      let due := s.injectDue p
      .next ((List.range 32).foldl (fun s b => if bit due b then s.injectOne p b else s) s)
    else .next s

end Sys2Proof.Machine
end

