-- ==== Sys2Proof/Machine/Power.lean ====
section
/-! DEFINITION. The commands of module power, presence and supervision (02_module_power_insertion.md R36-R53;
21_bringup_service.md R594 R597 R598). -/

namespace Sys2Proof.Machine

/-- STAGE2_MATE (R45): on an input filter below 90% of the rail, PRECHG_FAULT. -/
def execStage2Mate (filterLow : Bool) (s : State) : Host.Outcome State Fault Refusal :=
  if s.pwr.aux then .next (if filterLow then s.setPwr 11 true else s)
  else .next { s with pwr := { s.pwr with lowMate := filterLow } }

/-- PRESENCE_MATE (R43): a contact mates; its status bit waits for the debounce. -/
def execPresenceMate (contactB : Bool) (s : State) : Host.Outcome State Fault Refusal :=
  .next { s with pwr := if contactB then { s.pwr with matedB := true } else { s.pwr with matedA := true } }

/-- PRESENCE_DEBOUNCED (R43). -/
def execPresenceDebounced (contactB : Bool) (s : State) : Host.Outcome State Fault Refusal :=
  if s.pwr.aux && (if contactB then s.pwr.matedB else s.pwr.matedA) then
    .next (s.setPwr (if contactB then 1 else 0) true)
  else .next s

/-- PRSNT_SKEW_TIMEOUT (R47). -/
def execPrsntSkewTimeout (s : State) : Host.Outcome State Fault Refusal :=
  if s.pwr.aux && decide (s.pwr.matedA ≠ s.pwr.matedB) then .next (s.setPwr 2 true) else .next s

/-- MAIN_EN_ASSERT (R36 R46 R607): after MAIN_EN has been low, for `lowMs`. -/
def execMainEnAssert (lowMs : Nat) (s : State) : Host.Outcome State Fault Refusal :=
  if s.pwr.aux && !s.pwrBit 4 then
    let s := s.setPwr 4 true
    .next { s with pwr := { s.pwr with ovuvPending := s.pwr.ovuvPending && decide (lowMs < 100), rampPending := false,
                                       closePermit := true } }
  else .next s

/-- HOT_SWAP_CLOSE (R43 R594 R607): the main-domain reset. -/
def execHotSwapClose (s : State) : Host.Outcome State Fault Refusal :=
  if s.canClose then
    let s := s.mainReset
    let s := ((s.setPwr 5 true).setPwr 6 false).setPwr 7 false
    .next { s with pwr := { s.pwr with main := true, ramp := true, closePermit := false } }
  else .next s

/-- MAIN_GOOD (R597): PWR_GOOD is asserted, and step 1 begins with the input monitors. -/
def execMainGood (s : State) : Host.Outcome State Fault Refusal :=
  if s.pwr.main && !s.pwrBit 6 then
    let s := (s.setPwr 6 true).fput (glbPg 0) 0x48 11 8 1
    .next { s with tick := { s.tick with monitors := true } }
  else .next s

/-- POWER_ON_STEP (R597): the next step begins; step 2 needs the PLL locked, step 6 lights the
optical engines, and step 7 is the power-on test. -/
def execPowerOnStep (s : State) : Host.Outcome State Fault Refusal :=
  let n := s.fget (glbPg 0) 0x48 11 8
  if s.pwr.main && s.pwrBit 6 && decide (1 ≤ n ∧ n < 7) then
    let s := s.pllEval
    if !s.tick.locked then .next s
    else
      let s := s.fput (glbPg 0) 0x48 11 8 (n + 1)
      let s := if n = 5 then (List.range 16).foldl State.lightEngine s else s
      if n = 6 then .next ({ s with pwr := { s.pwr with ramp := false } }).postStart else .next s
  else .next s

/-- PLL_LOCK_TIMEOUT (R597 R46): the ramp is abandoned. -/
def execPllLockTimeout (s : State) : Host.Outcome State Fault Refusal :=
  if s.pwr.main && decide (s.fget (glbPg 0) 0x48 11 8 = 1) && !s.tick.locked then .next (s.powerOff true) else .next s

/-- POST_COMPLETE (R598 R607): instances enter DOCK or RETIRED, a failing instance that was tested in place causes the
fatal state, and GLB enters DOCK with VERDICT 1. -/
def execPostComplete (failed : List Nat) (s : State) : Host.Outcome State Fault Refusal :=
  if s.pwr.main && decide (s.fget (glbPg 0) 0x48 11 8 = 7) && !s.bget (glbPg 0) 0x48 31 then
    let s := servicePages.foldl (fun s p => s.postOne failed p) s
    let s := (s.bput (glbPg 0) 0x48 31 true).setVerdict (glbPg 0) 5 1 0
    let s := (s.endTransition (glbPg 0)).enterDock (glbPg 0)
    let bad := failed.any (fun c => match pageOfCode c with | some p => inPlace p | none => false)
    .next (if bad then s.enterFatal 10 else s)
  else .next s

/-- PRESENCE_LOSS (R51 R46): with the switch closed it opens, and a surprise-removal record is written. -/
def execPresenceLoss (contactB : Bool) (s : State) : Host.Outcome State Fault Refusal :=
  let s := { s with pwr := if contactB then { s.pwr with matedB := false } else { s.pwr with matedA := false } }
  if !s.pwr.aux then .next s
  else
    let s := s.setPwr (if contactB then 1 else 0) false
    let s := if s.pwr.matedA || s.pwr.matedB then s else s.setPwr 2 false
    if s.pwr.main then
      let s := s.powerOff true
      .next { s with psto := { s.psto with surprise := true } }
    else .next s

/-- MAIN_EN_DEASSERT (R52 R46). -/
def execMainEnDeassert (s : State) : Host.Outcome State Fault Refusal :=
  if s.pwr.aux && s.pwrBit 4 then
    let s := s.setPwr 4 false
    .next (if s.pwr.main then s.powerOff true else s)
  else .next s

/-- A UV or OV turn-off (R36): no restart before a MAIN_EN cycle. -/
def State.railOff (s : State) (b : Nat) : State :=
  if s.pwr.main then
    let s := (s.powerOff true).setPwr b true
    { s with pwr := { s.pwr with ovuvPending := true } }
  else s

/-- UNDER_VOLTAGE (R36). -/
def execUnderVoltage (s : State) : Host.Outcome State Fault Refusal := .next (s.railOff 8)

/-- OVER_VOLTAGE (R36). -/
def execOverVoltage (s : State) : Host.Outcome State Fault Refusal := .next (s.railOff 9)

/-- AUX_RAIL_LOSS (R37): the main domain never runs without the auxiliary one. -/
def execAuxRailLoss (s : State) : Host.Outcome State Fault Refusal :=
  if s.pwr.aux then
    let s := if s.pwr.main then s.powerOff true else s
    .next { s with pwr := { s.pwr with aux := false } }
  else .next s

/-- AUXILIARY_POWER_UP (R594 R123): every register of both domains resets but the persistent store's, the marks load
with the reserve, and what the store holds shows in PWR_STAT and THERM_STAT. -/
def execAuxiliaryPowerUp (s : State) : Host.Outcome State Fault Refusal :=
  if s.pwr.aux then .next s
  else
    let r := State.reset
    let t := { r with
      regs := (s.resetRegs (fun _ _ => true)).regs, psto := s.psto,
      fw := { r.fw with pendBank := s.fw.pendBank, raiseBank := s.fw.raiseBank },
      pwr := { r.pwr with matedA := s.pwr.matedA, matedB := s.pwr.matedB },
      nextId := s.nextId, freeCtr := s.freeCtr, out := s.out, pending := s.pending }
    let t := ((t.setPwr 11 s.pwr.lowMate).setPwr 12 s.psto.surprise).bput (mgmtPg 3) 0x54 2 s.psto.trip
    .next t.loadHwms.applyRetired.mcBoot

/-- THERMAL_SAMPLE (R38 R39 R41 R42): the management controller's readings, AUX_OK (R35) and SAFE_REMOVE as they now
stand, and the WARN and CRIT levels. FLOW_LOW and INLET_HIGH are conditions of R39, so they read 0 while the main domain
is off (log 140). -/
def execThermalSample (t : ThermalReading) (s : State) : Host.Outcome State Fault Refusal :=
  if !s.pwr.aux || s.zyn.mcReset then .next s
  else
    let p := mgmtPg 3
    let s := ((s.fput p 0x44 15 0 t.v48).fput p 0x48 15 0 t.i48).fput p 0x4C 15 0 t.watts
    let s := (s.setPwr 3 (decide (1140 ≤ t.v12 ∧ t.v12 ≤ 1260))).setPwr 7 (!s.pwr.main)
    let s := s.put p 0x50 (t.outlet % 256 * 2 ^ 24 + t.inlet % 256 * 2 ^ 16 + t.flow % 65536)
    let s := (s.fput p 0x54 23 16 t.opteMax).fput p 0x54 15 8 t.dieMax
    let warn := decide (95 ≤ t.dieMax ∨ 70 ≤ t.opteMax)
    let low := s.pwr.main && decide (t.flow < 350)
    let high := s.pwr.main && decide (40 < t.inlet)
    let s := if warn && !s.therm 0 then (List.range 16).foldl (fun s h => s.pfEvent h 2) (s.event 1 .thermal) else s
    let s := if (low && !s.therm 4) || (high && !s.therm 3) then s.event 1 .coolant else s
    let s := ((s.bput p 0x54 0 warn).bput p 0x54 4 low).bput p 0x54 3 high
    .next (if (105 ≤ t.dieMax ∨ 78 ≤ t.opteMax) ∧ s.pwr.critPending = false then s.crit else s)

/-- TEMPERATURE_TRIP (R38 R42): a hardware comparator opens the switch; the persistent store records it. Like every
opening during the ramp it aborts the ramp and sets RAMP_FAULT (log 140). -/
def execTemperatureTrip (s : State) : Host.Outcome State Fault Refusal :=
  if s.pwr.aux then
    let s := (if s.pwr.main then s.powerOff true else s).bput (mgmtPg 3) 0x54 2 true
    .next { s with psto := { s.psto with trip := true } }
  else .next s

/-- CRIT_POWER_OFF (R38 R560): the dump has ended, or 250 ms have passed. -/
def execCritPowerOff (s : State) : Host.Outcome State Fault Refusal :=
  if s.pwr.main && s.pwr.critPending then .next (s.powerOff true) else .next s

/-- LEAK (R40 R49): a CRIT condition while LEAK# is asserted. -/
def execLeak (asserted : Bool) (s : State) : Host.Outcome State Fault Refusal :=
  if !s.pwr.aux || s.zyn.mcReset then .next s
  else
    let s := s.bput (mgmtPg 3) 0x54 5 asserted
    .next (if asserted then s.crit else s)

/-- ATTN_REQ (R49): each change raises an event to the fabric manager. -/
def execAttnReq (asserted : Bool) (s : State) : Host.Outcome State Fault Refusal :=
  if s.pwr.aux && decide (s.pwrBit 13 ≠ asserted) then .next ((s.setPwr 13 asserted).event 1 .attn) else .next s

/-- RAIL_OUT_OF_LIMITS (R46 R41): a rail is outside its operating range. During the ramp that abandons it; AUX_OK reports
the 12 V rail. -/
def execRailOutOfLimits (rail12 : Bool) (s : State) : Host.Outcome State Fault Refusal :=
  let s := if rail12 && s.pwr.aux then s.setPwr 3 false else s
  if s.pwr.main && s.pwr.ramp then .next (s.powerOff true) else .next s

end Sys2Proof.Machine
end

