-- ==== Sys2Proof/Machine/Rma.lean ====
section
/-! DEFINITION. The descriptors NOP, PUT, PUT_SIGNAL, GET and ATOMIC (11_remote_memory.md R327-R331, 14 R452 R453). -/

namespace Sys2Proof.Machine

/-- The upper-layer part of an RMA request: opcode, RFLAGS, RKEY and WOFS (R320). -/
def rmaUlp (op rflags rkey wofs : Nat) : Bytes := beBytes 1 op ++ beBytes 1 rflags ++ beBytes 4 rkey ++ beBytes 6 wofs

/-- The headers of the packets of an RMA descriptor. -/
def State.rmaHdr (s : State) (v : Nat) (b : Bytes) (op rflags wofs : Nat) : Bytes :=
  s.msgHdr (s.dLoc v) (dRem b) v (dDstVi b) (rmaUlp op rflags (dRkey b) wofs)

/-- Eager DATA packets of a message of L bytes (R288). -/
def eagerPkts (len : Nat) : Nat := if 8192 < len then 0 else if 4096 < len then 2 else 1

/-- A message that starts with nothing sent. -/
def msgOf (v desc : Nat) (kind : MsgKind) (len : Nat) (hdr : Bytes) (laddr keys : Nat) (fence : Bool) : TxMsg :=
  { id := 0, vi := v, desc := desc, kind := kind, len := len, hdr := hdr, laddr := laddr, keys := keys, fence := fence,
    ofs := 0, paced := none, reads := [], fetching := decide (kind = .fetch), status := none, seqs := [], allSent := false,
    announced := false, granted := 0 }

/-- Starts the put of a descriptor (R327); one of no bytes completes at once. -/
def State.startPut (s : State) (v : Nat) (d : Desc) (kind : MsgKind) : State :=
  let b := d.bytes
  s.launch v d (s.dLoc v) (dRem b) (eagerPkts (dLen b)) (decide (8192 < dLen b)) (fun s =>
    s.startData (s.dLoc v) (dRem b) v d.num kind (s.rmaHdr v b opPut 0 (dWofs b)) (dLaddr b) d.keys (dLen b) 0)

/-- Starts the SIGNAL of a put-with-signal of no bytes (R330 R452). -/
def State.startOnlySignal (s : State) (v : Nat) (d : Desc) : State :=
  let b := d.bytes
  s.launch v d (s.dLoc v) (dRem b) 1 false (fun s =>
    s.startSignal (s.dLoc v) (dRem b) v d.num
      (s.msgHdr (s.dLoc v) (dRem b) v (dDstVi b) (rmaUlp opSignal (dRflags b) (leAt b 0x2C 4) (leAt b 0x30 6 / 8 * 8)))
      (slice b 0x38 8))

/-- Starts the get of a descriptor: its first read request (R295 R329 R335). -/
def State.startGet (s : State) (v : Nat) (d : Desc) : State :=
  let b := d.bytes
  s.launch v d (s.dLoc v) (dRem b) 0 false (fun s =>
    let loc := s.dLoc v
    let fence := bit (dRflags b) 7
    let hdr := s.rmaHdr v b opGetReq (dRflags b) (dWofs b)
    let (s, id) := s.newMsg loc (dRem b) (msgOf v d.num .get (dLen b) hdr (dLaddr b) d.keys fence)
    s.pushReq (getReq v loc (dRem b) id hdr 0 (dLen b) fence))

/-- Bytes of an atomic's operand image (R322). -/
def operandLen (rflags : Nat) : Nat := (if bit rflags 4 then 16 else 8) * (if rflags % 16 = 2 then 2 else 1)

/-- Starts the atomic of a descriptor: with WIDE or CAS its operand image is read from OADDR (R331 R453). -/
def State.startAtomic (s : State) (v : Nat) (d : Desc) (operand : Bytes) : State :=
  let b := d.bytes
  let rf := dRflags b
  s.launch v d (s.dLoc v) (dRem b) 1 false (fun s =>
    let image : Except Nat (State × Bytes) :=
      if bit rf 4 ∨ rf % 16 = 2 then
        match s.viRead v (leAt b 0x30 8) (operandLen rf) (some d.keys) with
        | .ok s => .ok (s.hostTxn (xptStop (viPort v / 2)) v 0 false (operandLen rf), padTo operand (operandLen rf))
        | .error e => .error e
      else .ok (s, slice b 0x38 8)
    match image with
    | .error e => s.complete v d.num e []
    | .ok (s, data) =>
      let loc := s.dLoc v
      let u := if bit rf 4 then 16 else 8
      let hdr := s.rmaHdr v b opAtomic rf (dWofs b / u * u)
      let kind : MsgKind := if bit rf 6 then .fetch else .atomic
      let (s, id) := s.newMsg loc (dRem b) (msgOf v d.num kind data.length hdr (dLaddr b) d.keys false)
      s.pushReq (reqOf v loc (dRem b) id (msgPkt hdr 1 (flFirst + flLast) id 0) none data.length data true))

/-- NOP (R452). -/
def execNop (vi queue : Nat) (s : State) : Host.Outcome State Fault Refusal :=
  match s.headDesc vi queue 0x00 with
  | none => .next s
  | some d => .next (s.runDesc vi d (fun s => (stOk, [], s)))

/-- PUT (R327). -/
def execPut (vi queue : Nat) (s : State) : Host.Outcome State Fault Refusal :=
  match s.headDesc vi queue 0x01 with
  | none => .next s
  | some d =>
    if dLen d.bytes = 0 then .next (s.runDesc vi d (fun s => (stOk, [], s))) else .next (s.startPut vi d .put)

/-- PUT_SIGNAL (R330). -/
def execPutSignal (vi queue : Nat) (s : State) : Host.Outcome State Fault Refusal :=
  match s.headDesc vi queue 0x02 with
  | none => .next s
  | some d => if dLen d.bytes = 0 then .next (s.startOnlySignal vi d) else .next (s.startPut vi d .putSignal)

/-- GET (R329 R335). -/
def execGet (vi queue : Nat) (s : State) : Host.Outcome State Fault Refusal :=
  match s.headDesc vi queue 0x03 with
  | none => .next s
  | some d =>
    if dLen d.bytes = 0 then .next (s.runDesc vi d (fun s => (stOk, [], s))) else .next (s.startGet vi d)

/-- ATOMIC (R331); `operand` is what OADDR holds. -/
def execAtomic (vi queue : Nat) (operand : Bytes) (s : State) : Host.Outcome State Fault Refusal :=
  match s.headDesc vi queue 0x04 with
  | none => .next s
  | some d => .next (s.startAtomic vi d operand)

end Sys2Proof.Machine
end

