-- ==== Sys2Proof/Machine/Service.lean ====
section
/-! DEFINITION. The commands of service changes and of the management controller's reset (21_bringup_service.md R594-R606). -/

namespace Sys2Proof.Machine

/-- MC_RESET (R596): a reset that MC_RST.GO asked for, once its reply has been sent. -/
def execMcReset (s : State) : Host.Outcome State Fault Refusal :=
  if s.pwr.aux && s.zyn.mcResetDue then .next s.mcResetNow else .next s

/-- MC_WATCHDOG (R594 R596). -/
def execMcWatchdog (s : State) : Host.Outcome State Fault Refusal :=
  if s.pwr.aux && !s.zyn.mcReset then .next s.mcResetNow else .next s

/-- MC_RESET_COMPLETE (R596 R609). -/
def execMcResetComplete (s : State) : Host.Outcome State Fault Refusal :=
  if s.pwr.aux && s.zyn.mcReset then .next ({ s with zyn := { s.zyn with mcReset := false } }).mcBoot else .next s

/-- SERVICE_DRAIN_COMPLETE (R601). -/
def execServiceDrainComplete (page : Nat) (s : State) : Host.Outcome State Fault Refusal :=
  match pageOfCode page with
  | none => .next s
  | some p => .next (if s.powered p then s.drainComplete p.zero else s)

/-- Every stop that has a fence is fenced, each with its journal record (R606 R473). -/
def State.fenceAll (s : State) : State :=
  ringUnits.foldl (fun s p => if s.bget p 0xC 2 then s else s.setFenced p) s

/-- GLB_DRAIN_END (R606): every tile and XPT unit has drained, or the limit has passed. The stops are fenced, the switch opens
with SAFE asserted, and GLB enters OUT. -/
def execGlbDrainEnd (s : State) : Host.Outcome State Fault Refusal :=
  let drained := (instPages .tile ++ instPages .xpt).all s.drained
  if s.pwr.main ∧ s.svcState (glbPg 0) = svcDraining ∧ (drained ∨ s.overdue (glbPg 0)) then
    let before := s.get (glbPg 0) 0xC
    let s := s.fenceAll.powerOff false
    .next (s.record3 (glbPg 0) 0xC before (s.get (glbPg 0) 0xC))
  else .next s

/-- DRAIN_LIMIT (R604). -/
def execDrainLimit (page : Nat) (s : State) : Host.Outcome State Fault Refusal :=
  match pageOfCode page with
  | none => .next s
  | some q =>
    let p := q.zero
    if s.powered p ∧ s.overdue p ∧ Tab.get (fun _ => false) s.svc.drainTold (pageCode p) = false then
      let s := { s with svc := { s.svc with drainTold := Tab.set (fun _ => false) s.svc.drainTold (pageCode p) true } }
      .next ((s.raise (glbPg 0) 16).event 1 (.drainLimit (pageCode p)))
    else .next s

end Sys2Proof.Machine
end

