-- ==== Sys2Proof/Machine/TickJobs.lean ====
section
/-! DEFINITION. The tick jobs that run at a boundary: counter snapshot (20_counters.md R589-R593) and conservation audit
(19_reliability.md R543-R546). -/

namespace Sys2Proof.Machine

/-! Job 0: the counter snapshot. -/

/-- Entry k of the page list as a snapshot holds it (R590): its ENTRY_ID, and the page's 16 counters. -/
def State.snapEntry (s : State) (k : Nat) : Bytes :=
  let e := s.get pmonPg (0x100 + 4 * k)
  let page : Option PageRef := if bit e 30 then some (vfPg (e % 4096) 1) else (locate (e % 8192 * 4096)).map Prod.fst
  match page with
  | none => leBytes 4 e ++ zeros 132
  | some p =>
    leBytes 4 e ++ leBytes 4 (s.get p 0) ++
      (if bit e 31 then (List.range 16).flatMap (fun n => leBytes 8 (s.ctr p n)) else zeros 128)

/-- The record of a snapshot tick, whole or marked MISSING (R590 R591). -/
def State.snapRecord (s : State) (missing : Bool) : Bytes :=
  let n := min 64 (s.fget pmonPg 0x40 6 0)
  let b := leBytes 8 s.nowTick ++ leBytes 1 (b2n missing) ++ leBytes 1 n ++ zeros 2 ++ leBytes 4 (s.get pmonPg 0x50) ++ zeros 16 ++
    (if missing then zeros (136 * n) else (List.range n).flatMap s.snapEntry)
  padTo b (64 * ceilDiv b.length 64)

/-- A record goes to the ring, or is dropped: a full ring, a link that is down, or the fatal state, which keeps host
memory unwritten (R591 R555). -/
def State.snapWrite (s : State) (missing : Bool) : State :=
  let b := s.snapRecord missing
  let n := 2 ^ max 4 (min 16 (s.fget pmonPg 0x40 12 8))
  let wr := s.get64 pmonPg 0x50
  let h := s.fget pmonPg 0x40 27 24
  let full := decide (wrapSub 64 wr (s.get64 pmonPg 0x58) = n)
  let s := s.put64 pmonPg 0x50 (wrapAdd 64 wr 1)
  if full || !s.bget (hostPg h 0) 0x44 31 || s.fatal then (s.satAdd pmonPg 0x60 31 0 1).bump pmonPg 2 1
  else
    let s := s.hostWrite h (s.get64 pmonPg 0x48 + wr % n * b.length) b
    ((s.bump pmonPg 0 1).bump pmonPg 1 (b2n missing)).bump pmonPg 3 (b.length / 64)

/-- Job 0 at cc 0: a snapshot tick's record (R589 R591). -/
def State.snapJob (s : State) (go : Bool) : State :=
  if s.works pmonPg && s.bget pmonPg 0x40 31 && decide (s.nowTick % 2 ^ min 16 (s.fget pmonPg 0x40 20 16) = 0) then
    s.snapWrite (!go)
  else s

/-! Job 1: the conservation audit. -/

/-- A page's instance is powered and not FENCED (R545). -/
def State.unfenced (s : State) (p : PageRef) : Bool := s.powered p && !s.bget p.zero 0xC 2

/-- Number of an audit pool: kind, instance and sub-pool as AUDIT_FAIL0 [30:0] holds them (R577). -/
def poolNo (kind inst sub : Nat) : Nat := 2 ^ 28 * kind + 2 ^ 16 * inst + sub

/-- Ports whose link credits are audited: those that hold a session (R545). -/
def State.creditPorts (s : State) : List Nat :=
  (s.links.filter (fun e => e.2.session && s.unfenced (portPg e.1))).map Prod.fst

/-- Audited pools of a kind (R543 R545): each ring hop has two virtual channels in each network class, 84 for a stop's
outgoing hops in all (R466 R468); each target has four levels of slots for every other stop, and a HOST six for snoops
(R471 R472). -/
def State.poolCount (s : State) (kind : Nat) : Nat :=
  match kind with
  | 1 => 16 * s.creditPorts.length
  | 2 => 84 * ((List.range 64).filter (fun k => s.unfenced (nocPg k))).length
  | 3 => 252 * (64 - (ringUnits.filter (fun p => !s.unfenced p)).length) +
      6 * ((List.range 16).filter (fun h => s.unfenced (hostPg h 0))).length
  | 4 => ((List.range 64).filter (fun t => s.unfenced (tilePg t))).length
  | 5 => ((List.range 16).filter (fun h => s.unfenced (hostPg h 0))).length
  | 6 => if s.unfenced (cleatPg 0) then 64 else 0
  | _ => 0

/-- Messages that hold a hop credit of a pool: those on the hop, and those in the queue it leads to (R543). -/
def State.hopHeld (s : State) (k : Nat) : Nat := (s.noc.msgs.filter (fun m => decide (m.hold = some k))).length

/-- Requests that hold a slot of a key. -/
def State.slotHeld (s : State) (k : Nat) : Nat :=
  (s.noc.txns.filter (fun t => decide (reqKey t.dst t.src t.level = k))).length

/-- The checks of the pools whose terms the state holds apart: pool, expected total and latched sum. The terms of the
other kinds are two readings of one datum of the state and always agree; a ring credit or slot that no stop lists as in use
and no message or request holds is free at its stop. -/
def State.auditTerms (s : State) : List (Nat × Nat × Nat) :=
  let zero : Nat → Nat := fun _ => 0
  s.creditPorts.flatMap (fun p => (List.range 16).map (fun v =>
    let l := s.link p
    let held := wrapSub 16 (Tab.get zero l.arrived v) (Tab.get zero l.freed v)
    let out := wrapSub 16 (Tab.get zero l.sent v) (Tab.get zero l.peerFreed v)
    let mine := Tab.get zero l.heldCells v
    let bad := decide (held ≠ mine ∨ Tab.get zero l.ownLimit v < held)
    if bad then (poolNo 1 p v, mine, held)
    else (poolNo 1 p v, min out (Tab.get zero l.limit v), out))) ++
  ((s.noc.lent.map Prod.fst ++ s.noc.msgs.filterMap NocMsg.hold).filter (fun k => s.unfenced (nocPg (k / 256)))).map (fun k =>
    (poolNo 2 (k / 256) (k % 256), Tab.get zero s.noc.lent k, s.hopHeld k)) ++
  ((s.noc.taken.map Prod.fst ++ s.noc.txns.map (fun t => reqKey t.dst t.src t.level)).filter
      (fun k => s.unfenced (nocPg (k / 256)))).map (fun k =>
    (poolNo 3 (k / 256) (k % 256), Tab.get zero s.noc.taken k, s.slotHeld k)) ++
  ((List.range 64).filter (fun t => s.unfenced (tilePg t))).map (fun t =>
    (poolNo 4 t 0, s.get (tilePg t) 0x48, s.get (tilePg t) poFree + s.get (tilePg t) poResv + s.get (tilePg t) poUsed))

/-- The first failing check is recorded, and the fatal state entered (R544 R577). -/
def State.auditFail (s : State) (f : Nat × Nat × Nat) : State :=
  let s := ((s.put (glbPg 4) 0x40 (2 ^ 31 + f.1)).put (glbPg 4) 0x44 f.2.1).put (glbPg 4) 0x48 f.2.2
  (s.put64 (glbPg 4) 0x4C s.nowTick).enterFatal 1

/-- Consecutive skips by pool number; number 0 counts the ticks in which the whole job was skipped. -/
def State.skipsOf (s : State) (u : Nat) : Nat := Tab.get (fun _ => 0) s.relia.auditSkips u

/-- The audit of a tick (R544-R546). `unread` are the pools whose compare did not end in its window. -/
def State.auditJob (s : State) (unread : List Nat) : State :=
  let us := (unread.filter (fun u => decide (1 ≤ u / 2 ^ 28 ∧ u / 2 ^ 28 ≤ 6))).eraseDups
  let skips := us.foldl (fun t u => Tab.set (fun _ => 0) t u (max (s.skipsOf u) (s.skipsOf 0) + 1)) ([] : Tab Nat)
  let s := [1, 2, 3, 4, 5, 6].foldl (fun s k =>
    let n := (us.filter (fun u => decide (u / 2 ^ 28 = k))).length
    (s.bump (glbPg 4) (k - 1) (s.poolCount k - n)).bump (glbPg 4) (k + 5) n) s
  let bad := argMin (fun e => e.1) (s.auditTerms.filter (fun e => decide (e.1 ∉ us ∧ e.2.1 ≠ e.2.2)))
  let s := { s with relia := { s.relia with auditSkips := skips } }
  let s := if us.isEmpty then s.put (glbPg 4) 0x54 (s.nowTick % 2 ^ 32) else s
  let s := match bad with | some f => s.auditFail f | none => s
  if skips.any (fun e => decide (4 ≤ e.2)) then s.enterFatal 2 else s

/-- A tick whose audit is skipped as a whole, because the last one still runs (R72 R73 R546). -/
def State.auditSkip (s : State) : State :=
  let skips := Tab.set (fun _ => 0) (s.relia.auditSkips.map (fun e => (e.1, e.2 + 1))) 0 (s.skipsOf 0 + 1)
  let s := [1, 2, 3, 4, 5, 6].foldl (fun s k => s.bump (glbPg 4) (k + 5) (s.poolCount k)) s
  let s := { s with relia := { s.relia with auditSkips := skips } }
  if skips.any (fun e => decide (4 ≤ e.2)) then s.enterFatal 2 else s

/-- Rows withdrawn since the last boundary leave TOTAL, USED and SHARED before the latch (R545 R548). -/
def State.applyWithdrawals (s : State) : State :=
  let less (t : Nat) (n : Nat) (s : State) (off : Nat) : State := s.put (tilePg t) off (s.get (tilePg t) off - n)
  let s' := s.relia.withdrawing.foldl (fun s e => [0x48, poUsed, 0x58].foldl (less e.1 (64 * e.2)) s) s
  { s' with relia := { s'.relia with withdrawing := [] } }

end Sys2Proof.Machine
end

