-- ==== Sys2Proof/Machine/Tick.lean ====
section
/-! DEFINITION. The tick boundary (03_reference_and_tick.md R59-R74): what the tick that ends leaves behind, and what
begins at cc 0. -/

namespace Sys2Proof.Machine

/-! The end of a tick. -/

/-- ACKs that are due by the boundary (R280). -/
def State.boundaryAcks (s : State) : State :=
  let due := s.xpts.flatMap (fun e => (e.2.ctxs.filter (fun c => match c.rx with | some r => r.ackDue | none => false)).map
    (fun c => (c.loc, c.rem)))
  due.foldl (fun s e => s.sendAck e.1 e.2 none) s

/-- Packets that a commit holds: the tick counts toward no limit and runs no timer (R283 R302). -/
def State.holdTicks (s : State) : State :=
  if s.route.commit.isNone then s
  else
    let age (c : Ctx) (p : UPkt) : UPkt :=
      if s.heldBy (pkClass p.pkt) c.rem then { p with heldTicks := p.heldTicks + 1, stalled := p.stalled + 1 } else p
    let ctx (c : Ctx) : Ctx := { c with tx := c.tx.map (fun (h : TxHalf) => { h with unacked := h.unacked.map (age c) }) }
    { s with xpts := Tab.mapKV xptD (fun _ x => { x with ctxs := x.ctxs.map ctx }) s.xpts }

/-- The clearance numbers of a host port for the tick that ends: LAST_ISSUED and the tick's counter (R305 R307). -/
def State.closeClearances (s : State) (h : Nat) : State :=
  let n := Tab.get (fun _ => 0) (s.xpt (h / 2)).issued (h % 2)
  let s := s.bump (xptPg (h / 2) 2) (4 * (h % 2) + 3) (b2n (decide (0 < n ∧ s.clrTick h ≤ n)))
  s.fput (xptPg (h / 2) 2) (0x44 + 16 * (h % 2)) 23 16 n

/-- Per-tick allowances start anew (R291 R292 R338). -/
def State.newAllowances (s : State) : State :=
  let s := (List.range 16).foldl State.closeClearances s
  { s with xpts := Tab.mapKV xptD (fun _ x => { x with eagerLast := x.eager, eager := [], issued := [], ran := false }) s.xpts,
           mwus := Tab.mapKV mwuD (fun _ m => { m with violNow := [] }) s.mwus }

/-- Counters of ticks in blocks of the switch die: REPLAY_FULL, HEADROOM, HOLDING and old telltales (R162 R195 R263). -/
def State.countFabric (s : State) : State :=
  let s := s.links.foldl (fun s e => s.bump (portPg e.1) 9 (b2n (s.bget (portPg e.1) 0x4C 6))) s
  let s := (List.range 16).foldl (fun s k => (List.range 4).foldl (fun s w =>
    s.bump (optePg k 1) w (b2n (s.bget (optePg k 1) 0x44 w))) s) s
  let limit := max 1 (s.cfgf routePg 0x48 19 16)
  let old := (s.route.telltale.filter (fun e => match e.2 with
    | some f => decide (limit < wrapSub 32 s.nowTick (beAt f 4 4))
    | none => false)).length
  (s.bump routePg 12 old).bump routePg 14 (b2n (s.bget routePg 0x44 6))

/-- Counters of ticks elsewhere: TICK, the VI shapers that end below zero, completions that waited (R79 R542 R444). -/
def State.countEnds (s : State) : State :=
  let s := (s.bump (tickPg 1) 11 (b2n (s.bget (tickPg 0) 0x4C 8))).bump (tickPg 1) 12 (b2n (!s.bget (tickPg 0) 0x4C 6))
  let s := s.viShapers.foldl (fun s e => s.bump (viPg e.1) (4 * e.2 + 2) (b2n (decide (s.shaperLevel e.1 e.2 < 0)))) s
  (List.range 16).foldl (fun s h =>
    s.bump (hostPg h 0) 9 (b2n (s.vis.any (fun e => decide (viPort e.1 = h) && !e.2.waiting.isEmpty)))) s

/-- High-water marks that the tick raised have reached the persistent store (R122). -/
def State.persistMarks (s : State) : State := s.zyn.dirty.foldl State.persistHwm s

/-- A port at the end of a tick: held frames counted, the error window, HOLD.LEFT, RETRAIN_ARMED; a telltale that has
not left is not sent late (R541 R183 R187 R184 R72). -/
def State.portEnd (s : State) (p : Nat) : State :=
  let l := s.link p
  let s := if l.shapeHeld then s.satAdd (portPg p) 0x10C 31 0 1 else s
  let w := 2 ^ max 6 (min 14 (s.fget (portPg p) 0x44 23 20))
  let s := if l.session && !decide (s.linkState p = lkUp) then s.fput (portPg p) 0x48 25 16 (s.fget (portPg p) 0x48 25 16 - 1) else s
  let rw := 2 ^ max 4 (s.fget (portPg p) 0x44 19 16)
  let old := match l.lastRetrain with | some t => decide (t + rw < s.nowTick) | none => false
  let s := if old && s.bget (portPg p) 0x4C 4 then s.bput (portPg p) 0x4C 4 false else s
  s.updLink p (fun l => { l with shapeHeld := false, telltaleDue := none,
                                 errors := if s.nowTick % w = 0 then 0 else l.errors })

/-- The tick that ends. -/
def State.endTick (s : State) : State :=
  let s := if s.fatal then s else s.boundaryAcks
  (s.holdTicks.newAllowances.countFabric.countEnds.persistMarks).zAfterPersist

/-! The start of a tick. -/

/-- TICK.COUNT, the jobs still running, and where completed runs ended (R59 R73 R78). -/
def State.openTick (s : State) (o : TickObs) : State :=
  let n := wrapAdd 64 s.tick.count 1
  let on (j : Nat) : Bool := decide (j < 9 ∨ (16 ≤ j ∧ j < 32))
  let busy := (o.late.filter on).foldl (fun t j => Tab.set (fun _ => false) t j true) ([] : Tab Bool)
  let s := o.ends.foldl (fun s e =>
    if e.1 < 9 ∧ e.1 ≠ 5 ∧ e.1 ≠ 7 ∧ e.1 ≠ 8 ∧ (s.fatal = false ∨ e.1 = 0 ∨ e.1 = 2) then s.jobEnd e.1 e.2 else s) s
  let s := s.put64 (tickPg 0) 0x40 n
  { s with tick := { s.tick with count := n, cc := 0, busy := busy, skipped := [], cfg0 := s.regs } }

/-- A tile at cc 0: the counter of a short shared region (R219 R204). -/
def State.tileCount (s : State) (t : Nat) : State :=
  let free := s.fget (tilePg t) 0x58 16 0 - (s.tile t).sharedUsed
  s.bump (tilePg t) 10 (b2n (s.powered (tilePg t) && decide (free ≤ s.fget (tilePg t) 0x40 15 0)))

/-- Markers on every port that is UP, and the telltales (R64 R245). -/
def State.sendMarkers (s : State) : State :=
  s.links.foldl (fun s e =>
    if s.linkState e.1 = lkUp then
      let m := s.markerCell e.1
      s.updLink e.1 (fun l => { l with markerDue := some m })
    else s) s
def State.sendTelltales (s : State) : State :=
  if s.works routePg then
    let f := s.telltaleCells
    s.links.foldl (fun s e =>
      if s.linkState e.1 = lkUp && !s.isLany e.1 then s.updLink e.1 (fun l => { l with telltaleDue := some f }) else s) s
  else s

/-- LANY.SHAREc.LAG (R580). -/
def State.countLags (s : State) : State :=
  if s.bget (lanyPg 0) 0x40 31 then
    (List.range 16).foldl (fun s c => s.satAdd (lanyPg 1) (0x40 + 4 * c) 23 16 1) s
  else s

/-- The jobs that the fatal state leaves running: 0 and 2 (R556). -/
def State.firstJobs (s : State) (o : TickObs) : State :=
  let s := s.applyWithdrawals
  let (s, go) := s.jobStart 0
  let s := s.snapJob go
  if s.fatal then s
  else
    match s.jobStart 1 with
    | (s, true) => s.auditJob o.unread
    | (s, false) => s.auditSkip

/-- What else begins at cc 0 outside the fatal state: the parent and its tracking, an armed commit, markers, telltales,
refill, shares, firmware (R65 R67 R254 R64 R245 R532 R501 R495). -/
def State.midJobs (s : State) : State :=
  let s := (List.range 64).foldl State.tileCount s
  let s := s.selectParent.trackPhase
  let (s, go3) := s.jobStart 3
  let s := (if go3 then s.commitStage else s).sendMarkers
  let (s, go4) := s.jobStart 4
  let s := if go4 then s.sendTelltales else s
  let (s, go6) := s.jobStart 6
  let s := if go6 then s.refillJob else { s with tick := { s.tick with missedRefills := s.tick.missedRefills + 1 } }
  s.moveShares.countLags.beginFw

/-- Spare switches that wait, and the training frames of the tick that begins (R136 R154). -/
def State.laneJobs (s : State) : State :=
  let s := (s.spares.map Prod.fst).foldl State.nextSpare s
  ((s.lports.filter (fun e => e.2.live)).map Prod.fst).foldl (fun s p => s.syncLink (s.laneTick p) p) s

/-! Jobs that start later in the tick, when the Zynken window is over (R72). -/

/-- CLEARANCE_SCHEDULING (R291): a run of tick job 7 in one XPT unit, which reaches the first `reach` messages and ends in
core cycle `endCc`, after the Zynken window (R72). -/
def execClearanceScheduling (unit reach endCc : Nat) (s : State) : Host.Outcome State Fault Refusal :=
  let s := s.zFlush
  if !s.works (xptPg unit 0) ∨ 8 ≤ unit ∨ (s.xpt unit).ran then .next s
  else
    let (s, go) := s.jobStart 7
    if !go then .next s
    else
      let order := ((s.clrOrder (2 * unit)).map (fun e => (2 * unit, e)) ++
        (s.clrOrder (2 * unit + 1)).map (fun e => (2 * unit + 1, e))).take reach
      let s := order.foldl (fun s e => s.serveAnn e.1 e.2) s
      .next ((s.updXpt unit (fun x => { x with ran := true })).jobEnd 7 endCc)

/-- ADAPTIVE_WEIGHT_UPDATE (R242 R72): job 5 at cc 128; a run that overruns its window leaves the table in force. -/
def execAdaptiveWeightUpdate (endCc : Nat) (s : State) : Host.Outcome State Fault Refusal :=
  let s := s.zFlush
  let (s, go) := s.jobStart 5
  if go then
    let s := s.jobEnd 5 endCc
    if endCc < 512 then
      let ks := (List.range (s.rtD true)).flatMap (fun d => (List.range (s.rtN true d)).map (fun t => (d, t)))
      let tab := ks.foldl (fun tab k =>
        if k.2 = coord (s.rtSelf true) k.1 then tab else Tab.set (fun _ => 0) tab (32 * k.1 + k.2) (s.detourOf k.1 k.2)) []
      .next { s with route := { s.route with detourNext := some tab } }
    else .next s
  else .next s

/-- WEIGHTS_IN_FORCE (R72 R242): from cc 512 the table of the last completed update is in force. -/
def execWeightsInForce (s : State) : Host.Outcome State Fault Refusal :=
  let s := s.zFlush
  match s.route.detourNext with
  | some t => if s.fatal then .next s else .next { s with route := { s.route with detour := t, detourNext := none } }
  | none => .next s

/-- TICK_BOUNDARY (R59): while TICK runs. -/
def execTickBoundary (o : TickObs) (s : State) : Host.Outcome State Fault Refusal :=
  if s.tick.running = false then .next s
  else
    let s := ((((s.zFlush).refillTo 255).endTick).openTick o).keysDue
    let s := (s.links.map Prod.fst).foldl State.portEnd s
    let s := s.firstJobs o
    let s := if s.fatal then s else s.midJobs
    let s := o.lanes.foldl State.fomUpdate s
    let s := if s.fatal then s else s.laneJobs
    let (s, go2) := s.jobStart 2
    .next (if go2 then s.zWindow else s)

end Sys2Proof.Machine
end

