-- ==== Sys2Proof/Machine/Dispatch.lean ====
section
/-! DEFINITION. One arm for each command. -/

namespace Sys2Proof.Machine

/-- The effect of a command on everything but the queue. -/
def exec (i : Instr) (s : State) : Host.Outcome State Fault Refusal :=
  match i with
  | .stage2Mate filterLow => Sys2Proof.Machine.execStage2Mate filterLow s
  | .presenceMate contactB => Sys2Proof.Machine.execPresenceMate contactB s
  | .presenceDebounced contactB => Sys2Proof.Machine.execPresenceDebounced contactB s
  | .prsntSkewTimeout => Sys2Proof.Machine.execPrsntSkewTimeout s
  | .mainEnAssert lowMs => Sys2Proof.Machine.execMainEnAssert lowMs s
  | .hotSwapClose => Sys2Proof.Machine.execHotSwapClose s
  | .mainGood => Sys2Proof.Machine.execMainGood s
  | .powerOnStep => Sys2Proof.Machine.execPowerOnStep s
  | .pllLockTimeout => Sys2Proof.Machine.execPllLockTimeout s
  | .postComplete failed => Sys2Proof.Machine.execPostComplete failed s
  | .presenceLoss contactB => Sys2Proof.Machine.execPresenceLoss contactB s
  | .mainEnDeassert => Sys2Proof.Machine.execMainEnDeassert s
  | .underVoltage => Sys2Proof.Machine.execUnderVoltage s
  | .overVoltage => Sys2Proof.Machine.execOverVoltage s
  | .auxRailLoss => Sys2Proof.Machine.execAuxRailLoss s
  | .auxiliaryPowerUp => Sys2Proof.Machine.execAuxiliaryPowerUp s
  | .thermalSample t => Sys2Proof.Machine.execThermalSample t s
  | .temperatureTrip => Sys2Proof.Machine.execTemperatureTrip s
  | .critPowerOff => Sys2Proof.Machine.execCritPowerOff s
  | .leak asserted => Sys2Proof.Machine.execLeak asserted s
  | .attnReq asserted => Sys2Proof.Machine.execAttnReq asserted s
  | .refInputGood inputB => Sys2Proof.Machine.execRefInputGood inputB s
  | .refInputLoss inputB => Sys2Proof.Machine.execRefInputLoss inputB s
  | .holdoverTimeout => Sys2Proof.Machine.execHoldoverTimeout s
  | .refselWrite w => Sys2Proof.Machine.execRefselWrite w s
  | .tickBoundary o => Sys2Proof.Machine.execTickBoundary o s
  | .tickMarkerReceive port frame arrival => Sys2Proof.Machine.execTickMarkerReceive port frame arrival s
  | .clearanceScheduling unit reach endCc => Sys2Proof.Machine.execClearanceScheduling unit reach endCc s
  | .adaptiveWeightUpdate endCc => Sys2Proof.Machine.execAdaptiveWeightUpdate endCc s
  | .weightsInForce => Sys2Proof.Machine.execWeightsInForce s
  | .pairedJournalling share endCc => Sys2Proof.Machine.execPairedJournalling share endCc s
  | .registerWrite ws => Sys2Proof.Machine.execRegisterWrite ws s
  | .narrowAccess access addr => Sys2Proof.Machine.execNarrowAccess access addr s
  | .pairLoRead path addr => Sys2Proof.Machine.execPairLoRead path addr s
  | .pairLoWrite w => Sys2Proof.Machine.execPairLoWrite w s
  | .pairHiCommit ws => Sys2Proof.Machine.execPairHiCommit ws s
  | .readClear path addr => Sys2Proof.Machine.execReadClear path addr s
  | .blkEnableWrite w => Sys2Proof.Machine.execBlkEnableWrite w s
  | .softReset w => Sys2Proof.Machine.execSoftReset w s
  | .fenceRequest w => Sys2Proof.Machine.execFenceRequest w s
  | .fenceComplete page => Sys2Proof.Machine.execFenceComplete page s
  | .fenceRelease w => Sys2Proof.Machine.execFenceRelease w s
  | .fenceTimeout page => Sys2Proof.Machine.execFenceTimeout page s
  | .blkErrinjWrite w => Sys2Proof.Machine.execBlkErrinjWrite w s
  | .errorInjectionRaise page => Sys2Proof.Machine.execErrorInjectionRaise page s
  | .selfTestStart w => Sys2Proof.Machine.execSelfTestStart w s
  | .selfTestVerdict page verdict fails => Sys2Proof.Machine.execSelfTestVerdict page verdict fails s
  | .journalRecordWrite => Sys2Proof.Machine.execJournalRecordWrite s
  | .journalSizeWrite w => Sys2Proof.Machine.execJournalSizeWrite w s
  | .journalRecordRead path word => Sys2Proof.Machine.execJournalRecordRead path word s
  | .mirrorRecordWrite port => Sys2Proof.Machine.execMirrorRecordWrite port s
  | .routeCommit path frame => Sys2Proof.Machine.execRouteCommit path frame s
  | .svcState path frame => Sys2Proof.Machine.execSvcState path frame s
  | .viCreate path frame => Sys2Proof.Machine.execViCreate path frame s
  | .viDestroy path frame => Sys2Proof.Machine.execViDestroy path frame s
  | .keyUpdate path frame => Sys2Proof.Machine.execKeyUpdate path frame s
  | .keyPendingEffect slot => Sys2Proof.Machine.execKeyPendingEffect slot s
  | .keyLoadInitial path frame => Sys2Proof.Machine.execKeyLoadInitial path frame s
  | .fwActivate path frame => Sys2Proof.Machine.execFwActivate path frame s
  | .fwImageCheckEnd kind => Sys2Proof.Machine.execFwImageCheckEnd kind s
  | .cleatRelease path frame => Sys2Proof.Machine.execCleatRelease path frame s
  | .tickElect path frame => Sys2Proof.Machine.execTickElect path frame s
  | .pairFailover path frame => Sys2Proof.Machine.execPairFailover path frame s
  | .dumpTrigger path frame => Sys2Proof.Machine.execDumpTrigger path frame s
  | .ownerChange path frame => Sys2Proof.Machine.execOwnerChange path frame s
  | .regWriteKeyed path frame => Sys2Proof.Machine.execRegWriteKeyed path frame s
  | .sessionOpen path frame => Sys2Proof.Machine.execSessionOpen path frame s
  | .sessionClose path frame => Sys2Proof.Machine.execSessionClose path frame s
  | .regRead path frame => Sys2Proof.Machine.execRegRead path frame s
  | .regWrite path frame => Sys2Proof.Machine.execRegWrite path frame s
  | .sessionIdleTimeout => Sys2Proof.Machine.execSessionIdleTimeout s
  | .mgmtLinkLoss => Sys2Proof.Machine.execMgmtLinkLoss s
  | .hwmPersisted origin => Sys2Proof.Machine.execHwmPersisted origin s
  | .zcmdGo w frame => Sys2Proof.Machine.execZcmdGo w frame s
  | .retrain w => Sys2Proof.Machine.execRetrain w s
  | .ltfReceive port lane ltf => Sys2Proof.Machine.execLtfReceive port lane ltf s
  | .stepChange port => Sys2Proof.Machine.execStepChange port s
  | .bondFormed port skewNs => Sys2Proof.Machine.execBondFormed port skewNs s
  | .laneQualified port lane => Sys2Proof.Machine.execLaneQualified port lane s
  | .trainTimeout port lane => Sys2Proof.Machine.execTrainTimeout port lane s
  | .stepTimeout port lane => Sys2Proof.Machine.execStepTimeout port lane s
  | .laneErrorBurst port lane => Sys2Proof.Machine.execLaneErrorBurst port lane s
  | .laneTestEnd port lane errors bits => Sys2Proof.Machine.execLaneTestEnd port lane errors bits s
  | .laneTestTimeout port lane => Sys2Proof.Machine.execLaneTestTimeout port lane s
  | .losAssert port lane => Sys2Proof.Machine.execLosAssert port lane s
  | .losClear port lane => Sys2Proof.Machine.execLosClear port lane s
  | .lolAssert port lane => Sys2Proof.Machine.execLolAssert port lane s
  | .lolClear port lane => Sys2Proof.Machine.execLolClear port lane s
  | .automaticPowerControl opte diode set reached pout => Sys2Proof.Machine.execAutomaticPowerControl opte diode set reached pout s
  | .shortfallLasting opte wave => Sys2Proof.Machine.execShortfallLasting opte wave s
  | .forceSpare w => Sys2Proof.Machine.execForceSpare w s
  | .spareSelectorMove opte wave pout => Sys2Proof.Machine.execSpareSelectorMove opte wave pout s
  | .portUp port => Sys2Proof.Machine.execPortUp port s
  | .dataFrameReceive port frame => Sys2Proof.Machine.execDataFrameReceive port frame s
  | .ackFrameReceive port frame => Sys2Proof.Machine.execAckFrameReceive port frame s
  | .identFrameReceive port frame => Sys2Proof.Machine.execIdentFrameReceive port frame s
  | .identResendTimer port => Sys2Proof.Machine.execIdentResendTimer port s
  | .frameBoundary port underrun => Sys2Proof.Machine.execFrameBoundary port underrun s
  | .replayTimerExpiry port => Sys2Proof.Machine.execReplayTimerExpiry port s
  | .emptyAckTimer port => Sys2Proof.Machine.execEmptyAckTimer port s
  | .errorWindowExceeded port => Sys2Proof.Machine.execErrorWindowExceeded port s
  | .holdExpiry port => Sys2Proof.Machine.execHoldExpiry port s
  | .routeDecision tile input vc => Sys2Proof.Machine.execRouteDecision tile input vc s
  | .crossingRound => Sys2Proof.Machine.execCrossingRound s
  | .packetBufferEccError tile row corrected victim => Sys2Proof.Machine.execPacketBufferEccError tile row corrected victim s
  | .allotmentWrite w => Sys2Proof.Machine.execAllotmentWrite w s
  | .reefWrite w => Sys2Proof.Machine.execReefWrite w s
  | .routeTableWindowWrite path offset value => Sys2Proof.Machine.execRouteTableWindowWrite path offset value s
  | .routeCopy w => Sys2Proof.Machine.execRouteCopy w s
  | .copyComplete => Sys2Proof.Machine.execCopyComplete s
  | .commitDeadline => Sys2Proof.Machine.execCommitDeadline s
  | .telltaleReceive port frame => Sys2Proof.Machine.execTelltaleReceive port frame s
  | .routeReplicaReload tile done => Sys2Proof.Machine.execRouteReplicaReload tile done s
  | .packetAdmit unit data => Sys2Proof.Machine.execPacketAdmit unit data s
  | .wiluthDataReceive pkt => Sys2Proof.Machine.execWiluthDataReceive pkt s
  | .intentReceive unit => Sys2Proof.Machine.execIntentReceive unit s
  | .grantReceive unit => Sys2Proof.Machine.execGrantReceive unit s
  | .wiluthAckReceive pkt => Sys2Proof.Machine.execWiluthAckReceive pkt s
  | .resetReceive pkt => Sys2Proof.Machine.execResetReceive pkt s
  | .noticeReceive unit => Sys2Proof.Machine.execNoticeReceive unit s
  | .closeReceive pkt => Sys2Proof.Machine.execCloseReceive pkt s
  | .gapFillReceive pkt => Sys2Proof.Machine.execGapFillReceive pkt s
  | .retransmitTimerExpiry loc rem seq => Sys2Proof.Machine.execRetransmitTimerExpiry loc rem seq s
  | .giveupExpiry loc rem seq => Sys2Proof.Machine.execGiveupExpiry loc rem seq s
  | .contextIdleClose loc rem => Sys2Proof.Machine.execContextIdleClose loc rem s
  | .tombstoneExpiry loc rem => Sys2Proof.Machine.execTombstoneExpiry loc rem s
  | .reopenDelayEnd loc rem => Sys2Proof.Machine.execReopenDelayEnd loc rem s
  | .nop vi queue => Sys2Proof.Machine.execNop vi queue s
  | .put vi queue => Sys2Proof.Machine.execPut vi queue s
  | .putSignal vi queue => Sys2Proof.Machine.execPutSignal vi queue s
  | .get vi queue => Sys2Proof.Machine.execGet vi queue s
  | .atomic vi queue operand => Sys2Proof.Machine.execAtomic vi queue operand s
  | .winRegister vi queue => Sys2Proof.Machine.execWinRegister vi queue s
  | .winRevoke vi queue => Sys2Proof.Machine.execWinRevoke vi queue s
  | .putPacketReceive unit => Sys2Proof.Machine.execPutPacketReceive unit s
  | .getReqReceive unit => Sys2Proof.Machine.execGetReqReceive unit s
  | .getRspReceive unit => Sys2Proof.Machine.execGetRspReceive unit s
  | .signalReceive unit => Sys2Proof.Machine.execSignalReceive unit s
  | .atomicReceive unit => Sys2Proof.Machine.execAtomicReceive unit s
  | .atomicRspReceive unit => Sys2Proof.Machine.execAtomicRspReceive unit s
  | .atomicopErrorCompletion access => Sys2Proof.Machine.execAtomicopErrorCompletion access s
  | .accessDisposed access data => Sys2Proof.Machine.execAccessDisposed access data s
  | .fenceDeadline window => Sys2Proof.Machine.execFenceDeadline window s
  | .descriptorEccError window corrected row => Sys2Proof.Machine.execDescriptorEccError window corrected row s
  | .msend vi queue => Sys2Proof.Machine.execMsend vi queue s
  | .mrecv vi queue => Sys2Proof.Machine.execMrecv vi queue s
  | .probe vi queue => Sys2Proof.Machine.execProbe vi queue s
  | .recvClaimed vi queue => Sys2Proof.Machine.execRecvClaimed vi queue s
  | .cancel vi queue => Sys2Proof.Machine.execCancel vi queue s
  | .matchResume vi queue => Sys2Proof.Machine.execMatchResume vi queue s
  | .msendArrival unit => Sys2Proof.Machine.execMsendArrival unit s
  | .mdataArrival unit => Sys2Proof.Machine.execMdataArrival unit s
  | .bounceCopyDone vi copy => Sys2Proof.Machine.execBounceCopyDone vi copy s
  | .matchEccError vi corrected row => Sys2Proof.Machine.execMatchEccError vi corrected row s
  | .groupCreate vi queue table tree => Sys2Proof.Machine.execGroupCreate vi queue table tree s
  | .groupLeave vi queue => Sys2Proof.Machine.execGroupLeave vi queue s
  | .groupClose vi queue => Sys2Proof.Machine.execGroupClose vi queue s
  | .collStep vi queue => Sys2Proof.Machine.execCollStep vi queue s
  | .join unit index => Sys2Proof.Machine.execJoin unit index s
  | .joined unit => Sys2Proof.Machine.execJoined unit s
  | .gctlCommit unit root places => Sys2Proof.Machine.execGctlCommit unit root places s
  | .abort unit => Sys2Proof.Machine.execAbort unit s
  | .repair unit => Sys2Proof.Machine.execRepair unit s
  | .repaired unit => Sys2Proof.Machine.execRepaired unit s
  | .gctlClose unit => Sys2Proof.Machine.execGctlClose unit s
  | .stepOpenReceive unit => Sys2Proof.Machine.execStepOpenReceive unit s
  | .localSegmentRead group slot data => Sys2Proof.Machine.execLocalSegmentRead group slot data s
  | .upReceive unit => Sys2Proof.Machine.execUpReceive unit s
  | .downReceive unit => Sys2Proof.Machine.execDownReceive unit s
  | .directReceive unit => Sys2Proof.Machine.execDirectReceive unit s
  | .creditReceive unit => Sys2Proof.Machine.execCreditReceive unit s
  | .doneReceive unit => Sys2Proof.Machine.execDoneReceive unit s
  | .departReceive unit orphaned repairs => Sys2Proof.Machine.execDepartReceive unit orphaned repairs s
  | .epochReceive unit => Sys2Proof.Machine.execEpochReceive unit s
  | .collHeartbeat group slot => Sys2Proof.Machine.execCollHeartbeat group slot s
  | .repairTimeout group => Sys2Proof.Machine.execRepairTimeout group s
  | .quarantineExpiry group => Sys2Proof.Machine.execQuarantineExpiry group s
  | .collEccError group corrected row => Sys2Proof.Machine.execCollEccError group corrected row s
  | .perst port => Sys2Proof.Machine.execPerst port s
  | .pfFlr port => Sys2Proof.Machine.execPfFlr port s
  | .vfFlr vi => Sys2Proof.Machine.execVfFlr vi s
  | .vfBusMasterClear vi => Sys2Proof.Machine.execVfBusMasterClear vi s
  | .vfEnableClear port => Sys2Proof.Machine.execVfEnableClear port s
  | .hostLinkDown port => Sys2Proof.Machine.execHostLinkDown port s
  | .hostLinkUp port cfg => Sys2Proof.Machine.execHostLinkUp port cfg s
  | .viEnableWrite w => Sys2Proof.Machine.execViEnableWrite w s
  | .enablingEnd vi => Sys2Proof.Machine.execEnablingEnd vi s
  | .viStopEnd vi => Sys2Proof.Machine.execViStopEnd vi s
  | .xlateCommit w => Sys2Proof.Machine.execXlateCommit w s
  | .cmdqEnable w => Sys2Proof.Machine.execCmdqEnable w s
  | .cplqEnable w => Sys2Proof.Machine.execCplqEnable w s
  | .dbTail vi queue value => Sys2Proof.Machine.execDbTail vi queue value s
  | .dbHead vi queue value => Sys2Proof.Machine.execDbHead vi queue value s
  | .dbArm vi queue value => Sys2Proof.Machine.execDbArm vi queue value s
  | .descriptorFetch port data => Sys2Proof.Machine.execDescriptorFetch port data s
  | .completionWrite vi => Sys2Proof.Machine.execCompletionWrite vi s
  | .completionTimeout port => Sys2Proof.Machine.execCompletionTimeout port s
  | .atsInvalidate port fn base len => Sys2Proof.Machine.execAtsInvalidate port fn base len s
  | .partitionCommit w => Sys2Proof.Machine.execPartitionCommit w s
  | .cxlMemRequest port kind dpa data => Sys2Proof.Machine.execCxlMemRequest port kind dpa data s
  | .birsp line port data => Sys2Proof.Machine.execBirsp line port data s
  | .birspTimeout line port => Sys2Proof.Machine.execBirspTimeout line port s
  | .clusterReload cluster => Sys2Proof.Machine.execClusterReload cluster s
  | .clusterReloadComplete cluster failed => Sys2Proof.Machine.execClusterReloadComplete cluster failed s
  | .reloadTimeout cluster => Sys2Proof.Machine.execReloadTimeout cluster s
  | .triggerCounterChange cluster => Sys2Proof.Machine.execTriggerCounterChange cluster s
  | .chainEntryBegin vi slot engine => Sys2Proof.Machine.execChainEntryBegin vi slot engine s
  | .chainFiringComplete vi slot => Sys2Proof.Machine.execChainFiringComplete vi slot s
  | .chainArm vi queue list => Sys2Proof.Machine.execChainArm vi queue list s
  | .chainDisarm vi queue => Sys2Proof.Machine.execChainDisarm vi queue s
  | .ctrSet vi queue => Sys2Proof.Machine.execCtrSet vi queue s
  | .ctrAdd vi queue => Sys2Proof.Machine.execCtrAdd vi queue s
  | .ctrRead vi queue => Sys2Proof.Machine.execCtrRead vi queue s
  | .engineWatchdog engine => Sys2Proof.Machine.execEngineWatchdog engine s
  | .cleatRead path addr => Sys2Proof.Machine.execCleatRead path addr s
  | .cleatWrite path addr value => Sys2Proof.Machine.execCleatWrite path addr value s
  | .cleatStallEnd stall => Sys2Proof.Machine.execCleatStallEnd stall s
  | .dumpComplete holes => Sys2Proof.Machine.execDumpComplete holes s
  | .dumpLimitExpiry => Sys2Proof.Machine.execDumpLimitExpiry s
  | .dumpHostCopyEnd gap => Sys2Proof.Machine.execDumpHostCopyEnd gap s
  | .pairingEnable w => Sys2Proof.Machine.execPairingEnable w s
  | .journalFrameReceive port => Sys2Proof.Machine.execJournalFrameReceive port s
  | .syncDoneReceive port => Sys2Proof.Machine.execSyncDoneReceive port s
  | .takeoverReceive port => Sys2Proof.Machine.execTakeoverReceive port s
  | .twinLost => Sys2Proof.Machine.execTwinLost s
  | .shareUncovered share => Sys2Proof.Machine.execShareUncovered share s
  | .contextAdoption share payloads => Sys2Proof.Machine.execContextAdoption share payloads s
  | .ctrClear w => Sys2Proof.Machine.execCtrClear w s
  | .snapEnable w => Sys2Proof.Machine.execSnapEnable w s
  | .mcReset => Sys2Proof.Machine.execMcReset s
  | .mcWatchdog => Sys2Proof.Machine.execMcWatchdog s
  | .mcResetComplete => Sys2Proof.Machine.execMcResetComplete s
  | .serviceDrainComplete page => Sys2Proof.Machine.execServiceDrainComplete page s
  | .glbDrainEnd => Sys2Proof.Machine.execGlbDrainEnd s
  | .drainLimit page => Sys2Proof.Machine.execDrainLimit page s
  | .fwStage w => Sys2Proof.Machine.execFwStage w s
  | .stageData w => Sys2Proof.Machine.execStageData w s
  | .stagingEnd image => Sys2Proof.Machine.execStagingEnd image s
  | .cfgParityError page => Sys2Proof.Machine.execCfgParityError page s
  | .engineMemoryEccError engine corrected => Sys2Proof.Machine.execEngineMemoryEccError engine corrected s
  | .busLaneParityError tile element => Sys2Proof.Machine.execBusLaneParityError tile element s
  | .ringHopParityError stop element => Sys2Proof.Machine.execRingHopParityError stop element s
  | .hbmEccError stack row corrected => Sys2Proof.Machine.execHbmEccError stack row corrected s
  | .routingUnitEccError row corrected => Sys2Proof.Machine.execRoutingUnitEccError row corrected s
  | .contextCacheEccError row corrected => Sys2Proof.Machine.execContextCacheEccError row corrected s
  | .replayBufferEccError port row corrected seq => Sys2Proof.Machine.execReplayBufferEccError port row corrected seq s
  | .railOutOfLimits rail12 => Sys2Proof.Machine.execRailOutOfLimits rail12 s
  | .pcieErrorDetected port kind => Sys2Proof.Machine.execPcieErrorDetected port kind s

end Sys2Proof.Machine
end

