-- ==== Sys2Proof/Safety.lean ====
section
/-! DEFINITION. What the claims call a sound state: the canonical forms of the memory the module holds. -/

namespace Sys2Proof.Machine

/-- The application pool is in its canonical form: addresses rise, and no byte is listed that an unlisted address reads
as. -/
def Memory.wf (m : Mem) : Bool := Tab.wf poolD m.pool

/-- The registers are in theirs: none is listed that holds its reset value. -/
def Registers.wf (r : Tab Word) : Bool := Tab.wf regDefault r

/-! Direct writes, for claims. -/

/-- One direct write that takes effect in a cycle of its own: its value stored, the effect `f` it has beyond that, and
its record (R97 R102). -/
def State.acceptedWrite (s : State) (w : RegWrite) (f : State → Judged → State) : State :=
  s.recordOne (f (s.storeOne (s.judge (w, none))).1 (s.storeOne (s.judge (w, none))).2) (s.storeOne (s.judge (w, none))).2

/-- A frame that passed checks 1 to 3 of R117: the high-water mark of its origin is raised to its counter (R118), and a
frame of the open session's origin on the management port starts the session's idle time anew (R129). -/
def State.zAccepted (s : State) (path : ZPath) (f : Bytes) : State :=
  if path = .mgmt ∧ s.zyn.session.map Prod.fst = some (zOrigin f) then (s.setHwm (zOrigin f) (zCtr f)).touchSession
  else s.setHwm (zOrigin f) (zCtr f)

/-- A frame passes every check of R117 up to its form. -/
def State.zPasses (s : State) (path : ZPath) (f : Bytes) : Bool :=
  s.zReach path && s.zCheck1 f && (if zOp f = 6 then s.zCheckLoad path f else s.zCheck2 path f) &&
    decide (s.hwm (zOrigin f) < zCtr f) && zForm f

/-- A frame that an UP port takes to its end: its headers and its check code are good, its epoch is the link's, and no
identity exchange runs (R168 R181). -/
def State.frameUp (s : State) (port : Nat) (frame : Bytes) : Bool :=
  s.carries port && decide (frCheck frame = .good ∧ (s.link port).exch = false ∧ s.linkState port = lkUp ∧
    frEpoch frame = s.fget (portPg port) 0x4C 31 24)

/-- XPT unit u hands the packet p, the first presented one that `sel` takes, to the stop `tgt` over the rings, and t is the
state in which it is handled (R286 R469 R471). -/
def State.hands (s : State) (u : Nat) (sel : Bytes → Bool) (tgt : Nat) (p : Bytes) (t : State) : Prop :=
  (s.xpt u).presented.find? sel = some p ∧
    ∃ r, s.nocHand (xptStop u) tgt 0 true (pkPayload p).length (pktHold p) = (true, r) ∧
      t = r.updXpt u (fun x => { x with presented := delFirst (fun q => decide (q = p)) x.presented })

/-- XPT unit u hands the packet p to the COLL unit of its group: the oldest of its direction, with an opcode that `op`
selects (R287 R392). A step packet waits while its group has joined and has had no COMMIT, and a GCTL packet until an engine
runs the firmware of groups (R384 R393). -/
def State.collTakes (s : State) (u : Nat) (op : Bytes → Bool) (p : Bytes) (t : State) : Prop :=
  s.works (xptPg u 0) = true ∧
    s.hands u (fun p => decide (pkType p = 1 ∧ agKind (pkLoc p) = 1) && op p && s.ordered u p &&
      (if pkOpcode p = 0x38 then !s.svcEngines.isEmpty else !(s.group (pkGroup p)).awaits (pkRouter p)) &&
      s.works (collPg (agAddr (pkLoc p) % 2) 0)) (collStop (agAddr (pkLoc p) % 2)) p t

/-- The group's record is in use and carries the CTAG and CREATOR of a GCTL packet (R386). -/
def State.gctlKnown (s : State) (g : Nat) (c : Gctl) : Prop :=
  (s.group g).state ≠ gFree ∧ (s.group g).state ≠ gQuarantine ∧ (s.group g).ctag = c.ctag ∧ (s.group g).creator = c.creator

/-! Components of the state, for frames. -/

/-- The components of the state that a frame names: the fields of `State`, with the pool apart from the rest of the memory. -/
inductive Component where
  /-- the registers -/
  | regs
  /-- the registers with a copy per origin -/
  | orig
  /-- the read latches -/
  | latches
  /-- the held low halves -/
  | heldLo
  /-- power and presence -/
  | pwr
  /-- the persistent store -/
  | psto
  /-- TICK -/
  | tick
  /-- Zynken -/
  | zyn
  /-- the change journal -/
  | jrnl
  /-- self-tests, error log, audit and dump -/
  | relia
  /-- firmware -/
  | fw
  /-- service -/
  | svc
  /-- the lanes -/
  | lanes
  /-- the lane layer of the ports -/
  | lports
  /-- the spare switches -/
  | spares
  /-- the link layer -/
  | links
  /-- the switch tiles -/
  | tiles
  /-- the routing tables -/
  | route
  /-- the XPT units -/
  | xpts
  /-- the window descriptors -/
  | wins
  /-- the MWUs -/
  | mwus
  /-- the VIs -/
  | vis
  /-- HOST.CFG in force -/
  | hostCfg
  /-- the fetch arbiters -/
  | hostRr
  /-- ATS Enable -/
  | hostAts
  /-- the groups -/
  | groups
  /-- the group creations -/
  | creations
  /-- the snoop filter, the partition and the ATC -/
  | mem
  /-- every byte of the application pool -/
  | pool
  /-- the cleats -/
  | cleats
  /-- the stalled reads -/
  | stalls
  /-- Lanyard -/
  | lany
  /-- the trigger stages -/
  | trig
  /-- the ring network -/
  | noc
deriving DecidableEq, Repr

/-- The component is in the second state what it is in the first; the pool is compared byte by byte. -/
def Component.same : Component → State → State → Prop
  | .regs, s, t => t.regs = s.regs
  | .orig, s, t => t.orig = s.orig
  | .latches, s, t => t.latches = s.latches
  | .heldLo, s, t => t.heldLo = s.heldLo
  | .pwr, s, t => t.pwr = s.pwr
  | .psto, s, t => t.psto = s.psto
  | .tick, s, t => t.tick = s.tick
  | .zyn, s, t => t.zyn = s.zyn
  | .jrnl, s, t => t.jrnl = s.jrnl
  | .relia, s, t => t.relia = s.relia
  | .fw, s, t => t.fw = s.fw
  | .svc, s, t => t.svc = s.svc
  | .lanes, s, t => t.lanes = s.lanes
  | .lports, s, t => t.lports = s.lports
  | .spares, s, t => t.spares = s.spares
  | .links, s, t => t.links = s.links
  | .tiles, s, t => t.tiles = s.tiles
  | .route, s, t => t.route = s.route
  | .xpts, s, t => t.xpts = s.xpts
  | .wins, s, t => t.wins = s.wins
  | .mwus, s, t => t.mwus = s.mwus
  | .vis, s, t => t.vis = s.vis
  | .hostCfg, s, t => t.hostCfg = s.hostCfg
  | .hostRr, s, t => t.hostRr = s.hostRr
  | .hostAts, s, t => t.hostAts = s.hostAts
  | .groups, s, t => t.groups = s.groups
  | .creations, s, t => t.creations = s.creations
  | .mem, s, t => t.mem.filter = s.mem.filter ∧ t.mem.snoops = s.mem.snoops ∧ t.mem.part = s.mem.part ∧
      t.mem.poisoned = s.mem.poisoned ∧ t.mem.atc = s.mem.atc
  | .pool, s, t => ∀ o, Tab.get poolD t.mem.pool o = Tab.get poolD s.mem.pool o
  | .cleats, s, t => t.cleats = s.cleats
  | .stalls, s, t => t.stalls = s.stalls
  | .lany, s, t => t.lany = s.lany
  | .trig, s, t => t.trig = s.trig
  | .noc, s, t => t.noc = s.noc

/-- The components a command may change; every other one is after it what it was before. The queue is no component: a
command leaves it, and the list of outputs, the identities and the counter of free values only grow. -/
def touches : Instr → List Component
  | .stage2Mate .. | .mainEnAssert .. =>
    [.regs, .pwr]
  | .presenceMate .. =>
    [.pwr]
  | .presenceDebounced .. | .prsntSkewTimeout | .attnReq .. | .narrowAccess .. | .losClear .. | .completionTimeout ..
    | .twinLost | .shareUncovered .. | .pcieErrorDetected .. =>
    [.regs]
  | .hotSwapClose | .auxiliaryPowerUp =>
    [.regs, .orig, .latches, .heldLo, .pwr, .tick, .zyn, .jrnl, .relia, .fw, .svc, .lanes, .lports, .spares, .links,
    .tiles, .route, .xpts, .wins, .mwus, .vis, .hostCfg, .hostRr, .hostAts, .groups, .creations, .mem, .pool,
    .cleats, .stalls, .lany, .trig, .noc]
  | .mainGood | .refInputGood .. | .refInputLoss .. =>
    [.regs, .tick]
  | .powerOnStep =>
    [.regs, .pwr, .tick, .jrnl, .relia, .svc, .lanes, .lports, .links, .tiles, .route]
  | .pllLockTimeout | .presenceLoss .. | .mainEnDeassert | .underVoltage | .overVoltage | .auxRailLoss
    | .temperatureTrip | .critPowerOff | .glbDrainEnd | .railOutOfLimits .. =>
    [.regs, .orig, .latches, .heldLo, .pwr, .psto, .tick, .zyn, .jrnl, .relia, .fw, .svc, .lanes, .lports, .spares,
    .links, .tiles, .route, .xpts, .wins, .mwus, .vis, .hostCfg, .hostRr, .hostAts, .groups, .creations, .mem, .pool,
    .cleats, .stalls, .lany, .trig, .noc]
  | .postComplete .. | .selfTestVerdict .. =>
    [.regs, .psto, .jrnl, .relia, .fw, .svc, .lanes, .lports, .links, .tiles, .route, .vis, .mem]
  | .thermalSample .. | .leak .. =>
    [.regs, .pwr, .relia, .links, .vis, .mem]
  | .holdoverTimeout | .takeoverReceive .. =>
    [.regs, .relia, .links, .vis, .mem]
  | .refselWrite .. | .tickBoundary .. | .clearanceScheduling .. | .adaptiveWeightUpdate .. | .weightsInForce
    | .pairedJournalling .. | .registerWrite .. | .pairLoWrite .. | .pairHiCommit .. | .blkEnableWrite ..
    | .softReset .. | .fenceRequest .. | .fenceRelease .. | .blkErrinjWrite .. | .selfTestStart ..
    | .journalSizeWrite .. | .hwmPersisted .. | .retrain .. | .forceSpare .. | .allotmentWrite .. | .reefWrite ..
    | .routeCopy .. | .viEnableWrite .. | .xlateCommit .. | .cmdqEnable .. | .cplqEnable .. | .partitionCommit ..
    | .pairingEnable .. | .ctrClear .. | .snapEnable .. | .fwStage .. | .stageData .. =>
    [.regs, .orig, .heldLo, .pwr, .psto, .tick, .zyn, .jrnl, .relia, .fw, .svc, .lanes, .lports, .spares, .links,
    .tiles, .route, .xpts, .wins, .mwus, .vis, .mem, .pool, .cleats, .stalls, .lany, .noc]
  | .tickMarkerReceive .. =>
    [.regs, .tick, .jrnl, .relia, .svc, .lanes, .lports, .links, .tiles, .route, .xpts, .lany]
  | .pairLoRead .. | .readClear .. | .journalRecordRead .. =>
    [.regs, .orig, .latches, .lanes]
  | .fenceComplete .. =>
    [.regs, .jrnl, .svc, .noc]
  | .fenceTimeout .. | .drainLimit .. =>
    [.regs, .svc]
  | .errorInjectionRaise .. =>
    [.regs, .psto, .tick, .zyn, .jrnl, .relia, .svc, .lanes, .lports, .spares, .links, .tiles, .route, .xpts, .mwus,
    .vis, .mem, .pool, .cleats, .stalls, .noc]
  | .journalRecordWrite =>
    [.jrnl]
  | .mirrorRecordWrite .. =>
    [.regs, .jrnl]
  | .routeCommit .. | .svcState .. | .viCreate .. | .viDestroy .. | .keyUpdate .. | .keyLoadInitial ..
    | .fwActivate .. | .cleatRelease .. | .tickElect .. | .pairFailover .. | .dumpTrigger .. | .ownerChange ..
    | .regWriteKeyed .. | .sessionOpen .. | .sessionClose .. | .regRead .. | .regWrite .. | .zcmdGo .. =>
    [.regs, .orig, .latches, .heldLo, .pwr, .psto, .tick, .zyn, .jrnl, .relia, .fw, .svc, .lanes, .lports, .spares,
    .links, .tiles, .route, .xpts, .wins, .mwus, .vis, .mem, .pool, .cleats, .stalls, .lany, .noc]
  | .keyPendingEffect .. | .stagingEnd .. =>
    [.regs, .psto]
  | .fwImageCheckEnd .. =>
    [.regs, .zyn, .jrnl, .fw, .links]
  | .sessionIdleTimeout | .mgmtLinkLoss | .cleatWrite .. =>
    [.regs, .zyn, .mwus, .cleats, .stalls, .noc]
  | .ltfReceive .. | .serviceDrainComplete .. =>
    [.regs, .jrnl, .relia, .svc, .lanes, .lports, .spares, .links, .tiles, .route]
  | .stepChange .. | .bondFormed .. | .laneQualified .. =>
    [.regs, .lanes, .lports]
  | .trainTimeout .. | .stepTimeout .. | .laneErrorBurst .. | .losAssert .. | .lolAssert .. | .replayTimerExpiry ..
    | .errorWindowExceeded .. | .holdExpiry .. =>
    [.regs, .jrnl, .relia, .svc, .lanes, .lports, .links, .tiles, .route]
  | .laneTestEnd .. | .laneTestTimeout .. =>
    [.regs, .psto, .jrnl, .relia, .svc, .lanes, .lports, .links, .tiles, .route]
  | .lolClear .. =>
    [.regs, .lanes]
  | .automaticPowerControl .. | .shortfallLasting .. =>
    [.regs, .spares]
  | .spareSelectorMove .. =>
    [.regs, .psto, .relia, .lanes, .lports, .spares]
  | .portUp .. =>
    [.regs, .links]
  | .dataFrameReceive .. | .ackFrameReceive .. | .identFrameReceive .. | .telltaleReceive .. =>
    [.regs, .jrnl, .relia, .svc, .lanes, .lports, .links, .tiles, .route, .xpts, .lany]
  | .identResendTimer .. | .emptyAckTimer .. =>
    [.links]
  | .frameBoundary .. =>
    [.regs, .links, .tiles]
  | .routeDecision .. =>
    [.regs, .links, .tiles, .route]
  | .crossingRound =>
    [.regs, .links, .tiles, .route, .xpts]
  | .packetBufferEccError .. | .routeReplicaReload .. | .routingUnitEccError .. | .contextCacheEccError ..
    | .replayBufferEccError .. =>
    [.regs, .psto, .jrnl, .relia, .svc, .lanes, .lports, .links, .tiles, .route, .vis, .mem]
  | .routeTableWindowWrite .. | .copyComplete | .commitDeadline =>
    [.regs, .route]
  | .packetAdmit .. | .wiluthDataReceive .. | .wiluthAckReceive .. | .resetReceive .. | .closeReceive ..
    | .gapFillReceive .. | .retransmitTimerExpiry .. | .giveupExpiry .. | .groupLeave .. | .groupClose ..
    | .collStep .. | .join .. | .gctlCommit .. | .abort .. | .repair .. | .repaired .. | .gctlClose ..
    | .stepOpenReceive .. | .localSegmentRead .. | .upReceive .. | .downReceive .. | .directReceive ..
    | .creditReceive .. | .doneReceive .. | .departReceive .. | .epochReceive .. | .collHeartbeat ..
    | .repairTimeout .. =>
    [.regs, .zyn, .links, .tiles, .xpts, .mwus, .vis, .groups, .mem, .cleats, .stalls, .noc]
  | .intentReceive .. | .getRspReceive .. | .atomicRspReceive .. =>
    [.regs, .links, .tiles, .xpts, .mwus, .vis, .mem, .noc]
  | .grantReceive .. | .noticeReceive .. =>
    [.regs, .xpts, .vis, .mem, .noc]
  | .contextIdleClose .. | .reopenDelayEnd .. | .put .. | .putSignal .. | .get .. | .msend .. =>
    [.regs, .links, .tiles, .xpts, .vis, .mem]
  | .tombstoneExpiry .. =>
    [.xpts]
  | .nop .. | .probe .. | .cancel .. | .matchResume .. | .completionWrite .. | .chainEntryBegin .. =>
    [.regs, .vis, .mem]
  | .atomic .. | .msendArrival .. | .mdataArrival .. =>
    [.regs, .links, .tiles, .xpts, .vis, .mem, .noc]
  | .winRegister .. =>
    [.regs, .wins, .vis, .mem]
  | .winRevoke .. =>
    [.regs, .zyn, .wins, .mwus, .vis, .mem, .cleats, .stalls, .noc]
  | .putPacketReceive .. | .getReqReceive .. | .signalReceive .. | .atomicReceive .. =>
    [.regs, .links, .tiles, .xpts, .mwus, .vis, .mem, .cleats, .stalls, .noc]
  | .atomicopErrorCompletion .. | .fenceDeadline .. =>
    [.regs, .links, .tiles, .xpts, .mwus, .vis, .mem, .stalls, .noc]
  | .accessDisposed .. =>
    [.regs, .zyn, .xpts, .mwus, .vis, .mem, .pool, .cleats, .stalls, .trig, .noc]
  | .descriptorEccError .. =>
    [.regs, .relia, .wins, .vis, .mem]
  | .mrecv .. | .recvClaimed .. =>
    [.regs, .xpts, .vis, .mem]
  | .bounceCopyDone .. =>
    [.regs, .vis, .mem, .noc]
  | .matchEccError .. =>
    [.regs, .relia, .vis, .mem]
  | .groupCreate .. | .joined .. =>
    [.regs, .zyn, .links, .tiles, .xpts, .mwus, .vis, .groups, .creations, .mem, .cleats, .stalls, .noc]
  | .quarantineExpiry .. =>
    [.groups]
  | .collEccError .. =>
    [.regs, .zyn, .relia, .links, .tiles, .xpts, .mwus, .vis, .groups, .mem, .cleats, .stalls, .noc]
  | .perst .. =>
    [.regs, .zyn, .jrnl, .xpts, .mwus, .vis, .hostCfg, .mem, .pool, .cleats, .stalls, .noc]
  | .pfFlr .. =>
    [.regs, .zyn, .jrnl, .xpts, .mwus, .vis, .mem, .cleats, .stalls, .noc]
  | .vfFlr .. | .vfBusMasterClear .. | .enablingEnd .. =>
    [.regs, .zyn, .jrnl, .xpts, .mwus, .vis, .stalls, .noc]
  | .vfEnableClear .. =>
    [.regs, .zyn, .jrnl, .xpts, .mwus, .vis, .mem, .stalls, .noc]
  | .hostLinkDown .. =>
    [.regs, .zyn, .jrnl, .xpts, .mwus, .vis, .mem, .pool, .stalls, .noc]
  | .hostLinkUp .. =>
    [.regs, .hostAts]
  | .viStopEnd .. =>
    [.regs, .zyn, .jrnl, .links, .tiles, .xpts, .wins, .mwus, .vis, .groups, .mem, .cleats, .stalls, .trig, .noc]
  | .dbTail .. | .dbHead .. | .dbArm .. =>
    [.regs, .vis]
  | .descriptorFetch .. =>
    [.regs, .vis, .hostRr, .mem]
  | .atsInvalidate .. =>
    [.regs, .mem]
  | .cxlMemRequest .. | .birsp .. | .birspTimeout .. =>
    [.regs, .mem, .pool, .noc]
  | .clusterReload .. =>
    [.regs, .psto, .fw]
  | .clusterReloadComplete .. =>
    [.regs, .psto, .zyn, .jrnl, .relia, .fw, .svc, .lanes, .lports, .links, .tiles, .route, .mwus, .vis, .mem,
    .cleats, .stalls, .noc]
  | .reloadTimeout .. =>
    [.regs, .fw]
  | .triggerCounterChange .. =>
    [.regs, .vis, .trig]
  | .chainFiringComplete .. =>
    [.vis, .trig]
  | .chainArm .. | .chainDisarm .. | .ctrRead .. =>
    [.regs, .vis, .mem, .trig, .noc]
  | .ctrSet .. | .ctrAdd .. =>
    [.regs, .vis, .mem, .trig]
  | .engineWatchdog .. =>
    [.regs, .tick, .zyn, .relia, .mwus, .cleats, .stalls, .noc]
  | .cleatRead .. =>
    [.regs, .cleats, .stalls, .noc]
  | .cleatStallEnd .. =>
    [.regs, .zyn, .mwus, .stalls, .noc]
  | .dumpComplete .. | .dumpLimitExpiry | .dumpHostCopyEnd .. | .cfgParityError .. | .busLaneParityError ..
    | .ringHopParityError .. | .hbmEccError .. =>
    [.regs, .relia]
  | .journalFrameReceive .. | .syncDoneReceive .. =>
    [.regs, .links, .lany]
  | .contextAdoption .. =>
    [.regs, .links, .tiles, .xpts, .vis, .mem, .lany]
  | .mcReset | .mcWatchdog =>
    [.regs, .orig, .latches, .heldLo, .zyn, .fw, .mwus, .cleats, .stalls, .noc]
  | .mcResetComplete =>
    [.regs, .zyn]
  | .engineMemoryEccError .. =>
    [.regs, .zyn, .relia, .mwus, .cleats, .stalls, .noc]

end Sys2Proof.Machine
end

