-- ==== Sys2Proof/Certificates/Slice0/Obligations.lean ====
section
/-! DEFINITION. The statements for the provers. Each docstring names what of the spec it formalises, and what of it is the
model's own choice. -/

open Sys2Proof Sys2Proof.Machine

/-! The queue and what every step keeps. -/

/-- The form of the block: a step takes the command at the front of the queue and runs its meaning on the state with the
rest of the queue. -/
def Obligations.StepRunsFrontCommand : Prop :=
  ∀ (s : State) (c : Instr) (q : List Instr), s.pending = c :: q → step s = exec c { s with pending := q }

/-- With nothing waiting a step is one core cycle: the model's choice (log 4), within R61's longest tick of 1,535 cycles.
Where the rings hold no message and no request, no Zynken command waits and no shaper refill runs, that cycle is TICK's and
nothing else. -/
def Obligations.EmptyQueueStepsOneCycle : Prop :=
  ∀ s : State, s.pending = [] →
    step s = .next s.idle ∧
    (s.noc.msgs = [] → s.noc.waits = [] → s.zyn.queue = [] → s.tick.refill = none →
      (s.tick.running = true → s.tick.cc < 1534 →
        step s = .next { s with tick := { s.tick with cc := s.tick.cc + 1 } }) ∧
      (s.tick.running = false ∨ 1534 ≤ s.tick.cc → step s = .next s))

/-- The state after reset: no power, no register away from its reset value, no memory listed, nothing waiting. The
register values are those of the register map, where the spec gives none the model's (log 1, log 2). -/
def Obligations.ResetIsSound : Prop :=
  Registers.wf State.reset.regs = true ∧ Memory.wf State.reset.mem = true ∧ State.reset.pending = [] ∧
    State.reset.pwr.main = false ∧ State.reset.tick.running = false ∧ State.reset.fatal = false ∧
    State.reset.noc.msgs = [] ∧ State.reset.noc.waits = [] ∧
    (∀ p off, State.reset.get p off = (regDefault (p.addr + off)).toNat) ∧
    (∀ off n, State.reset.poolGet off n = zeros n)

/-- Every step keeps the canonical form of the registers and of the application pool. -/
def Obligations.StepKeepsCanonicalForms : Prop :=
  ∀ s t : State, Registers.wf s.regs = true → Memory.wf s.mem = true → step s = .next t →
    Registers.wf t.regs = true ∧ Memory.wf t.mem = true

/-- A step takes the front command and lets none in; what has left the module stays as it left, in order; identities and
free values are never reused. -/
def Obligations.StepTakesOneCommandAndAddsOutputs : Prop :=
  ∀ s t : State, Registers.wf s.regs = true → Memory.wf s.mem = true → step s = .next t →
    t.pending = s.pending.tail ∧ (∃ o, t.out = s.out ++ o) ∧ s.nextId ≤ t.nextId ∧ s.freeCtr ≤ t.freeCtr

/-- The frame of every command: each component of the state that `touches` does not list for it is after it what it was
before, the application pool byte by byte. -/
def Obligations.CommandLeavesUntouchedComponents : Prop :=
  ∀ (c : Instr) (s t : State) (k : Component), Registers.wf s.regs = true → Memory.wf s.mem = true →
    exec c s = .next t → k ∉ touches c → k.same s t

/-- Every command answers a next state in every state, but for two that name a place beyond the pool; none is refused. -/
def Obligations.CommandsNeverStopButBeyondPool : Prop :=
  ∀ (c : Instr) (s : State),
    (∃ t, exec c s = .next t) ∨
    (∃ port kind dpa data off, c = .cxlMemRequest port kind dpa data ∧ exec c s = .fault (.poolHole off) ∧
      s.poolSize < off + 64) ∨
    (∃ access data u a b off, c = .accessDisposed access data ∧ exec c s = .fault (.poolHole off) ∧
      s.findAccess access = some (u, a) ∧ b.id = access ∧ (s.wakeCleat u a).accessHole b = some off)

/-! Module power, presence and supervision. -/

/-- Contacts, MAIN_EN, ATTN_REQ and a supervision sample within every limit: each command's effect on PWR_STAT, on the
power state and on the supervision registers. -/
def Obligations.PresenceAndPinsComplete : Prop :=
  ∀ s : State,
    (∀ low, s.pwr.aux = true → exec (.stage2Mate low) s = .next (if low then s.setPwr 11 true else s)) ∧
    (∀ low, s.pwr.aux = false → exec (.stage2Mate low) s = .next { s with pwr := { s.pwr with lowMate := low } }) ∧
    exec (.presenceMate false) s = .next { s with pwr := { s.pwr with matedA := true } } ∧
    exec (.presenceMate true) s = .next { s with pwr := { s.pwr with matedB := true } } ∧
    (s.pwr.aux = true → s.pwr.matedA = true → exec (.presenceDebounced false) s = .next (s.setPwr 0 true)) ∧
    (s.pwr.aux = true → s.pwr.matedB = true → exec (.presenceDebounced true) s = .next (s.setPwr 1 true)) ∧
    (s.pwr.aux = true → s.pwr.matedA ≠ s.pwr.matedB → exec .prsntSkewTimeout s = .next (s.setPwr 2 true)) ∧
    (∀ ms, s.pwr.aux = true → s.pwrBit 4 = false → ms < 100 → exec (.mainEnAssert ms) s =
      .next { s.setPwr 4 true with pwr := { s.pwr with rampPending := false, closePermit := true } }) ∧
    (∀ ms, s.pwr.aux = true → s.pwrBit 4 = false → 100 ≤ ms → exec (.mainEnAssert ms) s =
      .next { s.setPwr 4 true with pwr := { s.pwr with ovuvPending := false, rampPending := false, closePermit := true } }) ∧
    (∀ b, s.pwr.aux = true → s.pwrBit 13 ≠ b → exec (.attnReq b) s = .next ((s.setPwr 13 b).event 1 .attn)) ∧
    (∀ r : ThermalReading, s.pwr.aux = true → s.zyn.mcReset = false → r.dieMax < 95 → r.opteMax < 70 → 350 ≤ r.flow →
      r.inlet ≤ 40 → ∀ p u, p = mgmtPg 3 →
      u = ((((s.fput p 0x44 15 0 r.v48).fput p 0x48 15 0 r.i48).fput p 0x4C 15 0 r.watts).setPwr 3
        (decide (1140 ≤ r.v12 ∧ r.v12 ≤ 1260))).setPwr 7 (!s.pwr.main) →
      exec (.thermalSample r) s = .next (((((u.put p 0x50 (r.outlet % 256 * 2 ^ 24 + r.inlet % 256 * 2 ^ 16 + r.flow % 65536)).fput
        p 0x54 23 16 r.opteMax).fput p 0x54 15 8 r.dieMax).bput p 0x54 0 false).bput p 0x54 4 false |>.bput p 0x54 3 false))

/-- The way up: the switch closes on the main-domain reset, the power-on steps run one after another once the PLL is
locked, and the power-on test ends in DOCK or RETIRED. -/
def Obligations.PowerUpSequenceCompletes : Prop :=
  ∀ s : State,
    (s.canClose = true → ∃ t, exec .hotSwapClose s = .next t ∧ t.pwr.main = true ∧ t.pwr.ramp = true ∧
      t.pwr.closePermit = false ∧ t.psto = s.psto ∧ t.regs = (((s.mainReset.setPwr 5 true).setPwr 6 false).setPwr 7 false).regs) ∧
    (s.pwr.main = true → s.pwrBit 6 = false → exec .mainGood s =
      .next { (s.setPwr 6 true).fput (glbPg 0) 0x48 11 8 1 with tick := { s.tick with monitors := true } }) ∧
    (∀ n, s.fget (glbPg 0) 0x48 11 8 = n → s.pwr.main = true → s.pwrBit 6 = true → s.pllEval.tick.locked = true → 1 ≤ n → n < 6 →
      n ≠ 5 → exec .powerOnStep s = .next (s.pllEval.fput (glbPg 0) 0x48 11 8 (n + 1))) ∧
    (s.fget (glbPg 0) 0x48 11 8 = 5 → s.pwr.main = true → s.pwrBit 6 = true → s.pllEval.tick.locked = true →
      exec .powerOnStep s = .next ((List.range 16).foldl State.lightEngine (s.pllEval.fput (glbPg 0) 0x48 11 8 6))) ∧
    (s.fget (glbPg 0) 0x48 11 8 = 6 → s.pwr.main = true → s.pwrBit 6 = true → s.pllEval.tick.locked = true →
      exec .powerOnStep s = .next (State.postStart
        { s.pllEval.fput (glbPg 0) 0x48 11 8 7 with pwr := { s.pllEval.pwr with ramp := false } })) ∧
    (∀ failed, s.pwr.main = true → s.fget (glbPg 0) 0x48 11 8 = 7 → s.bget (glbPg 0) 0x48 31 = false →
      (failed.all fun c => (pageOfCode c).all fun p => !inPlace p) = true →
      exec (.postComplete failed) s = .next ((((((servicePages.foldl (fun s p => s.postOne failed p) s).bput (glbPg 0) 0x48 31
        true).setVerdict (glbPg 0) 5 1 0).endTransition (glbPg 0)).enterDock (glbPg 0)))) ∧
    (s.pwr.aux = false → ∃ t, exec .auxiliaryPowerUp s = .next t ∧ t.pwr.aux = true ∧ t.pwr.main = false ∧
      t.pwr.matedA = s.pwr.matedA ∧ t.pwr.matedB = s.pwr.matedB ∧ t.psto = s.psto)

/-- The way down: every condition that opens the hot-swap switch opens it, with what it records, and LEAK# is shown as
asserted, which is a CRIT condition. That an opening of the switch during the ramp is a ramp fault whatever opens it, but
for the drained service exit, is the model's choice (log 140). -/
def Obligations.PowerDownCommandsComplete : Prop :=
  ∀ s : State, s.pwr.aux = true → s.pwr.main = true →
    (s.pwr.matedB = true → ∃ t, exec (.presenceLoss false) s = .next { t with psto := { t.psto with surprise := true } } ∧
      t = State.powerOff (State.setPwr { s with pwr := { s.pwr with matedA := false } } 0 false) true) ∧
    (s.pwr.matedA = true → ∃ t, exec (.presenceLoss true) s = .next { t with psto := { t.psto with surprise := true } } ∧
      t = State.powerOff (State.setPwr { s with pwr := { s.pwr with matedB := false } } 1 false) true) ∧
    (s.pwrBit 4 = true → exec .mainEnDeassert s = .next ((s.setPwr 4 false).powerOff true)) ∧
    (∃ t, t = (s.powerOff true).setPwr 8 true ∧
      exec .underVoltage s = .next { t with pwr := { t.pwr with ovuvPending := true } }) ∧
    (∃ t, t = (s.powerOff true).setPwr 9 true ∧
      exec .overVoltage s = .next { t with pwr := { t.pwr with ovuvPending := true } }) ∧
    (∃ t, t = s.powerOff true ∧ exec .auxRailLoss s = .next { t with pwr := { t.pwr with aux := false } }) ∧
    (∃ t, t = (s.powerOff true).bput (mgmtPg 3) 0x54 2 true ∧
      exec .temperatureTrip s = .next { t with psto := { t.psto with trip := true } }) ∧
    (s.pwr.critPending = true → exec .critPowerOff s = .next (s.powerOff true)) ∧
    (s.fget (glbPg 0) 0x48 11 8 = 1 → s.tick.locked = false → exec .pllLockTimeout s = .next (s.powerOff true)) ∧
    (s.pwr.ramp = true → exec (.railOutOfLimits false) s = .next (s.powerOff true)) ∧
    (s.pwr.ramp = true → exec (.railOutOfLimits true) s = .next ((s.setPwr 3 false).powerOff true)) ∧
    (s.svcState (glbPg 0) = svcDraining → s.overdue (glbPg 0) = true → exec .glbDrainEnd s =
      .next ((s.fenceAll.powerOff false).record3 (glbPg 0) 0xC (s.get (glbPg 0) 0xC)
        ((s.fenceAll.powerOff false).get (glbPg 0) 0xC))) ∧
    (s.zyn.mcReset = false → exec (.leak false) s = .next (s.bput (mgmtPg 3) 0x54 5 false)) ∧
    (s.zyn.mcReset = false → exec (.leak true) s = .next (s.bput (mgmtPg 3) 0x54 5 true).crit)

/-- What an open switch leaves: the main domain off, PWR_STAT with POWER_OFF alone of the three power bits, TICK and
every memory of the main domain as after reset, and the persistent store but for the key changes that were waiting. -/
def Obligations.OpenSwitchTurnsMainDomainOff : Prop :=
  ∀ (s : State) (fault : Bool), Registers.wf s.regs = true → Memory.wf s.mem = true →
    (s.openSwitch fault).pwr.main = false ∧ (s.openSwitch fault).pwr.ramp = false ∧
    (s.openSwitch fault).pwr.closePermit = false ∧ (s.openSwitch fault).pwr.aux = s.pwr.aux ∧
    (s.openSwitch fault).pwr.rampPending = (s.pwr.rampPending || (s.pwr.ramp && fault)) ∧
    (s.openSwitch fault).tick = State.reset.tick ∧ (s.openSwitch fault).mem = State.reset.mem ∧
    (s.openSwitch fault).vis = [] ∧ (s.openSwitch fault).wins = [] ∧ (s.openSwitch fault).links = [] ∧
    (s.openSwitch fault).psto.retired = s.psto.retired ∧ (s.openSwitch fault).psto.hwm = s.psto.hwm ∧
    (s.openSwitch fault).psto.minSvn = s.psto.minSvn ∧ (s.openSwitch fault).psto.surprise = s.psto.surprise

/-- THERMAL_SAMPLE below CRIT stores the readings and shows WARN, LOW_FLOW and HIGH_INLET; at CRIT with the main domain on
it enters the fatal state's way to power-off; LEAK is shown as asserted. -/
def Obligations.SupervisionReadingsAreStored : Prop :=
  ∀ (s : State) (r : ThermalReading), Registers.wf s.regs = true → Memory.wf s.mem = true → s.pwr.aux = true →
    s.zyn.mcReset = false →
    (r.dieMax < 105 → r.opteMax < 78 → ∃ t, exec (.thermalSample r) s = .next t ∧
      t.fget (mgmtPg 3) 0x44 15 0 = r.v48 % 2 ^ 16 ∧ t.fget (mgmtPg 3) 0x48 15 0 = r.i48 % 2 ^ 16 ∧
      t.fget (mgmtPg 3) 0x4C 15 0 = r.watts % 2 ^ 16 ∧
      t.get (mgmtPg 3) 0x50 = r.outlet % 256 * 2 ^ 24 + r.inlet % 256 * 2 ^ 16 + r.flow % 65536 ∧
      t.fget (mgmtPg 3) 0x54 15 8 = r.dieMax % 256 ∧ t.fget (mgmtPg 3) 0x54 23 16 = r.opteMax % 256 ∧
      t.therm 0 = decide (95 ≤ r.dieMax ∨ 70 ≤ r.opteMax) ∧ t.therm 4 = (s.pwr.main && decide (r.flow < 350)) ∧
      t.therm 3 = (s.pwr.main && decide (40 < r.inlet)) ∧ t.pwr = s.pwr ∧ t.psto = s.psto) ∧
    (105 ≤ r.dieMax ∨ 78 ≤ r.opteMax → s.pwr.main = true → s.pwr.critPending = false →
      ∃ t, exec (.thermalSample r) s = .next t ∧ t.pwr.critPending = true) ∧
    exec (.leak false) s = .next (s.bput (mgmtPg 3) 0x54 5 false) ∧
    exec (.leak true) s = .next (s.bput (mgmtPg 3) 0x54 5 true).crit

/-! TICK. -/

/-- The reference inputs, holdover, and the tick boundary while TICK runs: what the Zynken window of the ending tick still
owes, the boundary itself, the key changes due at it, the ports, the jobs in their order, the lanes, and job 2. -/
def Obligations.ClockAndTickCommandsComplete : Prop :=
  ∀ s : State,
    (∀ b, s.pwr.main = true → s.tick.monitors = true →
      exec (.refInputGood b) s = .next ((s.bput (tickPg 0) 0x4C (if b then 3 else 2) true).pllEval) ∧
      exec (.refInputLoss b) s = .next ((s.bput (tickPg 0) 0x4C (if b then 3 else 2) false).pllEval)) ∧
    (s.pwr.main = true → s.bget (tickPg 0) 0x4C 8 = true → s.tick.holdStart + 8 ≤ s.nowTick →
      exec .holdoverTimeout s = .next (s.enterFatal 3)) ∧
    (∀ o a b, s.tick.running = true → a = ((s.zFlush.refillTo 255).endTick.openTick o).keysDue →
      b = (a.links.map Prod.fst).foldl State.portEnd a →
      exec (.tickBoundary o) s = .next (
        let c := o.lanes.foldl State.fomUpdate (if (b.firstJobs o).fatal then b.firstJobs o else (b.firstJobs o).midJobs)
        let d := if c.fatal then c else c.laneJobs
        if (d.jobStart 2).2 then (d.jobStart 2).1.zWindow else (d.jobStart 2).1)) ∧
    (∀ port frame arrival, s.frameUp port frame = true → frType frame = frTick →
      ((s.takeHeader port frame).link port).session = true →
      exec (.tickMarkerReceive port frame arrival) s =
        .next ((s.takeHeader port frame).takeMarker port (frBody frame) arrival))

/-- The jobs of TICK that commands start, each once the Zynken window has executed, while TICK runs outside the fatal state
and its last run has ended. -/
def Obligations.TickJobCommandsComplete : Prop :=
  ∀ s₀ s : State, s = s₀.zFlush → s.tick.running = true → s.fatal = false →
    (∀ unit reach endCc, unit < 8 → s.works (xptPg unit 0) = true → (s.xpt unit).ran = false →
      Tab.get (fun _ => false) s.tick.busy 7 = false →
      exec (.clearanceScheduling unit reach endCc) s₀ = .next (
        (((((s.clrOrder (2 * unit)).map (fun e => (2 * unit, e)) ++
          (s.clrOrder (2 * unit + 1)).map (fun e => (2 * unit + 1, e))).take reach).foldl
            (fun s e => s.serveAnn e.1 e.2) s).updXpt unit (fun x => { x with ran := true })).jobEnd 7 endCc)) ∧
    (∀ endCc, Tab.get (fun _ => false) s.tick.busy 5 = false → 512 ≤ endCc →
      exec (.adaptiveWeightUpdate endCc) s₀ = .next (s.jobEnd 5 endCc)) ∧
    (∀ endCc, Tab.get (fun _ => false) s.tick.busy 5 = false → endCc < 512 →
      ∃ t, exec (.adaptiveWeightUpdate endCc) s₀ = .next t ∧ t.regs = (s.jobEnd 5 endCc).regs ∧
        t.route.detour = s.route.detour ∧ t.route.detourNext.isSome = true) ∧
    (∀ w, s.route.detourNext = some w →
      exec .weightsInForce s₀ = .next { s with route := { s.route with detour := w, detourNext := none } }) ∧
    (∀ share endCc, share < 16 → s.bget (cluPg share) 0x44 8 = false →
      Tab.get (fun _ => false) s.tick.busy (16 + share) = false →
      ∃ u, u = (if s.journals then s.journalRun share else s) ∧ exec (.pairedJournalling share endCc) s₀ =
        .next ((u.bump (engPg (u.get (cluPg share) 0x44 % 128)) 0 1).jobEnd 8 endCc))

/-- A reference input that can be used while the PLL is not locked locks it and starts TICK, A before B; the boundary then
advances TICK.COUNT by 1, shows it in the register pair, begins at core cycle 0, and keeps for the tick the configuration
as it stood then. -/
def Obligations.TickStartsAndAdvances : Prop :=
  ∀ (s : State) (b : Bool) (o : TickObs), Registers.wf s.regs = true →
    (s.tick.monitors = true → s.tick.locked = false → s.refUsable b = true → (b = true → s.refUsable false = false) →
      s.pllEval.tick.locked = true ∧ s.pllEval.tick.running = true ∧ s.pllEval.tick.count = s.tick.count ∧
        s.pllEval.bget (tickPg 0) 0x4C 4 = b ∧ s.pllEval.bget (tickPg 0) 0x4C 5 = true) ∧
    (s.tick.count < 2 ^ 64 → (s.openTick o).tick.count = (s.tick.count + 1) % 2 ^ 64 ∧ (s.openTick o).tick.cc = 0 ∧
      (s.openTick o).get64 (tickPg 0) 0x40 = (s.openTick o).tick.count ∧
      (∀ p off, p ≠ tickPg 0 → p ≠ tickPg 1 → locate (p.addr + off) = some (p, off) →
        (s.openTick o).cfg p off = s.get p off))

/-! Register access. -/

/-- Reads, writes and pairs, and the writes with rows of their own: each row's effect on a register that it may name, in a
core cycle that is no Zynken command's last; in such a cycle the direct writes meet the command (R99 R120). -/
def Obligations.RegisterAccessCommandsComplete : Prop :=
  ∀ s : State,
    (∀ ws c, s.zNow = some c → exec (.registerWrite ws) s = .next (s.jointCycle ws c).1) ∧
    (∀ q a, exec (.narrowAccess ⟨q, true⟩ a) s = .next (s.badAccess q a) ∧
      exec (.narrowAccess ⟨q, false⟩ a) s = .next ((s.badAccess q a).emit (.value q.origin a 0))) ∧
    (∀ q a p, pathReaches q a = true → accessPage a = some p → s.pageOn p = true → s.badAccess q a = s.raise p 0) ∧
    (∀ q a, a % 4 ≠ 0 → exec (.pairLoRead q a) s = .next (s.badRead q a) ∧ exec (.readClear q a) s = .next (s.badRead q a)) ∧
    (∀ q o a p off r, q.origin = o → pathReaches q a = true → a % 4 = 0 → locate a = some (p, off) → isLo p off = true →
      regRow p off = some r → r.rc = 0 → s.pageOn p = true → s.readBarred p o = false → p ≠ jrnlPg 1 →
      Tab.get noLatch s.latches (65536 * pageCode p + o) = none →
      exec (.pairLoRead q a) s = .next (
        State.emit { s with latches := Tab.set noLatch s.latches (65536 * pageCode p + o) (some (s.latchOf p off o)) }
          (.value o a (BitVec.ofNat 32 (s.peek p off o))))) ∧
    (∀ q o a p off r, q.origin = o → pathReaches q a = true → a % 4 = 0 → locate a = some (p, off) → isLo p off = false →
      regRow p off = some r → s.pageOn p = true → s.readBarred p o = false → p ≠ jrnlPg 1 →
      Tab.get noLatch s.latches (65536 * pageCode p + o) = none →
      ∃ t, exec (.readClear q a) s = .next t ∧ t.out = s.out ++ [.value o a (BitVec.ofNat 32 (s.peek p off o))] ∧
        t.regs = (if r.rc = 0 then s else s.put p off (s.get p off - Nat.land (s.get p off) r.rc)).regs) ∧
    (∀ q o k, q.origin = o → k < 8 → q = .session ∨ q = .firmware → s.pageOn (jrnlPg 1) = true →
      Tab.get noLatch s.latches (65536 * pageCode (jrnlPg 1) + o) = none →
      ∃ t, exec (.journalRecordRead q k) s = .next t ∧
        t.out = s.out ++ [.value o ((jrnlPg 1).addr + 0x60 + 4 * k) (BitVec.ofNat 32 (leAt (s.rdRec o) (4 * k) 4))] ∧
        (k ≠ 7 ∨ s.rdStat o ≠ 0 → t.orig = s.orig) ∧
        (k = 7 → s.rdStat o = 0 → ∀ rd, rd = wrapAdd 64 (s.ownReg (jrnlPg 1) 0x40 o + 2 ^ 32 * s.ownReg (jrnlPg 1) 0x44 o) 1 →
          t.orig = ((s.setOwn (jrnlPg 1) 0x40 o (rd % 2 ^ 32)).setOwn (jrnlPg 1) 0x44 o (rd / 2 ^ 32)).orig)) ∧
    (∀ w p off, s.zNow = none → locate w.addr = some (p, off) → isLo p off = true → (s.judge (w, none)).fate = .held →
      exec (.pairLoWrite w) s =
        .next (s.setHeld p off w.origin (some (BitVec.ofNat 32 (s.judge (w, none)).new)))) ∧
    (∀ w, s.zNow = none → (s.judge (w, none)).fate = .ok →
      ∀ t, t = s.acceptedWrite w (fun t j => t.written j.p j.off s.ringOn j.old j.new j.val) →
      exec (.registerWrite [w]) s = .next t ∧
      ∀ p off, locate w.addr = some (p, off) →
        (isHi p off = true → exec (.pairHiCommit [w]) s = .next t) ∧
        (p.page = 0 → off = 0x08 → exec (.blkEnableWrite w) s = .next t) ∧
        (off = 0x08 → bit w.value.toNat 1 = true → exec (.softReset w) s = .next t) ∧
        (off = 0x08 → bit w.value.toNat 3 = true → exec (.fenceRequest w) s = .next t) ∧
        (off = 0x08 → bit w.value.toNat 3 = false → exec (.fenceRelease w) s = .next t) ∧
        (off = 0x18 → exec (.blkErrinjWrite w) s = .next t) ∧
        (off = 0x2C → bit w.value.toNat 31 = true → exec (.selfTestStart w) s = .next t) ∧
        (p = tickPg 0 → off = 0x48 → exec (.refselWrite w) s = .next t) ∧
        (p = jrnlPg 0 → off = 0x40 → exec (.journalSizeWrite w) s = .next t) ∧
        (p.cls = .port → p.page = 1 → off = 0x40 → bit w.value.toNat 1 = true → exec (.retrain w) s = .next t) ∧
        (p.cls = .opte → p.page = 1 → off = 0x40 → fld w.value.toNat 3 0 ≠ 0 → exec (.forceSpare w) s = .next t) ∧
        (p.cls = .tile → (0x80 ≤ off ∧ off < 0xD0) ∨ off = 0x44 → exec (.allotmentWrite w) s = .next t) ∧
        (p.cls = .tile ∨ p.cls = .port → p.page = 0 → off = 0x08 → exec (.reefWrite w) s = .next t) ∧
        (p = routePg → off = 0x40 → bit w.value.toNat 2 = true → exec (.routeCopy w) s = .next t)) ∧
    (∀ w p, s.zNow = none → locate w.addr = some (p, 0xC84) → (ctrMask p).isSome = true → (s.judge (w, none)).fate = .ok →
      exec (.ctrClear w) s = .next (s.acceptedWrite w (fun t _ => t.clearCtrs p w.value.toNat))) ∧
    (∀ w, s.zNow = none → locate w.addr = some (pmonPg, 0x40) → bit w.value.toNat 31 = true →
      (s.judge (w, none)).fate = .ok → exec (.snapEnable w) s = .next (s.acceptedWrite w (fun t j =>
        if bit j.old 31 = false ∧ bit j.new 31 = true then (t.put64 pmonPg 0x50 0).put64 pmonPg 0x58 0 else t)))

/-- The writes with rows of their own on the collar, TICK, the journal, the lanes and the switch: each takes effect
where its checks pass, in a core cycle that is no Zynken command's last. -/
def Obligations.ControlWriteCommandsComplete : Prop :=
  ∀ (s : State) (w : RegWrite) (p : PageRef) (off : Nat), s.zNow = none → locate w.addr = some (p, off) →
    (s.judge (w, none)).fate = .ok →
    (off = 0x08 → p.page = 0 → exec (.blkEnableWrite w) s =
      .next (s.acceptedWrite w (fun t j => t.ctlWritten p s.ringOn j.old j.new))) ∧
    (off = 0x08 → bit w.value.toNat 1 = true → exec (.softReset w) s =
      .next (s.acceptedWrite w (fun t j => t.ctlWritten p s.ringOn j.old j.new))) ∧
    (off = 0x08 → bit w.value.toNat 3 = true → exec (.fenceRequest w) s =
      .next (s.acceptedWrite w (fun t j => t.ctlWritten p s.ringOn j.old j.new))) ∧
    (off = 0x08 → bit w.value.toNat 3 = false → exec (.fenceRelease w) s =
      .next (s.acceptedWrite w (fun t j => t.ctlWritten p s.ringOn j.old j.new))) ∧
    (off = 0x18 → exec (.blkErrinjWrite w) s = .next (s.acceptedWrite w (fun t j => t.blockWritten p 0x18 j.old j.new j.val))) ∧
    (off = 0x2C → bit w.value.toNat 31 = true → exec (.selfTestStart w) s = .next (s.acceptedWrite w (fun t _ =>
      (t.bput p 0x2C 31 true).runFull p))) ∧
    (p = tickPg 0 → off = 0x48 → exec (.refselWrite w) s = .next (s.acceptedWrite w (fun t j =>
      if fld j.old 1 0 ≠ fld j.new 1 0 then t.pllEval else t))) ∧
    (p = jrnlPg 0 → off = 0x40 → exec (.journalSizeWrite w) s = .next (s.acceptedWrite w (fun t j =>
      if fld j.old 4 0 ≠ fld j.new 4 0 then t.emptyRing else t))) ∧
    (∀ i, p = lanePg i → off = 0x40 → bit w.value.toNat 1 = true → exec (.retrain w) s =
      .next (s.acceptedWrite w (fun t _ => t.retrain i))) ∧
    (∀ k, p = optePg k 1 → off = 0x40 → fld w.value.toNat 3 0 ≠ 0 → exec (.forceSpare w) s =
      .next (s.acceptedWrite w (fun t _ => t.forceSpares k (fld w.value.toNat 3 0)))) ∧
    (∀ i, p = tilePg i → (0x80 ≤ off ∧ off < 0xD0) ∨ off = 0x44 → exec (.allotmentWrite w) s =
      .next (s.acceptedWrite w (fun t _ => t.put p 0x58 (t.sharedOf i).toNat))) ∧
    (off = 0x08 → p.page = 0 → p.cls = .tile ∨ p.cls = .port → exec (.reefWrite w) s =
      .next (s.acceptedWrite w (fun t j => t.ctlWritten p s.ringOn j.old j.new))) ∧
    (p = routePg → off = 0x40 → bit w.value.toNat 2 = true → exec (.routeCopy w) s =
      .next (s.acceptedWrite w (fun t _ => t.bput routePg 0x44 7 true)))

/-- The writes with rows of their own on the VIs, the queues, the partition, Lanyard and staging, in a core cycle that
is no Zynken command's last. -/
def Obligations.BlockWriteCommandsComplete : Prop :=
  ∀ (s : State) (w : RegWrite) (p : PageRef) (off : Nat), s.zNow = none → locate w.addr = some (p, off) →
    (s.judge (w, none)).fate = .ok →
    (∀ v, p = viPg v → off = 0x40 → exec (.viEnableWrite w) s = .next (s.acceptedWrite w (fun t j =>
      if bit j.old 0 ≠ bit j.new 0 then t.viEnabled v (bit j.new 0) else t))) ∧
    (∀ v, p = viPg v → off = 0x4C → bit w.value.toNat 0 = true → exec (.xlateCommit w) s =
      .next (s.acceptedWrite w (fun t _ => t.xlateCommit v))) ∧
    (∀ v q, p = vfPg v 2 → q < 64 → off = 0x108 + 16 * q → exec (.cmdqEnable w) s = .next (s.acceptedWrite w (fun t j =>
      if bit j.old 31 = false ∧ bit j.new 31 = true then t.updCmq v q (fun _ => ⟨0, 0, 0, false⟩) else t))) ∧
    (∀ v q, p = vfPg v 3 → q < 64 → off = 0x108 + 16 * q → exec (.cplqEnable w) s = .next (s.acceptedWrite w (fun t j =>
      if bit j.old 31 = false ∧ bit j.new 31 = true then
        t.updCq v q (fun c => { c with head := 0, tail := 0, error := false }) else t))) ∧
    (p = hbmcPg 0 1 → off = 0x40 → bit w.value.toNat 0 = true → exec (.partitionCommit w) s =
      .next (s.acceptedWrite w (fun t _ => t.commitPartition.bput p 0x40 0 false))) ∧
    (p = lanyPg 0 → off = 0x40 → bit w.value.toNat 31 = true → exec (.pairingEnable w) s =
      .next (s.acceptedWrite w (fun t j => if bit j.old 31 = false ∧ bit j.new 31 = true then t.startSync else t))) ∧
    (p = pstoPg 1 → off = 0x40 → bit w.value.toNat 31 = true → exec (.fwStage w) s =
      .next (s.acceptedWrite w (fun t _ => t.beginStaging))) ∧
    (p = pstoPg 1 → off = 0x58 → exec (.stageData w) s = .next (s.acceptedWrite w (fun t _ => t.stageWord w.value.toNat)))

/-- An accepted write of a 32-bit register stores what R5 lets it write of the value, adds 1 to the page's CHGSEQ and puts
the tick into its CHGTICK. -/
def Obligations.AcceptedWriteStoresAndCounts : Prop :=
  ∀ (s : State) (w : RegWrite) (p : PageRef) (off : Nat) (r : RegRow), Registers.wf s.regs = true →
    locate w.addr = some (p, off) → regRow p off = some r → r.perOrigin = false → off ≠ 0x24 → off ≠ 0x28 →
    (s.judge (w, none)).fate = .ok → (s.judge (w, none)).pair = false →
    (s.storeOne (s.judge (w, none))).1.get p off =
      Nat.land (s.adjust p off (s.get p off) (r.apply 0xFFFFFFFF (s.get p off) w.value.toNat)) (Nat.xor 0xFFFFFFFF r.wo) % 2 ^ 32 ∧
    (s.storeOne (s.judge (w, none))).1.get p 0x24 = (s.get p 0x24 + 1) % 2 ^ 32 ∧
    (s.storeOne (s.judge (w, none))).1.get p 0x28 = s.nowTick % 2 ^ 32 ∧
    (∀ q o, (q.addr + o ≠ p.addr + off ∧ q.addr + o ≠ p.addr + 0x24 ∧ q.addr + o ≠ p.addr + 0x28) →
      (s.storeOne (s.judge (w, none))).1.get q o = s.get q o)

/-- Writes of one register by two origins in one cycle: the origin that ranks first takes effect and the other is
SUPERSEDED, in whichever order they came. -/
def Obligations.OutrankedWriteIsSuperseded : Prop :=
  ∀ (s : State) (v w : RegWrite), v.addr = w.addr → rankKey v.origin < rankKey w.origin →
    (s.judge (v, none)).fate = .ok → (s.judge (w, none)).fate = .ok → (s.judge (v, none)).competes = true →
    (s.runWrites none [(v, none), (w, none)]).2.map (fun j => (j.w, j.status, j.winner)) =
      [(v, stOk, 0xFFFF), (w, stSuperseded, v.origin)] ∧
    (s.runWrites none [(w, none), (v, none)]).2.map (fun j => (j.w, j.status, j.winner)) =
      [(v, stOk, 0xFFFF), (w, stSuperseded, v.origin)]

/-- The ranks: the management controller, the fabric manager, physical functions, the twin, engines, VIs; within one the
lower origin. -/
def Obligations.OriginsRankInOrder : Prop :=
  ∀ h e v : Nat, h < 16 → e < 128 → v < 4096 → rankKey 0 < rankKey 1 ∧ rankKey 1 < rankKey (0x10 + h) ∧
    rankKey (0x10 + h) < rankKey 0x200 ∧ rankKey 0x200 < rankKey (0x100 + e) ∧ rankKey (0x100 + e) < rankKey (0x1000 + v) ∧
    (h < 15 → rankKey (0x10 + h) < rankKey (0x11 + h)) ∧ (e < 127 → rankKey (0x100 + e) < rankKey (0x101 + e)) ∧
    (v < 4095 → rankKey (0x1000 + v) < rankKey (0x1001 + v)) 

/-- R95: the owner, the delegate, the management controller, and the fabric manager but on a page that the management
controller owns, may write a page; a write from any other origin is rejected with NOTOWNER in every core cycle; it sets the
page's bit and is journalled, and nothing is stored. -/
def Obligations.OnlyPermittedWritersWriteAPage : Prop :=
  ∀ (s : State) (w : RegWrite) (p : PageRef) (off o owner delegate : Nat) (r : RegRow), owner = s.fget p 0x20 15 0 →
    delegate = s.fget p 0x20 31 16 →
    (s.mayWrite p o = true ↔ o = owner ∨ (o = delegate ∧ delegate ≠ 0xFFFF) ∨ o = 0 ∨ (o = 1 ∧ owner ≠ 0)) ∧
    (pathReaches w.path w.addr = true → w.addr % 4 = 0 → locate w.addr = some (p, off) → s.pageOn p = true →
      regRow p off = some r → r.writable ≠ 0 → s.mayWrite p w.origin = false →
      (s.judge (w, none)).fate = .deny stNotOwner 1 ∧
      (s.zNow = none → exec (.registerWrite [w]) s = .next ((s.raise p 1).record
        ((s.raise p 1).jrec w.origin p off stNotOwner 0 0xFFFF (s.peek p off w.origin) w.value.toNat))))

/-! The collar and the journal. -/

/-- The ends of a fence, of an injection and of a test; a record that reaches the ring, and one that reaches a mirror. A
fence is looked at once the rings have carried what is on them; an injection is raised at the first tick boundary after it
is requested, on a page of the auxiliary domain while TICK stands still at once. -/
def Obligations.CollarAndJournalCommandsComplete : Prop :=
  ∀ (s : State) (p : PageRef) (page : Nat), pageOfCode page = some p →
    (∀ u, u = s.nocRun nocFuel none → s.powered p = true → p.page = 0 → s.bget p 8 3 = true → s.bget p 0xC 2 = false →
      exec (.fenceComplete page) s = .next (if u.fenceOver p then u.setFenced p else u)) ∧
    (∀ k t, stopOf p = some k → s.powered p = true → s.bget p 0xC 2 = false →
      Tab.get (fun _ => 0) s.svc.fenceStart (pageCode p) = t + 1 → t + 2 ^ max 10 (s.fget (nocPg k) 0x40 12 8) ≤ s.nowTick →
      exec (.fenceTimeout page) s = .next (State.raise
        { s with svc := { s.svc with fenceStart := Tab.set (fun _ => 0) s.svc.fenceStart (pageCode p) 0 } } (nocPg k) 19)) ∧
    (s.pageOn p = true → ∀ due,
      due = (if s.tick.running then if s.nowCc = 0 then Nat.land (s.get p 0x18) (s.cfg p 0x18) else 0
        else if auxPage p then s.get p 0x18 else 0) →
      exec (.errorInjectionRaise page) s =
        .next ((List.range 32).foldl (fun u b => if bit due b then u.injectOne p b else u) s)) ∧
    (∀ verdict fails t, s.testOf p = some t → s.powered p = true → 1 ≤ verdict → verdict ≤ 3 → t.kind = 5 →
      s.svcState p = svcSelftest → p.cls ≠ .port ∨ (s.lport p.inst).test = none → exec (.selfTestVerdict page verdict fails) s =
        .next (s.fullEnd ((pageOfCode t.page).getD p) verdict fails)) ∧
    (∀ verdict fails t, s.testOf p = some t → s.powered p = true → 1 ≤ verdict → verdict ≤ 3 → t.kind ≠ 5 → p.cls ≠ .eng →
      exec (.selfTestVerdict page verdict fails) s = .next (s.targetVerdict p.zero t verdict fails)) ∧
    (∀ b r, s.ringOn = true → s.jrnl.pendingRec = b :: r → b ≠ [] → ∃ t, exec .journalRecordWrite s = .next t ∧
      t.jrnl.pendingRec = r ∧ t.jrnl.wr = wrapAdd 64 s.jrnl.wr 1 ∧ Tab.get (fun _ => ([] : Bytes)) t.jrnl.ring s.jrnl.wr = b ∧
      t.regs = s.regs ∧ t.out = s.out) ∧
    (∀ h b r, Tab.get (fun _ => ([] : List Bytes)) s.jrnl.mirror h = b :: r → s.bget (hostPg h 0) 0x44 31 = true →
      s.fatal = false → exec (.mirrorRecordWrite h) s = .next (State.mirrorRec
        { s with jrnl := { s.jrnl with mirror := Tab.set (fun _ => ([] : List Bytes)) s.jrnl.mirror h r } } h b))

/-- A record: to the ring while it runs, else into the buffer of 4,096 records, whose oldest a new one overwrites; each
mirror that receives it holds it behind its earlier ones, and every other mirror is as it was. -/
def Obligations.RecordsReachRingBufferAndMirrors : Prop :=
  ∀ (s : State) (r : JRec),
    (s.ringOn = true → (s.record r).jrnl.pendingRec = s.jrnl.pendingRec ++ [r.bytes] ∧ (s.record r).jrnl.held = s.jrnl.held) ∧
    (s.ringOn = false → s.jrnl.held.length < 4096 → (s.record r).jrnl.held = s.jrnl.held ++ [r.bytes] ∧
      (s.record r).jrnl.overwritten = s.jrnl.overwritten) ∧
    (s.ringOn = false → s.jrnl.held.length = 4096 → (s.record r).jrnl.held = s.jrnl.held.drop 1 ++ [r.bytes] ∧
      (s.record r).jrnl.overwritten = min (s.jrnl.overwritten + 1) 0xFFFFFFFF) ∧
    (∀ h, h < 16 → s.mirrors h r = true → Tab.get (fun _ => ([] : List Bytes)) (s.record r).jrnl.mirror h =
      Tab.get (fun _ => ([] : List Bytes)) s.jrnl.mirror h ++ [r.bytes]) ∧
    (∀ h, h < 16 → s.mirrors h r = false → Tab.get (fun _ => ([] : List Bytes)) (s.record r).jrnl.mirror h =
      Tab.get (fun _ => ([] : List Bytes)) s.jrnl.mirror h) ∧
    r.bytes.length = 32

/-! Zynken. -/

/-- A frame of a critical command that passes the checks of R117 raises its origin's high-water mark and waits in the
queue for its window. -/
def Obligations.CriticalCommandsAreQueued : Prop :=
  ∀ (s t : State) (path : ZPath) (f : Bytes), s.zPasses path f = true → s.zCheck5 f = true →
    t = (s.zAccepted path f).zQueue path f →
    (zOp f = 0x0001 → exec (.routeCommit path f) s = .next t) ∧
    (zOp f = 0x0002 → exec (.svcState path f) s = .next t) ∧
    (zOp f = 0x0003 → exec (.viCreate path f) s = .next t) ∧
    (zOp f = 0x0004 → exec (.viDestroy path f) s = .next t) ∧
    (zOp f = 0x0005 → exec (.keyUpdate path f) s = .next t) ∧
    (zOp f = 0x0006 → exec (.keyLoadInitial path f) s = .next t) ∧
    (zOp f = 0x0007 → exec (.fwActivate path f) s = .next t) ∧
    (zOp f = 0x0008 → exec (.cleatRelease path f) s = .next t) ∧
    (zOp f = 0x0009 → exec (.tickElect path f) s = .next t) ∧
    (zOp f = 0x000A → exec (.pairFailover path f) s = .next t) ∧
    (zOp f = 0x000B → exec (.dumpTrigger path f) s = .next t) ∧
    (zOp f = 0x000C → exec (.ownerChange path f) s = .next t) ∧
    (zOp f = 0x000D → exec (.regWriteKeyed path f) s = .next t)

/-- Session frames that pass the checks take effect at once and are answered; the events around the unit. -/
def Obligations.SessionAndUnitCommandsComplete : Prop :=
  ∀ s : State,
    (∀ path f u, s.zPasses path f = true → u = s.zAccepted path f →
      (zOp f = 0x0F00 → exec (.sessionOpen path f) s = .next ((u.openSession f).zSessionDone f stOk 0)) ∧
      (zOp f = 0x0F01 → exec (.sessionClose path f) s = .next ((u.closeSession).zSessionDone f stOk 0)) ∧
      (∀ p, zOp f = 0x0F02 → objPage false (zObj f) = some p →
        exec (.regRead path f) s =
          .next (if s.readWaits f then s.nocWait mcStop cleatStop 0 else u.sessionRead f p (zp f 0 4))) ∧
      (∀ p, zOp f = 0x0F03 → objPage false (zObj f) = some p →
        exec (.regWrite path f) s = .next (u.sessionWrite f p (zp f 0 4)))) ∧
    (∀ slot (c : KeyPend), Tab.get (fun _ => none) s.psto.keyPend slot = some c → s.pwr.aux = true → s.tick.running = true →
      c.boundary ≤ s.nowTick → exec (.keyPendingEffect slot) s = .next (s.keyEffect slot)) ∧
    (s.zyn.sessOff = true ∨ s.idleTicks ≤ s.zyn.sessSpent + (s.nowTick - s.zyn.sessTick) →
      exec .sessionIdleTimeout s = .next s.closeSession) ∧
    exec .mgmtLinkLoss s = .next s.closeSession ∧
    (∀ o i, hwmIdx o = some i → s.pwr.aux = true → exec (.hwmPersisted o) s = .next (s.persistHwm i).zAfterPersist) ∧
    (∀ (w : RegWrite) (frame f : Bytes) (h : Nat) (u : State), locate w.addr = some (hostPg h 2, 0x50) →
      bit w.value.toNat 31 = true → u = s.cycleWrites [w] → Tab.get (fun _ => ZBox.idle) u.zyn.mailbox h = .reading →
      u.zReach (.host h) = true → u.bget (hostPg h 0) 0x44 31 = true → f = frame.take (u.fget (hostPg h 2) 0x50 8 0) →
      exec (.zcmdGo w frame) s = .next (State.zArrive
        { u with zyn := { u.zyn with mailbox := Tab.set (fun _ => ZBox.idle) u.zyn.mailbox h (.owed f) } } (.host h) f))

/-- What a critical command does when it executes, outside its refusals; and two refusals of every one: with AUTH_FAIL while
slot 0 is EMPTY, and with BUSY in the fatal state while TICK runs, but for KEY_UPDATE and DUMP_TRIGGER. -/
def Obligations.CriticalCommandsTakeEffect : Prop :=
  ∀ (s : State) (f : Bytes),
    (∀ c : ZCmd, s.slotState 0 = 0 → s.zEffect c = (s, zNo stAuthFail)) ∧
    (∀ c : ZCmd, s.slotState 0 ≠ 0 → s.zEffect c =
      if s.fatal = true ∧ s.tick.running = true ∧ zOp c.frame ≠ 5 ∧ zOp c.frame ≠ 0xB then (s, zNo stBusy) else s.zDo c) ∧
    (s.bget routePg 0x44 4 = false → s.bget routePg 0x44 7 = false → zp f 4 2 ≠ 0 → bit (zp f 6 1) 6 = false →
      s.checkShadow (zp f 0 4) false = 0 → (s.doRouteCommit f).2 = zOk (zp f 4 2) ∧
      (s.doRouteCommit f).1.route.ttCid = zp f 4 2 ∧
      ∃ dests linked, (s.doRouteCommit f).1.route.commit = some ⟨bit (zp f 6 1) 7, dests, false,
        s.nowTick + 1 + (if zp f 8 4 = 0 then 8192 else zp f 8 4), linked⟩) ∧
    (∀ p u, objInst (zObj f) = some p → svcNamed p.cls = true → p.cls ≠ .clu → (s.svcCommand p (zp f 0 4)).1 = u →
      (s.svcCommand p (zp f 0 4)).2.1 = stOk → s.doSvcState f = (u.chg p, zOk 0)) ∧
    (∀ v, v = oInst (zObj f) → s.viState v = viNone → s.badWindows v (zp f 0 4) (zp f 4 4) = false → s.badQuota v f = false →
      Tab.wf viD s.vis = true → (s.doViCreate f).2 = zOk 0 ∧ Tab.get viD (s.doViCreate f).1.vis v =
        { viInit with nextDesc := (s.vi v).nextDesc, bme := (s.vi v).bme, ats := (s.vi v).ats, winFirst := zp f 0 4,
                      winCount := zp f 4 4, domain := zp f 8 2, postMax := zp f 12 4, unexpMax := zp f 16 4,
                      bounceMax := zp f 20 4, cleatFirst := zp f 24 2, cleatCount := zp f 26 2, poolBase := zp f 28 4,
                      poolLen := zp f 32 4 }) ∧
    (s.viState (oInst (zObj f)) ≠ viNone → (s.vi (oInst (zObj f))).destroy = false →
      s.doViDestroy f = ((s.viDestroyed (oInst (zObj f))).chg (viPg (oInst (zObj f))), zOk 0)) ∧
    (∀ kind, kind = zp f 0 1 → kind = 1 ∨ kind = 2 → zp f 1 1 ≤ 1 → (kind = 2 → oClass (zObj f) = 1) →
      Tab.get (fun _ => none) s.fw.act kind = none → ∀ path, (s.doFwActivate path f).2 = ⟨stOk, 0, [], true⟩ ∧
        Tab.get (fun _ => none) (s.doFwActivate path f).1.fw.act kind =
          some ⟨zp f 1 1, bit (zp f 2 1) 0, false, false, [], f, path, s.nowTick⟩) ∧
    (∀ h q, (s.cleat (oPage (zObj f))).holder = some h → (s.cleat (oPage (zObj f))).seq = q →
      s.doCleatRelease f (some (h, q)) = ((s.bump (cleatPg 0) 6 1).cleatRelease (oPage (zObj f)) true, zOk 1)) ∧
    s.doCleatRelease f none = (s, zOk 0) ∧
    (zp f 0 8 = s.get64 (lanyPg 0) 0x48 → s.lanyState = laPaired ∨ s.lanyState = laLost →
      (s.doFailover f).2 = zOk 0 ∧ (s.doFailover f).1.lany.frozen = true ∧
        (s.doFailover f).1.lany.lostSince = s.nowTick) ∧
    (∀ k c, k = oInst (zObj f) → Tab.get (fun _ => none) s.psto.keyPend k = none → s.tick.running = true → zp f 7 1 ≠ 1 →
      zp f 6 1 ≤ 12 → (k ≠ 0 ∨ (zp f 4 2 = 0 ∧ zp f 6 1 = 1)) →
      c = KeyPend.mk false (s.zUnwrap f k) (zp f 0 4) (zp f 4 2) (zp f 6 1) (max (s.nowTick + 1) (zAct f + 1)) →
      (s.doKeyUpdate f).2 = zOk 0 ∧ Tab.get (fun _ => none) (s.doKeyUpdate f).1.psto.keyPend k = some c) ∧
    (∀ c : ZCmd, c.frame = f → s.slotState 0 = 0 → s.zLoad c =
      ((s.setSlot 0 1 0 1 0 (zPayload f)).chg (zynPg 1)).zFinish c.path f stOk 0xFFFF 0) ∧
    (∀ t st, s.zWrite f (tickPg 0) 0x50 (zp f 0 4) 0xFFFFFFFF = (t, st) → s.doTickElect f =
      (t.bput (tickPg 0) 0x4C 7 (!bit (zp f 0 4) 20 && decide (fld (zp f 0 4) 19 0 = t.rtSelf true)), ⟨st, 0, [], false⟩)) ∧
    (∀ p, zPages f = [p] → s.doOwnerChange f = ((s.zWrite f p 0x20 (zp f 0 4) 0xFFFFFFFF).1, ⟨stOk, 0, [], false⟩)) ∧
    (∀ p, objPage false (zObj f) = some p → s.doRegWriteKeyed f =
      ((s.zWrite f p (zp f 0 4) (zp f 4 4) (zp f 8 4)).1, ⟨(s.zWrite f p (zp f 0 4) (zp f 4 4) (zp f 8 4)).2, 0, [], false⟩)) ∧
    (s.bget (glbPg 5) 0x5C 31 = false → s.relia.dump = none → s.doDumpTrigger f =
      ({ s with relia := { s.relia with dump := some ⟨true, zOrigin f, bit (zp f 0 4) 0, s.nowTick, s.nowCc, false⟩ } }, zOk 0))

/-- The checks of an arriving frame: the first that fails decides it, with AUTH_FAIL, STALE_COUNTER, BOUNDS or BUSY; the
high-water mark rises once check 3 has passed. -/
def Obligations.FrameChecksDecideInOrder : Prop :=
  ∀ (s : State) (path : ZPath) (f : Bytes) (auth : Bool),
    auth = (s.zCheck1 f && (if zOp f = 6 then s.zCheckLoad path f else s.zCheck2 path f)) →
    (auth = false → s.zArrive path f = s.zReject path f) ∧
    (auth = true → zCtr f ≤ s.hwm (zOrigin f) → s.zArrive path f = s.zFinish path f stStaleCounter 0xFFFF 0) ∧
    (auth = true → s.hwm (zOrigin f) < zCtr f → zForm f = false →
      s.zArrive path f = (s.zAccepted path f).zFinish path f stBounds 0xFFFF 0) ∧
    (auth = true → s.hwm (zOrigin f) < zCtr f → zForm f = true → zSession (zOp f) = false → s.zCheck5 f = false →
      s.zArrive path f = (s.zAccepted path f).zFinish path f stBusy 0xFFFF 0)

/-- A frame whose counter has been seen is refused for good: after a frame of an origin is accepted, the same frame, and any
frame of that origin with a counter not above it, is refused with STALE_COUNTER at its check 3. -/
def Obligations.AcceptedCounterIsNeverReused : Prop :=
  ∀ (s : State) (path : ZPath) (f g : Bytes), Tab.wf hwmD s.zyn.hwm = true → zOrigin f = zOrigin g → zCtr g ≤ zCtr f →
    (hwmIdx (zOrigin f)).isSome = true → (s.zAccepted path f).hwm (zOrigin f) = zCtr f ∧
    ∀ p, ((s.zAccepted path f).zCheck1 g && (if zOp g = 6 then (s.zAccepted path f).zCheckLoad p g
      else (s.zAccepted path f).zCheck2 p g)) = true →
      (s.zAccepted path f).zArrive p g = (s.zAccepted path f).zFinish p g stStaleCounter 0xFFFF 0

/-- Commands on one object from several origins in one window: the one of highest rank goes on, the others are attached
to it and answered SUPERSEDED with it as winner; commands on different objects never conflict. -/
def Obligations.ConflictingCommandsYieldToRank : Prop :=
  ∀ a b : ZCmd, (a.path, a.frame) ≠ (b.path, b.frame) →
    (zSame a.frame b.frame = true → zSame b.frame a.frame = true → rankKey (zOrigin a.frame) < rankKey (zOrigin b.frame) →
      zResolve [a, b] = [{ a with losers := a.losers ++ [(b.path, b.frame)] }] ∧
      zResolve [b, a] = [{ a with losers := a.losers ++ [(b.path, b.frame)] }]) ∧
    (zSame a.frame b.frame = false → zSame b.frame a.frame = false → zResolve [a, b] = [a, b])

/-! The link's lanes and the optics. -/

/-- The lanes of a port: training, the bond, tests and detectors. -/
def Obligations.LaneCommandsComplete : Prop :=
  ∀ (s : State) (port lane : Nat), port < 512 → lane < 2 →
    (∀ ltf, ltfOk ltf = true → s.laneState port lane ≠ lnOff → s.laneState port lane ≠ lnFailed →
      exec (.ltfReceive port lane ltf) s = .next (s.syncLink (s.takeLtf port lane ltf) port)) ∧
    (∀ u, (s.lport port).zeroSent = true → (s.lport port).prop = 0 → s.portStep port < 3 →
      u = (s.setPortStep port (s.portStep port + 1)).updLport port (fun x => { x with countdown := 255, zeroSent := false }) →
      exec (.stepChange port) s = .next ([0, 1].foldl (fun t l =>
        if t.laneState port l = lnTrain then (t.setLaneState port l lnStep).updLane port l
          (fun x => { x with rxReady := false, peerReady := false, oldStep := s.portStep port }) else t) u)) ∧
    (∀ skew, (s.lport port).zeroSent = true → (s.lport port).prop = 3 → s.bget (lanePg port) 0x48 0 = false → 64 < skew →
      exec (.bondFormed port skew) s = .next (s.qualFail port 1)) ∧
    (∀ skew, (s.lport port).zeroSent = true → (s.lport port).prop = 3 → s.bget (lanePg port) 0x48 0 = false → skew ≤ 64 →
      (s.lane port 0).peerProp = 3 → (s.lane port 1).peerProp = 3 →
      exec (.bondFormed port skew) s = .next (s.formBond port 3)) ∧
    (s.laneState port lane = lnTrain → 64 ≤ (s.lane port lane).qualRun → exec (.laneQualified port lane) s =
      .next ((s.updLane port lane (fun x => { x with rxReady := true })).advance port)) ∧
    (s.laneState port lane = lnTrain → (s.lane port lane).rxReady = false → s.switching port = false →
      (s.lane port lane).since + 4096 ≤ s.nowTick → exec (.trainTimeout port lane) s = .next (s.syncLink (s.qualFail port lane) port)) ∧
    (s.laneState port lane = lnStep → s.switching port = false → (s.lane port lane).since + 64 ≤ s.nowTick →
      exec (.stepTimeout port lane) s = .next (s.syncLink (s.qualFail port lane) port)) ∧
    (s.laneState port lane = lnReady → max 4 (s.fget (lanePg port) 0x40 15 12) ≤ (s.lane port lane).badRun →
      exec (.laneErrorBurst port lane) s = .next (s.burst port lane)) ∧
    (∀ errors bits, s.laneState port lane = lnTest → (s.lane port lane).since + 2048 ≤ s.nowTick → exec (.laneTestEnd port lane errors bits) s =
      .next (State.syncLink s (s.endLaneTest port lane (decide (errors * 1000000 ≤ bits))) port)) ∧
    (s.laneState port lane = lnTest → (s.lane port lane).since + 512 ≤ s.nowTick →
      exec (.laneTestTimeout port lane) s = .next (State.syncLink s (s.endLaneTest port lane false) port)) ∧
    (s.powered (portPg port) = true → s.bget (lanePg port) (laneOff lane) 4 = false →
      s.losDeb port ≤ (s.lane port lane).lowRun → exec (.losAssert port lane) s = .next (s.detectorOn port lane 4 (16 + lane) 8)) ∧
    (64 ≤ (s.lane port lane).highRun → exec (.losClear port lane) s = .next (s.bput (lanePg port) (laneOff lane) 4 false)) ∧
    (s.powered (portPg port) = true → s.bget (lanePg port) (laneOff lane) 5 = false →
      s.losDeb port ≤ (s.lane port lane).unlockRun → exec (.lolAssert port lane) s = .next (s.detectorOn port lane 5 (18 + lane) 9)) ∧
    exec (.lolClear port lane) s =
      .next ((s.updLane port lane (fun x => { x with unlockRun := 0 })).bput (lanePg port) (laneOff lane) 5 false)

/-- The laser diodes: the power control's setting toward the calibrated output, what the driver reports, a lasting shortfall,
and the switch to the spare diode. -/
def Obligations.OpticsCommandsComplete : Prop :=
  ∀ (s : State) (k w : Nat), k < 16 → w < 4 →
    (∀ d set reached pout out old new, d = (if s.bget (optePg k 1) 0x44 (8 + w) then 2 * w + 1 else 2 * w) →
      s.works (optePg k 1) = true → s.zyn.mcReset = false →
      (∀ t, Tab.get (fun _ => none) (s.spare k).apc d = some t → t + 64 ≤ s.nowTick) →
      out = signed 16 (pout % 2 ^ 16) → old = min 240 (s.fget (optePg k 1) (0x60 + 4 * d) 7 0) →
      new = (if out < Config.laserTarget k d then (if s.bget (optePg k 1) 0x44 w then old else max old (min 240 set))
        else if Config.laserTarget k d < out then min old set else old) →
      exec (.automaticPowerControl k d set reached pout) s = .next (State.driverReports
        (((s.updSpare k (fun x => { x with apc := Tab.set (fun _ => none) x.apc d (some s.nowTick) })).fput
          (optePg k 1) (0x60 + 4 * d) 7 0 new).fput (optePg k 1) (0x80 + 4 * d) 15 0 pout) k w d reached)) ∧
    (∀ d reached got t, got = min reached (s.biasSet k d) → t = s.fput (optePg k 1) (0x60 + 4 * d) 23 16 got →
      t.biasSet k d ≤ got → s.driverReports k w d reached = t.bput (optePg k 1) 0x44 w false) ∧
    (s.bget (optePg k 1) 0x40 (8 + w) = true → s.bget (optePg k 1) 0x44 w = true → s.spareFree k w = true →
      Tab.get (fun _ => 0) (s.spare k).since w + 2 ^ max 8 (min 16 (s.fget (optePg k 1) 0x40 19 16)) ≤ s.nowTick →
      exec (.shortfallLasting k w) s = .next (
        if (s.spare k).active.isSome = true ∨ (s.spare k).waiting.any (fun v => decide (v < w)) = true then s.askSpare k w
        else s.startSpare k w s.nowTick)) ∧
    (∀ t pout far, (s.spare k).active = some (w, t) → t + 256 ≤ s.nowTick →
      far = (signed 16 (pout % 2 ^ 16) - Config.laserTarget k (2 * w + 1)).natAbs →
      ∀ u, u = s.fput (optePg k 1) (0x80 + 4 * (2 * w + 1)) 15 0 pout →
      (far ≤ 100 → exec (.spareSelectorMove k w pout) s = .next (State.endSpare
        ((((((((u.bput (optePg k 1) 0x44 (20 + 2 * w) true).bput (optePg k 1) 0x44 (8 + w) true).bput (optePg k 1) 0x44 w
          false).fput (optePg k 1) (0x60 + 4 * (2 * w)) 23 16 0).retireElement (optePg k 1) (2 * w) 0).logErr (optePg k 0) w 0
          (16 + w) 0 2 acLaser).bump (optePg k 1) 4 1))
        k w t)) ∧
      (100 < far → exec (.spareSelectorMove k w pout) s = .next (State.endSpare
        (((((((u.bput (optePg k 1) 0x44 (20 + (2 * w + 1)) true).bput (optePg k 1) 0x44 (16 + w) true).fput (optePg k 1)
          (0x60 + 4 * (2 * w + 1)) 23 16 0).retireElement (optePg k 1) (2 * w + 1) 0).raise (optePg k 0) 20).logErr (optePg k 0)
          w 0 (16 + w) 0 2 acNone).bump (optePg k 1) 5 1)
        k w t)))

/-! The link layer. -/

/-- The link layer of a port: the exchange, the frames it takes, a sequenced one in parts, the frame boundary and the
timers. -/
def Obligations.LinkCommandsComplete : Prop :=
  ∀ (s : State) (port : Nat) (frame : Bytes),
    (s.carries port = true → (s.link port).exch = false → s.linkState port ≠ lkUp →
      exec (.portUp port) s = .next (s.startExchange port)) ∧
    (∀ buf, s.carries port = true → buf = (s.link port).rxBuf ++ frame →
      (rxPartial buf = true → exec (.dataFrameReceive port frame) s =
        .next ((s.updLink port (fun l => { l with rxBuf := buf })).rxCells port buf)) ∧
      (rxPartial buf = false → exec (.dataFrameReceive port frame) s =
        .next ((s.updLink port (fun l => { l with rxBuf := [], rxPkt := none })).rxSeq port buf (s.link port).rxPkt))) ∧
    (∀ t, t = s.takeHeader port frame → s.frameUp port frame = true → (t.link port).session = true →
      (frType frame = frData → wrapSub 12 (frSeq frame) (t.link port).rxNext = 0 → ∀ id,
        s.rxSeq port frame id = t.acceptData port frame false id) ∧
      (frType frame = frLany → wrapSub 12 (frSeq frame) (t.link port).rxNext = 0 → t.isLany port = true →
        beAt (frBody frame) 0 1 ≠ 2 → Tab.wf linkD t.links = true → ∀ id,
          ((s.rxSeq port frame id).link port).lanyIn = (t.link port).lanyIn ++ [frBody frame] ∧
          ((s.rxSeq port frame id).link port).rxNext = wrapAdd 12 (t.link port).rxNext 1) ∧
      (frType frame = frAck → exec (.ackFrameReceive port frame) s =
        .next (t.updLink port (fun l => { l with peerFreed := readVec (slice (frBody frame) 0x20 32) })))) ∧
    (s.carries port = true → frCheck frame = .good → frType frame = frIdent →
      exec (.identFrameReceive port frame) s = .next (s.rxIdent port frame)) ∧
    (s.carries port = true → (s.link port).exch = true →
      exec (.identResendTimer port) s = .next (s.updLink port (fun l => { l with identDue := true }))) ∧
    (∀ underrun t, s.carries port = true → s.endBegun port underrun = some t →
      exec (.frameBoundary port underrun) s = .next (t.chooseFrame port)) ∧
    (s.carries port = true → s.linkState port = lkUp → (s.link port).replay ≠ [] →
      exec (.replayTimerExpiry port) s = .next ((s.bump (portPg port) 8 1).startReplay port)) ∧
    (s.carries port = true → s.linkState port = lkUp → (s.link port).unreported = true →
      exec (.emptyAckTimer port) s = .next (s.updLink port (fun l => { l with ackDue := true }))) ∧
    (s.carries port = true → s.failMode port ≠ 1 → max 1 (s.fget (portPg port) 0x44 31 24) ≤ (s.link port).errors →
      exec (.errorWindowExceeded port) s = .next (State.linkDown
        (((s.raise (portPg port) 28).testLanes port 28).updLink port (fun l => { l with errors := 0 })) port)) ∧
    (port < 512 → (s.link port).session = true → s.linkState port ≠ lkUp → s.fget (portPg port) 0x48 25 16 = 0 →
      exec (.holdExpiry port) s = .next ((s.endSession port).reExchange port))

/-! Routing and the switch. -/

/-- The switch tiles and the routing table: decisions, the round, the window, copies, telltales and the commit's end. -/
def Obligations.RoutingCommandsComplete : Prop :=
  ∀ (s : State),
    (∀ tile input vc e, (s.tile tile).ins.find? (fun e => decide (e.input = input ∧ e.vc = vc ∧ e.hop = none ∧ e.noCand = 0)) =
      some e → (s.tile tile).reloading = false → exec (.routeDecision tile input vc) s = .next (s.decideIn tile e)) ∧
    exec .crossingRound s = .next s.crossRound ∧
    (∀ tile row victim, tile < 64 → row < 1024 → s.powered (tilePg tile) = true →
      exec (.packetBufferEccError tile row true victim) s = .next ((s.bump (tilePg tile) 12 1).rowError (tilePg tile) 16 row) ∧
      exec (.packetBufferEccError tile row false victim) s = .next
        (((s.discardPacket victim).bump (tilePg tile) 13 1).rowError (tilePg tile) 17 row)) ∧
    (∀ q ofs (v : Word), s.powered routePg = true → pathReaches q (0xE00000 + ofs) = true → ofs % 4 = 0 →
      s.mayWrite routePg q.origin = true → s.bget routePg 0x44 7 = false →
      s.bget routePg 0x44 4 = false → bankMask ofs ≠ 0 → exec (.routeTableWindowWrite q ofs v) s =
        .next (s.setShadow ofs (v &&& BitVec.ofNat 32 (bankMask ofs)))) ∧
    (s.bget routePg 0x44 7 = true → s.bget routePg 0x44 9 = true → exec .copyComplete s = .next
      (State.bput (State.bput { s with route := { s.route with bank0 := s.route.bank1 } } routePg 0x44 7 false) routePg 0x40 2
        false)) ∧
    (s.bget routePg 0x44 7 = true → s.bget routePg 0x44 9 = false → exec .copyComplete s = .next
      (State.bput (State.bput { s with route := { s.route with bank1 := s.route.bank0 } } routePg 0x44 7 false) routePg 0x40 2
        false)) ∧
    (∀ c, s.route.commit = some c → c.deadline ≤ s.nowTick → c.immediate = false →
      (s.bget routePg 0x44 5 = true → exec .commitDeadline s = .next ((s.releaseCommit 3).raise routePg 22)) ∧
      (s.bget routePg 0x44 5 = false →
        exec .commitDeadline s = .next (((s.releaseCommit 2).raise routePg 21).bump routePg 15 1))) ∧
    (∀ port frame t d b, port < 512 → s.frameUp port frame = true → frType frame = frTelltale →
      t = s.takeHeader port frame → b = frBody frame →
      (List.range 4).filter (fun d => decide (coord (fld (beAt b 0 4) 19 0) d ≠ coord (t.rtSelf true) d)) = [d] →
      exec (.telltaleReceive port frame) s = .next (State.bump { t with route := { t.route with
        telltale := Tab.set (fun _ => none) t.route.telltale (32 * d + coord (fld (beAt b 0 4) 19 0) d) (some b) } } routePg 11 1)) ∧
    (∀ tile, tile < 64 →
      exec (.routeReplicaReload tile true) s = .next (s.updTile tile (fun x => { x with reloading := false })) ∧
      (s.powered routePg = true → exec (.routeReplicaReload tile false) s =
        .next ((s.updTile tile (fun x => { x with reloading := true })).rowError routePg 25 (replicaRow tile))))

/-- A write through the route table window reaches the shadow bank alone: the active bank, by which every decision is made,
reads as before. -/
def Obligations.WindowWritesLeaveActiveBank : Prop :=
  ∀ (s t : State) (q : APath) (ofs a : Nat) (v : Word), exec (.routeTableWindowWrite q ofs v) s = .next t →
    Registers.wf s.regs = true → t.bankWord true a = s.bankWord true a

/-! Wiluth. -/

/-- What reaches an XPT unit: each row takes the packets of its kind, settles what they end, and leaves those of other
kinds to their own rows. -/
def Obligations.TransportReceiveCommandsComplete : Prop :=
  ∀ s : State,
    (∀ pkt, s.works (xptPg (s.xptOf pkt) 0) = true →
      (pkType pkt ≠ 4 → pkType pkt ≠ 5 → pkType pkt ≠ 7 → pkGap pkt = false →
        exec (.wiluthDataReceive pkt) s = .next (s.rxWiluth pkt).settle) ∧
      (pkType pkt = 4 → exec (.wiluthAckReceive pkt) s = .next (s.rxWiluth pkt).settle) ∧
      (pkType pkt = 5 → exec (.resetReceive pkt) s = .next (s.rxWiluth pkt).settle) ∧
      (pkType pkt = 7 → exec (.closeReceive pkt) s = .next (s.rxWiluth pkt).settle) ∧
      (pkGap pkt = true → exec (.gapFillReceive pkt) s = .next (s.rxWiluth pkt).settle)) ∧
    (∀ unit p t, s.works (xptPg unit 0) = true → s.intentTurn unit = some p →
      t = s.updXpt unit (fun x => { x with presented := delFirst (fun q => decide (q = p)) x.presented }) →
      (pkOpcode p < 0x20 → exec (.intentReceive unit) s = .next (t.rxIntentPut p)) ∧
      (pkOpcode p = 0x20 → exec (.intentReceive unit) s = .next (t.rxMsend p)) ∧
      (0x20 < pkOpcode p → exec (.intentReceive unit) s = .next (t.rxMdata p))) ∧
    (∀ unit p t, s.works (xptPg unit 0) = true → s.takePresented unit (fun p => decide (pkType p = 3)) = some (p, t) →
      exec (.grantReceive unit) s = .next ((t.rxGrant p).disposePkt p)) ∧
    (∀ unit p t, s.works (xptPg unit 0) = true → s.takePresented unit (fun p => decide (pkType p = 6)) = some (p, t) →
      exec (.noticeReceive unit) s =
        .next ((((t.rxNotice p).disposePkt p).applyAcks (pkLoc p) (pkRem p)).endAnswered (pkLoc p) (pkRem p)))

/-- The timers of a context, and the packet that is served next. -/
def Obligations.TransportTimerCommandsComplete : Prop :=
  ∀ (s : State) (loc rem : Nat),
    (∀ seq p, s.unackedOf loc rem seq = some p → s.works (xptPg (s.unitOf loc rem) 0) = true →
      (p.expired s.nowTick = true → exec (.retransmitTimerExpiry loc rem seq) s = .next (s.resend loc rem p 1).settle) ∧
      (p.first + p.heldTicks + s.giveupTicks (s.unitOf loc rem) ≤ s.nowTick → s.heldBy (pkClass p.pkt) rem = false →
        exec (.giveupExpiry loc rem seq) s = .next (s.timeoutHalf loc rem).settle) ∧
      (s.retryMax (s.unitOf loc rem) ≤ p.copies → p.expired s.nowTick = true → s.heldBy (pkClass p.pkt) rem = false →
        exec (.giveupExpiry loc rem seq) s = .next (s.timeoutHalf loc rem).settle)) ∧
    (∀ h, s.txOf loc rem = some h → s.works (xptPg (s.unitOf loc rem) 0) = true → s.txIdle loc rem = true →
      s.mayFlush loc rem 3 = true → h.idleSince + s.ctxIdle (s.unitOf loc rem) ≤ s.nowTick →
      exec (.contextIdleClose loc rem) s = .next (s.sendClose loc rem)) ∧
    (∀ c g t, s.ctx loc rem = some c → c.tomb = some (g, t) → t ≤ s.nowTick →
      exec (.tombstoneExpiry loc rem) s = .next ((s.updCtx loc rem (fun c => { c with tomb := none })).freeCtx loc rem)) ∧
    (∀ since, (loc, rem, since) ∈ (s.xpt (s.unitOf loc rem)).closed → since + 256 ≤ s.nowTick →
      exec (.reopenDelayEnd loc rem) s = .next ((s.updXpt (s.unitOf loc rem) (fun x =>
        { x with closed := x.closed.filter (fun e => !decide (e.1 = loc ∧ e.2.1 = rem)) })).flush loc rem)) ∧
    (∀ unit data e t, s.works (xptPg unit 0) = true → t = (s.retryOwn unit).countWaits unit ((s.retryOwn unit).headReqs unit) →
      t.nextReq unit = some e →
      (t.noRoute e.loc e.rem = false → exec (.packetAdmit unit data) s = .next (t.buildReq unit e data).settle) ∧
      (t.noRoute e.loc e.rem = true → exec (.packetAdmit unit data) s = .next
        ((t.bump (xptPg unit 0) 8 (b2n ((t.unsent e).isSome || decide (e.cls = 1)))).endDir e.loc e.rem stUnreachable).settle))

/-! Remote memory access. -/

/-- The descriptors of remote memory access, each at the front of its queue and able to start. -/
def Obligations.RmaDescriptorsComplete : Prop :=
  ∀ (s t u : State) (v q : Nat) (d : Desc) (b : Bytes), b = d.bytes → u = t.beginDesc v d →
    (s.headDesc v q 0x00 = some d → exec (.nop v q) s = .next ((s.beginDesc v d).complete v d.num stOk [])) ∧
    (s.headDesc v q 0x01 = some d → dLen b = 0 → exec (.put v q) s = .next ((s.beginDesc v d).complete v d.num stOk [])) ∧
    (s.headDesc v q 0x01 = some d → dLen b ≠ 0 →
      s.canStart v (s.dLoc v) (dRem b) (eagerPkts (dLen b)) (decide (8192 < dLen b)) = .go →
      s.openTx (s.dLoc v) (dRem b) = some t → exec (.put v q) s = .next (u.startData (u.dLoc v) (dRem b) v d.num .put
        (u.rmaHdr v b opPut 0 (dWofs b)) (dLaddr b) d.keys (dLen b) 0)) ∧
    (s.headDesc v q 0x02 = some d → dLen b ≠ 0 →
      s.canStart v (s.dLoc v) (dRem b) (eagerPkts (dLen b)) (decide (8192 < dLen b)) = .go →
      s.openTx (s.dLoc v) (dRem b) = some t → exec (.putSignal v q) s = .next (u.startData (u.dLoc v) (dRem b) v d.num
        .putSignal (u.rmaHdr v b opPut 0 (dWofs b)) (dLaddr b) d.keys (dLen b) 0)) ∧
    (s.headDesc v q 0x02 = some d → dLen b = 0 → s.canStart v (s.dLoc v) (dRem b) 1 false = .go →
      s.openTx (s.dLoc v) (dRem b) = some t → exec (.putSignal v q) s = .next (u.startSignal (u.dLoc v) (dRem b) v d.num
        (u.msgHdr (u.dLoc v) (dRem b) v (dDstVi b) (rmaUlp opSignal (dRflags b) (leAt b 0x2C 4) (leAt b 0x30 6 / 8 * 8)))
        (slice b 0x38 8))) ∧
    (s.headDesc v q 0x03 = some d → dLen b = 0 → exec (.get v q) s = .next ((s.beginDesc v d).complete v d.num stOk [])) ∧
    (∀ m hdr, s.headDesc v q 0x03 = some d → dLen b ≠ 0 → s.canStart v (s.dLoc v) (dRem b) 0 false = .go →
      s.openTx (s.dLoc v) (dRem b) = some t → hdr = u.rmaHdr v b opGetReq (dRflags b) (dWofs b) →
      m = u.newMsg (u.dLoc v) (dRem b) (msgOf v d.num .get (dLen b) hdr (dLaddr b) d.keys (bit (dRflags b) 7)) →
      exec (.get v q) s = .next (m.1.pushReq (getReq v (u.dLoc v) (dRem b) m.2 hdr 0 (dLen b) (bit (dRflags b) 7)))) ∧
    (∀ o m hdr unit, s.headDesc v q 0x04 = some d → bit (dRflags b) 4 = false → dRflags b % 16 ≠ 2 →
      s.canStart v (s.dLoc v) (dRem b) 1 false = .go → s.openTx (s.dLoc v) (dRem b) = some t → unit = 8 →
      hdr = u.rmaHdr v b opAtomic (dRflags b) (dWofs b / unit * unit) →
      m = u.newMsg (u.dLoc v) (dRem b) (msgOf v d.num (if bit (dRflags b) 6 then .fetch else .atomic) (slice b 0x38 8).length
        hdr (dLaddr b) d.keys false) → exec (.atomic v q o) s = .next (m.1.pushReq
          (reqOf v (u.dLoc v) (dRem b) m.2 (msgPkt hdr 1 (flFirst + flLast) m.2 0) none (slice b 0x38 8).length (slice b 0x38 8)
            true))) ∧
    (∀ o m hdr unit w₀ w data, s.headDesc v q 0x04 = some d → bit (dRflags b) 4 = true ∨ dRflags b % 16 = 2 →
      s.canStart v (s.dLoc v) (dRem b) 1 false = .go → s.openTx (s.dLoc v) (dRem b) = some t →
      u.viRead v (leAt b 0x30 8) (operandLen (dRflags b)) (some d.keys) = .ok w₀ →
      w = w₀.hostTxn (xptStop (viPort v / 2)) v 0 false (operandLen (dRflags b)) → data = padTo o (operandLen (dRflags b)) →
      unit = (if bit (dRflags b) 4 then 16 else 8) → hdr = w.rmaHdr v b opAtomic (dRflags b) (dWofs b / unit * unit) →
      m = w.newMsg (w.dLoc v) (dRem b) (msgOf v d.num (if bit (dRflags b) 6 then .fetch else .atomic) data.length
        hdr (dLaddr b) d.keys false) → exec (.atomic v q o) s = .next (m.1.pushReq
          (reqOf v (w.dLoc v) (dRem b) m.2 (msgPkt hdr 1 (flFirst + flLast) m.2 0) none data.length data true))) ∧
    (∀ i t, s.headDesc v q 0x08 = some d → s.winTurn v d = true →
      (s.beginDesc v d).checkRegister v (winOfDesc (s.beginDesc v d) v b winInit) = .ok i →
      t = ((s.beginDesc v d).updWin i (winOfDesc (s.beginDesc v d) v b)).bump (mwuPg (mwuOfVi v) 0) 9 1 →
      exec (.winRegister v q) s = .next (t.complete v d.num stOk (leBytes 4 (t.rkey i)))) ∧
    (s.headDesc v q 0x09 = some d → s.winTurn v d = true → (s.beginDesc v d).checkRevoke v (leAt b 0x20 4) = stOk →
      exec (.winRevoke v q) s = .next ((s.beginDesc v d).revokeWin (leAt b 0x20 4 / 1024) v (some d.num) 0))

/-- What reaches an MWU, an access at its point of execution, and the ends that are not one. -/
def Obligations.MemoryWindowCommandsComplete : Prop :=
  ∀ s : State,
    (∀ unit p t op, s.works (xptPg unit 0) = true →
      s.hands unit (fun p => decide (pkType p = 1 ∧ agKind (pkLoc p) = 0) && op (pkOpcode p)) (mwuStop (mwuOfVi (pkVi p))) p t →
      (op = (fun o => decide (o = opPut ∨ (0x16 ≤ o ∧ o < 0x20))) → exec (.putPacketReceive unit) s = .next (t.rxRma p)) ∧
      (op = (fun o => decide (o = opGetReq)) → exec (.getReqReceive unit) s = .next (t.rxRma p)) ∧
      (op = (fun o => decide (o = opSignal)) → exec (.signalReceive unit) s = .next (t.rxRma p)) ∧
      (op = (fun o => decide (o = opAtomic)) → exec (.atomicReceive unit) s = .next (t.rxRma p))) ∧
    (∀ unit p t op, s.works (xptPg unit 0) = true →
      s.takePresented unit (fun p => decide (pkType p = 1 ∧ agKind (pkLoc p) = 0) && op (pkOpcode p)) = some (p, t) →
      (op = (fun o => decide (o = opGetRsp)) → exec (.getRspReceive unit) s = .next (t.rxGetRsp p)) ∧
      (op = (fun o => decide (o = opAtomicRsp)) → exec (.atomicRspReceive unit) s = .next (t.rxAtomicRsp p))) ∧
    (∀ id data u a b t, s.findAccess id = some (u, a) → s.works (mwuPg u 0) = true → t = s.wakeCleat u a →
      (t.mwu u).accesses.find? (fun a => decide (a.id = id)) = some b → t.accessReady b = true →
      t.slotFree (mwuStop u) (t.accessStop b) 1 = true → t.accessHole b = none →
      exec (.accessDisposed id data) s = .next (t.execAccess u b data)) ∧
    (∀ id u a ps, s.findAccess id = some (u, a) → a.place = .host ps → s.accessReady a = true → s.byAtomicOp a = true →
      exec (.atomicopErrorCompletion id) s = .next (State.abandonAccess (State.raise
        ((s.emit (.atomicOp (viPort a.vi) ((ps.head?.map Piece.bus).getD 0) ((aopOf a.pkt).getD 0) (pkPayload a.pkt))).bump
          (hostPg (viPort a.vi) 0) 12 1) (mwuPg u 0) 18) u a stRights)) ∧
    (∀ w a t k, (s.mwu (mwuOfWin w)).accesses = [a] → a.window = w → a.deadline = some (t, k) → t ≤ s.nowAbs →
      exec (.fenceDeadline w) s = .next ((s.bump (mwuPg (mwuOfWin w) 0) 11 1).abandonAccess (mwuOfWin w) a stGenStale)) ∧
    (∀ w row part p k, p = mwuPg (mwuOfWin w) 0 → s.mem.part = some part → k = part.winStack w → w < 2 ^ 22 → s.works p = true →
      exec (.descriptorEccError w true row) s = .next (s.detect p 16 (hbmElement row) (hbmExt k row) 4) ∧
      (∀ t, t = s.detect p 17 (hbmElement row) (hbmExt k row) 4 → (t.win w).state ≠ wPoisoned →
        (t.updWin w (fun w => { w with state := wPoisoned })).winOwner w = none → exec (.descriptorEccError w false row) s =
          .next (t.updWin w (fun w => { w with state := wPoisoned }))))

/-- The descriptors of two-sided matching. -/
def Obligations.MatchDescriptorsComplete : Prop :=
  ∀ (s u : State) (v q : Nat) (d : Desc) (b : Bytes), b = d.bytes → u = s.beginDesc v d →
    (∀ t w n, s.headDesc v q 0x10 = some d → n = dLen b → w = t.beginDesc v d →
      s.canStart v (s.dLoc v) (dRem b) (if 8192 < n then 0 else if 4096 < n then 2 else 1) (decide (8192 < n)) = .go →
      s.openTx (s.dLoc v) (dRem b) = some t → exec (.msend v q) s = .next (w.startData (w.dLoc v) (dRem b) v d.num .msend
        (w.msgHdr (w.dLoc v) (dRem b) v (dDstVi b) (beBytes 1 0x20 ++ beBytes 2 (s.vi v).domain ++ beBytes 2 (leAt b 0x20 2) ++
          beBytes 3 (leAt b 0x28 3) ++ beBytes 4 (leAt b 0x24 4))) (dLaddr b) d.keys n flOrd)) ∧
    (∀ e, s.headDesc v q 0x11 = some d → s.poisoned v = false → (s.mtch v).search (postedOf s d) = some e →
      exec (.mrecv v q) s = .next ((((u.countWalk v ((s.mtch v).searchCost (postedOf s d)) 0).bump (mtPg v 0) 2 1).bumpVf v 12
        1).deliver v e (postedOf s d) false)) ∧
    (s.headDesc v q 0x11 = some d → s.poisoned v = false → (s.mtch v).search (postedOf s d) = none →
      (s.mtch v).posted.length < (s.vi v).postMax → s.mtchSum (mtchOf v) (fun m => m.posted.length) < mtchEntries →
      exec (.mrecv v q) s = .next (((u.countWalk v ((s.mtch v).searchCost (postedOf s d)) 0).updMtch v (fun m =>
        { m with posted := m.posted ++ [{ postedOf s d with stamp := m.postStamp }],
                 postStamp := wrapAdd 64 m.postStamp 1 })).bump (mtPg v 0) 3 1)) ∧
    (s.headDesc v q 0x12 = some d → exec (.probe v q) s = .next (u.probe v d)) ∧
    (∀ h e, s.headDesc v q 0x13 = some d → u.poisoned v = false → h = leAt b 0x2C 4 →
      (u.mtch v).unexp.find? (fun e => e.claimed && decide (e.index = h / 8192 ∧ e.stamp % 8192 = h % 8192)) = some e →
      exec (.recvClaimed v q) s = .next (u.deliver v e (postedOf u d) true)) ∧
    (∀ r t, s.headDesc v q 0x14 = some d → u.poisoned v = false →
      (u.mtch v).posted.find? (fun r => decide (r.cookie = leAt b 0x30 8)) = some r →
      t = (u.updMtch v (fun m => { m with posted := delFirst (fun x => decide (x.stamp = r.stamp)) m.posted })).complete v
        r.desc stOk (recvExt 0 0 0 0 0 1 0 0) →
      exec (.cancel v q) s = .next ((t.bump (mtPg v 1) 4 1).complete v d.num stOk (leBytes 4 0))) ∧
    (s.headDesc v q 0x14 = some d →
      u.poisoned v = true ∨ (u.mtch v).posted.find? (fun r => decide (r.cookie = leAt b 0x30 8)) = none →
      exec (.cancel v q) s = .next ((u.bump (mtPg v 1) 5 1).complete v d.num stOk (leBytes 4 1))) ∧
    (s.headDesc v q 0x15 = some d → (u.bump (mtPg v 1) 8 1).poisoned v = false → exec (.matchResume v q) s =
      .next (((u.bump (mtPg v 1) 8 1).updMtch v (fun m => { m with stopCause := 0 })).complete v d.num stOk []))

/-- What reaches a matching unit, a bounce copy, and an error in its memory. -/
def Obligations.MatchArrivalCommandsComplete : Prop :=
  ∀ s : State,
    (∀ unit p t op, s.works (xptPg unit 0) = true →
      s.hands unit (fun p => decide ((pkType p = 1 ∨ pkType p = 2) ∧ agKind (pkLoc p) = 0) && op (pkOpcode p))
        (mtchStop (agPort (pkLoc p) / 4)) p t →
      (op = (fun o => decide (o = 0x20)) → exec (.msendArrival unit) s = .next (t.rxMsend p)) ∧
      (op = (fun o => decide (0x21 ≤ o ∧ o < 0x30)) → exec (.mdataArrival unit) s = .next (t.rxMdata p))) ∧
    (∀ v copy x t u n y, (s.mtch v).placing.find? (fun x => decide (x.id = copy)) = some x → x.copySlots ≠ 0 →
      x.copyData ≠ [] → s.poisoned v = false → s.viMayWrite v = true → t = s.countBounce v 0 x.copyData.length false →
      t.place v 0 x x.copyOfs x.copyData = .ok (u, n) →
      y = { x with placed := x.placed + n, copyOfs := x.copyOfs + x.copyData.length, copyData := [] } →
      (x.awaitSecond = true → exec (.bounceCopyDone v copy) s =
        .next ((u.bump (mtPg v 0) 9 (ceilDiv n 64)).updPlacing v x.id (fun _ => y))) ∧
      (x.awaitSecond = false → exec (.bounceCopyDone v copy) s =
        .next ((u.bump (mtPg v 0) 9 (ceilDiv n 64)).endPlaced v y))) ∧
    (∀ v row, v < 4096 → s.works (mtPg v 0) = true →
      exec (.matchEccError v true row) s = .next (s.detect (mtPg v 0) 16 (hbmElement row) (hbmExt (row / 2 ^ 36) row) 4) ∧
      exec (.matchEccError v false row) s =
        .next ((s.detect (mtPg v 0) 17 (hbmElement row) (hbmExt (row / 2 ^ 36) row) 4).stopMatch v 5))

/-! Groups and collective steps. -/

/-- The descriptors and timers of groups. -/
def Obligations.GroupDescriptorsComplete : Prop :=
  ∀ (s u : State) (v q : Nat) (d : Desc), u = s.beginDesc v d →
    (∀ n t₀ t table tree entries, s.svcEngines.isEmpty = false → s.headDesc v q 0x21 = some d → n = leAt d.bytes 0x20 3 →
      1 ≤ n → n ≤ 262144 → (s.svcTask.beginDesc v d).viRead v (dLaddr d.bytes) (4 * n) (some d.keys) = .ok t₀ →
      t = t₀.hostTxn mcStop v 0 false (4 * n) → entries = decodeElems 4 n (padTo table (4 * n)) →
      t₀.tableOk v entries = true → treeOk entries tree = true → rootOk entries tree (leAt d.bytes 0x34 3) = true →
      (∀ i, i < tree.length → (treeSlots entries tree i (fun _ => 0)).length ≤ 64) →
      exec (.groupCreate v q table tree) s = .next (t.create v d.num entries tree).settle) ∧
    (∀ g j, s.headDesc v q 0x22 = some d → u.memberGroup v d = some (g, j) →
      exec (.groupLeave v q) s = .next (((u.collDepart g j 0 stEpochChanged).run g).complete v d.num stOk []).settle) ∧
    (∀ g j, s.headDesc v q 0x23 = some d → u.memberGroup v d = some (g, j) →
      exec (.groupClose v q) s = .next ((u.collClose g ccClose none).complete v d.num stOk []).settle) ∧
    (∀ g j p, s.headDesc v q 0x20 = some d → u.memberGroup v d = some (g, j) → p = stepOfDesc d.bytes →
      ((u.group g).msteps.filter (fun m => decide (m.vi = v))).length < 8 → p.valid (u.group g).n = true →
      exec (.collStep v q) s = .next ((u.updGroup g (fun x => { x with msteps := x.msteps ++
        [{ vi := v, slot := j, queue := d.queue, desc := d.num, k := ((u.group g).slot j).opened, inAddr := dLaddr d.bytes,
           outAddr := leAt d.bytes 0x18 8, read := 0, directDone := 0, waited := false }] })).openBy g j
        ((u.group g).slot j).opened p).settle) ∧
    (∀ g, (s.group g).state = gRepairWait → (s.group g).deadline ≤ s.nowTick →
      exec (.repairTimeout g) s = .next (s.collFail g ccRootLost 21).settle) ∧
    (∀ g, (s.group g).state = gQuarantine → (s.group g).deadline ≤ s.nowTick →
      exec (.quarantineExpiry g) s = .next (s.updGroup g (fun _ => groupInit))) ∧
    (∀ g row, g < 4096 → s.works (coPg g 0) = true →
      exec (.collEccError g true row) s = .next (s.detect (coPg g 0) 16 (hbmElement row) (hbmExt (row / 2 ^ 36) row) 4) ∧
      exec (.collEccError g false row) s =
        .next ((s.detect (coPg g 0) 17 (hbmElement row) (hbmExt (row / 2 ^ 36) row) 4).collClose g ccEcc none).settle)

/-- The control packets of groups as R396 lays them out, each for a group record that is in use under its CTAG and CREATOR:
an engine's service task handles it. -/
def Obligations.GroupControlCommandsComplete : Prop :=
  ∀ (s t w : State) (unit g : Nat) (p : Bytes) (c : Gctl), c = Gctl.parse (pkPayload p) → g = pkGroup p →
    gctlFormed p = true → w = t.svcTask →
    (∀ index, s.collTakes unit (isGctl 1) p t → g = 0xFFF → t.joinStatus c = stOk → t.indexFits c.slots.length index = true →
      exec (.join unit index) s = .next ((((w.joinNode index c).sendGctl (pkRouter p) c.loc
        { c with sub := 2, status := stOk, loc := index, peer := c.loc, slots := [] }).disposePkt p).settle)) ∧
    (∀ index, s.collTakes unit (isGctl 1) p t → g = 0xFFF → t.joinStatus c ≠ stOk →
      exec (.join unit index) s = .next (((w.sendGctl (pkRouter p) c.loc
        { c with sub := 2, status := t.joinStatus c, loc := 0xFFFF, peer := c.loc, slots := [] }).disposePkt p).settle)) ∧
    (∀ e f, s.collTakes unit (isGctl 2) p t → t.gctlKnown g c → w.creations.find? (fun e => decide (e.ctag = c.ctag)) = some e →
      e.answers.all (fun a => decide (a.1 ≠ pkRouter p)) = true → e.tree.any (fun n => decide (n.router = pkRouter p)) = true →
      f = { e with answers := e.answers ++ [(pkRouter p, c.loc, c.status)] } →
      exec (.joined unit) s = .next (((State.endCreation { w with
        creations := updFirst (fun e => decide (e.ctag = f.ctag)) (fun _ => f) w.creations } f).disposePkt p).settle)) ∧
    (∀ root places, s.collTakes unit (isGctl 3) p t → t.gctlKnown g c → (w.group g).state = gJoining →
      exec (.gctlCommit unit root places) s = .next (((w.commitNode g c root places).disposePkt p).settle)) ∧
    (s.collTakes unit (isGctl 4) p t → t.gctlKnown g c →
      exec (.abort unit) s = .next (((w.abortNode g).disposePkt p).settle)) ∧
    (∀ u, s.collTakes unit (isGctl 5) p t → t.gctlKnown g c → c.slots = [] → u = (w.bump (coPg g 1) 2 1).reparent g c →
      exec (.repair unit) s = .next ((((u.sendGctl (pkRouter p) c.loc
        { c with sub := 6, status := stOk, loc := g, peer := c.loc, slots := [] }).run g).disposePkt p).settle)) ∧
    (∀ u, s.collTakes unit (isGctl 5) p t → t.gctlKnown g c → c.slots ≠ [] → u = (w.bump (coPg g 1) 2 1).adopt g c →
      exec (.repair unit) s = .next ((((u.1.sendGctl (pkRouter p) c.loc
        { c with sub := 6, status := u.2, loc := g, peer := c.loc, slots := [] }).run g).disposePkt p).settle)) ∧
    (s.collTakes unit (isGctl 6) p t → t.gctlKnown g c → c.status = stOk →
      exec (.repaired unit) s = .next (((((w.updGroup g (fun x => { x with
        repair := x.repair.map (fun r => (delFirst (fun q => decide (q = pkRouter p)) r.1, r.2)) })).endRepair g).run g).disposePkt p).settle)) ∧
    (s.collTakes unit (fun p => isGctl 7 p ||
        decide (pkOpcode p = 0x38 ∧ (beAt (pkPayload p) 0 1 = 0 ∨ 7 < beAt (pkPayload p) 0 1))) p t → t.gctlKnown g c →
      exec (.gctlClose unit) s = .next (((w.collClose g c.status (some (pkRouter p))).disposePkt p).settle))

/-- The packets of collective steps at a LIVE group: from a child, from the parent, and from the root. -/
def Obligations.CollectiveReceiveCommandsComplete : Prop :=
  ∀ (s t : State) (unit g : Nat) (p b : Bytes), g = pkGroup p → b = pkPayload p → (t.group g).state = gLive →
    (∀ j u q, s.collTakes unit (fun p => decide (pkOpcode p = 0x30)) p t → (t.group g).childOf (pkRouter p) = some j →
      u = t.updSlot g j (fun e => { e with heard := t.nowTick }) →
      q = { kind := beAt b 0 1, op := beAt b 1 1, typ := beAt b 2 1, mode := beAt b 3 1, count := beAt b 4 4, root := beAt b 8 3 } →
      pkLen p = 16 → q.valid (u.group g).n = true → exec (.stepOpenReceive unit) s =
        .next (((u.openBy g j (nearest 16 ((u.group g).slot j).opened (beAt b 12 2)) q).disposePkt p).settle)) ∧
    (∀ j u k, s.collTakes unit (fun p => decide (pkOpcode p = 0x31) || collReserved p) p t →
      (t.group g).childOf (pkRouter p) = some j → u = t.updSlot g j (fun e => { e with heard := t.nowTick }) →
      k = nearest 8 (u.group g).doneNext (pkStep p) → pkOpcode p = 0x31 → (u.group g).doneNext ≤ k →
      (match (u.group g).step k with | some st => !(st.partsOf j (pkSeg p)).isEmpty | none => false) ≠ decide (pkFirstElem p = 0) →
      exec (.upReceive unit) s = .next ((((u.updStep g k (fun e => { e with parts := e.parts ++
        [{ slot := j, seg := pkSeg p, contrib := pkContrib p, first := pkFirstElem p, data := b, whole := pkLastPkt p,
           lastSeg := pkLastSeg p }] })).run g).disposePkt p).settle)) ∧
    (∀ l u k q, s.collTakes unit (fun p => decide (pkOpcode p = 0x32)) p t → (t.group g).parent = some (pkRouter p, l) →
      u = t.updGroup g (fun x => { x with heard := t.nowTick }) → k = nearest 8 (u.group g).doneNext (pkStep p) →
      ((u.group g).step k).bind CStep.par = some q → pkLen p = q.eb * q.elems (u.group g).n (pkSeg p) →
      (u.group g).doneNext ≤ k → exec (.downReceive unit) s = .next ((((u.updStep g k (fun e => { e with results := e.results ++
        [(pkSeg p, pkLastSeg p, b)] })).run g).disposePkt p).settle)) ∧
    (∀ u q k i, s.collTakes unit (fun p => decide (pkOpcode p = 0x33)) p t → pkRouter p = (t.group g).root →
      u = t.bump (coPg g 1) 6 1 → k = nearest 8 (t.group g).doneNext (pkStep p) →
      ((t.group g).step k).bind CStep.par = some q → pkLen p % q.eb = 0 → i = pkSeg p * segElems q.typ + pkFirstElem p →
      exec (.directReceive unit) s = .next ((((u.takeDirect g (pkContrib p % 64) k
        (if q.kind = 4 then i - ((t.group g).slot (pkContrib p % 64)).id * q.count else i) q.eb b).run g).disposePkt p).settle)) ∧
    (∀ l, s.collTakes unit (fun p => decide (pkOpcode p = 0x34)) p t → (t.group g).parent = some (pkRouter p, l) →
      pkLen p = 8 → beAt b 4 1 = 0 → exec (.creditReceive unit) s =
        .next ((((t.updGroup g (fun x => { x with upCum := beAt b 0 4, heard := t.nowTick })).run g).disposePkt p).settle)) ∧
    (∀ j, s.collTakes unit (fun p => decide (pkOpcode p = 0x34)) p t → (t.group g).childOf (pkRouter p) = some j →
      pkLen p = 8 → beAt b 4 1 = 1 → exec (.creditReceive unit) s =
        .next ((((t.updSlot g j (fun e => { e with downCum := beAt b 0 4, heard := t.nowTick })).run g).disposePkt p).settle)) ∧
    (∀ l u k, s.collTakes unit (fun p => decide (pkOpcode p = 0x35)) p t → (t.group g).parent = some (pkRouter p, l) →
      u = t.updGroup g (fun x => { x with heard := t.nowTick }) → k = nearest 16 (u.group g).doneNext (beAt b 10 2) →
      pkLen p = 16 → (u.group g).doneNext ≤ k → beAt b 1 1 % 2 = 0 →
      exec (.doneReceive unit) s =
        .next ((((u.updStep g k (fun e => { e with done := some b })).run g).disposePkt p).settle)) ∧
    (∀ os rs r l, s.collTakes unit (fun p => decide (pkOpcode p = 0x36) && !(s.forRepair p && s.svcEngines.isEmpty)) p t → ((t.group g).childOf (pkRouter p)).isSome = true →
      pkLen p = 8 → beAt b 3 1 ≤ 3 → (t.group g).parent = some (r, l) → exec (.departReceive unit os rs) s =
        .next ((((t.bump (coPg g 1) 0 1).collSend g r l 0x36 0 0 0 0 0 b).disposePkt p).settle)) ∧
    (∀ os rs, s.collTakes unit (fun p => decide (pkOpcode p = 0x36) && !(s.forRepair p && s.svcEngines.isEmpty)) p t →
      ((t.group g).childOf (pkRouter p)).isSome = true → pkLen p = 8 → beAt b 3 1 < 3 → (t.group g).parent = none → exec (.departReceive unit os rs) s =
        .next ((((t.rootDepart g [beAt b 0 3] (beAt b 0 3) [beAt b 0 3]).run g).disposePkt p).settle)) ∧
    (∀ os rs router lost w₁ w₂,
      s.collTakes unit (fun p => decide (pkOpcode p = 0x36) && !(s.forRepair p && s.svcEngines.isEmpty)) p t →
      ((t.group g).childOf (pkRouter p)).isSome = true → pkLen p = 8 → beAt b 3 1 = 3 → (t.group g).parent = none →
      router = beAt b 0 3 % 2 ^ 20 → lost = (List.range (t.group g).places.length).filter (fun r =>
        decide (((t.group g).places.getD r (0, 0)).1 / 4096 = router ∧ r ∉ (t.group g).gone)) →
      w₁ = t.updGroup g (fun x =>
        { x with repair := x.repair.map (fun q => (q.1.filter (fun y => decide (y ≠ router)), q.2)) }) →
      w₂ = w₁.rootDepart g lost 0xFFFFFF (lost ++ os) →
      exec (.departReceive unit os rs) s = .next ((((State.endRepair
        (if (w₂.group g).state = gLive then w₂.svcTask.repair g rs else w₂) g).run g).disposePkt p).settle)) ∧
    (∀ l u, s.collTakes unit (fun p => decide (pkOpcode p = 0x37)) p t → (t.group g).parent = some (pkRouter p, l) →
      u = t.updGroup g (fun x => { x with heard := t.nowTick }) → pkLen p = 8 → exec (.epochReceive unit) s =
        .next ((((u.updGroup g (fun x => { x with epoch := beAt b 0 2, members := beAt b 2 3 })).tellEpoch g
          (beAt b 5 3)).disposePkt p).settle))

/-- A local member's next segment, and the silence of a child or of the parent. -/
def Obligations.CollectiveLocalCommandsComplete : Prop :=
  ∀ (s : State) (g j : Nat), (s.group g).state = gLive →
    (∀ m q data u₀ u t n, (s.group g).readTurn j = some (m, q) → m.read < (((s.group g).step m.k).map CStep.next).getD 0 + 4 →
      ((s.group g).slot j).excused = none → s.shaperAdmits m.vi 2 = true → n = q.eb * q.elems (s.group g).n m.read →
      s.viRead m.vi (m.inAddr + m.read * segElems q.typ * q.eb) n (some (s.get (vfPg m.vi 2) (0x10C + 16 * m.queue))) = .ok u₀ →
      u = u₀.hostTxn (collStop (g % 2)) m.vi 0 false n →
      t = (u.shaperCharge m.vi 2 (1 + ceilDiv n 64)).updGroup g (fun x => { x with
        msteps := updFirst (fun e => decide (e.slot = j ∧ e.k = m.k)) (fun e => { e with read := m.read + 1, waited := false })
          x.msteps }) →
      exec (.localSegmentRead g j data) s = .next (((t.updStep g m.k (fun e => { e with parts := e.parts ++
        [{ slot := j, seg := m.read, contrib := 1, first := 0, data := padTo data n, whole := true,
           lastSeg := decide (m.read + 1 = q.segs (s.group g).n) }] })).run g).settle)) ∧
    (∀ e st, j < 64 → e = (s.group g).slot j → e.kind = 2 → st ∈ (s.group g).steps → st.isOpen = true → st.done = none →
      e.takes st.k = true → max e.heard st.started + s.hbTicks g ≤ s.nowTick →
      exec (.collHeartbeat g j) s = .next ((((s.updSlot g j (fun e => { e with heard := s.nowTick })).bump (coPg g 0) 10
        1).sendCredit g e.id e.ref e.upDone 0).settle)) ∧
    (∀ r l st, 64 ≤ j → (s.group g).parent = some (r, l) → st ∈ (s.group g).steps → st.isOpen = true → st.done = none →
      max (s.group g).heard st.started + s.hbTicks g ≤ s.nowTick →
      exec (.collHeartbeat g j) s = .next ((((s.updGroup g (fun x => { x with heard := s.nowTick })).bump (coPg g 0) 10
        1).sendCredit g r l (s.group g).downDone 1).settle))

/-! Host ports, VIs and queues. -/

/-- What the host and the link do to a port and to its functions. -/
def Obligations.HostPortCommandsComplete : Prop :=
  ∀ (s : State) (port : Nat), s.portWorks port = true →
    (∀ t, t = ((s.portReset port).portDown port).dropHolder port → exec (.perst port) s = .next (State.cleatAbandonOrigin
      (State.bput { t with
        hostCfg := Tab.set (fun h => regDefault ((hostPg h 0).addr + 0x40)) t.hostCfg port (t.reg ((hostPg port 0).addr + 0x40)),
        mem := { t.mem with poisoned := t.mem.poisoned.filter (fun h => decide (h ≠ port)) } } (hostPg port 1) 0x48 31 false)
      (0x10 + port))) ∧
    exec (.pfFlr port) s = .next (((s.portReset port).put (hostPg port 0) 0x48 0x40).cleatAbandonOrigin (0x10 + port)) ∧
    exec (.vfEnableClear port) s = .next ((s.portReset port).bput (hostPg port 0) 0x48 15 false) ∧
    (s.bget (hostPg port 0) 0x44 31 = true → exec (.hostLinkDown port) s = .next ((s.portReset port).portDown port)) ∧
    (∀ (cfg : HostCfg) c cxl width rate stat feat, s.active (hostPg port 0) = true → c = s.hostCfgOf port →
      cxl = (cfg.cxl && bit c 19) → width = [16, 8, 4, 16].getD (fld c 21 20) 16 →
      rate = min (max 1 cfg.rate) (min (max 1 (min 7 (fld c 27 24))) (if cxl then 6 else 7)) →
      stat = 2 ^ 31 + b2n cxl * 2 ^ 30 + min cfg.lanes width * 2 ^ 16 + rate * 2 ^ 8 →
      feat = min cfg.numVfs (min 256 (fld c 8 0)) * 2 ^ 16 + b2n cfg.vfEnable * 2 ^ 15 + b2n cfg.ari * 2 ^ 14 +
        b2n cfg.tag10 * 2 ^ 13 + b2n cfg.atomicReq * 2 ^ 12 + b2n cfg.pfBme * 2 ^ 11 + cfg.mps % 8 * 2 ^ 8 +
        cfg.mrrs % 8 * 2 ^ 5 →
      (s.bget (hostPg port 0) 0x44 31 = false → exec (.hostLinkUp port cfg) s = .next (State.pfEvent
        { (s.put (hostPg port 0) 0x44 stat).put (hostPg port 0) 0x48 feat with
          hostAts := Tab.set (fun _ => false) s.hostAts port cfg.ats } port 5)) ∧
      (s.bget (hostPg port 0) 0x44 31 = true → exec (.hostLinkUp port cfg) s = .next
        { s.put (hostPg port 0) 0x48 feat with hostAts := Tab.set (fun _ => false) s.hostAts port cfg.ats })) ∧
    exec (.completionTimeout port) s = .next (((s.raise (hostPg port 0) 19).bump (hostPg port 0) 3 1).pfEvent port 0) ∧
    (∀ fn base len, exec (.atsInvalidate port fn base len) s = .next (State.bump { s with mem := { s.mem with
      atc := s.mem.atc.filter (fun e => !decide (e.1 = port ∧ e.2.1 = fn ∧ base < (e.2.2 + 1) * 4096 ∧
        e.2.2 * 4096 < base + len)) } } (hostPg port 0) 11 1))

/-- What happens to a VI: its function's reset, bus mastering lost, ENABLING and STOPPING that end. -/
def Obligations.ViCommandsComplete : Prop :=
  ∀ (s : State) (v : Nat), v < 4096 →
    (s.portWorks (viPort v) = true → s.viState v ≠ viNone →
      exec (.vfFlr v) s = .next ((s.updVi v (fun x => { x with ats := false })).vfStop v) ∧
      exec (.vfBusMasterClear v) s = .next (s.vfStop v)) ∧
    (∀ t, s.works (hostPg (viPort v) 0) = true → s.viState v = viEnabling → s.bget (hostPg (viPort v) 0) 0x44 31 = true →
      s.bget (hostPg (viPort v) 0) 0x48 15 = true → viFn v ≤ s.fget (hostPg (viPort v) 0) 0x48 24 16 →
      t = s.updVi v (fun x => { x with bme := true, ats := Tab.get (fun _ => false) s.hostAts (viPort v) }) →
      (t.viEn v = true → exec (.enablingEnd v) s = .next (t.setViState v viOn)) ∧
      (t.viEn v = false → exec (.enablingEnd v) s = .next (t.stopVi v 1))) ∧
    (s.works (hostPg (viPort v) 0) = true → s.viState v = viStopping → exec (.viStopEnd v) s = .next (s.endStop v))

/-- The doorbells of an ON VI, the fetch of a descriptor and the write of a completion. -/
def Obligations.QueueCommandsComplete : Prop :=
  ∀ (s t : State) (v q : Nat), t = s.bump (hostPg (viPort v) 0) 4 1 →
    (∀ (w : Word) c, v < 4096 → q < 64 → s.works (hostPg (viPort v) 0) = true → t.viState v = viOn → t.fatal = false →
      bit (t.cmdCtl v q) 31 = true → c = t.cmq v q → wrapSub 32 w.toNat c.tail < 2 ^ 31 →
      wrapSub 32 w.toNat c.head ≤ 2 ^ qSize (t.cmdCtl v q) →
      exec (.dbTail v q w) s = .next (t.updCmq v q (fun c => { c with tail := w.toNat }))) ∧
    (∀ (w : Word) c, v < 4096 → q < 64 → s.works (hostPg (viPort v) 0) = true → t.viState v = viOn → t.fatal = false →
      bit (t.cmdCtl v q) 31 = true → c = t.cmq v q → c.error = 0 →
      2 ^ 31 ≤ wrapSub 32 w.toNat c.tail ∨ 2 ^ qSize (t.cmdCtl v q) < wrapSub 32 w.toNat c.head →
      exec (.dbTail v q w) s = .next (t.cmdError v q 1)) ∧
    (∀ (w : Word) c, v < 4096 → q < 64 → s.works (hostPg (viPort v) 0) = true → t.viState v = viOn → t.fatal = false →
      bit (t.cplCtl v q) 31 = true → c = t.cq v q → wrapSub 32 w.toNat c.head ≤ wrapSub 32 c.tail c.head →
      exec (.dbHead v q w) s = .next (t.updCq v q (fun c => { c with head := w.toNat }))) ∧
    (∀ (w : Word), v < 4096 → q < 64 → s.works (hostPg (viPort v) 0) = true → t.viState v = viOn → t.fatal = false →
      bit (t.cplCtl v q) 31 = true → bit w.toNat 0 = true →
      (bit (t.cplCtl v q) 15 = true → (t.cq v q).head ≠ (t.cq v q).tail → exec (.dbArm v q w) s = .next (State.emit
        (t.updCq v q (fun c => { c with armed := false })) (.msix (viPort v) (viFn v) (fld (t.cplCtl v q) 5 0)))) ∧
      (bit (t.cplCtl v q) 15 = false ∨ (t.cq v q).head = (t.cq v q).tail →
        exec (.dbArm v q w) s = .next (t.updCq v q (fun c => { c with armed := true })))) ∧
    (∀ port data left, s.portWorks port = true → s.fatal = false →
      argMin (fun v => wrapSub 8 (v % 256) (Tab.get (fun _ => 0) s.hostRr port + 1))
        ((s.vis.map Prod.fst).filter (fun v => decide (viPort v = port) && s.viFetches v)) = some v →
      s.wrrNext v = some (q, left) → exec (.descriptorFetch port data) s = .next (State.fetchFrom
        { s with hostRr := Tab.set (fun _ => 0) s.hostRr port (v % 256) } v q left data)) ∧
    (∀ w u, (s.vi v).waiting.find? (fun w => !s.cqLive v w.1 || !s.cqFull v w.1) = some w →
      s.works (hostPg (viPort v) 0) = true → s.viMayWrite v = true →
      u = s.updVi v (fun x => { x with waiting := delFirst (fun y => decide (y = w)) x.waiting }) → u.cqLive v w.1 = true →
      exec (.completionWrite v) s = .next (u.putCompletion v w.1 w.2))

/-! Fabric memory. -/

/-- An accelerator's request within its window, and the answers to back-invalidates. -/
def Obligations.FabricMemoryCommandsComplete : Prop :=
  ∀ (s : State) (port line : Nat),
    (∀ kind dpa data off, s.works (hostPg port 0) = true → s.bget (hostPg port 0) 0x44 30 = true →
      dpa < s.fget (hostPg port 1) 0x44 17 0 * 2 ^ 28 → port ∉ s.mem.poisoned →
      off = s.fget (hostPg port 1) 0x40 17 0 * 2 ^ 28 + dpa / 64 * 64 → off + 64 ≤ s.poolSize →
      exec (.cxlMemRequest port kind dpa data) s = .next (s.cxlReach port kind (off / 64) data)) ∧
    (∀ kind dpa data, s.works (hostPg port 0) = true → s.bget (hostPg port 0) 0x44 30 = true →
      s.fget (hostPg port 1) 0x44 17 0 * 2 ^ 28 ≤ dpa →
      exec (.cxlMemRequest port kind dpa data) s = .next (s.raise (hostPg port 1) 17)) ∧
    (∀ x, s.snoopOf line = some x → port ∈ x.owed → x.unsent.all (fun e => decide (e.1 ≠ port)) = true →
      (∀ u, u = (s.nocSend .snoopRsp (hostStop port) (hbmcStop (s.lineStack line)) 0 0).nocRun nocFuel none →
        exec (.birsp line port []) s = .next (u.snoopPaid line port)) ∧
      (∀ data u, data ≠ [] → u = (s.nocSend .snoopData (hostStop port) (hbmcStop (s.lineStack line)) 0 0).nocRun nocFuel none →
        exec (.birsp line port data) s = .next (((u.poolPut (64 * line) (padTo data 64)).bump
          (hbmcPg (u.lineStack line) 0) 1 1).snoopPaid line port)) ∧
      (∀ k t u, k = s.lineStack line → x.start + 2 ^ max 4 (s.fget (hbmcPg k 0) 0x40 4 0) ≤ s.nowTick →
        t = s.setHolders line ((s.holders line).1.filter (fun h => decide (h ≠ port)),
          (s.holders line).2 && decide ((s.holders line).1 ≠ [port])) →
        u = (((t.raise (hbmcPg k 0) 18).bump (hbmcPg k 0) 6 1).bput (hostPg port 1) 0x48 31 true).raise (hostPg port 1) 16 →
        exec (.birspTimeout line port) s =
          .next (State.snoopPaid { u with mem := { u.mem with poisoned := u.mem.poisoned ++ [port] } } line port)))

/-- A byte of the pool reads as it was last written: a line written back is read at every place of it, and every other
byte of the pool is as it was. -/
def Obligations.PoolReadsWhatWasWritten : Prop :=
  ∀ (s : State) (off : Nat) (b : Bytes), Memory.wf s.mem = true →
    (s.poolPut off b).poolGet off b.length = b ∧
    (∀ o n, (o + n ≤ off ∨ off + b.length ≤ o) → (s.poolPut off b).poolGet o n = s.poolGet o n) ∧
    Memory.wf (s.poolPut off b).mem = true

/-! Firmware. -/

/-- Staging and activation of firmware, and the reload of clusters. -/
def Obligations.FirmwareCommandsComplete : Prop :=
  ∀ (s : State) (kind c : Nat) (a : FwAct),
    (s.fwActOf kind = some a → a.checked = false → s.pwr.aux = true → s.zyn.mcReset = false →
      (s.activationCheck kind a ≠ 0 → exec (.fwImageCheckEnd kind) s =
        .next ((s.setFwAct kind none).zFinish a.path a.frame stAuthFail 0xFFFF (s.activationCheck kind a))) ∧
      (s.activationCheck kind a = 0 → kind = 2 → exec (.fwImageCheckEnd kind) s = .next
        (((((s.setFwAct 2 none).fput (pstoPg 1) 0x60 1 1 a.bank).chg (pstoPg 1)).zRecord a.path a.frame stOk
          0xFFFF).zAnswerAt a.tick a.path a.frame stOk 0xFFFF 0)) ∧
      (s.activationCheck kind a = 0 → kind ≠ 2 → exec (.fwImageCheckEnd kind) s = .next
        (((s.setFwAct kind (some { a with checked := true })).zRecord a.path a.frame stOk 0xFFFF).zAnswerAt a.tick a.path
          a.frame stOk 0xFFFF 0))) ∧
    (s.fwActOf 1 = some a → s.fatal = false → a.begun = true → c ∈ a.todo → s.reloadOf c = none →
      (s.svcState (cluPg c) ≠ svcActive → exec (.clusterReload c) s = .next (State.reloadDone { s with fw := { s.fw with
        pendBank := Tab.set (fun _ => none) s.fw.pendBank c (some a.bank) } } c)) ∧
      (s.svcState (cluPg c) = svcActive → s.svcState (cluPg (Nat.xor c 1)) = svcActive →
        (c % 2 = 1 → a.todo.all (fun d => decide (d % 2 ≠ 0)) = true) → exec (.clusterReload c) s =
          .next ((s.bput (cluPg c) 0x40 1 true).setReload c (some (s.nowTick, a.bank, false))))) ∧
    (∀ failed start bank told tested bad, s.reloadOf c = some (start, bank, told) → s.fatal = false →
      tested = ((List.range 8).map (fun n => 8 * c + n)).filter (fun e => s.works (engPg e)) →
      bad = tested.filter (fun e => decide (e ∈ failed)) →
      (bad.length ≠ tested.length → exec (.clusterReloadComplete c failed) s = .next
        ((((tested.foldl (fun s e => s.reloadVerdict bad e) (s.setReload c none)).clusterRuns c bank).bump (cluPg c) 7
          1).reloadDone c)) ∧
      (∀ u, bad.length = tested.length → u = ((((tested.foldl (fun s e => (s.putVerdict (engPg e) 3 2 1).cleatAbandonOrigin
        (0x100 + e)) (s.setReload c none)).bput (cluPg c) 0x40 1 false).bput (cluPg c) 0x40 2 true).bump (cluPg c) 8 1) →
        exec (.clusterReloadComplete c failed) s =
          .next ((State.raise { u with fw := { u.fw with raiseBank := none } } (cluPg c) 18).reloadDone c))) ∧
    (∀ start bank, s.reloadOf c = some (start, bank, false) → start + 1024 ≤ s.nowTick → exec (.reloadTimeout c) s =
      .next ((s.setReload c (some (start, bank, true))).raise (cluPg c) 19)) ∧
    (∀ image len b i, s.pwr.aux = true → s.bget (pstoPg 1) 0x5C 31 = true → len = min (s.fget (pstoPg 1) 0x50 20 0) (2 ^ 20) →
      b = (if s.bget (pstoPg 1) 0x40 12 then image.take len else s.stageBytes len) →
      i = fwIdx (s.fget (pstoPg 1) 0x40 5 4) (s.fget (pstoPg 1) 0x40 0 0) → ∃ t, exec (.stagingEnd image) s = .next t ∧
        t.psto = { s.psto with fwBank := Tab.set (fun _ => ([] : Bytes)) s.psto.fwBank i b,
                               fwBroken := Tab.set (fun _ => false) s.psto.fwBroken i false })

/-! Triggers and chains, cleats, the dump. -/

/-- Trigger counters, chains and the engines that serve them. -/
def Obligations.TriggerCommandsComplete : Prop :=
  ∀ (s u : State) (v q slot : Nat) (d : Desc), u = s.beginDesc v d →
    (s.headDesc v q 0x32 = some d → exec (.ctrSet v q) s =
      .next (((u.pushTrig v (dCtr d.bytes) true (dValue d.bytes)).stage1 v).complete v d.num stOk [])) ∧
    (s.headDesc v q 0x33 = some d → exec (.ctrAdd v q) s =
      .next (((u.pushTrig v (dCtr d.bytes) false (dValue d.bytes)).stage1 v).complete v d.num stOk [])) ∧
    (∀ t, s.headDesc v q 0x34 = some d → (u.stage1 v).viWrite v (dLaddr d.bytes) (some d.keys)
        (leBytes 8 ((u.stage1 v).trigCtr v (dCtr d.bytes))) = .ok t →
      exec (.ctrRead v q) s = .next ((t.hostTxn (cluStop (viPort v)) v 0 true 8).complete v d.num stOk [])) ∧
    (∀ list t, s.headDesc v q 0x30 = some d → (u.stage1 v).arm v d list = (stOk, t) →
      exec (.chainArm v q list) s = .next (t.complete v d.num stOk [])) ∧
    (s.headDesc v q 0x31 = some d → ((u.stage1 v).chain v (dSlot d.bytes)).state ≠ 2 → dLaddr d.bytes = 0 →
      exec (.chainDisarm v q) s = .next
        ((((u.stage1 v).disarm v (dSlot d.bytes)).bump (cluPg (viPort v)) 3 1).complete v d.num stOk [])) ∧
    (∀ c b e t w, v < 4096 → s.viState v = viOn → s.fatal = false → c = s.chain v slot → c.state = 2 →
      s.servesChains e (viPort v) = true →
      (s.vi v).descs.all (fun d => decide (d.firing ≠ some c.firing) || (!c.orderAll && d.begun)) = true →
      c.entries[c.next]? = some b → t = State.bump (s.updChain v slot (fun c => { c with next := c.next + 1 })) (cluPg (viPort v)) 6
        (b2n (decide (c.next = 0 ∧ e / 8 ≠ viPort v))) →
      bit (t.cplCtl v (dCplq b)) 31 = true → descOk b = true → w = t.bump (engPg e) 2 1 →
      exec (.chainEntryBegin v slot e) s = .next (State.updVi { w with nextId := w.nextId + 1 } v (fun x =>
        { x with
          nextDesc := x.nextDesc + 1
          descs := x.descs ++ [
            { num := x.nextDesc, queue := c.queue, bytes := b, keys := t.get (vfPg v 2) (0x10C + 16 * c.queue),
              begun := false, firing := some c.firing, held := false, stamp := w.nextId }] }))) ∧
    (∀ f t, (s.vi v).firings.find? (fun f => decide (f.slot = slot ∧ f.left = 0)) = some f →
      t = s.updVi v (fun x => { x with firings := x.firings.filter (fun g => decide (g.id ≠ f.id)) }) →
      (f.ok = false ∨ f.doneCtr = none → exec (.chainFiringComplete v slot) s = .next t) ∧
      (∀ c, f.ok = true → f.doneCtr = some c → exec (.chainFiringComplete v slot) s = .next (t.pushTrig v c false 1))) ∧
    (∀ c x r, s.powered (cluPg c) = true → Tab.get (fun _ => ([] : List TrigChange)) s.trig c = x :: r →
      exec (.triggerCounterChange c) s = .next (State.applyTrig
        { s with trig := Tab.set (fun _ => ([] : List TrigChange)) s.trig c r } x)) ∧
    (∀ e, e < 128 → s.works (engPg e) = true → exec (.engineWatchdog e) s = .next (s.watchdogStop e) ∧
      (s.sharesRun e = [] → exec (.engineWatchdog e) s = .next
        ((((s.fput (engPg e) 0x44 11 8 5).bump (engPg e) 4 1).detect (engPg e) 18 0 0 3).cleatAbandonOrigin (0x100 + e))))

/-- The words of cleats, a stalled read's end, and the ends of a dump. -/
def Obligations.CleatAndDumpCommandsComplete : Prop :=
  ∀ (s : State) (p : APath) (o a k : Nat), o = p.origin →
    (pathReaches p a = true → s.cleatWord o a = .cleat k →
      (∀ t v, s.slotFree (pathStop p) cleatStop 0 = true → s.cleatReadBy k (.origin o) a none = (t, some v) →
        exec (.cleatRead p a) s = .next
          ((t.nocTxn (pathStop p) cleatStop 0 false 4).emit (.value o a (BitVec.ofNat 32 v)))) ∧
      (∀ t, s.slotFree (pathStop p) cleatStop 0 = true → s.cleatReadBy k (.origin o) a none = (t, none) →
        exec (.cleatRead p a) s = .next (t.nocHand (pathStop p) cleatStop 0 false 4 (stallHold s.nextId)).2) ∧
      (s.slotFree (pathStop p) cleatStop 0 = false →
        exec (.cleatRead p a) s = .next (s.nocWait (pathStop p) cleatStop 0)) ∧
      (∀ w : Word, exec (.cleatWrite p a w) s = .next
        ((s.nocTxn (pathStop p) cleatStop 0 true 4).cleatWriteBy k (.origin o) w.toNat))) ∧
    (a % 4 ≠ 0 → exec (.cleatRead p a) s = .next (s.badRead p a) ∧
      ∀ w : Word, exec (.cleatWrite p a w) s = .next (s.badAccess p a)) ∧
    (∀ id x, s.stalls.find? (fun x => decide (x.id = id)) = some x → x.start + x.limit ≤ s.nowAbs →
      exec (.cleatStallEnd id) s = .next (s.endStall x cvTimeout)) ∧
    (∀ d holes, s.relia.dump = some d → d.done = false → exec (.dumpComplete holes) s = .next (s.dumpDone d true holes)) ∧
    (∀ d, s.relia.dump = some d → d.done = false → d.start + s.dumpLimit ≤ s.nowTick →
      exec .dumpLimitExpiry s = .next (s.free.2.dumpDone d false (decide (s.free.1 % 2 = 1)))) ∧
    (∀ d h gap, s.relia.dump = some d → d.done = true → h = s.fget (glbPg 5) 0x4C 23 20 →
      (s.bget (hostPg h 0) 0x44 31 = false → exec (.dumpHostCopyEnd gap) s =
        .next { s with relia := { s.relia with dump := none } }) ∧
      (s.bget (hostPg h 0) 0x44 31 = true → ∃ t outs, exec (.dumpHostCopyEnd gap) s = .next t ∧ t.relia.dump = none ∧
        t.out = s.out ++ outs ∧ (d.live = false → Registers.wf s.regs = true → t.bget (glbPg 5) 0x40 29 = true) ∧
        ∀ x ∈ outs, ∃ at' b, x = Out.hostWrite h (s.get64 (glbPg 5) 0x50 + at') 0 b ∧
          at' + b.length ≤ s.fget (glbPg 5) 0x58 15 0 * 2 ^ 20))

/-! The Lanyard pair. -/

/-- What comes over the Lanyard from the twin, the loss of the twin, and the takeover's adoption. -/
def Obligations.LanyardCommandsComplete : Prop :=
  ∀ (s : State) (port : Nat),
    (∀ f t, s.takeLany port 1 = some (f, t) → t.fromTwin f = true → t.lany.frozen = false →
      exec (.journalFrameReceive port) s = .next (t.takeJournal f)) ∧
    (∀ f t, s.takeLany port 4 = some (f, t) → t.fromTwin f = true → exec (.syncDoneReceive port) s =
      .next (State.trySync { t with lany := { t.lany with syncDone := true } })) ∧
    (∀ f t, s.takeLany port 3 = some (f, t) → t.fromTwin f = true → (t.raise (lanyPg 0) 19).fatal = false →
      (t.raise (lanyPg 0) 19).lanyState ≠ laTaken →
      exec (.takeoverReceive port) s = .next ((t.raise (lanyPg 0) 19).enterFatal 9)) ∧
    (s.lanyState = laSyncing ∨ s.lanyState = laPaired → s.lany.lostSince + s.lostTicks ≤ s.nowTick →
      exec .twinLost s = .next (((s.fput (lanyPg 0) 0x44 2 0 laLost).raise (lanyPg 0) 16).event 1 (.pair laLost))) ∧
    (∀ c, c < 16 → s.lanyState = laSyncing ∨ s.lanyState = laPaired → s.bget (lanyPg 1) (0x40 + 4 * c) 31 = false →
      Tab.get (fun _ => 0) s.lany.committed c + s.lostTicks ≤ s.nowTick → exec (.shareUncovered c) s = .next
        ((((s.bput (lanyPg 1) (0x40 + 4 * c) 31 true).bput (lanyPg 0) 0x44 3 true).raise (lanyPg 0) 17).event 1 (.pair 5))) ∧
    (∀ c ps m t, c < 16 → s.lanyState = laTaken → s.fatal = false → m = Tab.get (fun _ => ([] : List Bytes)) s.lany.mirror c →
      m ≠ [] → s.lany.mirror.all (fun e => decide (c ≤ e.1) || e.2.isEmpty) = true → s.lany.lostSince < s.nowTick →
      ps.length = (s.mirrorCtxs c).foldl (fun n r => n + ((ofCtx r 2 m).filter needsPayload).length) 0 →
      t = s.adoptAll c m (s.mirrorCtxs c) ps → exec (.contextAdoption c ps) s =
        .next { t with lany := { t.lany with mirror := Tab.set (fun _ => ([] : List Bytes)) t.lany.mirror c [] } })

/-! Service and errors. -/

/-- The management controller's resets and the ends of a drain; detected errors, each with what it counts, the bit it raises
and the test it starts. -/
def Obligations.ServiceAndErrorCommandsComplete : Prop :=
  ∀ s : State,
    (s.pwr.aux = true → s.zyn.mcResetDue = true → exec .mcReset s = .next s.mcResetNow) ∧
    (s.pwr.aux = true → s.zyn.mcReset = false → exec .mcWatchdog s = .next s.mcResetNow) ∧
    (s.pwr.aux = true → s.zyn.mcReset = true →
      exec .mcResetComplete s = .next (State.mcBoot { s with zyn := { s.zyn with mcReset := false } })) ∧
    (∀ page p, pageOfCode page = some p → s.powered p = true →
      exec (.serviceDrainComplete page) s = .next (s.drainComplete p.zero)) ∧
    (s.pwr.main = true → s.svcState (glbPg 0) = svcDraining → (instPages .tile ++ instPages .xpt).all s.drained = true →
      exec .glbDrainEnd s = .next ((s.fenceAll.powerOff false).record3 (glbPg 0) 0xC (s.get (glbPg 0) 0xC)
        ((s.fenceAll.powerOff false).get (glbPg 0) 0xC))) ∧
    (∀ page q p, pageOfCode page = some q → p = q.zero → s.powered p = true → s.overdue p = true →
      Tab.get (fun _ => false) s.svc.drainTold (pageCode p) = false → exec (.drainLimit page) s = .next (State.event
        (State.raise { s with svc := { s.svc with drainTold := Tab.set (fun _ => false) s.svc.drainTold (pageCode p) true } }
          (glbPg 0) 16) 1 (.drainLimit (pageCode p)))) ∧
    (∀ page p, pageOfCode page = some p → s.powered p = true →
      exec (.cfgParityError page) s = .next (s.detect p 5 0 0 1)) ∧
    (∀ e c, e < 128 → s.works (engPg e) = true → exec (.engineMemoryEccError e c) s =
      .next ((s.bump (engPg e) (if c then 5 else 6) 1).engineCheck e (if c then 16 else 17))) ∧
    (∀ t e, t < 64 → s.works (tilePg t) = true →
      exec (.busLaneParityError t e) s = .next (s.detect (tilePg t) 18 e 0 2)) ∧
    (∀ k e, k < 64 → s.works (nocPg k) = true →
      exec (.ringHopParityError k e) s = .next (s.detect (nocPg k) 16 e 0 2)) ∧
    (∀ k row c, k < 6 → s.works (hbmcPg k 0) = true → exec (.hbmEccError k row c) s =
      .next ((s.bump (hbmcPg k 0) (if c then 7 else 8) 1).detect (hbmcPg k 0) (if c then 16 else 17) (hbmElement row)
        (hbmExt k row) 4)) ∧
    (∀ row, s.powered routePg = true →
      exec (.routingUnitEccError row true) s = .next (s.rowError routePg 24 row) ∧
      ((s.rowError routePg 25 row).fatal = false →
        exec (.routingUnitEccError row false) s = .next ((s.rowError routePg 25 row).enterFatal 5))) ∧
    (∀ row c, s.pwr.main = true → exec (.contextCacheEccError row c) s = .next (s.rowStart (glbPg 6) 0 row)) ∧
    (∀ port row seq, port < 512 → row < 32 → s.works (portPg port) = true →
      exec (.replayBufferEccError port row true seq) s = .next ((s.bump (tilePg (port / 8)) 12 1).rowError (tilePg (port / 8)) 16
        (1024 + 32 * (port % 8) + row)) ∧
      exec (.replayBufferEccError port row false seq) s = .next (State.rowError (State.bump (s.updLink port (fun l =>
        { l with replay := updFirst (fun f => decide (f.seq = seq)) (fun f => { f with stomp := true }) l.replay }))
          (tilePg (port / 8)) 13 1) (tilePg (port / 8)) 17 (1024 + 32 * (port % 8) + row))) ∧
    (∀ port kind, port < 16 → s.works (hostPg port 0) = true → kind ∈ [16, 17, 18, 20, 22] →
      exec (.pcieErrorDetected port kind) s = .next ((s.raise (hostPg port 0) kind).pfEvent port 0))

/-! Rules of the whole register map. -/

/-- R7 and R82: an aligned access where no field map defines a register reads 0 and writes nothing; it changes nothing, is
not journalled and raises no error, by whichever path it comes; a core cycle with such a write is as one without it. A narrow or unaligned access there sets ACCESS under R8, and
a read of that kind returns 0. -/
def Obligations.UndefinedOffsetsReadZero : Prop :=
  ∀ (s : State) (x : APath) (o a : Nat) (w : RegWrite), o = x.origin → a % 4 = 0 → w.addr = a → w.path = x →
    (s.zNow = none → exec (.registerWrite []) s = .next s) ∧
    (∀ p off, locate a = some (p, off) → regRow p off = none →
      exec (.readClear x a) s = .next (s.emit (.value o a 0)) ∧
      exec (.registerWrite [w]) s = exec (.registerWrite []) s ∧
      (s.pageOn p = true → ∀ b, b < 4 → pathReaches x (a + b) = true → accessPage (a + b) = some p →
        exec (.narrowAccess ⟨x, false⟩ (a + b)) s = .next ((s.raise p 0).emit (.value o (a + b) 0)) ∧
        exec (.narrowAccess ⟨x, true⟩ (a + b)) s = .next (s.raise p 0) ∧
        (0 < b → exec (.readClear x (a + b)) s = .next ((s.raise p 0).emit (.value o (a + b) 0)) ∧
          (s.zNow = none → exec (.registerWrite [{ w with addr := a + b }]) s = .next (s.raise p 0))))) ∧
    (locate a = none → a < 0xE00000 ∨ (0xF00000 ≤ a ∧ a < vfBase) →
      exec (.readClear x a) s = .next (s.emit (.value o a 0)) ∧ exec (.registerWrite [w]) s = exec (.registerWrite []) s)

/-- R94: every origin may read every page but the HOST pages of other instances and the VI pages of other host ports for a
physical function, and JRNL page 1 for all but the two managers; an exempted read returns 0 and does nothing, and any other
returns the register as the origin sees it. -/
def Obligations.BarredReadsReturnZero : Prop :=
  ∀ (s : State) (p : PageRef) (x : APath) (o : Nat), o = x.origin →
    (s.readBarred p o = true ↔ (∃ h, h < 16 ∧ o = 0x10 + h ∧ ((p.cls = .host ∧ p.inst ≠ h) ∨ (p.cls = .vi ∧ viPort p.inst ≠ h))) ∨
      (p.cls = .jrnl ∧ p.page = 1 ∧ 1 < o)) ∧
    (∀ a off, a % 4 = 0 → locate a = some (p, off) → s.readBarred p o = true →
      exec (.readClear x a) s = .next (s.emit (.value o a 0))) ∧
    (∀ a off, pathReaches x a = true → a % 4 = 0 → locate a = some (p, off) → s.readBarred p o = false → s.pageOn p = true →
      (regRow p off).isSome = true → Tab.get noLatch s.latches (65536 * pageCode p + o) = none →
      ∃ t, exec (.readClear x a) s = .next t ∧ t.out = s.out ++ [.value o a (BitVec.ofNat 32 (s.peek p off o))])

/-- R118: a frame that passes check 3 leaves its COUNTER as the high-water mark of its origin, whatever later refuses it; a
frame that fails check 1 or 2 leaves every mark as it was. -/
def Obligations.PassedCounterBecomesHighWaterMark : Prop :=
  ∀ (s : State) (path : ZPath) (f : Bytes) (auth : Bool), Tab.wf hwmD s.zyn.hwm = true →
    auth = (s.zCheck1 f && (if zOp f = 6 then s.zCheckLoad path f else s.zCheck2 path f)) →
    (auth = true → s.hwm (zOrigin f) < zCtr f → (hwmIdx (zOrigin f)).isSome = true →
      (s.zArrive path f).hwm (zOrigin f) = zCtr f ∧ ∀ o, hwmIdx o ≠ hwmIdx (zOrigin f) → (s.zArrive path f).hwm o = s.hwm o) ∧
    (auth = false → ∀ o, (s.zArrive path f).hwm o = s.hwm o)

/-- R583: with CHAIN bit n set, counter n + 1 counts only the wraps of counter n; the wrap sets no OVF bit n, and a wrap of
counter n + 1 sets its own. A CHAIN bit before a reserved counter acts as 0, and writing CHAIN changes no counter. -/
def Obligations.ChainedCountersCountWraps : Prop :=
  ∀ (s : State) (p : PageRef) (m n k : Nat), Registers.wf s.regs = true → ctrMask p = some m → n < 15 → bit m n = true →
    s.bget p 0xC80 n = true → s.ctr p n < 2 ^ 48 → s.ctr p (n + 1) < 2 ^ 48 →
    (bit m (n + 1) = true → s.bump p (n + 1) k = s) ∧
    (bit m (n + 1) = true → (n = 0 ∨ s.bget p 0xC80 (n - 1) = false) → 0 < k → k < 2 ^ 48 → 2 ^ 48 ≤ s.ctr p n + k →
      (s.bump p n k).ctr p n = s.ctr p n + k - 2 ^ 48 ∧
      (s.bump p n k).ctr p (n + 1) = (s.ctr p (n + 1) + 1) % 2 ^ 48 ∧
      (s.bump p n k).bget p 0xC88 n = s.bget p 0xC88 n ∧
      (s.ctr p (n + 1) + 1 = 2 ^ 48 → s.bget p 0xC80 (n + 1) = false → (s.bump p n k).bget p 0xC88 (n + 1) = true) ∧
      (s.ctr p (n + 1) + 1 = 2 ^ 48 → s.bget p 0xC80 (n + 1) = true → n < 14 → bit m (n + 2) = true →
        s.ctr p (n + 2) < 2 ^ 48 → (s.bump p n k).ctr p (n + 2) = (s.ctr p (n + 2) + 1) % 2 ^ 48)) ∧
    (bit m (n + 1) = false → (n = 0 ∨ s.bget p 0xC80 (n - 1) = false) → 0 < k → k < 2 ^ 48 → 2 ^ 48 ≤ s.ctr p n + k →
      (s.bump p n k).bget p 0xC88 n = true ∧ (s.bump p n k).ctr p (n + 1) = s.ctr p (n + 1)) ∧
    (∀ v i, i < 16 → (s.put p 0xC80 v).ctr p i = s.ctr p i)

/-- The frame of the commands on pins, detectors and copies, register by register: each changes the registers named here
and no other, and so every flag and field elsewhere reads as before. -/
def Obligations.PinCommandsTouchNamedRegisters : Prop :=
  ∀ (s t : State) (port lane : Nat) (x : APath) (q : PageRef) (o : Nat) (b : Bool),
    (exec (.stage2Mate b) s = .next t ∨ exec (.presenceDebounced b) s = .next t ∨ exec .prsntSkewTimeout s = .next t ∨
      exec (.mainEnAssert lane) s = .next t ∨ exec (.attnReq b) s = .next t → q.addr + o ≠ (mgmtPg 3).addr + 0x40 →
      t.get q o = s.get q o) ∧
    (exec (.presenceMate b) s = .next t ∨ exec (.routeReplicaReload port true) s = .next t ∨
      exec (.identResendTimer port) s = .next t ∨ exec (.emptyAckTimer port) s = .next t → t.get q o = s.get q o) ∧
    (exec .weightsInForce s = .next t → t.get q o = s.zFlush.get q o) ∧
    (exec .mainGood s = .next t → q.addr + o ≠ (mgmtPg 3).addr + 0x40 → q.addr + o ≠ (glbPg 0).addr + 0x48 →
      t.get q o = s.get q o) ∧
    (exec (.losClear port lane) s = .next t ∨ exec (.lolClear port lane) s = .next t →
      q.addr + o ≠ (lanePg port).addr + laneOff lane → t.get q o = s.get q o) ∧
    (exec .copyComplete s = .next t → q.addr + o ≠ routePg.addr + 0x40 → q.addr + o ≠ routePg.addr + 0x44 →
      t.get q o = s.get q o) ∧
    (∀ v, exec (.routeTableWindowWrite x lane v) s = .next t →
      q.addr + o ≠ routePg.addr + 0x10 → q.addr + o ≠ routePg.addr + 0x1C → t.get q o = s.get q o)
end

