-- ==== Sys2Proof/Laws/Keeps.lean ====
section
/-! SUPPORT. What no operation breaks: `Keeps F a s` says that s came from a with the queue as it was, the registers
and the pool canonical, outputs, identities and free values only added, and every component as it was that the mask F
does not name. -/

-- one declaration after another: the threads of parallel elaboration would take the stack of each
set_option Elab.async false

namespace Sys2Proof

/-! Canonical tables. -/

theorem Tab.wfFrom_weaken {α : Type} [DecidableEq α] {d : Nat → α} {l : Nat} {t : Tab α} (h : Tab.wfFrom d (some l) t = true)
    {lo : Option Nat} (hl : ∀ k, lo = some k → k ≤ l) : Tab.wfFrom d lo t = true := by
  cases t with
  | nil => rfl
  | cons e t =>
    obtain ⟨k, v⟩ := e
    simp only [Tab.wfFrom, Bool.and_eq_true, decide_eq_true_eq] at h ⊢
    refine ⟨⟨?_, h.1.2⟩, h.2⟩
    cases lo with
    | none => rfl
    | some m => exact decide_eq_true (Nat.lt_of_le_of_lt (hl m rfl) h.1.1)

theorem Tab.wfFrom_del {α : Type} [DecidableEq α] {d : Nat → α} (j : Nat) :
    ∀ (t : Tab α) (lo : Option Nat), Tab.wfFrom d lo t = true → Tab.wfFrom d lo (Tab.del t j) = true
  | [], _, _ => rfl
  | (k, v) :: t, lo, h => by
    simp only [Tab.wfFrom, Bool.and_eq_true] at h
    rw [Tab.del]
    split
    · refine Tab.wfFrom_weaken h.2 (fun m hm => ?_)
      subst hm
      exact Nat.le_of_lt (of_decide_eq_true h.1.1)
    · simp only [Tab.wfFrom, Bool.and_eq_true]
      exact ⟨h.1, Tab.wfFrom_del j t (some k) h.2⟩

theorem Tab.lo_ok {j : Nat} : ∀ lo : Option Nat, (∀ k, lo = some k → k < j) →
    (match lo with | none => true | some l => decide (l < j)) = true
  | none, _ => rfl
  | some m, h => decide_eq_true (h m rfl)

theorem Tab.wfFrom_ins {α : Type} [DecidableEq α] {d : Nat → α} {j : Nat} {x : α} (hx : x ≠ d j) :
    ∀ (t : Tab α) (lo : Option Nat), (∀ k, lo = some k → k < j) → Tab.wfFrom d lo t = true →
      Tab.wfFrom d lo (Tab.ins t j x) = true
  | [], lo, hl, _ => by
    simp only [Tab.ins, Tab.wfFrom, Bool.and_eq_true, decide_eq_true_eq, and_true]
    refine ⟨?_, hx⟩
    cases lo with
    | none => rfl
    | some m => exact decide_eq_true (hl m rfl)
  | (k, v) :: t, lo, hl, h => by
    simp only [Tab.wfFrom, Bool.and_eq_true, decide_eq_true_eq] at h
    have hlo := Tab.lo_ok lo hl
    rw [Tab.ins]
    split
    · rename_i hjk
      simp only [Tab.wfFrom, Bool.and_eq_true, decide_eq_true_eq]
      exact ⟨⟨hlo, hx⟩, ⟨hjk, h.1.2⟩, h.2⟩
    · split
      · rename_i hkj
        subst hkj
        simp only [Tab.wfFrom, Bool.and_eq_true, decide_eq_true_eq]
        exact ⟨⟨hlo, hx⟩, h.2⟩
      · rename_i h1 h2
        simp only [Tab.wfFrom, Bool.and_eq_true, decide_eq_true_eq]
        refine ⟨h.1, Tab.wfFrom_ins hx t (some k) (fun m hm => ?_) h.2⟩
        cases hm
        omega

/-- Writing a key keeps the canonical form. -/
theorem Tab.wf_set {α : Type} [DecidableEq α] {d : Nat → α} {t : Tab α} (h : Tab.wf d t = true) (k : Nat) (v : α) :
    Tab.wf d (Tab.set d t k v) = true := by
  unfold Tab.set
  split
  · exact Tab.wfFrom_del k t none h
  · rename_i hv
    exact Tab.wfFrom_ins hv t none (fun _ e => nomatch e) h

/-- So does changing one. -/
theorem Tab.wf_upd {α : Type} [DecidableEq α] {d : Nat → α} {t : Tab α} (h : Tab.wf d t = true) (k : Nat) (f : α → α) :
    Tab.wf d (Tab.upd d t k f) = true := Tab.wf_set h k _

theorem Tab.wfFrom_mapKV {α : Type} [DecidableEq α] {d : Nat → α} (f : Nat → α → α) :
    ∀ (t : Tab α) (lo : Option Nat), Tab.wfFrom d lo t = true → Tab.wfFrom d lo (Tab.mapKV d f t) = true
  | [], _, _ => rfl
  | (k, v) :: t, lo, h => by
    simp only [Tab.wfFrom, Bool.and_eq_true] at h
    have ht := Tab.wfFrom_mapKV f t (some k) h.2
    rw [Tab.mapKV]
    split
    · refine Tab.wfFrom_weaken ht (fun m hm => ?_)
      subst hm
      exact Nat.le_of_lt (of_decide_eq_true h.1.1)
    · rename_i hv
      simp only [Tab.wfFrom, Bool.and_eq_true, decide_eq_true_eq]
      exact ⟨⟨h.1.1, hv⟩, ht⟩

/-- So does changing every entry. -/
theorem Tab.wf_mapKV {α : Type} [DecidableEq α] {d : Nat → α} {t : Tab α} (h : Tab.wf d t = true) (f : Nat → α → α) :
    Tab.wf d (Tab.mapKV d f t) = true := Tab.wfFrom_mapKV f t none h

end Sys2Proof

namespace Sys2Proof.Machine

/-- The bit of a part in a mask. -/
def Component.code : Component → Nat
  | .regs => 0
  | .orig => 1
  | .latches => 2
  | .heldLo => 3
  | .pwr => 4
  | .psto => 5
  | .tick => 6
  | .zyn => 7
  | .jrnl => 8
  | .relia => 9
  | .fw => 10
  | .svc => 11
  | .lanes => 12
  | .lports => 13
  | .spares => 14
  | .links => 15
  | .tiles => 16
  | .route => 17
  | .xpts => 18
  | .wins => 19
  | .mwus => 20
  | .vis => 21
  | .hostCfg => 22
  | .hostRr => 23
  | .hostAts => 24
  | .groups => 25
  | .creations => 26
  | .mem => 27
  | .pool => 28
  | .cleats => 29
  | .stalls => 30
  | .lany => 31
  | .trig => 32
  | .noc => 33

/-- The mask of some parts. -/
def maskOf (l : List Component) : Nat := l.foldl (fun m p => m ||| 2 ^ p.code) 0

/-- A component that is not among those of a mask has no bit in it. -/
theorem maskOf_testBit (l : List Component) (k : Component) (h : k ∉ l) : (maskOf l).testBit k.code = false := by
  unfold maskOf
  suffices ∀ m : Nat, m.testBit k.code = false → (l.foldl (fun m p => m ||| 2 ^ p.code) m).testBit k.code = false from
    this 0 (by simp)
  induction l with
  | nil => exact fun m hm => hm
  | cons p l ih =>
    intro m hm
    rw [List.mem_cons, not_or] at h
    apply ih h.2
    have e : p.code ≠ k.code := by
      intro e
      apply h.1
      revert e
      cases k <;> cases p <;> simp [Component.code]
    simp [Nat.testBit_or, hm, e]

/-- A mask within one that is within F is within F. -/
theorem sub {k m F : Nat} (h : m &&& F = m) (e : k &&& m = k := by rfl) : k &&& F = k := by
  rw [← e, Nat.and_assoc, h]

theorem bit_of_sub {F n : Nat} (h : 2 ^ n &&& F = 2 ^ n) : F.testBit n = true := by
  have := congrArg (Nat.testBit · n) h
  simpa using this

/-- From a to s: the queue as it was, registers and pool canonical, outputs, identities and free values only added, and
every part as it was whose bit is not in the mask F. -/
structure Keeps (F : Nat) (a s : State) : Prop where
  queue : s.pending = a.pending
  regs : Registers.wf s.regs = true
  pool : Memory.wf s.mem = true
  out : a.out <+: s.out
  ident : a.nextId ≤ s.nextId
  free : a.freeCtr ≤ s.freeCtr
  frame : ∀ p : Component, F.testBit p.code = false → p.same a s

/-! Record updates, field by field. -/

variable {F : Nat} {a : State}

theorem Keeps.set_orig (f : 2 &&& F = 2) {x0 x1 x2 x3 x4 x5 x6 x7 x8 x9 x10 x11 x12 x13 x14 x15 x16 x17 x18 x19 x20 x21 x22 x23 x24 x25 x26 x27 x28 x29 x30 x31 x32 x33 x34 x35 x36 y}
    (h : Keeps F a (State.mk x0 x1 x2 x3 x4 x5 x6 x7 x8 x9 x10 x11 x12 x13 x14 x15 x16 x17 x18 x19 x20 x21 x22 x23 x24 x25 x26 x27 x28 x29 x30 x31 x32 x33 x34 x35 x36)) :
    Keeps F a (State.mk x0 y x2 x3 x4 x5 x6 x7 x8 x9 x10 x11 x12 x13 x14 x15 x16 x17 x18 x19 x20 x21 x22 x23 x24 x25 x26 x27 x28 x29 x30 x31 x32 x33 x34 x35 x36) :=
  ⟨h.queue, h.regs, h.pool, h.out, h.ident, h.free, fun p hp => by
    cases p <;> first | exact h.frame _ hp | exact absurd (bit_of_sub (n := 1) f) (by rw [show F.testBit 1 = false from hp]; decide)⟩

theorem Keeps.set_latches (f : 4 &&& F = 4) {x0 x1 x2 x3 x4 x5 x6 x7 x8 x9 x10 x11 x12 x13 x14 x15 x16 x17 x18 x19 x20 x21 x22 x23 x24 x25 x26 x27 x28 x29 x30 x31 x32 x33 x34 x35 x36 y}
    (h : Keeps F a (State.mk x0 x1 x2 x3 x4 x5 x6 x7 x8 x9 x10 x11 x12 x13 x14 x15 x16 x17 x18 x19 x20 x21 x22 x23 x24 x25 x26 x27 x28 x29 x30 x31 x32 x33 x34 x35 x36)) :
    Keeps F a (State.mk x0 x1 y x3 x4 x5 x6 x7 x8 x9 x10 x11 x12 x13 x14 x15 x16 x17 x18 x19 x20 x21 x22 x23 x24 x25 x26 x27 x28 x29 x30 x31 x32 x33 x34 x35 x36) :=
  ⟨h.queue, h.regs, h.pool, h.out, h.ident, h.free, fun p hp => by
    cases p <;> first | exact h.frame _ hp | exact absurd (bit_of_sub (n := 2) f) (by rw [show F.testBit 2 = false from hp]; decide)⟩

theorem Keeps.set_heldLo (f : 8 &&& F = 8) {x0 x1 x2 x3 x4 x5 x6 x7 x8 x9 x10 x11 x12 x13 x14 x15 x16 x17 x18 x19 x20 x21 x22 x23 x24 x25 x26 x27 x28 x29 x30 x31 x32 x33 x34 x35 x36 y}
    (h : Keeps F a (State.mk x0 x1 x2 x3 x4 x5 x6 x7 x8 x9 x10 x11 x12 x13 x14 x15 x16 x17 x18 x19 x20 x21 x22 x23 x24 x25 x26 x27 x28 x29 x30 x31 x32 x33 x34 x35 x36)) :
    Keeps F a (State.mk x0 x1 x2 y x4 x5 x6 x7 x8 x9 x10 x11 x12 x13 x14 x15 x16 x17 x18 x19 x20 x21 x22 x23 x24 x25 x26 x27 x28 x29 x30 x31 x32 x33 x34 x35 x36) :=
  ⟨h.queue, h.regs, h.pool, h.out, h.ident, h.free, fun p hp => by
    cases p <;> first | exact h.frame _ hp | exact absurd (bit_of_sub (n := 3) f) (by rw [show F.testBit 3 = false from hp]; decide)⟩

theorem Keeps.set_pwr (f : 16 &&& F = 16) {x0 x1 x2 x3 x4 x5 x6 x7 x8 x9 x10 x11 x12 x13 x14 x15 x16 x17 x18 x19 x20 x21 x22 x23 x24 x25 x26 x27 x28 x29 x30 x31 x32 x33 x34 x35 x36 y}
    (h : Keeps F a (State.mk x0 x1 x2 x3 x4 x5 x6 x7 x8 x9 x10 x11 x12 x13 x14 x15 x16 x17 x18 x19 x20 x21 x22 x23 x24 x25 x26 x27 x28 x29 x30 x31 x32 x33 x34 x35 x36)) :
    Keeps F a (State.mk x0 x1 x2 x3 y x5 x6 x7 x8 x9 x10 x11 x12 x13 x14 x15 x16 x17 x18 x19 x20 x21 x22 x23 x24 x25 x26 x27 x28 x29 x30 x31 x32 x33 x34 x35 x36) :=
  ⟨h.queue, h.regs, h.pool, h.out, h.ident, h.free, fun p hp => by
    cases p <;> first | exact h.frame _ hp | exact absurd (bit_of_sub (n := 4) f) (by rw [show F.testBit 4 = false from hp]; decide)⟩

theorem Keeps.set_psto (f : 32 &&& F = 32) {x0 x1 x2 x3 x4 x5 x6 x7 x8 x9 x10 x11 x12 x13 x14 x15 x16 x17 x18 x19 x20 x21 x22 x23 x24 x25 x26 x27 x28 x29 x30 x31 x32 x33 x34 x35 x36 y}
    (h : Keeps F a (State.mk x0 x1 x2 x3 x4 x5 x6 x7 x8 x9 x10 x11 x12 x13 x14 x15 x16 x17 x18 x19 x20 x21 x22 x23 x24 x25 x26 x27 x28 x29 x30 x31 x32 x33 x34 x35 x36)) :
    Keeps F a (State.mk x0 x1 x2 x3 x4 y x6 x7 x8 x9 x10 x11 x12 x13 x14 x15 x16 x17 x18 x19 x20 x21 x22 x23 x24 x25 x26 x27 x28 x29 x30 x31 x32 x33 x34 x35 x36) :=
  ⟨h.queue, h.regs, h.pool, h.out, h.ident, h.free, fun p hp => by
    cases p <;> first | exact h.frame _ hp | exact absurd (bit_of_sub (n := 5) f) (by rw [show F.testBit 5 = false from hp]; decide)⟩

theorem Keeps.set_tick (f : 64 &&& F = 64) {x0 x1 x2 x3 x4 x5 x6 x7 x8 x9 x10 x11 x12 x13 x14 x15 x16 x17 x18 x19 x20 x21 x22 x23 x24 x25 x26 x27 x28 x29 x30 x31 x32 x33 x34 x35 x36 y}
    (h : Keeps F a (State.mk x0 x1 x2 x3 x4 x5 x6 x7 x8 x9 x10 x11 x12 x13 x14 x15 x16 x17 x18 x19 x20 x21 x22 x23 x24 x25 x26 x27 x28 x29 x30 x31 x32 x33 x34 x35 x36)) :
    Keeps F a (State.mk x0 x1 x2 x3 x4 x5 y x7 x8 x9 x10 x11 x12 x13 x14 x15 x16 x17 x18 x19 x20 x21 x22 x23 x24 x25 x26 x27 x28 x29 x30 x31 x32 x33 x34 x35 x36) :=
  ⟨h.queue, h.regs, h.pool, h.out, h.ident, h.free, fun p hp => by
    cases p <;> first | exact h.frame _ hp | exact absurd (bit_of_sub (n := 6) f) (by rw [show F.testBit 6 = false from hp]; decide)⟩

theorem Keeps.set_zyn (f : 128 &&& F = 128) {x0 x1 x2 x3 x4 x5 x6 x7 x8 x9 x10 x11 x12 x13 x14 x15 x16 x17 x18 x19 x20 x21 x22 x23 x24 x25 x26 x27 x28 x29 x30 x31 x32 x33 x34 x35 x36 y}
    (h : Keeps F a (State.mk x0 x1 x2 x3 x4 x5 x6 x7 x8 x9 x10 x11 x12 x13 x14 x15 x16 x17 x18 x19 x20 x21 x22 x23 x24 x25 x26 x27 x28 x29 x30 x31 x32 x33 x34 x35 x36)) :
    Keeps F a (State.mk x0 x1 x2 x3 x4 x5 x6 y x8 x9 x10 x11 x12 x13 x14 x15 x16 x17 x18 x19 x20 x21 x22 x23 x24 x25 x26 x27 x28 x29 x30 x31 x32 x33 x34 x35 x36) :=
  ⟨h.queue, h.regs, h.pool, h.out, h.ident, h.free, fun p hp => by
    cases p <;> first | exact h.frame _ hp | exact absurd (bit_of_sub (n := 7) f) (by rw [show F.testBit 7 = false from hp]; decide)⟩

theorem Keeps.set_jrnl (f : 256 &&& F = 256) {x0 x1 x2 x3 x4 x5 x6 x7 x8 x9 x10 x11 x12 x13 x14 x15 x16 x17 x18 x19 x20 x21 x22 x23 x24 x25 x26 x27 x28 x29 x30 x31 x32 x33 x34 x35 x36 y}
    (h : Keeps F a (State.mk x0 x1 x2 x3 x4 x5 x6 x7 x8 x9 x10 x11 x12 x13 x14 x15 x16 x17 x18 x19 x20 x21 x22 x23 x24 x25 x26 x27 x28 x29 x30 x31 x32 x33 x34 x35 x36)) :
    Keeps F a (State.mk x0 x1 x2 x3 x4 x5 x6 x7 y x9 x10 x11 x12 x13 x14 x15 x16 x17 x18 x19 x20 x21 x22 x23 x24 x25 x26 x27 x28 x29 x30 x31 x32 x33 x34 x35 x36) :=
  ⟨h.queue, h.regs, h.pool, h.out, h.ident, h.free, fun p hp => by
    cases p <;> first | exact h.frame _ hp | exact absurd (bit_of_sub (n := 8) f) (by rw [show F.testBit 8 = false from hp]; decide)⟩

theorem Keeps.set_relia (f : 512 &&& F = 512) {x0 x1 x2 x3 x4 x5 x6 x7 x8 x9 x10 x11 x12 x13 x14 x15 x16 x17 x18 x19 x20 x21 x22 x23 x24 x25 x26 x27 x28 x29 x30 x31 x32 x33 x34 x35 x36 y}
    (h : Keeps F a (State.mk x0 x1 x2 x3 x4 x5 x6 x7 x8 x9 x10 x11 x12 x13 x14 x15 x16 x17 x18 x19 x20 x21 x22 x23 x24 x25 x26 x27 x28 x29 x30 x31 x32 x33 x34 x35 x36)) :
    Keeps F a (State.mk x0 x1 x2 x3 x4 x5 x6 x7 x8 y x10 x11 x12 x13 x14 x15 x16 x17 x18 x19 x20 x21 x22 x23 x24 x25 x26 x27 x28 x29 x30 x31 x32 x33 x34 x35 x36) :=
  ⟨h.queue, h.regs, h.pool, h.out, h.ident, h.free, fun p hp => by
    cases p <;> first | exact h.frame _ hp | exact absurd (bit_of_sub (n := 9) f) (by rw [show F.testBit 9 = false from hp]; decide)⟩

theorem Keeps.set_fw (f : 1024 &&& F = 1024) {x0 x1 x2 x3 x4 x5 x6 x7 x8 x9 x10 x11 x12 x13 x14 x15 x16 x17 x18 x19 x20 x21 x22 x23 x24 x25 x26 x27 x28 x29 x30 x31 x32 x33 x34 x35 x36 y}
    (h : Keeps F a (State.mk x0 x1 x2 x3 x4 x5 x6 x7 x8 x9 x10 x11 x12 x13 x14 x15 x16 x17 x18 x19 x20 x21 x22 x23 x24 x25 x26 x27 x28 x29 x30 x31 x32 x33 x34 x35 x36)) :
    Keeps F a (State.mk x0 x1 x2 x3 x4 x5 x6 x7 x8 x9 y x11 x12 x13 x14 x15 x16 x17 x18 x19 x20 x21 x22 x23 x24 x25 x26 x27 x28 x29 x30 x31 x32 x33 x34 x35 x36) :=
  ⟨h.queue, h.regs, h.pool, h.out, h.ident, h.free, fun p hp => by
    cases p <;> first | exact h.frame _ hp | exact absurd (bit_of_sub (n := 10) f) (by rw [show F.testBit 10 = false from hp]; decide)⟩

theorem Keeps.set_svc (f : 2048 &&& F = 2048) {x0 x1 x2 x3 x4 x5 x6 x7 x8 x9 x10 x11 x12 x13 x14 x15 x16 x17 x18 x19 x20 x21 x22 x23 x24 x25 x26 x27 x28 x29 x30 x31 x32 x33 x34 x35 x36 y}
    (h : Keeps F a (State.mk x0 x1 x2 x3 x4 x5 x6 x7 x8 x9 x10 x11 x12 x13 x14 x15 x16 x17 x18 x19 x20 x21 x22 x23 x24 x25 x26 x27 x28 x29 x30 x31 x32 x33 x34 x35 x36)) :
    Keeps F a (State.mk x0 x1 x2 x3 x4 x5 x6 x7 x8 x9 x10 y x12 x13 x14 x15 x16 x17 x18 x19 x20 x21 x22 x23 x24 x25 x26 x27 x28 x29 x30 x31 x32 x33 x34 x35 x36) :=
  ⟨h.queue, h.regs, h.pool, h.out, h.ident, h.free, fun p hp => by
    cases p <;> first | exact h.frame _ hp | exact absurd (bit_of_sub (n := 11) f) (by rw [show F.testBit 11 = false from hp]; decide)⟩

theorem Keeps.set_lanes (f : 4096 &&& F = 4096) {x0 x1 x2 x3 x4 x5 x6 x7 x8 x9 x10 x11 x12 x13 x14 x15 x16 x17 x18 x19 x20 x21 x22 x23 x24 x25 x26 x27 x28 x29 x30 x31 x32 x33 x34 x35 x36 y}
    (h : Keeps F a (State.mk x0 x1 x2 x3 x4 x5 x6 x7 x8 x9 x10 x11 x12 x13 x14 x15 x16 x17 x18 x19 x20 x21 x22 x23 x24 x25 x26 x27 x28 x29 x30 x31 x32 x33 x34 x35 x36)) :
    Keeps F a (State.mk x0 x1 x2 x3 x4 x5 x6 x7 x8 x9 x10 x11 y x13 x14 x15 x16 x17 x18 x19 x20 x21 x22 x23 x24 x25 x26 x27 x28 x29 x30 x31 x32 x33 x34 x35 x36) :=
  ⟨h.queue, h.regs, h.pool, h.out, h.ident, h.free, fun p hp => by
    cases p <;> first | exact h.frame _ hp | exact absurd (bit_of_sub (n := 12) f) (by rw [show F.testBit 12 = false from hp]; decide)⟩

theorem Keeps.set_lports (f : 8192 &&& F = 8192) {x0 x1 x2 x3 x4 x5 x6 x7 x8 x9 x10 x11 x12 x13 x14 x15 x16 x17 x18 x19 x20 x21 x22 x23 x24 x25 x26 x27 x28 x29 x30 x31 x32 x33 x34 x35 x36 y}
    (h : Keeps F a (State.mk x0 x1 x2 x3 x4 x5 x6 x7 x8 x9 x10 x11 x12 x13 x14 x15 x16 x17 x18 x19 x20 x21 x22 x23 x24 x25 x26 x27 x28 x29 x30 x31 x32 x33 x34 x35 x36)) :
    Keeps F a (State.mk x0 x1 x2 x3 x4 x5 x6 x7 x8 x9 x10 x11 x12 y x14 x15 x16 x17 x18 x19 x20 x21 x22 x23 x24 x25 x26 x27 x28 x29 x30 x31 x32 x33 x34 x35 x36) :=
  ⟨h.queue, h.regs, h.pool, h.out, h.ident, h.free, fun p hp => by
    cases p <;> first | exact h.frame _ hp | exact absurd (bit_of_sub (n := 13) f) (by rw [show F.testBit 13 = false from hp]; decide)⟩

theorem Keeps.set_spares (f : 16384 &&& F = 16384) {x0 x1 x2 x3 x4 x5 x6 x7 x8 x9 x10 x11 x12 x13 x14 x15 x16 x17 x18 x19 x20 x21 x22 x23 x24 x25 x26 x27 x28 x29 x30 x31 x32 x33 x34 x35 x36 y}
    (h : Keeps F a (State.mk x0 x1 x2 x3 x4 x5 x6 x7 x8 x9 x10 x11 x12 x13 x14 x15 x16 x17 x18 x19 x20 x21 x22 x23 x24 x25 x26 x27 x28 x29 x30 x31 x32 x33 x34 x35 x36)) :
    Keeps F a (State.mk x0 x1 x2 x3 x4 x5 x6 x7 x8 x9 x10 x11 x12 x13 y x15 x16 x17 x18 x19 x20 x21 x22 x23 x24 x25 x26 x27 x28 x29 x30 x31 x32 x33 x34 x35 x36) :=
  ⟨h.queue, h.regs, h.pool, h.out, h.ident, h.free, fun p hp => by
    cases p <;> first | exact h.frame _ hp | exact absurd (bit_of_sub (n := 14) f) (by rw [show F.testBit 14 = false from hp]; decide)⟩

theorem Keeps.set_links (f : 32768 &&& F = 32768) {x0 x1 x2 x3 x4 x5 x6 x7 x8 x9 x10 x11 x12 x13 x14 x15 x16 x17 x18 x19 x20 x21 x22 x23 x24 x25 x26 x27 x28 x29 x30 x31 x32 x33 x34 x35 x36 y}
    (h : Keeps F a (State.mk x0 x1 x2 x3 x4 x5 x6 x7 x8 x9 x10 x11 x12 x13 x14 x15 x16 x17 x18 x19 x20 x21 x22 x23 x24 x25 x26 x27 x28 x29 x30 x31 x32 x33 x34 x35 x36)) :
    Keeps F a (State.mk x0 x1 x2 x3 x4 x5 x6 x7 x8 x9 x10 x11 x12 x13 x14 y x16 x17 x18 x19 x20 x21 x22 x23 x24 x25 x26 x27 x28 x29 x30 x31 x32 x33 x34 x35 x36) :=
  ⟨h.queue, h.regs, h.pool, h.out, h.ident, h.free, fun p hp => by
    cases p <;> first | exact h.frame _ hp | exact absurd (bit_of_sub (n := 15) f) (by rw [show F.testBit 15 = false from hp]; decide)⟩

theorem Keeps.set_tiles (f : 65536 &&& F = 65536) {x0 x1 x2 x3 x4 x5 x6 x7 x8 x9 x10 x11 x12 x13 x14 x15 x16 x17 x18 x19 x20 x21 x22 x23 x24 x25 x26 x27 x28 x29 x30 x31 x32 x33 x34 x35 x36 y}
    (h : Keeps F a (State.mk x0 x1 x2 x3 x4 x5 x6 x7 x8 x9 x10 x11 x12 x13 x14 x15 x16 x17 x18 x19 x20 x21 x22 x23 x24 x25 x26 x27 x28 x29 x30 x31 x32 x33 x34 x35 x36)) :
    Keeps F a (State.mk x0 x1 x2 x3 x4 x5 x6 x7 x8 x9 x10 x11 x12 x13 x14 x15 y x17 x18 x19 x20 x21 x22 x23 x24 x25 x26 x27 x28 x29 x30 x31 x32 x33 x34 x35 x36) :=
  ⟨h.queue, h.regs, h.pool, h.out, h.ident, h.free, fun p hp => by
    cases p <;> first | exact h.frame _ hp | exact absurd (bit_of_sub (n := 16) f) (by rw [show F.testBit 16 = false from hp]; decide)⟩

theorem Keeps.set_route (f : 131072 &&& F = 131072) {x0 x1 x2 x3 x4 x5 x6 x7 x8 x9 x10 x11 x12 x13 x14 x15 x16 x17 x18 x19 x20 x21 x22 x23 x24 x25 x26 x27 x28 x29 x30 x31 x32 x33 x34 x35 x36 y}
    (h : Keeps F a (State.mk x0 x1 x2 x3 x4 x5 x6 x7 x8 x9 x10 x11 x12 x13 x14 x15 x16 x17 x18 x19 x20 x21 x22 x23 x24 x25 x26 x27 x28 x29 x30 x31 x32 x33 x34 x35 x36)) :
    Keeps F a (State.mk x0 x1 x2 x3 x4 x5 x6 x7 x8 x9 x10 x11 x12 x13 x14 x15 x16 y x18 x19 x20 x21 x22 x23 x24 x25 x26 x27 x28 x29 x30 x31 x32 x33 x34 x35 x36) :=
  ⟨h.queue, h.regs, h.pool, h.out, h.ident, h.free, fun p hp => by
    cases p <;> first | exact h.frame _ hp | exact absurd (bit_of_sub (n := 17) f) (by rw [show F.testBit 17 = false from hp]; decide)⟩

theorem Keeps.set_xpts (f : 262144 &&& F = 262144) {x0 x1 x2 x3 x4 x5 x6 x7 x8 x9 x10 x11 x12 x13 x14 x15 x16 x17 x18 x19 x20 x21 x22 x23 x24 x25 x26 x27 x28 x29 x30 x31 x32 x33 x34 x35 x36 y}
    (h : Keeps F a (State.mk x0 x1 x2 x3 x4 x5 x6 x7 x8 x9 x10 x11 x12 x13 x14 x15 x16 x17 x18 x19 x20 x21 x22 x23 x24 x25 x26 x27 x28 x29 x30 x31 x32 x33 x34 x35 x36)) :
    Keeps F a (State.mk x0 x1 x2 x3 x4 x5 x6 x7 x8 x9 x10 x11 x12 x13 x14 x15 x16 x17 y x19 x20 x21 x22 x23 x24 x25 x26 x27 x28 x29 x30 x31 x32 x33 x34 x35 x36) :=
  ⟨h.queue, h.regs, h.pool, h.out, h.ident, h.free, fun p hp => by
    cases p <;> first | exact h.frame _ hp | exact absurd (bit_of_sub (n := 18) f) (by rw [show F.testBit 18 = false from hp]; decide)⟩

theorem Keeps.set_wins (f : 524288 &&& F = 524288) {x0 x1 x2 x3 x4 x5 x6 x7 x8 x9 x10 x11 x12 x13 x14 x15 x16 x17 x18 x19 x20 x21 x22 x23 x24 x25 x26 x27 x28 x29 x30 x31 x32 x33 x34 x35 x36 y}
    (h : Keeps F a (State.mk x0 x1 x2 x3 x4 x5 x6 x7 x8 x9 x10 x11 x12 x13 x14 x15 x16 x17 x18 x19 x20 x21 x22 x23 x24 x25 x26 x27 x28 x29 x30 x31 x32 x33 x34 x35 x36)) :
    Keeps F a (State.mk x0 x1 x2 x3 x4 x5 x6 x7 x8 x9 x10 x11 x12 x13 x14 x15 x16 x17 x18 y x20 x21 x22 x23 x24 x25 x26 x27 x28 x29 x30 x31 x32 x33 x34 x35 x36) :=
  ⟨h.queue, h.regs, h.pool, h.out, h.ident, h.free, fun p hp => by
    cases p <;> first | exact h.frame _ hp | exact absurd (bit_of_sub (n := 19) f) (by rw [show F.testBit 19 = false from hp]; decide)⟩

theorem Keeps.set_mwus (f : 1048576 &&& F = 1048576) {x0 x1 x2 x3 x4 x5 x6 x7 x8 x9 x10 x11 x12 x13 x14 x15 x16 x17 x18 x19 x20 x21 x22 x23 x24 x25 x26 x27 x28 x29 x30 x31 x32 x33 x34 x35 x36 y}
    (h : Keeps F a (State.mk x0 x1 x2 x3 x4 x5 x6 x7 x8 x9 x10 x11 x12 x13 x14 x15 x16 x17 x18 x19 x20 x21 x22 x23 x24 x25 x26 x27 x28 x29 x30 x31 x32 x33 x34 x35 x36)) :
    Keeps F a (State.mk x0 x1 x2 x3 x4 x5 x6 x7 x8 x9 x10 x11 x12 x13 x14 x15 x16 x17 x18 x19 y x21 x22 x23 x24 x25 x26 x27 x28 x29 x30 x31 x32 x33 x34 x35 x36) :=
  ⟨h.queue, h.regs, h.pool, h.out, h.ident, h.free, fun p hp => by
    cases p <;> first | exact h.frame _ hp | exact absurd (bit_of_sub (n := 20) f) (by rw [show F.testBit 20 = false from hp]; decide)⟩

theorem Keeps.set_vis (f : 2097152 &&& F = 2097152) {x0 x1 x2 x3 x4 x5 x6 x7 x8 x9 x10 x11 x12 x13 x14 x15 x16 x17 x18 x19 x20 x21 x22 x23 x24 x25 x26 x27 x28 x29 x30 x31 x32 x33 x34 x35 x36 y}
    (h : Keeps F a (State.mk x0 x1 x2 x3 x4 x5 x6 x7 x8 x9 x10 x11 x12 x13 x14 x15 x16 x17 x18 x19 x20 x21 x22 x23 x24 x25 x26 x27 x28 x29 x30 x31 x32 x33 x34 x35 x36)) :
    Keeps F a (State.mk x0 x1 x2 x3 x4 x5 x6 x7 x8 x9 x10 x11 x12 x13 x14 x15 x16 x17 x18 x19 x20 y x22 x23 x24 x25 x26 x27 x28 x29 x30 x31 x32 x33 x34 x35 x36) :=
  ⟨h.queue, h.regs, h.pool, h.out, h.ident, h.free, fun p hp => by
    cases p <;> first | exact h.frame _ hp | exact absurd (bit_of_sub (n := 21) f) (by rw [show F.testBit 21 = false from hp]; decide)⟩

theorem Keeps.set_hostCfg (f : 4194304 &&& F = 4194304) {x0 x1 x2 x3 x4 x5 x6 x7 x8 x9 x10 x11 x12 x13 x14 x15 x16 x17 x18 x19 x20 x21 x22 x23 x24 x25 x26 x27 x28 x29 x30 x31 x32 x33 x34 x35 x36 y}
    (h : Keeps F a (State.mk x0 x1 x2 x3 x4 x5 x6 x7 x8 x9 x10 x11 x12 x13 x14 x15 x16 x17 x18 x19 x20 x21 x22 x23 x24 x25 x26 x27 x28 x29 x30 x31 x32 x33 x34 x35 x36)) :
    Keeps F a (State.mk x0 x1 x2 x3 x4 x5 x6 x7 x8 x9 x10 x11 x12 x13 x14 x15 x16 x17 x18 x19 x20 x21 y x23 x24 x25 x26 x27 x28 x29 x30 x31 x32 x33 x34 x35 x36) :=
  ⟨h.queue, h.regs, h.pool, h.out, h.ident, h.free, fun p hp => by
    cases p <;> first | exact h.frame _ hp | exact absurd (bit_of_sub (n := 22) f) (by rw [show F.testBit 22 = false from hp]; decide)⟩

theorem Keeps.set_hostRr (f : 8388608 &&& F = 8388608) {x0 x1 x2 x3 x4 x5 x6 x7 x8 x9 x10 x11 x12 x13 x14 x15 x16 x17 x18 x19 x20 x21 x22 x23 x24 x25 x26 x27 x28 x29 x30 x31 x32 x33 x34 x35 x36 y}
    (h : Keeps F a (State.mk x0 x1 x2 x3 x4 x5 x6 x7 x8 x9 x10 x11 x12 x13 x14 x15 x16 x17 x18 x19 x20 x21 x22 x23 x24 x25 x26 x27 x28 x29 x30 x31 x32 x33 x34 x35 x36)) :
    Keeps F a (State.mk x0 x1 x2 x3 x4 x5 x6 x7 x8 x9 x10 x11 x12 x13 x14 x15 x16 x17 x18 x19 x20 x21 x22 y x24 x25 x26 x27 x28 x29 x30 x31 x32 x33 x34 x35 x36) :=
  ⟨h.queue, h.regs, h.pool, h.out, h.ident, h.free, fun p hp => by
    cases p <;> first | exact h.frame _ hp | exact absurd (bit_of_sub (n := 23) f) (by rw [show F.testBit 23 = false from hp]; decide)⟩

theorem Keeps.set_hostAts (f : 16777216 &&& F = 16777216) {x0 x1 x2 x3 x4 x5 x6 x7 x8 x9 x10 x11 x12 x13 x14 x15 x16 x17 x18 x19 x20 x21 x22 x23 x24 x25 x26 x27 x28 x29 x30 x31 x32 x33 x34 x35 x36 y}
    (h : Keeps F a (State.mk x0 x1 x2 x3 x4 x5 x6 x7 x8 x9 x10 x11 x12 x13 x14 x15 x16 x17 x18 x19 x20 x21 x22 x23 x24 x25 x26 x27 x28 x29 x30 x31 x32 x33 x34 x35 x36)) :
    Keeps F a (State.mk x0 x1 x2 x3 x4 x5 x6 x7 x8 x9 x10 x11 x12 x13 x14 x15 x16 x17 x18 x19 x20 x21 x22 x23 y x25 x26 x27 x28 x29 x30 x31 x32 x33 x34 x35 x36) :=
  ⟨h.queue, h.regs, h.pool, h.out, h.ident, h.free, fun p hp => by
    cases p <;> first | exact h.frame _ hp | exact absurd (bit_of_sub (n := 24) f) (by rw [show F.testBit 24 = false from hp]; decide)⟩

theorem Keeps.set_groups (f : 33554432 &&& F = 33554432) {x0 x1 x2 x3 x4 x5 x6 x7 x8 x9 x10 x11 x12 x13 x14 x15 x16 x17 x18 x19 x20 x21 x22 x23 x24 x25 x26 x27 x28 x29 x30 x31 x32 x33 x34 x35 x36 y}
    (h : Keeps F a (State.mk x0 x1 x2 x3 x4 x5 x6 x7 x8 x9 x10 x11 x12 x13 x14 x15 x16 x17 x18 x19 x20 x21 x22 x23 x24 x25 x26 x27 x28 x29 x30 x31 x32 x33 x34 x35 x36)) :
    Keeps F a (State.mk x0 x1 x2 x3 x4 x5 x6 x7 x8 x9 x10 x11 x12 x13 x14 x15 x16 x17 x18 x19 x20 x21 x22 x23 x24 y x26 x27 x28 x29 x30 x31 x32 x33 x34 x35 x36) :=
  ⟨h.queue, h.regs, h.pool, h.out, h.ident, h.free, fun p hp => by
    cases p <;> first | exact h.frame _ hp | exact absurd (bit_of_sub (n := 25) f) (by rw [show F.testBit 25 = false from hp]; decide)⟩

theorem Keeps.set_creations (f : 67108864 &&& F = 67108864) {x0 x1 x2 x3 x4 x5 x6 x7 x8 x9 x10 x11 x12 x13 x14 x15 x16 x17 x18 x19 x20 x21 x22 x23 x24 x25 x26 x27 x28 x29 x30 x31 x32 x33 x34 x35 x36 y}
    (h : Keeps F a (State.mk x0 x1 x2 x3 x4 x5 x6 x7 x8 x9 x10 x11 x12 x13 x14 x15 x16 x17 x18 x19 x20 x21 x22 x23 x24 x25 x26 x27 x28 x29 x30 x31 x32 x33 x34 x35 x36)) :
    Keeps F a (State.mk x0 x1 x2 x3 x4 x5 x6 x7 x8 x9 x10 x11 x12 x13 x14 x15 x16 x17 x18 x19 x20 x21 x22 x23 x24 x25 y x27 x28 x29 x30 x31 x32 x33 x34 x35 x36) :=
  ⟨h.queue, h.regs, h.pool, h.out, h.ident, h.free, fun p hp => by
    cases p <;> first | exact h.frame _ hp | exact absurd (bit_of_sub (n := 26) f) (by rw [show F.testBit 26 = false from hp]; decide)⟩

theorem Keeps.set_mem (f : 134217728 &&& F = 134217728) {x0 x1 x2 x3 x4 x5 x6 x7 x8 x9 x10 x11 x12 x13 x14 x15 x16 x17 x18 x19 x20 x21 x22 x23 x24 x25 x26 x28 x29 x30 x31 x32 x33 x34 x35 x36 p m1 m2 m3 m4 m5 n1 n2 n3 n4 n5}
    (h : Keeps F a (State.mk x0 x1 x2 x3 x4 x5 x6 x7 x8 x9 x10 x11 x12 x13 x14 x15 x16 x17 x18 x19 x20 x21 x22 x23 x24 x25 x26 (Mem.mk p m1 m2 m3 m4 m5) x28 x29 x30 x31 x32 x33 x34 x35 x36)) :
    Keeps F a (State.mk x0 x1 x2 x3 x4 x5 x6 x7 x8 x9 x10 x11 x12 x13 x14 x15 x16 x17 x18 x19 x20 x21 x22 x23 x24 x25 x26 (Mem.mk p n1 n2 n3 n4 n5) x28 x29 x30 x31 x32 x33 x34 x35 x36) :=
  ⟨h.queue, h.regs, h.pool, h.out, h.ident, h.free, fun p hp => by
    cases p <;> first | exact h.frame _ hp | exact absurd (bit_of_sub (n := 27) f) (by rw [show F.testBit 27 = false from hp]; decide)⟩

theorem Keeps.set_noc (f : 8589934592 &&& F = 8589934592) {x0 x1 x2 x3 x4 x5 x6 x7 x8 x9 x10 x11 x12 x13 x14 x15 x16 x17 x18 x19 x20 x21 x22 x23 x24 x25 x26 x27 x28 x29 x30 x31 x32 x33 x34 x35 x36 y}
    (h : Keeps F a (State.mk x0 x1 x2 x3 x4 x5 x6 x7 x8 x9 x10 x11 x12 x13 x14 x15 x16 x17 x18 x19 x20 x21 x22 x23 x24 x25 x26 x27 x28 x29 x30 x31 x32 x33 x34 x35 x36)) :
    Keeps F a (State.mk x0 x1 x2 x3 x4 x5 x6 x7 x8 x9 x10 x11 x12 x13 x14 x15 x16 x17 x18 x19 x20 x21 x22 x23 x24 x25 x26 x27 y x29 x30 x31 x32 x33 x34 x35 x36) :=
  ⟨h.queue, h.regs, h.pool, h.out, h.ident, h.free, fun p hp => by
    cases p <;> first | exact h.frame _ hp | exact absurd (bit_of_sub (n := 33) f) (by rw [show F.testBit 33 = false from hp]; decide)⟩

theorem Keeps.set_cleats (f : 536870912 &&& F = 536870912) {x0 x1 x2 x3 x4 x5 x6 x7 x8 x9 x10 x11 x12 x13 x14 x15 x16 x17 x18 x19 x20 x21 x22 x23 x24 x25 x26 x27 x28 x29 x30 x31 x32 x33 x34 x35 x36 y}
    (h : Keeps F a (State.mk x0 x1 x2 x3 x4 x5 x6 x7 x8 x9 x10 x11 x12 x13 x14 x15 x16 x17 x18 x19 x20 x21 x22 x23 x24 x25 x26 x27 x28 x29 x30 x31 x32 x33 x34 x35 x36)) :
    Keeps F a (State.mk x0 x1 x2 x3 x4 x5 x6 x7 x8 x9 x10 x11 x12 x13 x14 x15 x16 x17 x18 x19 x20 x21 x22 x23 x24 x25 x26 x27 x28 y x30 x31 x32 x33 x34 x35 x36) :=
  ⟨h.queue, h.regs, h.pool, h.out, h.ident, h.free, fun p hp => by
    cases p <;> first | exact h.frame _ hp | exact absurd (bit_of_sub (n := 29) f) (by rw [show F.testBit 29 = false from hp]; decide)⟩

theorem Keeps.set_stalls (f : 1073741824 &&& F = 1073741824) {x0 x1 x2 x3 x4 x5 x6 x7 x8 x9 x10 x11 x12 x13 x14 x15 x16 x17 x18 x19 x20 x21 x22 x23 x24 x25 x26 x27 x28 x29 x30 x31 x32 x33 x34 x35 x36 y}
    (h : Keeps F a (State.mk x0 x1 x2 x3 x4 x5 x6 x7 x8 x9 x10 x11 x12 x13 x14 x15 x16 x17 x18 x19 x20 x21 x22 x23 x24 x25 x26 x27 x28 x29 x30 x31 x32 x33 x34 x35 x36)) :
    Keeps F a (State.mk x0 x1 x2 x3 x4 x5 x6 x7 x8 x9 x10 x11 x12 x13 x14 x15 x16 x17 x18 x19 x20 x21 x22 x23 x24 x25 x26 x27 x28 x29 y x31 x32 x33 x34 x35 x36) :=
  ⟨h.queue, h.regs, h.pool, h.out, h.ident, h.free, fun p hp => by
    cases p <;> first | exact h.frame _ hp | exact absurd (bit_of_sub (n := 30) f) (by rw [show F.testBit 30 = false from hp]; decide)⟩

theorem Keeps.set_lany (f : 2147483648 &&& F = 2147483648) {x0 x1 x2 x3 x4 x5 x6 x7 x8 x9 x10 x11 x12 x13 x14 x15 x16 x17 x18 x19 x20 x21 x22 x23 x24 x25 x26 x27 x28 x29 x30 x31 x32 x33 x34 x35 x36 y}
    (h : Keeps F a (State.mk x0 x1 x2 x3 x4 x5 x6 x7 x8 x9 x10 x11 x12 x13 x14 x15 x16 x17 x18 x19 x20 x21 x22 x23 x24 x25 x26 x27 x28 x29 x30 x31 x32 x33 x34 x35 x36)) :
    Keeps F a (State.mk x0 x1 x2 x3 x4 x5 x6 x7 x8 x9 x10 x11 x12 x13 x14 x15 x16 x17 x18 x19 x20 x21 x22 x23 x24 x25 x26 x27 x28 x29 x30 y x32 x33 x34 x35 x36) :=
  ⟨h.queue, h.regs, h.pool, h.out, h.ident, h.free, fun p hp => by
    cases p <;> first | exact h.frame _ hp | exact absurd (bit_of_sub (n := 31) f) (by rw [show F.testBit 31 = false from hp]; decide)⟩

theorem Keeps.set_trig (f : 4294967296 &&& F = 4294967296) {x0 x1 x2 x3 x4 x5 x6 x7 x8 x9 x10 x11 x12 x13 x14 x15 x16 x17 x18 x19 x20 x21 x22 x23 x24 x25 x26 x27 x28 x29 x30 x31 x32 x33 x34 x35 x36 y}
    (h : Keeps F a (State.mk x0 x1 x2 x3 x4 x5 x6 x7 x8 x9 x10 x11 x12 x13 x14 x15 x16 x17 x18 x19 x20 x21 x22 x23 x24 x25 x26 x27 x28 x29 x30 x31 x32 x33 x34 x35 x36)) :
    Keeps F a (State.mk x0 x1 x2 x3 x4 x5 x6 x7 x8 x9 x10 x11 x12 x13 x14 x15 x16 x17 x18 x19 x20 x21 x22 x23 x24 x25 x26 x27 x28 x29 x30 x31 y x33 x34 x35 x36) :=
  ⟨h.queue, h.regs, h.pool, h.out, h.ident, h.free, fun p hp => by
    cases p <;> first | exact h.frame _ hp | exact absurd (bit_of_sub (n := 32) f) (by rw [show F.testBit 32 = false from hp]; decide)⟩

/-- Free values taken. -/
theorem Keeps.add_freeCtr {x0 x1 x2 x3 x4 x5 x6 x7 x8 x9 x10 x11 x12 x13 x14 x15 x16 x17 x18 x19 x20 x21 x22 x23 x24 x25 x26 x27 x28 x29 x30 x31 x32 x33 x34 x35 x36 n}
    (h : Keeps F a (State.mk x0 x1 x2 x3 x4 x5 x6 x7 x8 x9 x10 x11 x12 x13 x14 x15 x16 x17 x18 x19 x20 x21 x22 x23 x24 x25 x26 x27 x28 x29 x30 x31 x32 x33 x34 x35 x36)) :
    Keeps F a (State.mk x0 x1 x2 x3 x4 x5 x6 x7 x8 x9 x10 x11 x12 x13 x14 x15 x16 x17 x18 x19 x20 x21 x22 x23 x24 x25 x26 x27 x28 x29 x30 x31 x32 x33 (x34 + n) x35 x36) :=
  ⟨h.queue, h.regs, h.pool, h.out, h.ident, Nat.le_trans h.free (Nat.le_add_right _ _), fun p hp => by cases p <;> exact h.frame _ hp⟩

theorem Keeps.eta {s : State} (h : Keeps F a s) : Keeps F a (State.mk s.regs s.orig s.latches s.heldLo s.pwr s.psto s.tick s.zyn s.jrnl s.relia s.fw s.svc s.lanes s.lports s.spares s.links s.tiles s.route s.xpts s.wins s.mwus s.vis s.hostCfg s.hostRr s.hostAts s.groups s.creations s.mem s.noc s.cleats s.stalls s.lany s.trig s.nextId s.freeCtr s.out s.pending) := h

theorem Keeps.etaMem {s : State} (h : Keeps F a s) : Keeps F a (State.mk s.regs s.orig s.latches s.heldLo s.pwr s.psto s.tick s.zyn s.jrnl s.relia s.fw s.svc s.lanes s.lports s.spares s.links s.tiles s.route s.xpts s.wins s.mwus s.vis s.hostCfg s.hostRr s.hostAts s.groups s.creations (Mem.mk s.mem.pool s.mem.filter s.mem.snoops s.mem.part s.mem.poisoned s.mem.atc) s.noc s.cleats s.stalls s.lany s.trig s.nextId s.freeCtr s.out s.pending) := h

/-- The pool of one state with the rest of another. -/
theorem Keeps.etaPool (f : 134217728 &&& F = 134217728) {s t : State} {m1 m2 m3 m4 m5} (h : Keeps F a s) (k : Keeps F a t) :
    Keeps F a (State.mk s.regs s.orig s.latches s.heldLo s.pwr s.psto s.tick s.zyn s.jrnl s.relia s.fw s.svc s.lanes s.lports s.spares s.links s.tiles s.route s.xpts s.wins s.mwus s.vis s.hostCfg s.hostRr s.hostAts s.groups s.creations (Mem.mk t.mem.pool m1 m2 m3 m4 m5) s.noc s.cleats s.stalls s.lany s.trig s.nextId s.freeCtr s.out s.pending) :=
  ⟨h.queue, h.regs, k.pool, h.out, h.ident, h.free, fun p hp => by
    cases p <;> first | exact h.frame _ hp | exact k.frame _ hp |
      exact absurd (bit_of_sub (n := 27) f) (by rw [show F.testBit 27 = false from hp]; decide)⟩

/-- The mask of all components but the power state and the persistent store. -/
theorem most_mask (fm : 17179869135 &&& F = 17179869135) (n : Nat) (hn : Nat.testBit 17179869135 n = true) : F.testBit n = true := by
  have h := congrArg (Nat.testBit · n) fm
  simpa [Nat.testBit_and, hn] using h

/-! Folds and pairs. -/

theorem Keeps.fold {α : Type} {f : State → α → State} {l : List α} {s : State} (h : Keeps F a s)
    (hf : ∀ t x, Keeps F a t → Keeps F a (f t x)) : Keeps F a (l.foldl f s) := by
  induction l generalizing s with
  | nil => exact h
  | cons x l ih => exact ih (hf _ _ h)

theorem Keeps.foldFst {α β : Type} {f : State × β → α → State × β} {l : List α} {p : State × β} (h : Keeps F a p.1)
    (hf : ∀ q x, Keeps F a q.1 → Keeps F a (f q x).1) : Keeps F a (l.foldl f p).1 := by
  induction l generalizing p with
  | nil => exact h
  | cons x l ih => exact ih (hf _ _ h)

theorem Keeps.foldSnd {α β : Type} {f : β × State → α → β × State} {l : List α} {p : β × State} (h : Keeps F a p.2)
    (hf : ∀ q x, Keeps F a q.2 → Keeps F a (f q x).2) : Keeps F a (l.foldl f p).2 := by
  induction l generalizing p with
  | nil => exact h
  | cons x l ih => exact ih (hf _ _ h)

theorem Keeps.fst {β : Type} {t : State} {u : β} {p : State × β} (h : Keeps F a p.1) (e : p = (t, u)) : Keeps F a t := by
  subst e; exact h

theorem Keeps.snd {β : Type} {t : State} {u : β} {p : β × State} (h : Keeps F a p.2) (e : p = (u, t)) : Keeps F a t := by
  subst e; exact h

theorem Keeps.thd {β γ : Type} {t : State} {u : β} {v : γ} {p : β × γ × State} (h : Keeps F a p.2.2) (e : p = (u, v, t)) : Keeps F a t := by
  subst e; exact h

theorem Keeps.refl {s : State} (hr : Registers.wf s.regs = true) (hp : Memory.wf s.mem = true) : Keeps F s s :=
  ⟨rfl, hr, hp, List.prefix_refl _, Nat.le_refl _, Nat.le_refl _, fun p _ => by cases p <;> simp [Component.same]⟩

/-- Another register table, in its canonical form. -/
theorem Keeps.ofRegs (f : 1 &&& F = 1) {s : State} (h : Keeps F a s) {r : Tab Word} (hr : Registers.wf r = true) :
    Keeps F a { s with regs := r } :=
  ⟨h.queue, hr, h.pool, h.out, h.ident, h.free, fun p hp => by
    cases p <;> first | exact h.frame _ hp | exact absurd (bit_of_sub (n := 0) f) (by rw [show F.testBit 0 = false from hp]; decide)⟩

theorem State.setReg_keeps (f : 1 &&& F = 1) {s : State} (h : Keeps F a s) {x1 x2} : Keeps F a (State.setReg s x1 x2) :=
  Keeps.ofRegs f h (Tab.wf_set h.regs _ _)

theorem State.resetRegs_keeps (f : 1 &&& F = 1) {s : State} (h : Keeps F a s) {x1} : Keeps F a (State.resetRegs s x1) :=
  Keeps.ofRegs f h (Tab.wf_mapKV h.regs _)

theorem State.emit_keeps {s : State} (h : Keeps F a s) {x1} : Keeps F a (State.emit s x1) :=
  ⟨h.queue, h.regs, h.pool, h.out.trans (List.prefix_append _ _), h.ident, h.free, fun p hp => by cases p <;> exact h.frame _ hp⟩

theorem State.free_keeps {s : State} (h : Keeps F a s) : Keeps F a (State.free s).2 :=
  ⟨h.queue, h.regs, h.pool, h.out, h.ident, Nat.le_succ_of_le h.free, fun p hp => by cases p <;> exact h.frame _ hp⟩

theorem State.fresh_keeps {s : State} (h : Keeps F a s) : Keeps F a (State.fresh s).2 :=
  ⟨h.queue, h.regs, h.pool, h.out, Nat.le_succ_of_le h.ident, h.free, fun p hp => by cases p <;> exact h.frame _ hp⟩

end Sys2Proof.Machine
end

