-- ==== Sys2Proof/Laws/KeepsRegisters.lean ====
section
/-! SUPPORT. The register operations, the rings, the shapers, virtual instances, Zynken replies, route rows, self-tests, lanes and the switch keep what `Keeps` says: one lemma per operation, named after it. -/

-- one declaration after another: the threads of parallel elaboration would take the stack of each
set_option Elab.async false

namespace Sys2Proof.Machine

theorem State.put_keeps {F a} {s1 : State} {x2 x3 x4} (fm : 1 &&& F = 1) (h1 : Keeps F a s1) : Keeps F a (@State.put s1 x2 x3 x4) := by
  unfold State.put
  exact State.setReg_keeps (sub fm) ‹_›

theorem State.put64_keeps {F a} {s1 : State} {x2 x3 x4} (fm : 1 &&& F = 1) (h1 : Keeps F a s1) : Keeps F a (@State.put64 s1 x2 x3 x4) := by
  unfold State.put64
  exact State.put_keeps (sub fm) (State.put_keeps (sub fm) ‹_›)

theorem State.putCtr_keeps {F a} {s1 : State} {x2 x3 x4} (fm : 1 &&& F = 1) (h1 : Keeps F a s1) : Keeps F a (@State.putCtr s1 x2 x3 x4) := by
  unfold State.putCtr
  exact State.put64_keeps (sub fm) ‹_›

theorem State.fput_keeps {F a} {s1 : State} {x2 x3 x4 x5 x6} (fm : 1 &&& F = 1) (h1 : Keeps F a s1) : Keeps F a (@State.fput s1 x2 x3 x4 x5 x6) := by
  unfold State.fput
  exact State.put_keeps (sub fm) ‹_›

theorem State.bput_keeps {F a} {s1 : State} {x2 x3 x4 x5} (fm : 1 &&& F = 1) (h1 : Keeps F a s1) : Keeps F a (@State.bput s1 x2 x3 x4 x5) := by
  unfold State.bput
  exact State.fput_keeps (sub fm) ‹_›

theorem State.addCtr_keeps {F a} {x1 x2 x3 x4 x5} {s6 : State} (fm : 1 &&& F = 1) (h6 : Keeps F a s6) : Keeps F a (@State.addCtr x1 x2 x3 x4 x5 s6) := by
  induction x3 generalizing x1 x2 x4 x5 s6
  · unfold State.addCtr
    assumption
  · rename_i v1 ih
    unfold State.addCtr
    dsimp only
    split
    · exact State.putCtr_keeps (sub fm) ‹_›
    · split
      · apply ih
        exact State.putCtr_keeps (sub fm) ‹_›
      · exact State.bput_keeps (sub fm) (State.putCtr_keeps (sub fm) ‹_›)

theorem State.bump_keeps {F a} {s1 : State} {x2 x3 x4} (fm : 1 &&& F = 1) (h1 : Keeps F a s1) : Keeps F a (@State.bump s1 x2 x3 x4) := by
  unfold State.bump
  split
  · assumption
  · split
    · assumption
    · exact State.addCtr_keeps (sub fm) ‹_›

theorem State.mirrorOut_keeps {F a} {s1 : State} {x2} (fm : 256 &&& F = 256) (h1 : Keeps F a s1) : Keeps F a (@State.mirrorOut s1 x2) := by
  unfold State.mirrorOut
  dsimp only
  exact Keeps.set_jrnl (sub fm) (Keeps.eta ‹_›)

theorem State.keepRec_keeps {F a} {s1 : State} {x2} (fm : 256 &&& F = 256) (h1 : Keeps F a s1) : Keeps F a (@State.keepRec s1 x2) := by
  unfold State.keepRec
  dsimp only
  split
  · exact Keeps.set_jrnl (sub fm) (Keeps.eta ‹_›)
  · split
    · exact Keeps.set_jrnl (sub fm) (Keeps.eta ‹_›)
    · exact Keeps.set_jrnl (sub fm) (Keeps.eta ‹_›)

theorem State.record_keeps {F a} {s1 : State} {x2} (fm : 256 &&& F = 256) (h1 : Keeps F a s1) : Keeps F a (@State.record s1 x2) := by
  unfold State.record
  exact State.mirrorOut_keeps (sub fm) (State.keepRec_keeps (sub fm) ‹_›)

theorem State.record3_keeps {F a} {s1 : State} {x2 x3 x4 x5} (fm : 256 &&& F = 256) (h1 : Keeps F a s1) : Keeps F a (@State.record3 s1 x2 x3 x4 x5) := by
  unfold State.record3
  exact State.record_keeps (sub fm) ‹_›

theorem State.setSvc_keeps {F a} {s1 : State} {x2 x3} (fm : 257 &&& F = 257) (h1 : Keeps F a s1) : Keeps F a (@State.setSvc s1 x2 x3) := by
  unfold State.setSvc
  dsimp only
  split
  · assumption
  · exact State.record3_keeps (sub fm) (State.fput_keeps (sub fm) ‹_›)

theorem State.pfEvent_keeps {F a} {s1 : State} {x2 x3} (fm : 1 &&& F = 1) (h1 : Keeps F a s1) : Keeps F a (@State.pfEvent s1 x2 x3) := by
  unfold State.pfEvent
  dsimp only
  split
  · exact State.bput_keeps (sub fm) ‹_›
  · exact State.emit_keeps (State.bput_keeps (sub fm) ‹_›)

theorem idleCycle_keeps {F a} {s1 : State} (fm : 64 &&& F = 64) (h1 : Keeps F a s1) : Keeps F a (@idleCycle s1) := by
  unfold idleCycle
  dsimp only
  split
  · exact Keeps.set_tick (sub fm) (Keeps.eta ‹_›)
  · assumption

theorem State.hostWriteAttr_keeps {F a} {s1 : State} {x2 x3 x4 x5} (fm : 1 &&& F = 1) (h1 : Keeps F a s1) : Keeps F a (@State.hostWriteAttr s1 x2 x3 x4 x5) := by
  unfold State.hostWriteAttr
  split
  · assumption
  · exact State.bump_keeps (sub fm) (State.emit_keeps ‹_›)

theorem State.satAdd_keeps {F a} {s1 : State} {x2 x3 x4 x5 x6} (fm : 1 &&& F = 1) (h1 : Keeps F a s1) : Keeps F a (@State.satAdd s1 x2 x3 x4 x5 x6) := by
  unfold State.satAdd
  exact State.fput_keeps (sub fm) ‹_›

theorem State.event_keeps {F a} {s1 : State} {x2 x3}  (h1 : Keeps F a s1) : Keeps F a (@State.event s1 x2 x3) := by
  unfold State.event
  exact State.emit_keeps ‹_›

theorem State.raise_keeps {F a} {s1 : State} {x2 x3} (fm : 1 &&& F = 1) (h1 : Keeps F a s1) : Keeps F a (@State.raise s1 x2 x3) := by
  unfold State.raise
  dsimp only
  split
  · exact State.satAdd_keeps (sub fm) (State.bput_keeps (sub fm) ‹_›)
  · exact State.event_keeps (State.satAdd_keeps (sub fm) (State.bput_keeps (sub fm) ‹_›))

theorem State.hostWrite_keeps {F a} {s1 : State} {x2 x3 x4} (fm : 1 &&& F = 1) (h1 : Keeps F a s1) : Keeps F a (@State.hostWrite s1 x2 x3 x4) := by
  unfold State.hostWrite
  exact State.hostWriteAttr_keeps (sub fm) ‹_›

theorem State.chg_keeps {F a} {s1 : State} {x2} (fm : 1 &&& F = 1) (h1 : Keeps F a s1) : Keeps F a (@State.chg s1 x2) := by
  unfold State.chg
  exact State.put_keeps (sub fm) (State.put_keeps (sub fm) ‹_›)

theorem State.bumpVf_keeps {F a} {s1 : State} {x2 x3 x4} (fm : 1 &&& F = 1) (h1 : Keeps F a s1) : Keeps F a (@State.bumpVf s1 x2 x3 x4) := by
  unfold State.bumpVf
  exact State.bump_keeps (sub fm) ‹_›

theorem State.nocWaits_keeps {F a} {s1 : State} (fm : 8589934593 &&& F = 8589934593) (h1 : Keeps F a s1) : Keeps F a (@State.nocWaits s1) := by
  unfold State.nocWaits
  dsimp only
  refine Keeps.fold ?_ ?_
  · exact Keeps.set_noc (sub fm) (Keeps.eta ‹_›)
  · intro t1 t2 k3
    split
    · assumption
    · exact State.bump_keeps (sub fm) ‹_›

theorem State.nocSend_keeps {F a} {s1 : State} {x2 x3 x4 x5 x6} (fm : 8589934592 &&& F = 8589934592) (h1 : Keeps F a s1) : Keeps F a (@State.nocSend s1 x2 x3 x4 x5 x6) := by
  unfold State.nocSend
  dsimp only
  exact Keeps.set_noc (sub fm) (Keeps.eta ‹_›)

theorem State.updNocTxn_keeps {F a} {s1 : State} {x2 x3} (fm : 8589934592 &&& F = 8589934592) (h1 : Keeps F a s1) : Keeps F a (@State.updNocTxn s1 x2 x3) := by
  unfold State.updNocTxn
  dsimp only
  exact Keeps.set_noc (sub fm) (Keeps.eta ‹_›)

theorem State.nocServed_keeps {F a} {s1 : State} {x2} (fm : 8589934592 &&& F = 8589934592) (h1 : Keeps F a s1) : Keeps F a (@State.nocServed s1 x2) := by
  unfold State.nocServed
  split
  · exact State.nocSend_keeps (sub fm) (State.updNocTxn_keeps (sub fm) ‹_›)
  · exact State.nocSend_keeps (sub fm) (State.updNocTxn_keeps (sub fm) ‹_›)

theorem State.nocServe_keeps {F a} {s1 : State} {x2} (fm : 8589934592 &&& F = 8589934592) (h1 : Keeps F a s1) : Keeps F a (@State.nocServe s1 x2) := by
  unfold State.nocServe
  split
  · exact State.updNocTxn_keeps (sub fm) ‹_›
  · exact State.nocServed_keeps (sub fm) ‹_›

theorem State.nocDone_keeps {F a} {s1 : State} {x2} (fm : 8589934593 &&& F = 8589934593) (h1 : Keeps F a s1) : Keeps F a (@State.nocDone s1 x2) := by
  unfold State.nocDone
  dsimp only
  split
  · exact Keeps.set_noc (sub fm) (Keeps.eta ‹_›)
  · exact State.bump_keeps (sub fm) (State.bump_keeps (sub fm) (State.bump_keeps (sub fm) (State.bump_keeps (sub fm) (State.free_keeps (Keeps.set_noc (sub fm) (Keeps.eta ‹_›))))))

theorem State.nocArrive_keeps {F a} {s1 : State} {x2} (fm : 8589934593 &&& F = 8589934593) (h1 : Keeps F a s1) : Keeps F a (@State.nocArrive s1 x2) := by
  unfold State.nocArrive
  dsimp only
  split
  · refine State.nocSend_keeps (sub fm) (Keeps.set_noc (sub fm) (Keeps.eta ?_))
    split
    · exact Keeps.set_noc (sub fm) (Keeps.eta ‹_›)
    · assumption
  · split
    · split
      · exact Keeps.set_noc (sub fm) (Keeps.eta (Keeps.set_noc (sub fm) (Keeps.eta ‹_›)))
      · exact Keeps.set_noc (sub fm) (Keeps.eta ‹_›)
    · split
      · exact Keeps.set_noc (sub fm) (Keeps.eta ‹_›)
      · assumption
  · refine Keeps.set_noc (sub fm) (Keeps.eta ?_)
    split
    · exact Keeps.set_noc (sub fm) (Keeps.eta ‹_›)
    · assumption
  · split
    · exact Keeps.set_noc (sub fm) (Keeps.eta ‹_›)
    · assumption
  · split
    · exact Keeps.set_noc (sub fm) (Keeps.eta ‹_›)
    · assumption
  · split
    · exact Keeps.set_noc (sub fm) (Keeps.eta ‹_›)
    · assumption
  · split
    · split
      · exact Keeps.set_noc (sub fm) (Keeps.eta ‹_›)
      · assumption
    · split
      · split
        · refine State.nocSend_keeps (sub fm) (State.updNocTxn_keeps (sub fm) ?_)
          split
          · exact Keeps.set_noc (sub fm) (Keeps.eta ‹_›)
          · assumption
        · refine State.nocServe_keeps (sub fm) ?_
          split
          · exact Keeps.set_noc (sub fm) (Keeps.eta ‹_›)
          · assumption
      · refine State.nocSend_keeps (sub fm) (State.updNocTxn_keeps (sub fm) ?_)
        split
        · exact Keeps.set_noc (sub fm) (Keeps.eta ‹_›)
        · assumption
      · refine State.nocServe_keeps (sub fm) ?_
        split
        · exact Keeps.set_noc (sub fm) (Keeps.eta ‹_›)
        · assumption
      · refine State.nocSend_keeps (sub fm) (State.updNocTxn_keeps (sub fm) ?_)
        split
        · exact Keeps.set_noc (sub fm) (Keeps.eta ‹_›)
        · assumption
      · refine State.nocDone_keeps (sub fm) ?_
        split
        · exact Keeps.set_noc (sub fm) (Keeps.eta ‹_›)
        · assumption
      · split
        · exact Keeps.set_noc (sub fm) (Keeps.eta ‹_›)
        · assumption

theorem State.nocTick_keeps {F a} {s1 : State} (fm : 8589934593 &&& F = 8589934593) (h1 : Keeps F a s1) : Keeps F a (@State.nocTick s1) := by
  unfold State.nocTick
  dsimp only
  refine State.nocWaits_keeps (sub fm) ?_
  refine Keeps.fold ?_ ?_
  · exact Keeps.set_noc (sub fm) (Keeps.eta ‹_›)
  · intro t1 t2 k3
    exact State.nocArrive_keeps (sub fm) ‹_›

theorem State.nocRun_keeps {F a} {x1 x2} {s3 : State} (fm : 8589934593 &&& F = 8589934593) (h3 : Keeps F a s3) : Keeps F a (@State.nocRun x1 x2 s3) := by
  induction x1 generalizing x2 s3
  · unfold State.nocRun
    assumption
  · rename_i v1 ih
    unfold State.nocRun
    split
    · split
      · apply ih
        exact State.nocTick_keeps (sub fm) ‹_›
      · assumption
    · split
      · apply ih
        exact State.nocTick_keeps (sub fm) ‹_›
      · assumption

theorem State.nocWait_keeps {F a} {s1 : State} {x2 x3 x4} (fm : 8589934592 &&& F = 8589934592) (h1 : Keeps F a s1) : Keeps F a (@State.nocWait s1 x2 x3 x4) := by
  unfold State.nocWait
  dsimp only
  split
  · assumption
  · exact Keeps.set_noc (sub fm) (Keeps.eta ‹_›)

theorem State.nocSlot_keeps {F a} {s1 : State} {x2 x3 x4} (fm : 8589934593 &&& F = 8589934593) (h1 : Keeps F a s1) : Keeps F a (@State.nocSlot s1 x2 x3 x4).2 := by
  unfold State.nocSlot
  dsimp only
  split
  · dsimp only
    assumption
  · split
    · dsimp only
      exact State.nocRun_keeps (sub fm) ‹_›
    · dsimp only
      exact State.nocWait_keeps (sub fm) (State.nocRun_keeps (sub fm) ‹_›)

theorem State.nocAsk_keeps {F a} {s1 : State} {x2 x3 x4 x5 x6 x7} (fm : 8589934592 &&& F = 8589934592) (h1 : Keeps F a s1) : Keeps F a (@State.nocAsk s1 x2 x3 x4 x5 x6 x7).2 := by
  unfold State.nocAsk
  dsimp only
  exact State.nocSend_keeps (sub fm) (Keeps.set_noc (sub fm) (Keeps.eta (State.fresh_keeps ‹_›)))

theorem State.nocOne_keeps {F a} {s1 : State} {x2 x3 x4 x5 x6} (fm : 8589934593 &&& F = 8589934593) (h1 : Keeps F a s1) : Keeps F a (@State.nocOne s1 x2 x3 x4 x5 x6) := by
  unfold State.nocOne
  dsimp only
  split
  · exact State.nocRun_keeps (sub fm) (State.nocAsk_keeps (sub fm) (State.nocSlot_keeps (sub fm) ‹_›))
  · exact State.nocSlot_keeps (sub fm) ‹_›

theorem State.nocRecall_keeps {F a} {s1 : State} {x2} (fm : 8589934592 &&& F = 8589934592) (h1 : Keeps F a s1) : Keeps F a (@State.nocRecall s1 x2) := by
  unfold State.nocRecall
  dsimp only
  split
  · assumption
  · refine Keeps.fold ?_ ?_
    · exact Keeps.set_noc (sub fm) (Keeps.eta ‹_›)
    · intro t3 t4 k5
      exact State.nocSend_keeps (sub fm) ‹_›

theorem State.nocHand_keeps {F a} {s1 : State} {x2 x3 x4 x5 x6 x7} (fm : 8589934593 &&& F = 8589934593) (h1 : Keeps F a s1) : Keeps F a (@State.nocHand s1 x2 x3 x4 x5 x6 x7).2 := by
  unfold State.nocHand
  dsimp only
  split
  · dsimp only
    exact State.nocRun_keeps (sub fm) (State.nocAsk_keeps (sub fm) (State.nocSlot_keeps (sub fm) ‹_›))
  · dsimp only
    exact State.nocSlot_keeps (sub fm) ‹_›

theorem State.nocTxn_keeps {F a} {s1 : State} {x2 x3 x4 x5 x6} (fm : 8589934593 &&& F = 8589934593) (h1 : Keeps F a s1) : Keeps F a (@State.nocTxn s1 x2 x3 x4 x5 x6) := by
  unfold State.nocTxn
  refine Keeps.fold ?_ ?_
  · assumption
  · intro t1 t2 k3
    exact State.nocOne_keeps (sub fm) ‹_›

theorem State.nocGrant_keeps {F a} {s1 : State} {x2} (fm : 8589934592 &&& F = 8589934592) (h1 : Keeps F a s1) : Keeps F a (@State.nocGrant s1 x2) := by
  unfold State.nocGrant
  dsimp only
  split
  · refine Keeps.fold ?_ ?_
    · exact Keeps.set_noc (sub fm) (Keeps.eta ‹_›)
    · intro t2 t3 k4
      exact State.nocSend_keeps (sub fm) ‹_›
  · assumption

theorem State.nocAnswer_keeps {F a} {s1 : State} {x2} (fm : 8589934592 &&& F = 8589934592) (h1 : Keeps F a s1) : Keeps F a (@State.nocAnswer s1 x2) := by
  unfold State.nocAnswer
  split
  · exact State.nocServed_keeps (sub fm) (State.updNocTxn_keeps (sub fm) ‹_›)
  · assumption

theorem State.refillOne_keeps {F a} {s1 : State} {x2 x3 x4} (fm : 1 &&& F = 1) (h1 : Keeps F a s1) : Keeps F a (@State.refillOne s1 x2 x3 x4) := by
  unfold State.refillOne
  exact State.put_keeps (sub fm) ‹_›

theorem State.refillTo_keeps {F a} {s1 : State} {x2} (fm : 65 &&& F = 65) (h1 : Keeps F a s1) : Keeps F a (@State.refillTo s1 x2) := by
  unfold State.refillTo
  dsimp only
  split
  · assumption
  · split
    · exact Keeps.set_tick (sub fm) (Keeps.eta ‹_›)
    · split
      · assumption
      · refine Keeps.set_tick (sub fm) (Keeps.eta ?_)
        refine Keeps.fold ?_ ?_
        · refine Keeps.fold ?_ ?_
          · assumption
          · intro t11 t12 k13
            exact State.refillOne_keeps (sub fm) ‹_›
        · intro t14 t15 k16
          exact State.refillOne_keeps (sub fm) ‹_›

theorem State.refillJob_keeps {F a} {s1 : State} (fm : 65 &&& F = 65) (h1 : Keeps F a s1) : Keeps F a (@State.refillJob s1) := by
  unfold State.refillJob
  dsimp only
  exact State.refillTo_keeps (sub fm) (Keeps.set_tick (sub fm) (Keeps.eta ‹_›))

theorem State.updVi_keeps {F a} {s1 : State} {x2 x3} (fm : 2097152 &&& F = 2097152) (h1 : Keeps F a s1) : Keeps F a (@State.updVi s1 x2 x3) := by
  unfold State.updVi
  exact Keeps.set_vis (sub fm) (Keeps.eta ‹_›)

theorem State.writePieces_keeps {F a} {s1 : State} {x2 x3 x4} (fm : 1 &&& F = 1) (h1 : Keeps F a s1) : Keeps F a (@State.writePieces s1 x2 x3 x4) := by
  induction x3 generalizing s1 x2 x4
  · unfold State.writePieces
    assumption
  · rename_i v1 v2 ih
    unfold State.writePieces
    dsimp only
    apply ih
    exact State.hostWriteAttr_keeps (sub fm) ‹_›

theorem State.atsFill_keeps {F a} {s1 : State} {x2 x3} (fm : 134217729 &&& F = 134217729) (h1 : Keeps F a s1) : Keeps F a (@State.atsFill s1 x2 x3) := by
  unfold State.atsFill
  dsimp only
  split
  · assumption
  · refine Keeps.fold ?_ ?_
    · assumption
    · intro t3 t4 k5
      split
      · assumption
      · refine Keeps.etaPool (sub fm) ?_ ?_
        · exact State.bump_keeps (sub fm) ‹_›
        · assumption

theorem State.viWrite_keeps {F a} {s1 : State} {x2 x3 x4 x5} (fm : 134217729 &&& F = 134217729) (h1 : Keeps F a s1) {r} (e : @State.viWrite s1 x2 x3 x4 x5 = .ok r) : Keeps F a (r) := by
  unfold State.viWrite at e
  split at e
  · rw [← Except.ok.inj e]
    exact State.writePieces_keeps (sub fm) (State.atsFill_keeps (sub fm) ‹_›)
  · cases e

theorem State.updCq_keeps {F a} {s1 : State} {x2 x3 x4} (fm : 2097152 &&& F = 2097152) (h1 : Keeps F a s1) : Keeps F a (@State.updCq s1 x2 x3 x4) := by
  unfold State.updCq
  exact State.updVi_keeps (sub fm) ‹_›

theorem State.countEntry_keeps {F a} {s1 : State} {x2 x3} (fm : 1 &&& F = 1) (h1 : Keeps F a s1) : Keeps F a (@State.countEntry s1 x2 x3) := by
  unfold State.countEntry
  split
  · exact State.bumpVf_keeps (sub fm) (State.bumpVf_keeps (sub fm) (State.bump_keeps (sub fm) ‹_›))
  · exact State.bumpVf_keeps (sub fm) (State.bump_keeps (sub fm) ‹_›)

theorem State.putEntry_keeps {F a} {s1 : State} {x2 x3 x4} (fm : 136314881 &&& F = 136314881) (h1 : Keeps F a s1) : Keeps F a (@State.putEntry s1 x2 x3 x4) := by
  unfold State.putEntry
  dsimp only
  split
  · exact State.raise_keeps (sub fm) (State.updCq_keeps (sub fm) ‹_›)
  · rename_i v4 v5 v6
    split
    · refine State.emit_keeps (State.updCq_keeps (sub fm) (State.updCq_keeps (sub fm) (State.countEntry_keeps (sub fm) ?_)))
      refine (State.viWrite_keeps (sub fm) ?_ v6 : _)
      assumption
    · refine State.updCq_keeps (sub fm) (State.countEntry_keeps (sub fm) ?_)
      refine (State.viWrite_keeps (sub fm) ?_ v6 : _)
      assumption

theorem State.putCompletion_keeps {F a} {s1 : State} {x2 x3 x4} (fm : 136314881 &&& F = 136314881) (h1 : Keeps F a s1) : Keeps F a (@State.putCompletion s1 x2 x3 x4) := by
  unfold State.putCompletion
  dsimp only
  exact State.putEntry_keeps (sub fm) ‹_›

theorem State.postCompletion_keeps {F a} {s1 : State} {x2 x3 x4} (fm : 136314881 &&& F = 136314881) (h1 : Keeps F a s1) : Keeps F a (@State.postCompletion s1 x2 x3 x4) := by
  unfold State.postCompletion
  split
  · assumption
  · split
    · exact State.bump_keeps (sub fm) ‹_›
    · split
      · exact State.updVi_keeps (sub fm) ‹_›
      · exact State.putCompletion_keeps (sub fm) ‹_›

theorem State.updChain_keeps {F a} {s1 : State} {x2 x3 x4} (fm : 2097152 &&& F = 2097152) (h1 : Keeps F a s1) : Keeps F a (@State.updChain s1 x2 x3 x4) := by
  unfold State.updChain
  exact State.updVi_keeps (sub fm) ‹_›

theorem State.testSlot_keeps {F a} {s1 : State} {x2 x3} (fm : 2097153 &&& F = 2097153) (h1 : Keeps F a s1) : Keeps F a (@State.testSlot s1 x2 x3) := by
  unfold State.testSlot
  dsimp only
  split
  · exact State.bump_keeps (sub fm) (State.updVi_keeps (sub fm) (State.updChain_keeps (sub fm) (State.fresh_keeps ‹_›)))
  · assumption

theorem State.applyTrig_keeps {F a} {s1 : State} {x2} (fm : 2097153 &&& F = 2097153) (h1 : Keeps F a s1) : Keeps F a (@State.applyTrig s1 x2) := by
  unfold State.applyTrig
  dsimp only
  refine Keeps.fold ?_ ?_
  · exact State.bump_keeps (sub fm) (State.updVi_keeps (sub fm) ‹_›)
  · intro t1 t2 k3
    split
    · exact State.testSlot_keeps (sub fm) ‹_›
    · assumption

theorem State.drainTrig_keeps {F a} {s1 : State} {x2} (fm : 4297064449 &&& F = 4297064449) (h1 : Keeps F a s1) : Keeps F a (@State.drainTrig s1 x2) := by
  unfold State.drainTrig
  dsimp only
  refine Keeps.fold ?_ ?_
  · exact Keeps.set_trig (sub fm) (Keeps.eta ‹_›)
  · intro t1 t2 k3
    exact State.applyTrig_keeps (sub fm) ‹_›

theorem State.svcTask_keeps {F a} {s1 : State} (fm : 1 &&& F = 1) (h1 : Keeps F a s1) : Keeps F a (@State.svcTask s1) := by
  unfold State.svcTask
  dsimp only
  split
  · exact State.bump_keeps (sub fm) (State.free_keeps ‹_›)
  · assumption

theorem State.pushTrig_keeps {F a} {s1 : State} {x2 x3 x4 x5} (fm : 4294967296 &&& F = 4294967296) (h1 : Keeps F a s1) : Keeps F a (@State.pushTrig s1 x2 x3 x4 x5) := by
  unfold State.pushTrig
  exact Keeps.set_trig (sub fm) (Keeps.eta ‹_›)

theorem State.postEvent_keeps {F a} {s1 : State} {x2 x3 x4 x5 x6} (fm : 136314881 &&& F = 136314881) (h1 : Keeps F a s1) : Keeps F a (@State.postEvent s1 x2 x3 x4 x5 x6) := by
  unfold State.postEvent
  dsimp only
  split
  · assumption
  · split
    · exact State.bumpVf_keeps (sub fm) (State.bump_keeps (sub fm) ‹_›)
    · split
      · exact State.raise_keeps (sub fm) (State.bumpVf_keeps (sub fm) (State.bump_keeps (sub fm) (State.updCq_keeps (sub fm) ‹_›)))
      · exact State.putEntry_keeps (sub fm) (State.updCq_keeps (sub fm) ‹_›)

theorem State.firingEntryDone_keeps {F a} {s1 : State} {x2 x3 x4} (fm : 2097152 &&& F = 2097152) (h1 : Keeps F a s1) : Keeps F a (@State.firingEntryDone s1 x2 x3 x4) := by
  unfold State.firingEntryDone
  dsimp only
  exact State.updVi_keeps (sub fm) ‹_›

theorem State.complete_keeps {F a} {s1 : State} {x2 x3 x4 x5} (fm : 136314881 &&& F = 136314881) (h1 : Keeps F a s1) : Keeps F a (@State.complete s1 x2 x3 x4 x5) := by
  unfold State.complete
  dsimp only
  split
  · assumption
  · split
    · split
      · exact State.firingEntryDone_keeps (sub fm) (State.updVi_keeps (sub fm) ‹_›)
      · exact State.updVi_keeps (sub fm) ‹_›
    · refine State.postCompletion_keeps (sub fm) ?_
      split
      · exact State.firingEntryDone_keeps (sub fm) (State.updVi_keeps (sub fm) ‹_›)
      · exact State.updVi_keeps (sub fm) ‹_›

theorem State.updCmq_keeps {F a} {s1 : State} {x2 x3 x4} (fm : 2097152 &&& F = 2097152) (h1 : Keeps F a s1) : Keeps F a (@State.updCmq s1 x2 x3 x4) := by
  unfold State.updCmq
  exact State.updVi_keeps (sub fm) ‹_›

theorem State.chainBegun_keeps {F a} {s1 : State} {x2 x3} (fm : 2097153 &&& F = 2097153) (h1 : Keeps F a s1) : Keeps F a (@State.chainBegun s1 x2 x3) := by
  unfold State.chainBegun
  split
  · assumption
  · split
    · exact State.testSlot_keeps (sub fm) (State.updChain_keeps (sub fm) ‹_›)
    · exact State.updChain_keeps (sub fm) ‹_›

theorem State.viRead_keeps {F a} {s1 : State} {x2 x3 x4 x5} (fm : 134217729 &&& F = 134217729) (h1 : Keeps F a s1) {r} (e : @State.viRead s1 x2 x3 x4 x5 = .ok r) : Keeps F a (r) := by
  unfold State.viRead at e
  split at e
  · rw [← Except.ok.inj e]
    exact State.bump_keeps (sub fm) (State.bump_keeps (sub fm) (State.atsFill_keeps (sub fm) ‹_›))
  · cases e

theorem State.setViState_keeps {F a} {s1 : State} {x2 x3} (fm : 257 &&& F = 257) (h1 : Keeps F a s1) : Keeps F a (@State.setViState s1 x2 x3) := by
  unfold State.setViState
  dsimp only
  exact State.record3_keeps (sub fm) (State.fput_keeps (sub fm) ‹_›)

theorem State.updLink_keeps {F a} {s1 : State} {x2 x3} (fm : 32768 &&& F = 32768) (h1 : Keeps F a s1) : Keeps F a (@State.updLink s1 x2 x3) := by
  unfold State.updLink
  exact Keeps.set_links (sub fm) (Keeps.eta ‹_›)

theorem State.sendLany_keeps {F a} {s1 : State} {x2 x3 x4} (fm : 32768 &&& F = 32768) (h1 : Keeps F a s1) : Keeps F a (@State.sendLany s1 x2 x3 x4) := by
  unfold State.sendLany
  dsimp only
  split
  · assumption
  · exact State.updLink_keeps (sub fm) ‹_›

theorem State.sendFailover_keeps {F a} {s1 : State} (fm : 32769 &&& F = 32769) (h1 : Keeps F a s1) : Keeps F a (@State.sendFailover s1) := by
  unfold State.sendFailover
  dsimp only
  split
  · assumption
  · exact State.sendLany_keeps (sub fm) (State.put64_keeps (sub fm) ‹_›)

theorem State.failDescs_keeps {F a} {s1 : State} (fm : 136314881 &&& F = 136314881) (h1 : Keeps F a s1) : Keeps F a (@State.failDescs s1) := by
  unfold State.failDescs
  split
  · refine Keeps.fold ?_ ?_
    · assumption
    · intro t2 t3 k4
      refine Keeps.fold ?_ ?_
      · assumption
      · intro t5 t6 k7
        exact State.complete_keeps (sub fm) ‹_›
  · assumption

theorem State.enterFatal_keeps {F a} {s1 : State} {x2} (fm : 136348161 &&& F = 136348161) (h1 : Keeps F a s1) : Keeps F a (@State.enterFatal s1 x2) := by
  unfold State.enterFatal
  dsimp only
  split
  · exact State.satAdd_keeps (sub fm) ‹_›
  · refine Keeps.set_relia (sub fm) (Keeps.eta (State.event_keeps (State.bump_keeps (sub fm) (State.put64_keeps (sub fm) (State.put_keeps (sub fm) (State.failDescs_keeps (sub fm) ?_))))))
    refine Keeps.fold ?_ ?_
    · split
      · exact State.sendFailover_keeps (sub fm) ‹_›
      · assumption
    · intro t5 t6 k7
      exact State.pfEvent_keeps (sub fm) ‹_›

theorem State.setSlot_keeps {F a} {s1 : State} {x2 x3 x4 x5 x6 x7} (fm : 33 &&& F = 33) (h1 : Keeps F a s1) : Keeps F a (@State.setSlot s1 x2 x3 x4 x5 x6 x7) := by
  unfold State.setSlot
  dsimp only
  split
  · exact State.bput_keeps (sub fm) (Keeps.set_psto (sub fm) (Keeps.eta (State.put_keeps (sub fm) (State.put_keeps (sub fm) ‹_›))))
  · exact Keeps.set_psto (sub fm) (Keeps.eta (State.put_keeps (sub fm) (State.put_keeps (sub fm) ‹_›)))

theorem State.setHwm_keeps {F a} {s1 : State} {x2 x3} (fm : 128 &&& F = 128) (h1 : Keeps F a s1) : Keeps F a (@State.setHwm s1 x2 x3) := by
  unfold State.setHwm
  dsimp only
  split
  · exact Keeps.set_zyn (sub fm) (Keeps.eta ‹_›)
  · assumption

theorem State.persistHwm_keeps {F a} {s1 : State} {x2} (fm : 160 &&& F = 160) (h1 : Keeps F a s1) : Keeps F a (@State.persistHwm s1 x2) := by
  unfold State.persistHwm
  dsimp only
  split
  · exact Keeps.set_psto (sub fm) (Keeps.set_zyn (sub fm) (Keeps.eta ‹_›))
  · assumption

theorem State.loadHwms_keeps {F a} {s1 : State} (fm : 128 &&& F = 128) (h1 : Keeps F a s1) : Keeps F a (@State.loadHwms s1) := by
  unfold State.loadHwms
  dsimp only
  exact Keeps.set_zyn (sub fm) (Keeps.eta ‹_›)

theorem State.updTile_keeps {F a} {s1 : State} {x2 x3} (fm : 65536 &&& F = 65536) (h1 : Keeps F a s1) : Keeps F a (@State.updTile s1 x2 x3) := by
  unfold State.updTile
  exact Keeps.set_tiles (sub fm) (Keeps.eta ‹_›)

theorem State.setAdmit_keeps {F a} {s1 : State} {x2 x3} (fm : 1 &&& F = 1) (h1 : Keeps F a s1) : Keeps F a (@State.setAdmit s1 x2 x3) := by
  unfold State.setAdmit
  exact State.bput_keeps (sub fm) ‹_›

theorem State.countDec_keeps {F a} {s1 : State} {x2 x3 x4 x5} (fm : 131073 &&& F = 131073) (h1 : Keeps F a s1) : Keeps F a (@State.countDec s1 x2 x3 x4 x5) := by
  unfold State.countDec
  dsimp only
  split
  · exact State.bump_keeps (sub fm) ‹_›
  · exact State.bump_keeps (sub fm) (State.raise_keeps (sub fm) (State.bump_keeps (sub fm) ‹_›))
  · exact State.bump_keeps (sub fm) ‹_›
  · exact State.bump_keeps (sub fm) (State.bump_keeps (sub fm) ‹_›)
  · refine Keeps.set_route (sub fm) (Keeps.eta ?_)
    split
    · exact State.bump_keeps (sub fm) (State.bump_keeps (sub fm) ‹_›)
    · split
      · exact State.bump_keeps (sub fm) (State.bump_keeps (sub fm) ‹_›)
      · exact State.bump_keeps (sub fm) (State.bump_keeps (sub fm) (State.bump_keeps (sub fm) (State.bump_keeps (sub fm) ‹_›)))

theorem State.runTest_keeps {F a} {s1 : State} {x2 x3} (fm : 513 &&& F = 513) (h1 : Keeps F a s1) : Keeps F a (@State.runTest s1 x2 x3) := by
  unfold State.runTest
  dsimp only
  exact State.bput_keeps (sub fm) (Keeps.set_relia (sub fm) (Keeps.eta ‹_›))

theorem State.nextTest_keeps {F a} {s1 : State} {x2} (fm : 513 &&& F = 513) (h1 : Keeps F a s1) : Keeps F a (@State.nextTest s1 x2) := by
  unfold State.nextTest
  dsimp only
  split
  · exact State.bput_keeps (sub fm) (Keeps.set_relia (sub fm) (Keeps.eta ‹_›))
  · split
    · exact State.runTest_keeps (sub fm) (Keeps.set_relia (sub fm) (Keeps.eta (State.bput_keeps (sub fm) (Keeps.set_relia (sub fm) (Keeps.eta ‹_›)))))
    · exact Keeps.set_relia (sub fm) (Keeps.eta (State.bput_keeps (sub fm) (Keeps.set_relia (sub fm) (Keeps.eta ‹_›))))

theorem State.logErr_keeps {F a} {s1 : State} {x2 x3 x4 x5 x6 x7 x8} (fm : 513 &&& F = 513) (h1 : Keeps F a s1) : Keeps F a (@State.logErr s1 x2 x3 x4 x5 x6 x7 x8) := by
  unfold State.logErr
  dsimp only
  exact State.fput_keeps (sub fm) (Keeps.set_relia (sub fm) (Keeps.eta ‹_›))

theorem State.startTest_keeps {F a} {s1 : State} {x2 x3 x4 x5 x6} (fm : 513 &&& F = 513) (h1 : Keeps F a s1) : Keeps F a (@State.startTest s1 x2 x3 x4 x5 x6) := by
  unfold State.startTest
  dsimp only
  split
  · exact State.runTest_keeps (sub fm) ‹_›
  · split
    · assumption
    · split
      · exact Keeps.set_relia (sub fm) (Keeps.eta ‹_›)
      · exact State.logErr_keeps (sub fm) ‹_›

theorem State.detect_keeps {F a} {s1 : State} {x2 x3 x4 x5 x6} (fm : 513 &&& F = 513) (h1 : Keeps F a s1) : Keeps F a (@State.detect s1 x2 x3 x4 x5 x6) := by
  unfold State.detect
  exact State.startTest_keeps (sub fm) (State.raise_keeps (sub fm) ‹_›)

theorem State.retireElement_keeps {F a} {s1 : State} {x2 x3 x4} (fm : 32 &&& F = 32) (h1 : Keeps F a s1) : Keeps F a (@State.retireElement s1 x2 x3 x4) := by
  unfold State.retireElement
  dsimp only
  split
  · assumption
  · exact Keeps.set_psto (sub fm) (Keeps.eta ‹_›)

theorem State.setVerdict_keeps {F a} {s1 : State} {x2 x3 x4 x5} (fm : 257 &&& F = 257) (h1 : Keeps F a s1) : Keeps F a (@State.setVerdict s1 x2 x3 x4 x5) := by
  unfold State.setVerdict
  dsimp only
  exact State.record3_keeps (sub fm) (State.put_keeps (sub fm) ‹_›)

theorem State.putVerdict_keeps {F a} {s1 : State} {x2 x3 x4 x5} (fm : 257 &&& F = 257) (h1 : Keeps F a s1) : Keeps F a (@State.putVerdict s1 x2 x3 x4 x5) := by
  unfold State.putVerdict
  exact State.event_keeps (State.setVerdict_keeps (sub fm) ‹_›)

theorem State.updLane_keeps {F a} {s1 : State} {x2 x3 x4} (fm : 4096 &&& F = 4096) (h1 : Keeps F a s1) : Keeps F a (@State.updLane s1 x2 x3 x4) := by
  unfold State.updLane
  exact Keeps.set_lanes (sub fm) (Keeps.eta ‹_›)

theorem State.setLaneState_keeps {F a} {s1 : State} {x2 x3 x4} (fm : 4097 &&& F = 4097) (h1 : Keeps F a s1) : Keeps F a (@State.setLaneState s1 x2 x3 x4) := by
  unfold State.setLaneState
  exact State.updLane_keeps (sub fm) (State.fput_keeps (sub fm) ‹_›)

theorem State.toSignal_keeps {F a} {s1 : State} {x2 x3} (fm : 4097 &&& F = 4097) (h1 : Keeps F a s1) : Keeps F a (@State.toSignal s1 x2 x3) := by
  unfold State.toSignal
  exact State.updLane_keeps (sub fm) (State.setLaneState_keeps (sub fm) ‹_›)

theorem State.setBond_keeps {F a} {s1 : State} {x2 x3} (fm : 1 &&& F = 1) (h1 : Keeps F a s1) : Keeps F a (@State.setBond s1 x2 x3) := by
  unfold State.setBond
  dsimp only
  exact State.bput_keeps (sub fm) (State.bput_keeps (sub fm) (State.bput_keeps (sub fm) (State.fput_keeps (sub fm) ‹_›)))

theorem State.updLport_keeps {F a} {s1 : State} {x2 x3} (fm : 8192 &&& F = 8192) (h1 : Keeps F a s1) : Keeps F a (@State.updLport s1 x2 x3) := by
  unfold State.updLport
  exact Keeps.set_lports (sub fm) (Keeps.eta ‹_›)

theorem State.rebond_keeps {F a} {s1 : State} {x2 x3} (fm : 12289 &&& F = 12289) (h1 : Keeps F a s1) : Keeps F a (@State.rebond s1 x2 x3) := by
  unfold State.rebond
  dsimp only
  refine Keeps.fold ?_ ?_
  · exact State.updLport_keeps (sub fm) (State.bput_keeps (sub fm) ‹_›)
  · intro t1 t2 k3
    exact State.updLane_keeps (sub fm) ‹_›

theorem State.leaveBond_keeps {F a} {s1 : State} {x2 x3 x4} (fm : 12289 &&& F = 12289) (h1 : Keeps F a s1) : Keeps F a (@State.leaveBond s1 x2 x3 x4) := by
  unfold State.leaveBond
  dsimp only
  split
  · split
    · exact State.setBond_keeps (sub fm) (State.setLaneState_keeps (sub fm) (State.toSignal_keeps (sub fm) ‹_›))
    · exact State.rebond_keeps (sub fm) (State.setLaneState_keeps (sub fm) (State.toSignal_keeps (sub fm) ‹_›))
  · split
    · exact State.setBond_keeps (sub fm) (State.setLaneState_keeps (sub fm) (State.toSignal_keeps (sub fm) ‹_›))
    · exact State.rebond_keeps (sub fm) (State.setLaneState_keeps (sub fm) (State.toSignal_keeps (sub fm) ‹_›))

theorem State.setPortStep_keeps {F a} {s1 : State} {x2 x3} (fm : 1 &&& F = 1) (h1 : Keeps F a s1) : Keeps F a (@State.setPortStep s1 x2 x3) := by
  unfold State.setPortStep
  exact State.fput_keeps (sub fm) ‹_›

theorem State.fallback_keeps {F a} {s1 : State} {x2} (fm : 12289 &&& F = 12289) (h1 : Keeps F a s1) : Keeps F a (@State.fallback s1 x2) := by
  unfold State.fallback
  dsimp only
  refine Keeps.fold ?_ ?_
  · exact State.raise_keeps (sub fm) (State.bump_keeps (sub fm) (State.setPortStep_keeps (sub fm) (State.bput_keeps (sub fm) (State.updLport_keeps (sub fm) ‹_›))))
  · intro t1 t2 k3
    split
    · assumption
    · exact State.toSignal_keeps (sub fm) ‹_›

theorem State.backToPrimary_keeps {F a} {s1 : State} {x2 x3} (fm : 1 &&& F = 1) (h1 : Keeps F a s1) : Keeps F a (@State.backToPrimary s1 x2 x3) := by
  unfold State.backToPrimary
  dsimp only
  split
  · exact State.fput_keeps (sub fm) (State.bput_keeps (sub fm) (State.bput_keeps (sub fm) ‹_›))
  · assumption

theorem State.ltfBytes_keeps {F a} {s1 : State} {x2 x3}  (h1 : Keeps F a s1) : Keeps F a (@State.ltfBytes s1 x2 x3).2 := by
  unfold State.ltfBytes
  dsimp only
  split
  · exact State.free_keeps ‹_›
  · dsimp only
    assumption

theorem State.sendLtf_keeps {F a} {s1 : State} {x2 x3} (fm : 12288 &&& F = 12288) (h1 : Keeps F a s1) : Keeps F a (@State.sendLtf s1 x2 x3) := by
  unfold State.sendLtf
  dsimp only
  split
  · split
    · exact State.updLane_keeps (sub fm) (State.emit_keeps (State.ltfBytes_keeps ‹_›))
    · exact State.updLport_keeps (sub fm) (State.updLane_keeps (sub fm) (State.emit_keeps (State.ltfBytes_keeps ‹_›)))
  · split
    · exact State.updLane_keeps (sub fm) (State.emit_keeps (State.ltfBytes_keeps ‹_›))
    · exact State.updLport_keeps (sub fm) (State.updLane_keeps (sub fm) (State.emit_keeps (State.ltfBytes_keeps ‹_›)))

theorem State.startLaneTest_keeps {F a} {s1 : State} {x2 x3 x4} (fm : 12289 &&& F = 12289) (h1 : Keeps F a s1) : Keeps F a (@State.startLaneTest s1 x2 x3 x4) := by
  unfold State.startLaneTest
  dsimp only
  exact State.updLport_keeps (sub fm) (State.bput_keeps (sub fm) (State.leaveBond_keeps (sub fm) (State.bump_keeps (sub fm) ‹_›)))

theorem State.nextLaneTest_keeps {F a} {s1 : State} {x2} (fm : 12289 &&& F = 12289) (h1 : Keeps F a s1) : Keeps F a (@State.nextLaneTest s1 x2) := by
  unfold State.nextLaneTest
  split
  · split
    · assumption
    · split
      · exact State.updLport_keeps (sub fm) (State.bump_keeps (sub fm) ‹_›)
      · exact State.startLaneTest_keeps (sub fm) ‹_›
  · assumption

theorem State.checkBond_keeps {F a} {s1 : State} {x2} (fm : 4097 &&& F = 4097) (h1 : Keeps F a s1) : Keeps F a (@State.checkBond s1 x2) := by
  unfold State.checkBond
  dsimp only
  split
  · split
    · exact State.setBond_keeps (sub fm) (State.toSignal_keeps (sub fm) ‹_›)
    · assumption
  · assumption

theorem State.formBond_keeps {F a} {s1 : State} {x2 x3} (fm : 12289 &&& F = 12289) (h1 : Keeps F a s1) : Keeps F a (@State.formBond s1 x2 x3) := by
  unfold State.formBond
  dsimp only
  refine State.nextLaneTest_keeps (sub fm) (State.event_keeps (State.checkBond_keeps (sub fm) (State.updLport_keeps (sub fm) (State.setBond_keeps (sub fm) ?_))))
  refine Keeps.fold ?_ ?_
  · assumption
  · intro t1 t2 k3
    split
    · exact State.setLaneState_keeps (sub fm) ‹_›
    · split
      · exact State.toSignal_keeps (sub fm) ‹_›
      · assumption

theorem State.lanesOff_keeps {F a} {s1 : State} {x2 x3 x4} (fm : 12289 &&& F = 12289) (h1 : Keeps F a s1) : Keeps F a (@State.lanesOff s1 x2 x3 x4) := by
  unfold State.lanesOff
  dsimp only
  refine State.put_keeps (sub fm) (State.updLport_keeps (sub fm) ?_)
  split
  · refine State.bput_keeps (sub fm) ?_
    refine Keeps.fold ?_ ?_
    · assumption
    · intro t2 t3 k4
      split
      · split
        · exact State.bput_keeps (sub fm) (State.setLaneState_keeps (sub fm) ‹_›)
        · assumption
      · exact State.setLaneState_keeps (sub fm) ‹_›
  · refine Keeps.fold ?_ ?_
    · assumption
    · intro t10 t11 k12
      split
      · split
        · exact State.bput_keeps (sub fm) (State.setLaneState_keeps (sub fm) ‹_›)
        · assumption
      · exact State.setLaneState_keeps (sub fm) ‹_›

theorem State.updSpare_keeps {F a} {s1 : State} {x2 x3} (fm : 16384 &&& F = 16384) (h1 : Keeps F a s1) : Keeps F a (@State.updSpare s1 x2 x3) := by
  unfold State.updSpare
  exact Keeps.set_spares (sub fm) (Keeps.eta ‹_›)

theorem State.darken_keeps {F a} {s1 : State} {x2} (fm : 16385 &&& F = 16385) (h1 : Keeps F a s1) : Keeps F a (@State.darken s1 x2) := by
  unfold State.darken
  dsimp only
  refine Keeps.fold ?_ ?_
  · exact State.fput_keeps (sub fm) (State.fput_keeps (sub fm) (State.updSpare_keeps (sub fm) ‹_›))
  · intro t1 t2 k3
    exact State.fput_keeps (sub fm) (State.fput_keeps (sub fm) (State.free_keeps ‹_›))

theorem State.tryForm_keeps {F a} {s1 : State} {x2} (fm : 12289 &&& F = 12289) (h1 : Keeps F a s1) : Keeps F a (@State.tryForm s1 x2) := by
  unfold State.tryForm
  split
  · split
    · exact State.bump_keeps (sub fm) (State.formBond_keeps (sub fm) ‹_›)
    · assumption
  · assumption

theorem State.laneTick_keeps {F a} {s1 : State} {x2} (fm : 12289 &&& F = 12289) (h1 : Keeps F a s1) : Keeps F a (@State.laneTick s1 x2) := by
  unfold State.laneTick
  dsimp only
  split
  · refine State.tryForm_keeps (sub fm) ?_
    refine Keeps.fold ?_ ?_
    · assumption
    · intro t2 t3 k4
      split
      · refine State.updLane_keeps (sub fm) ?_
        refine Keeps.fold ?_ ?_
        · assumption
        · intro t6 t7 k8
          exact State.sendLtf_keeps (sub fm) ‹_›
      · assumption
  · assumption

theorem State.noBond_keeps {F a} {s1 : State} {x2} (fm : 1 &&& F = 1) (h1 : Keeps F a s1) : Keeps F a (@State.noBond s1 x2) := by
  unfold State.noBond
  split
  · exact State.raise_keeps (sub fm) ‹_›
  · assumption

theorem State.qualFail_keeps {F a} {s1 : State} {x2 x3} (fm : 12289 &&& F = 12289) (h1 : Keeps F a s1) : Keeps F a (@State.qualFail s1 x2 x3) := by
  unfold State.qualFail
  dsimp only
  split
  · split
    · exact State.toSignal_keeps (sub fm) (State.fput_keeps (sub fm) ‹_›)
    · exact State.fallback_keeps (sub fm) (State.fput_keeps (sub fm) ‹_›)
  · split
    · exact State.checkBond_keeps (sub fm) (State.event_keeps (State.bput_keeps (sub fm) (State.setLaneState_keeps (sub fm) (State.toSignal_keeps (sub fm) (State.fput_keeps (sub fm) ‹_›)))))
    · exact State.noBond_keeps (sub fm) (State.updLport_keeps (sub fm) (State.event_keeps (State.bput_keeps (sub fm) (State.setLaneState_keeps (sub fm) (State.toSignal_keeps (sub fm) (State.fput_keeps (sub fm) ‹_›))))))

theorem State.endFull_keeps {F a} {s1 : State} {x2} (fm : 12289 &&& F = 12289) (h1 : Keeps F a s1) : Keeps F a (@State.endFull s1 x2) := by
  unfold State.endFull
  dsimp only
  split
  · exact State.updLport_keeps (sub fm) (State.bput_keeps (sub fm) (State.toSignal_keeps (sub fm) (State.updLport_keeps (sub fm) ‹_›)))
  · exact State.updLport_keeps (sub fm) ‹_›

theorem State.bringUp_keeps {F a} {s1 : State} {x2 x3} (fm : 12289 &&& F = 12289) (h1 : Keeps F a s1) : Keeps F a (@State.bringUp s1 x2 x3) := by
  unfold State.bringUp
  dsimp only
  refine State.noBond_keeps (sub fm) (State.event_keeps (State.bput_keeps (sub fm) ?_))
  refine Keeps.fold ?_ ?_
  · exact State.put_keeps (sub fm) (State.updLport_keeps (sub fm) (State.backToPrimary_keeps (sub fm) ‹_›))
  · intro t1 t2 k3
    split
    · assumption
    · exact State.updLane_keeps (sub fm) (State.bput_keeps (sub fm) (State.setLaneState_keeps (sub fm) ‹_›))

theorem State.lightEngine_keeps {F a} {s1 : State} {x2} (fm : 1 &&& F = 1) (h1 : Keeps F a s1) : Keeps F a (@State.lightEngine s1 x2) := by
  unfold State.lightEngine
  refine Keeps.fold ?_ ?_
  · assumption
  · intro t1 t2 k3
    exact State.fput_keeps (sub fm) ‹_›

theorem State.poolMove_keeps {F a} {s1 : State} {x2 x3 x4 x5} (fm : 1 &&& F = 1) (h1 : Keeps F a s1) : Keeps F a (@State.poolMove s1 x2 x3 x4 x5) := by
  unfold State.poolMove
  dsimp only
  exact State.put_keeps (sub fm) (State.put_keeps (sub fm) ‹_›)

theorem State.admitIn_keeps {F a} {s1 : State} {x2 x3 x4 x5} (fm : 98305 &&& F = 98305) (h1 : Keeps F a s1) : Keeps F a (@State.admitIn s1 x2 x3 x4 x5) := by
  unfold State.admitIn
  dsimp only
  split
  · exact State.updLink_keeps (sub fm) (State.bump_keeps (sub fm) (State.updTile_keeps (sub fm) (State.poolMove_keeps (sub fm) (State.fresh_keeps ‹_›))))
  · exact State.bump_keeps (sub fm) (State.updTile_keeps (sub fm) (State.poolMove_keeps (sub fm) (State.fresh_keeps ‹_›)))

theorem State.drainWait_keeps {F a} {s1 : State} {x2} (fm : 98305 &&& F = 98305) (h1 : Keeps F a s1) : Keeps F a (@State.drainWait s1 x2) := by
  unfold State.drainWait
  dsimp only
  refine Keeps.fold ?_ ?_
  · assumption
  · intro t1 t2 k3
    split
    · exact State.admitIn_keeps (sub fm) (State.updTile_keeps (sub fm) ‹_›)
    · assumption

theorem State.dropCol_keeps {F a} {s1 : State} {x2 x3} (fm : 65537 &&& F = 65537) (h1 : Keeps F a s1) : Keeps F a (@State.dropCol s1 x2 x3) := by
  unfold State.dropCol
  exact State.poolMove_keeps (sub fm) (State.poolMove_keeps (sub fm) (State.updTile_keeps (sub fm) ‹_›))

theorem State.moveCol_keeps {F a} {s1 : State} {x2 x3 x4} (fm : 65537 &&& F = 65537) (h1 : Keeps F a s1) : Keeps F a (@State.moveCol s1 x2 x3 x4) := by
  unfold State.moveCol
  dsimp only
  split
  · assumption
  · exact State.updTile_keeps (sub fm) (State.poolMove_keeps (sub fm) (State.dropCol_keeps (sub fm) ‹_›))

theorem State.updCol_keeps {F a} {s1 : State} {x2 x3 x4} (fm : 65536 &&& F = 65536) (h1 : Keeps F a s1) : Keeps F a (@State.updCol s1 x2 x3 x4) := by
  unfold State.updCol
  exact State.updTile_keeps (sub fm) ‹_›

theorem State.decideCol_keeps {F a} {s1 : State} {x2 x3} (fm : 196609 &&& F = 196609) (h1 : Keeps F a s1) : Keeps F a (@State.decideCol s1 x2 x3) := by
  unfold State.decideCol
  dsimp only
  split
  · assumption
  · split
    · exact State.updCol_keeps (sub fm) (State.countDec_keeps (sub fm) ‹_›)
    · exact State.dropCol_keeps (sub fm) (State.countDec_keeps (sub fm) ‹_›)
    · split
      · exact State.moveCol_keeps (sub fm) (State.countDec_keeps (sub fm) ‹_›)
      · exact State.countDec_keeps (sub fm) ‹_›

theorem State.redispatchOne_keeps {F a} {s1 : State} {x2 x3} (fm : 196609 &&& F = 196609) (h1 : Keeps F a s1) : Keeps F a (@State.redispatchOne s1 x2 x3) := by
  unfold State.redispatchOne
  dsimp only
  split
  · split
    · exact State.moveCol_keeps (sub fm) ‹_›
    · exact State.decideCol_keeps (sub fm) ‹_›
  · exact State.decideCol_keeps (sub fm) ‹_›

theorem State.freeIn_keeps {F a} {s1 : State} {x2 x3 x4 x5 x6} (fm : 32769 &&& F = 32769) (h1 : Keeps F a s1) : Keeps F a (@State.freeIn s1 x2 x3 x4 x5 x6) := by
  unfold State.freeIn
  dsimp only
  split
  · exact State.updLink_keeps (sub fm) (State.poolMove_keeps (sub fm) ‹_›)
  · exact State.poolMove_keeps (sub fm) ‹_›

theorem State.updIn_keeps {F a} {s1 : State} {x2 x3 x4} (fm : 65536 &&& F = 65536) (h1 : Keeps F a s1) : Keeps F a (@State.updIn s1 x2 x3 x4) := by
  unfold State.updIn
  exact State.updTile_keeps (sub fm) ‹_›

theorem State.crossChunk_keeps {F a} {s1 : State} {x2 x3 x4} (fm : 98305 &&& F = 98305) (h1 : Keeps F a s1) : Keeps F a (@State.crossChunk s1 x2 x3 x4) := by
  unfold State.crossChunk
  dsimp only
  split
  · exact State.updTile_keeps (sub fm) (State.bump_keeps (sub fm) (State.updCol_keeps (sub fm) (State.poolMove_keeps (sub fm) (State.freeIn_keeps (sub fm) ‹_›))))
  · exact State.updIn_keeps (sub fm) (State.bump_keeps (sub fm) (State.updCol_keeps (sub fm) (State.poolMove_keeps (sub fm) (State.freeIn_keeps (sub fm) ‹_›))))

theorem State.grantCross_keeps {F a} {s1 : State} {x2 x3} (fm : 98305 &&& F = 98305) (h1 : Keeps F a s1) {r} (e : @State.grantCross s1 x2 x3 = some r) : Keeps F a (r) := by
  unfold State.grantCross at e
  dsimp only at e
  split at e
  · cases e
  · split at e
    · rw [← Option.some.inj e]
      exact State.crossChunk_keeps (sub fm) ‹_›
    · split at e
      · cases e
      · rw [← Option.some.inj e]
        exact State.crossChunk_keeps (sub fm) (State.updTile_keeps (sub fm) (State.poolMove_keeps (sub fm) ‹_›))

theorem State.junction_keeps {F a} {x1 x2 x3 x4 x5} {s6 : State} (fm : 98305 &&& F = 98305) (h6 : Keeps F a s6) : Keeps F a (@State.junction x1 x2 x3 x4 x5 s6).1 := by
  induction x2 generalizing x3 x4 x5 s6 with
  | zero => cases x3 <;> exact h6
  | succ f ih =>
    cases x3 with
    | zero => exact h6
    | succ n =>
      rw [State.junction]
      split
      · exact h6
      · dsimp only
        split
        · exact ih (State.bump_keeps (sub fm) h6)
        · rename_i heq
          exact ih (State.bump_keeps (sub fm) (State.updTile_keeps (sub fm) (State.grantCross_keeps (sub fm) h6 heq)))

theorem State.dropIn_keeps {F a} {s1 : State} {x2 x3} (fm : 98305 &&& F = 98305) (h1 : Keeps F a s1) : Keeps F a (@State.dropIn s1 x2 x3) := by
  unfold State.dropIn
  exact State.freeIn_keeps (sub fm) (State.updTile_keeps (sub fm) ‹_›)

theorem State.decideIn_keeps {F a} {s1 : State} {x2 x3} (fm : 229377 &&& F = 229377) (h1 : Keeps F a s1) : Keeps F a (@State.decideIn s1 x2 x3) := by
  unfold State.decideIn
  dsimp only
  split
  · exact State.updIn_keeps (sub fm) ‹_›
  · split
    · exact State.updIn_keeps (sub fm) (State.countDec_keeps (sub fm) ‹_›)
    · exact State.dropIn_keeps (sub fm) (State.countDec_keeps (sub fm) ‹_›)
    · exact State.updIn_keeps (sub fm) (State.countDec_keeps (sub fm) ‹_›)

theorem State.redecide_keeps {F a} {s1 : State} {x2} (fm : 229377 &&& F = 229377) (h1 : Keeps F a s1) : Keeps F a (@State.redecide s1 x2) := by
  unfold State.redecide
  refine Keeps.fold ?_ ?_
  · assumption
  · intro t1 t2 k3
    split
    · assumption
    · split
      · exact State.bump_keeps (sub fm) (State.decideIn_keeps (sub fm) ‹_›)
      · assumption

theorem State.ageIns_keeps {F a} {s1 : State} {x2 x3 x4} (fm : 65536 &&& F = 65536) (h1 : Keeps F a s1) : Keeps F a (@State.ageIns s1 x2 x3 x4) := by
  unfold State.ageIns
  refine Keeps.fold ?_ ?_
  · assumption
  · intro t1 t2 k3
    split
    · assumption
    · exact State.updIn_keeps (sub fm) ‹_›

theorem State.redispatch_keeps {F a} {s1 : State} {x2} (fm : 196609 &&& F = 196609) (h1 : Keeps F a s1) : Keeps F a (@State.redispatch s1 x2) := by
  unfold State.redispatch
  split
  · assumption
  · refine Keeps.fold ?_ ?_
    · assumption
    · intro t3 t4 k5
      split
      · assumption
      · exact State.redispatchOne_keeps (sub fm) ‹_›

theorem State.afterOut_keeps {F a} {s1 : State} {x2 x3 x4 x5} (fm : 65537 &&& F = 65537) (h1 : Keeps F a s1) : Keeps F a (@State.afterOut s1 x2 x3 x4 x5) := by
  unfold State.afterOut
  dsimp only
  refine Keeps.fold ?_ ?_
  · exact State.bump_keeps (sub fm) (State.updTile_keeps (sub fm) ‹_›)
  · intro t1 t2 k3
    split
    · assumption
    · exact State.updCol_keeps (sub fm) ‹_›

theorem State.updXpt_keeps {F a} {s1 : State} {x2 x3} (fm : 262144 &&& F = 262144) (h1 : Keeps F a s1) : Keeps F a (@State.updXpt s1 x2 x3) := by
  unfold State.updXpt
  exact Keeps.set_xpts (sub fm) (Keeps.eta ‹_›)

theorem State.ejectOne_keeps {F a} {s1 : State} {x2} (fm : 327681 &&& F = 327681) (h1 : Keeps F a s1) : Keeps F a (@State.ejectOne s1 x2) := by
  unfold State.ejectOne
  dsimp only
  split
  · assumption
  · exact State.updXpt_keeps (sub fm) (State.bump_keeps (sub fm) (State.bump_keeps (sub fm) (State.dropCol_keeps (sub fm) (State.afterOut_keeps (sub fm) ‹_›))))

theorem State.crossRound_keeps {F a} {s1 : State} (fm : 491521 &&& F = 491521) (h1 : Keeps F a s1) : Keeps F a (@State.crossRound s1) := by
  unfold State.crossRound
  dsimp only
  refine Keeps.fold ?_ ?_
  · refine Keeps.fold ?_ ?_
    · refine Keeps.fold ?_ ?_
      · refine Keeps.fold ?_ ?_
        · refine Keeps.fold ?_ ?_
          · refine Keeps.fold ?_ ?_
            · refine Keeps.foldFst ?_ ?_
              · dsimp only
                refine Keeps.fold ?_ ?_
                · refine Keeps.fold ?_ ?_
                  · assumption
                  · intro t1 t2 k3
                    exact State.redecide_keeps (sub fm) ‹_›
                · intro t4 t5 k6
                  split
                  · assumption
                  · exact State.updTile_keeps (sub fm) ‹_›
              · intro t9 t10 k11
                split
                · assumption
                · exact State.junction_keeps (sub fm) ‹_›
            · intro t14 t15 k16
              exact State.ageIns_keeps (sub fm) ‹_›
          · intro t17 t18 k19
            exact State.updTile_keeps (sub fm) ‹_›
        · intro t20 t21 k22
          exact State.bump_keeps (sub fm) ‹_›
      · intro t23 t24 k25
        exact State.redispatch_keeps (sub fm) ‹_›
    · intro t26 t27 k28
      exact State.ejectOne_keeps (sub fm) ‹_›
  · intro t29 t30 k31
    exact State.updTile_keeps (sub fm) (State.drainWait_keeps (sub fm) ‹_›)

theorem State.onPkt_keeps {F a} {s1 : State} {x2 x3 x4} (fm : 65536 &&& F = 65536) (h1 : Keeps F a s1) : Keeps F a (@State.onPkt s1 x2 x3 x4) := by
  unfold State.onPkt
  dsimp only
  exact Keeps.set_tiles (sub fm) (Keeps.eta ‹_›)

theorem State.checkIn_keeps {F a} {s1 : State} {x2 x3 x4 x5 x6} (fm : 98304 &&& F = 98304) (h1 : Keeps F a s1) : Keeps F a (@State.checkIn s1 x2 x3 x4 x5 x6) := by
  unfold State.checkIn
  dsimp only
  exact State.updLink_keeps (sub fm) (State.onPkt_keeps (sub fm) ‹_›)

theorem State.injectPkt_keeps {F a} {s1 : State} {x2 x3} (fm : 98305 &&& F = 98305) (h1 : Keeps F a s1) : Keeps F a (@State.injectPkt s1 x2 x3) := by
  unfold State.injectPkt
  dsimp only
  exact State.drainWait_keeps (sub fm) (State.updTile_keeps (sub fm) (State.free_keeps ‹_›))

theorem State.growIn_keeps {F a} {s1 : State} {x2 x3 x4 x5} (fm : 65537 &&& F = 65537) (h1 : Keeps F a s1) : Keeps F a (@State.growIn s1 x2 x3 x4 x5) := by
  unfold State.growIn
  split
  · exact State.onPkt_keeps (sub fm) ‹_›
  · exact State.onPkt_keeps (sub fm) (State.poolMove_keeps (sub fm) ‹_›)

theorem State.openIn_keeps {F a} {s1 : State} {x2 x3 x4 x5 x6 x7} (fm : 65537 &&& F = 65537) (h1 : Keeps F a s1) : Keeps F a (@State.openIn s1 x2 x3 x4 x5 x6 x7).1 := by
  unfold State.openIn
  dsimp only
  exact State.bump_keeps (sub fm) (State.updTile_keeps (sub fm) (State.poolMove_keeps (sub fm) (State.fresh_keeps ‹_›)))

theorem State.undecide_keeps {F a} {s1 : State} {x2} (fm : 229377 &&& F = 229377) (h1 : Keeps F a s1) : Keeps F a (@State.undecide s1 x2) := by
  unfold State.undecide
  refine Keeps.fold ?_ ?_
  · assumption
  · intro t1 t2 k3
    refine Keeps.fold ?_ ?_
    · assumption
    · intro t4 t5 k6
      split
      · split
        · exact State.decideIn_keeps (sub fm) ‹_›
        · assumption
      · assumption

end Sys2Proof.Machine
end

