-- ==== Sys2Proof/Laws/KeepsLinks.lean ====
section
/-! SUPPORT. The Wiluth link layer, the reliable transport and the routing rows keep what `Keeps` says: one lemma per operation, named after it. -/

-- one declaration after another: the threads of parallel elaboration would take the stack of each
set_option Elab.async false

namespace Sys2Proof.Machine

theorem State.frameHdr_keeps {F a} {s1 : State} {x2 x3 x4 x5 x6} (fm : 32769 &&& F = 32769) (h1 : Keeps F a s1) : Keeps F a (@State.frameHdr s1 x2 x3 x4 x5 x6).2 := by
  unfold State.frameHdr
  dsimp only
  exact State.updLink_keeps (sub fm) (State.bump_keeps (sub fm) ‹_›)

theorem State.sendFrame_keeps {F a} {s1 : State} {x2 x3 x4 x5 x6 x7} (fm : 32769 &&& F = 32769) (h1 : Keeps F a s1) : Keeps F a (@State.sendFrame s1 x2 x3 x4 x5 x6 x7) := by
  unfold State.sendFrame
  dsimp only
  exact State.emit_keeps (State.bump_keeps (sub fm) (State.frameHdr_keeps (sub fm) ‹_›))

theorem State.stompBegun_keeps {F a} {s1 : State} {x2} (fm : 98305 &&& F = 98305) (h1 : Keeps F a s1) : Keeps F a (@State.stompBegun s1 x2) := by
  unfold State.stompBegun
  dsimp only
  split
  · assumption
  · refine State.updCol_keeps (sub fm) ?_
    split
    · exact State.sendFrame_keeps (sub fm) (State.updLink_keeps (sub fm) (State.updLink_keeps (sub fm) ‹_›))
    · exact State.updLink_keeps (sub fm) ‹_›

theorem State.discardPacket_keeps {F a} {s1 : State} {x2} (fm : 98305 &&& F = 98305) (h1 : Keeps F a s1) : Keeps F a (@State.discardPacket s1 x2) := by
  unfold State.discardPacket
  dsimp only
  refine Keeps.fold ?_ ?_
  · assumption
  · intro t1 t2 k3
    split
    · refine State.bump_keeps (sub fm) (State.dropCol_keeps (sub fm) ?_)
      split
      · refine State.bump_keeps (sub fm) (State.stompBegun_keeps (sub fm) ?_)
        split
        · exact State.bump_keeps (sub fm) (State.dropIn_keeps (sub fm) ‹_›)
        · assumption
      · split
        · exact State.bump_keeps (sub fm) (State.dropIn_keeps (sub fm) ‹_›)
        · assumption
    · split
      · exact State.bump_keeps (sub fm) (State.dropIn_keeps (sub fm) ‹_›)
      · assumption

theorem State.startExchange_keeps {F a} {s1 : State} {x2} (fm : 32769 &&& F = 32769) (h1 : Keeps F a s1) : Keeps F a (@State.startExchange s1 x2) := by
  unfold State.startExchange
  dsimp only
  split
  · exact State.updLink_keeps (sub fm) (State.free_keeps ‹_›)
  · exact State.event_keeps (State.fput_keeps (sub fm) (State.updLink_keeps (sub fm) (State.free_keeps ‹_›)))

theorem State.reExchange_keeps {F a} {s1 : State} {x2} (fm : 32769 &&& F = 32769) (h1 : Keeps F a s1) : Keeps F a (@State.reExchange s1 x2) := by
  unfold State.reExchange
  split
  · exact State.startExchange_keeps (sub fm) ‹_›
  · exact State.updLink_keeps (sub fm) ‹_›

theorem State.showReplay_keeps {F a} {s1 : State} {x2 x3} (fm : 1 &&& F = 1) (h1 : Keeps F a s1) : Keeps F a (@State.showReplay s1 x2 x3) := by
  unfold State.showReplay
  dsimp only
  exact State.bput_keeps (sub fm) (State.fput_keeps (sub fm) ‹_›)

theorem State.endSession_keeps {F a} {s1 : State} {x2} (fm : 244481 &&& F = 244481) (h1 : Keeps F a s1) : Keeps F a (@State.endSession s1 x2) := by
  unfold State.endSession
  dsimp only
  refine State.event_keeps (State.redispatch_keeps (sub fm) (State.undecide_keeps (sub fm) ?_))
  split
  · split
    · exact Keeps.set_svc (sub fm) (Keeps.eta (State.setSvc_keeps (sub fm) (State.updTile_keeps (sub fm) (State.fput_keeps (sub fm) (State.setAdmit_keeps (sub fm) (State.bump_keeps (sub fm) (State.raise_keeps (sub fm) (State.fput_keeps (sub fm) (State.showReplay_keeps (sub fm) (State.updLink_keeps (sub fm) ‹_›))))))))))
    · split
      · exact State.setSvc_keeps (sub fm) (State.nextTest_keeps (sub fm) (State.bput_keeps (sub fm) (State.setVerdict_keeps (sub fm) (State.endFull_keeps (sub fm) (State.updTile_keeps (sub fm) (State.fput_keeps (sub fm) (State.setAdmit_keeps (sub fm) (State.bump_keeps (sub fm) (State.raise_keeps (sub fm) (State.fput_keeps (sub fm) (State.showReplay_keeps (sub fm) (State.updLink_keeps (sub fm) ‹_›))))))))))))
      · exact State.updTile_keeps (sub fm) (State.fput_keeps (sub fm) (State.setAdmit_keeps (sub fm) (State.bump_keeps (sub fm) (State.raise_keeps (sub fm) (State.fput_keeps (sub fm) (State.showReplay_keeps (sub fm) (State.updLink_keeps (sub fm) ‹_›)))))))
  · split
    · exact Keeps.set_svc (sub fm) (Keeps.eta (State.setSvc_keeps (sub fm) (State.updTile_keeps (sub fm) (State.fput_keeps (sub fm) (State.setAdmit_keeps (sub fm) (State.bump_keeps (sub fm) (State.raise_keeps (sub fm) (State.fput_keeps (sub fm) (State.showReplay_keeps (sub fm) (State.updLink_keeps (sub fm) ‹_›))))))))))
    · split
      · exact State.setSvc_keeps (sub fm) (State.nextTest_keeps (sub fm) (State.bput_keeps (sub fm) (State.setVerdict_keeps (sub fm) (State.endFull_keeps (sub fm) (State.updTile_keeps (sub fm) (State.fput_keeps (sub fm) (State.setAdmit_keeps (sub fm) (State.bump_keeps (sub fm) (State.raise_keeps (sub fm) (State.fput_keeps (sub fm) (State.showReplay_keeps (sub fm) (State.updLink_keeps (sub fm) ‹_›))))))))))))
      · exact State.updTile_keeps (sub fm) (State.fput_keeps (sub fm) (State.setAdmit_keeps (sub fm) (State.bump_keeps (sub fm) (State.raise_keeps (sub fm) (State.fput_keeps (sub fm) (State.showReplay_keeps (sub fm) (State.updLink_keeps (sub fm) ‹_›)))))))

theorem State.creditOverrun_keeps {F a} {s1 : State} {x2} (fm : 244481 &&& F = 244481) (h1 : Keeps F a s1) : Keeps F a (@State.creditOverrun s1 x2) := by
  unfold State.creditOverrun
  exact State.reExchange_keeps (sub fm) (State.endSession_keeps (sub fm) (State.raise_keeps (sub fm) ‹_›))

theorem State.acceptData_keeps {F a} {s1 : State} {x2 x3 x4 x5} (fm : 244481 &&& F = 244481) (h1 : Keeps F a s1) : Keeps F a (@State.acceptData s1 x2 x3 x4 x5) := by
  unfold State.acceptData
  dsimp only
  split
  · refine State.updLink_keeps (sub fm) ?_
    split
    · exact State.discardPacket_keeps (sub fm) (State.updLink_keeps (sub fm) ‹_›)
    · exact State.updLink_keeps (sub fm) ‹_›
  · split
    · exact State.checkIn_keeps (sub fm) (State.growIn_keeps (sub fm) (State.bump_keeps (sub fm) (State.updLink_keeps (sub fm) ‹_›)))
    · split
      · exact State.creditOverrun_keeps (sub fm) (State.updLink_keeps (sub fm) ‹_›)
      · exact State.admitIn_keeps (sub fm) (State.bump_keeps (sub fm) (State.updLink_keeps (sub fm) ‹_›))

theorem State.dropArrival_keeps {F a} {s1 : State} {x2} (fm : 98305 &&& F = 98305) (h1 : Keeps F a s1) : Keeps F a (@State.dropArrival s1 x2) := by
  unfold State.dropArrival
  dsimp only
  split
  · exact State.discardPacket_keeps (sub fm) (State.updLink_keeps (sub fm) ‹_›)
  · exact State.updLink_keeps (sub fm) ‹_›

theorem State.linkDrop_keeps {F a} {s1 : State} {x2} (fm : 244481 &&& F = 244481) (h1 : Keeps F a s1) : Keeps F a (@State.linkDrop s1 x2) := by
  unfold State.linkDrop
  dsimp only
  split
  · split
    · split
      · exact State.endSession_keeps (sub fm) (State.fput_keeps (sub fm) (State.fput_keeps (sub fm) (State.updLink_keeps (sub fm) (State.stompBegun_keeps (sub fm) (State.dropArrival_keeps (sub fm) ‹_›)))))
      · exact State.event_keeps (State.redispatch_keeps (sub fm) (State.undecide_keeps (sub fm) (State.fput_keeps (sub fm) (State.fput_keeps (sub fm) (State.updLink_keeps (sub fm) (State.stompBegun_keeps (sub fm) (State.dropArrival_keeps (sub fm) ‹_›)))))))
    · split
      · exact State.endSession_keeps (sub fm) (State.fput_keeps (sub fm) (State.fput_keeps (sub fm) (State.updLink_keeps (sub fm) (State.stompBegun_keeps (sub fm) (State.dropArrival_keeps (sub fm) ‹_›)))))
      · exact State.event_keeps (State.redispatch_keeps (sub fm) (State.undecide_keeps (sub fm) (State.fput_keeps (sub fm) (State.fput_keeps (sub fm) (State.updLink_keeps (sub fm) (State.stompBegun_keeps (sub fm) (State.dropArrival_keeps (sub fm) ‹_›)))))))
  · exact State.event_keeps (State.fput_keeps (sub fm) (State.updLink_keeps (sub fm) (State.stompBegun_keeps (sub fm) (State.dropArrival_keeps (sub fm) ‹_›))))

theorem State.linkDown_keeps {F a} {s1 : State} {x2} (fm : 244481 &&& F = 244481) (h1 : Keeps F a s1) : Keeps F a (@State.linkDown s1 x2) := by
  unfold State.linkDown
  dsimp only
  split
  · exact State.bringUp_keeps (sub fm) ‹_›
  · exact State.linkDrop_keeps (sub fm) (State.bringUp_keeps (sub fm) (State.bump_keeps (sub fm) (State.raise_keeps (sub fm) ‹_›)))

theorem State.syncLink_keeps {F a} {s1 : State} {s2 : State} {x3} (fm : 244481 &&& F = 244481) (_h1 : Keeps F a s1) (h2 : Keeps F a s2) : Keeps F a (@State.syncLink s1 s2 x3) := by
  unfold State.syncLink
  split
  · exact State.linkDown_keeps (sub fm) ‹_›
  · split
    · exact State.linkDrop_keeps (sub fm) ‹_›
    · assumption

theorem State.askLaneTest_keeps {F a} {s1 : State} {x2 x3 x4} (fm : 12289 &&& F = 12289) (h1 : Keeps F a s1) : Keeps F a (@State.askLaneTest s1 x2 x3 x4) := by
  unfold State.askLaneTest
  dsimp only
  split
  · assumption
  · exact State.nextLaneTest_keeps (sub fm) (State.updLport_keeps (sub fm) ‹_›)

theorem State.testLanes_keeps {F a} {s1 : State} {x2 x3} (fm : 244481 &&& F = 244481) (h1 : Keeps F a s1) : Keeps F a (@State.testLanes s1 x2 x3) := by
  unfold State.testLanes
  refine State.syncLink_keeps (sub fm) ?_ ?_
  · assumption
  · exact State.askLaneTest_keeps (sub fm) (State.askLaneTest_keeps (sub fm) ‹_›)

theorem State.trySync_keeps {F a} {s1 : State} (fm : 1 &&& F = 1) (h1 : Keeps F a s1) : Keeps F a (@State.trySync s1) := by
  unfold State.trySync
  split
  · exact State.event_keeps (State.fput_keeps (sub fm) ‹_›)
  · assumption

theorem State.commitRun_keeps {F a} {s1 : State} {x2 x3} (fm : 2147745793 &&& F = 2147745793) (h1 : Keeps F a s1) : Keeps F a (@State.commitRun s1 x2 x3) := by
  unfold State.commitRun
  dsimp only
  split
  · assumption
  · exact State.trySync_keeps (sub fm) (State.bput_keeps (sub fm) (State.bump_keeps (sub fm) (State.put_keeps (sub fm) (Keeps.set_xpts (sub fm) (Keeps.set_lany (sub fm) (Keeps.eta ‹_›))))))

theorem State.ackFrame_keeps {F a} {s1 : State} {x2} (fm : 2147745793 &&& F = 2147745793) (h1 : Keeps F a s1) : Keeps F a (@State.ackFrame s1 x2) := by
  unfold State.ackFrame
  dsimp only
  split
  · split
    · exact State.commitRun_keeps (sub fm) (Keeps.set_lany (sub fm) (Keeps.eta ‹_›))
    · exact Keeps.set_lany (sub fm) (Keeps.eta ‹_›)
  · assumption

theorem State.takeAck_keeps {F a} {s1 : State} {x2 x3} (fm : 2147778561 &&& F = 2147778561) (h1 : Keeps F a s1) : Keeps F a (@State.takeAck s1 x2 x3) := by
  unfold State.takeAck
  dsimp only
  split
  · assumption
  · split
    · refine State.showReplay_keeps (sub fm) (State.updLink_keeps (sub fm) ?_)
      refine Keeps.fold ?_ ?_
      · assumption
      · intro t8 t9 k10
        exact State.ackFrame_keeps (sub fm) ‹_›
    · assumption

theorem State.chargePort_keeps {F a} {s1 : State} {x2 x3 x4} (fm : 1 &&& F = 1) (h1 : Keeps F a s1) : Keeps F a (@State.chargePort s1 x2 x3 x4) := by
  unfold State.chargePort
  split
  · exact State.put_keeps (sub fm) ‹_›
  · assumption

theorem State.rxCells_keeps {F a} {s1 : State} {x2 x3} (fm : 98305 &&& F = 98305) (h1 : Keeps F a s1) : Keeps F a (@State.rxCells s1 x2 x3) := by
  unfold State.rxCells
  dsimp only
  split
  · assumption
  · split
    · exact State.growIn_keeps (sub fm) ‹_›
    · split
      · exact State.updLink_keeps (sub fm) (State.openIn_keeps (sub fm) ‹_›)
      · assumption

theorem State.fullLanes_keeps {F a} {s1 : State} {x2} (fm : 244481 &&& F = 244481) (h1 : Keeps F a s1) : Keeps F a (@State.fullLanes s1 x2) := by
  unfold State.fullLanes
  dsimp only
  split
  · refine State.syncLink_keeps (sub fm) ?_ ?_
    · assumption
    · exact State.nextLaneTest_keeps (sub fm) (State.updLport_keeps (sub fm) ‹_›)
  · exact State.updLport_keeps (sub fm) (State.bump_keeps (sub fm) ‹_›)

theorem State.retrainNow_keeps {F a} {s1 : State} {x2} (fm : 244481 &&& F = 244481) (h1 : Keeps F a s1) : Keeps F a (@State.retrainNow s1 x2) := by
  unfold State.retrainNow
  dsimp only
  exact State.linkDrop_keeps (sub fm) (State.rebond_keeps (sub fm) (State.updLink_keeps (sub fm) (State.bput_keeps (sub fm) (State.bump_keeps (sub fm) (State.raise_keeps (sub fm) ‹_›)))))

theorem State.linkRetrain_keeps {F a} {s1 : State} {x2} (fm : 244481 &&& F = 244481) (h1 : Keeps F a s1) : Keeps F a (@State.linkRetrain s1 x2) := by
  unfold State.linkRetrain
  dsimp only
  split
  · split
    · exact State.linkDown_keeps (sub fm) ‹_›
    · exact State.retrainNow_keeps (sub fm) ‹_›
  · split
    · exact State.linkDown_keeps (sub fm) ‹_›
    · exact State.retrainNow_keeps (sub fm) ‹_›

theorem State.startReplay_keeps {F a} {s1 : State} {x2} (fm : 244481 &&& F = 244481) (h1 : Keeps F a s1) : Keeps F a (@State.startReplay s1 x2) := by
  unfold State.startReplay
  dsimp only
  split
  · assumption
  · split
    · exact State.linkDown_keeps (sub fm) (State.testLanes_keeps (sub fm) (State.raise_keeps (sub fm) ‹_›))
    · split
      · exact State.linkRetrain_keeps (sub fm) (State.testLanes_keeps (sub fm) (State.raise_keeps (sub fm) ‹_›))
      · exact State.showReplay_keeps (sub fm) (State.updLink_keeps (sub fm) ‹_›)

theorem State.takeHeader_keeps {F a} {s1 : State} {x2 x3} (fm : 2147990273 &&& F = 2147990273) (h1 : Keeps F a s1) : Keeps F a (@State.takeHeader s1 x2 x3) := by
  unfold State.takeHeader
  dsimp only
  split
  · split
    · split
      · exact State.updLink_keeps (sub fm) (State.takeAck_keeps (sub fm) ‹_›)
      · exact State.startReplay_keeps (sub fm) (State.updLink_keeps (sub fm) (State.takeAck_keeps (sub fm) ‹_›))
    · exact State.startReplay_keeps (sub fm) (State.updLink_keeps (sub fm) (State.takeAck_keeps (sub fm) ‹_›))
  · exact State.updLink_keeps (sub fm) (State.takeAck_keeps (sub fm) ‹_›)

theorem State.endBegun_keeps {F a} {s1 : State} {x2 x3} (fm : 98305 &&& F = 98305) (h1 : Keeps F a s1) {r} (e : @State.endBegun s1 x2 x3 = some r) : Keeps F a (r) := by
  unfold State.endBegun at e
  dsimp only at e
  split at e
  · rw [← Option.some.inj e]
    assumption
  · split at e
    · rw [← Option.some.inj e]
      exact State.bump_keeps (sub fm) (State.stompBegun_keeps (sub fm) ‹_›)
    · split at e
      · rw [← Option.some.inj e]
        exact State.stompBegun_keeps (sub fm) ‹_›
      · split at e
        · cases e
        · rw [← Option.some.inj e]
          refine State.dropCol_keeps (sub fm) ?_
          split
          · exact State.sendFrame_keeps (sub fm) (State.updLink_keeps (sub fm) ‹_›)
          · exact State.updLink_keeps (sub fm) ‹_›

theorem State.laneVerdict_keeps {F a} {s1 : State} {x2 x3 x4 x5} (fm : 8961 &&& F = 8961) (h1 : Keeps F a s1) : Keeps F a (@State.laneVerdict s1 x2 x3 x4 x5) := by
  unfold State.laneVerdict
  dsimp only
  split
  · split
    · exact State.setVerdict_keeps (sub fm) (State.updLport_keeps (sub fm) (State.bput_keeps (sub fm) ‹_›))
    · exact State.logErr_keeps (sub fm) (State.putVerdict_keeps (sub fm) (State.updLport_keeps (sub fm) (State.bput_keeps (sub fm) ‹_›)))
  · split
    · exact State.setVerdict_keeps (sub fm) (State.updLport_keeps (sub fm) (State.bput_keeps (sub fm) ‹_›))
    · exact State.logErr_keeps (sub fm) (State.putVerdict_keeps (sub fm) (State.updLport_keeps (sub fm) (State.bput_keeps (sub fm) ‹_›)))

theorem State.burstTest_keeps {F a} {s1 : State} {x2 x3} (fm : 244481 &&& F = 244481) (h1 : Keeps F a s1) : Keeps F a (@State.burstTest s1 x2 x3) := by
  unfold State.burstTest
  split
  · refine State.syncLink_keeps (sub fm) ?_ ?_
    · assumption
    · exact State.setBond_keeps (sub fm) (State.toSignal_keeps (sub fm) (State.toSignal_keeps (sub fm) (State.laneVerdict_keeps (sub fm) ‹_›)))
  · refine State.syncLink_keeps (sub fm) ?_ ?_
    · assumption
    · exact State.startLaneTest_keeps (sub fm) ‹_›

theorem State.startSync_keeps {F a} {s1 : State} (fm : 2147483649 &&& F = 2147483649) (h1 : Keeps F a s1) : Keeps F a (@State.startSync s1) := by
  unfold State.startSync
  dsimp only
  exact State.event_keeps (State.fput_keeps (sub fm) (Keeps.set_lany (sub fm) (Keeps.eta ‹_›)))

theorem State.completeExchange_keeps {F a} {s1 : State} {x2} (fm : 2147990273 &&& F = 2147990273) (h1 : Keeps F a s1) : Keeps F a (@State.completeExchange s1 x2) := by
  unfold State.completeExchange
  dsimp only
  split
  · refine State.event_keeps (State.bump_keeps (sub fm) (State.showReplay_keeps (sub fm) (State.fput_keeps (sub fm) (State.bput_keeps (sub fm) (State.fput_keeps (sub fm) (State.updLink_keeps (sub fm) ?_))))))
    refine Keeps.fold ?_ ?_
    · split
      · exact State.startSync_keeps (sub fm) ‹_›
      · assumption
    · intro t4 t5 k6
      exact State.ackFrame_keeps (sub fm) ‹_›
  · split
    · refine State.updLink_keeps (sub fm) (State.reExchange_keeps (sub fm) (State.endSession_keeps (sub fm) ?_))
      split
      · exact State.startSync_keeps (sub fm) ‹_›
      · assumption
    · split
      · split
        · exact State.updLink_keeps (sub fm) (State.startSync_keeps (sub fm) ‹_›)
        · exact State.event_keeps (State.showReplay_keeps (sub fm) (State.put64_keeps (sub fm) (State.put_keeps (sub fm) (State.fput_keeps (sub fm) (State.fput_keeps (sub fm) (State.updLink_keeps (sub fm) (State.startSync_keeps (sub fm) ‹_›)))))))
      · split
        · exact State.updLink_keeps (sub fm) ‹_›
        · exact State.event_keeps (State.showReplay_keeps (sub fm) (State.put64_keeps (sub fm) (State.put_keeps (sub fm) (State.fput_keeps (sub fm) (State.fput_keeps (sub fm) (State.updLink_keeps (sub fm) ‹_›))))))

theorem State.rxIdent_keeps {F a} {s1 : State} {x2 x3} (fm : 2147990273 &&& F = 2147990273) (h1 : Keeps F a s1) : Keeps F a (@State.rxIdent s1 x2 x3) := by
  unfold State.rxIdent
  dsimp only
  split
  · split
    · exact State.startExchange_keeps (sub fm) (State.endSession_keeps (sub fm) ‹_›)
    · split
      · split
        · exact State.bump_keeps (sub fm) (State.updLink_keeps (sub fm) (State.startExchange_keeps (sub fm) (State.endSession_keeps (sub fm) ‹_›)))
        · exact State.raise_keeps (sub fm) (State.fput_keeps (sub fm) (State.bump_keeps (sub fm) (State.updLink_keeps (sub fm) (State.startExchange_keeps (sub fm) (State.endSession_keeps (sub fm) ‹_›)))))
      · split
        · split
          · split
            · exact State.updLink_keeps (sub fm) (State.startExchange_keeps (sub fm) (State.endSession_keeps (sub fm) (State.fput_keeps (sub fm) (State.updLink_keeps (sub fm) (State.startExchange_keeps (sub fm) (State.endSession_keeps (sub fm) ‹_›))))))
            · split
              · exact State.completeExchange_keeps (sub fm) (State.fput_keeps (sub fm) (State.updLink_keeps (sub fm) (State.startExchange_keeps (sub fm) (State.endSession_keeps (sub fm) ‹_›))))
              · exact State.fput_keeps (sub fm) (State.updLink_keeps (sub fm) (State.startExchange_keeps (sub fm) (State.endSession_keeps (sub fm) ‹_›)))
          · split
            · exact State.updLink_keeps (sub fm) (State.startExchange_keeps (sub fm) (State.endSession_keeps (sub fm) (State.fput_keeps (sub fm) (State.updLink_keeps (sub fm) (State.startExchange_keeps (sub fm) (State.endSession_keeps (sub fm) ‹_›))))))
            · split
              · exact State.completeExchange_keeps (sub fm) (State.fput_keeps (sub fm) (State.updLink_keeps (sub fm) (State.startExchange_keeps (sub fm) (State.endSession_keeps (sub fm) ‹_›))))
              · exact State.fput_keeps (sub fm) (State.updLink_keeps (sub fm) (State.startExchange_keeps (sub fm) (State.endSession_keeps (sub fm) ‹_›)))
        · split
          · exact State.updLink_keeps (sub fm) (State.startExchange_keeps (sub fm) (State.endSession_keeps (sub fm) (State.updLink_keeps (sub fm) (State.startExchange_keeps (sub fm) (State.endSession_keeps (sub fm) ‹_›)))))
          · split
            · exact State.completeExchange_keeps (sub fm) (State.updLink_keeps (sub fm) (State.startExchange_keeps (sub fm) (State.endSession_keeps (sub fm) ‹_›)))
            · exact State.updLink_keeps (sub fm) (State.startExchange_keeps (sub fm) (State.endSession_keeps (sub fm) ‹_›))
  · split
    · assumption
    · split
      · split
        · exact State.bump_keeps (sub fm) (State.updLink_keeps (sub fm) ‹_›)
        · exact State.raise_keeps (sub fm) (State.fput_keeps (sub fm) (State.bump_keeps (sub fm) (State.updLink_keeps (sub fm) ‹_›)))
      · split
        · split
          · split
            · exact State.updLink_keeps (sub fm) (State.startExchange_keeps (sub fm) (State.endSession_keeps (sub fm) (State.fput_keeps (sub fm) (State.updLink_keeps (sub fm) ‹_›))))
            · split
              · exact State.completeExchange_keeps (sub fm) (State.fput_keeps (sub fm) (State.updLink_keeps (sub fm) ‹_›))
              · exact State.fput_keeps (sub fm) (State.updLink_keeps (sub fm) ‹_›)
          · split
            · exact State.updLink_keeps (sub fm) (State.startExchange_keeps (sub fm) (State.endSession_keeps (sub fm) (State.fput_keeps (sub fm) (State.updLink_keeps (sub fm) ‹_›))))
            · split
              · exact State.completeExchange_keeps (sub fm) (State.fput_keeps (sub fm) (State.updLink_keeps (sub fm) ‹_›))
              · exact State.fput_keeps (sub fm) (State.updLink_keeps (sub fm) ‹_›)
        · split
          · exact State.updLink_keeps (sub fm) (State.startExchange_keeps (sub fm) (State.endSession_keeps (sub fm) (State.updLink_keeps (sub fm) ‹_›)))
          · split
            · exact State.completeExchange_keeps (sub fm) (State.updLink_keeps (sub fm) ‹_›)
            · exact State.updLink_keeps (sub fm) ‹_›

theorem State.sendSeq_keeps {F a} {s1 : State} {x2 x3 x4 x5 x6} (fm : 32769 &&& F = 32769) (h1 : Keeps F a s1) : Keeps F a (@State.sendSeq s1 x2 x3 x4 x5 x6) := by
  unfold State.sendSeq
  dsimp only
  exact State.sendFrame_keeps (sub fm) (State.updLink_keeps (sub fm) ‹_›)

theorem State.gap_keeps {F a} {s1 : State} {x2} (fm : 32768 &&& F = 32768) (h1 : Keeps F a s1) : Keeps F a (@State.gap s1 x2) := by
  unfold State.gap
  dsimp only
  split
  · split
    · exact State.updLink_keeps (sub fm) ‹_›
    · assumption
  · split
    · exact State.updLink_keeps (sub fm) ‹_›
    · assumption

theorem State.linkError_keeps {F a} {s1 : State} {x2 x3} (fm : 32769 &&& F = 32769) (h1 : Keeps F a s1) : Keeps F a (@State.linkError s1 x2 x3) := by
  unfold State.linkError
  exact State.updLink_keeps (sub fm) (State.bump_keeps (sub fm) ‹_›)

theorem State.rxFrame_keeps {F a} {s1 : State} {x2 x3} (fm : 2147990273 &&& F = 2147990273) (h1 : Keeps F a s1) : Keeps F a (@State.rxFrame s1 x2 x3).1 := by
  unfold State.rxFrame
  dsimp only
  split
  · dsimp only
    exact State.gap_keeps (sub fm) (State.linkError_keeps (sub fm) ‹_›)
  · dsimp only
    exact State.gap_keeps (sub fm) (State.linkError_keeps (sub fm) ‹_›)
  · split
    · split
      · dsimp only
        exact State.completeExchange_keeps (sub fm) (State.bump_keeps (sub fm) ‹_›)
      · split
        · dsimp only
          exact State.linkError_keeps (sub fm) (State.completeExchange_keeps (sub fm) (State.bump_keeps (sub fm) ‹_›))
        · dsimp only
          exact State.takeHeader_keeps (sub fm) (State.completeExchange_keeps (sub fm) (State.bump_keeps (sub fm) ‹_›))
    · split
      · dsimp only
        exact State.bump_keeps (sub fm) ‹_›
      · split
        · dsimp only
          exact State.linkError_keeps (sub fm) (State.bump_keeps (sub fm) ‹_›)
        · dsimp only
          exact State.takeHeader_keeps (sub fm) (State.bump_keeps (sub fm) ‹_›)

theorem State.arbitrate_keeps {F a} {s1 : State} {x2} (fm : 98305 &&& F = 98305) (h1 : Keeps F a s1) : Keeps F a (@State.arbitrate s1 x2) := by
  unfold State.arbitrate
  dsimp only
  split
  · exact State.showReplay_keeps (sub fm) ‹_›
  · split
    · split
      · exact State.updLink_keeps (sub fm) (State.showReplay_keeps (sub fm) ‹_›)
      · exact State.showReplay_keeps (sub fm) ‹_›
    · split
      · refine State.dropCol_keeps (sub fm) (State.sendSeq_keeps (sub fm) (State.updLink_keeps (sub fm) (State.chargePort_keeps (sub fm) (State.bump_keeps (sub fm) (State.bump_keeps (sub fm) (State.afterOut_keeps (sub fm) ?_))))))
        split
        · exact State.updLink_keeps (sub fm) (State.showReplay_keeps (sub fm) ‹_›)
        · exact State.showReplay_keeps (sub fm) ‹_›
      · refine State.updCol_keeps (sub fm) (State.updLink_keeps (sub fm) (State.updLink_keeps (sub fm) (State.chargePort_keeps (sub fm) (State.bump_keeps (sub fm) (State.bump_keeps (sub fm) (State.afterOut_keeps (sub fm) ?_))))))
        split
        · exact State.updLink_keeps (sub fm) (State.showReplay_keeps (sub fm) ‹_›)
        · exact State.showReplay_keeps (sub fm) ‹_›

theorem State.runFull_keeps {F a} {s1 : State} {x2} (fm : 244481 &&& F = 244481) (h1 : Keeps F a s1) : Keeps F a (@State.runFull s1 x2) := by
  unfold State.runFull
  dsimp only
  split
  · exact State.fullLanes_keeps (sub fm) (State.runTest_keeps (sub fm) ‹_›)
  · exact State.runTest_keeps (sub fm) ‹_›

theorem State.sendReplay_keeps {F a} {s1 : State} {x2 x3 x4} (fm : 32769 &&& F = 32769) (h1 : Keeps F a s1) : Keeps F a (@State.sendReplay s1 x2 x3 x4) := by
  unfold State.sendReplay
  dsimp only
  split
  · exact State.updLink_keeps (sub fm) ‹_›
  · exact State.sendFrame_keeps (sub fm) (State.bump_keeps (sub fm) (State.updLink_keeps (sub fm) ‹_›))

theorem State.chooseFrame_keeps {F a} {s1 : State} {x2} (fm : 98305 &&& F = 98305) (h1 : Keeps F a s1) : Keeps F a (@State.chooseFrame s1 x2) := by
  unfold State.chooseFrame
  dsimp only
  split
  · split
    · split
      · exact State.sendSeq_keeps (sub fm) (State.updLink_keeps (sub fm) ‹_›)
      · assumption
    · assumption
  · split
    · split
      · exact State.sendFrame_keeps (sub fm) (State.updLink_keeps (sub fm) ‹_›)
      · split
        · exact State.sendFrame_keeps (sub fm) (State.bump_keeps (sub fm) (State.updLink_keeps (sub fm) ‹_›))
        · split
          · exact State.sendReplay_keeps (sub fm) ‹_›
          · split
            · exact State.sendFrame_keeps (sub fm) (State.bump_keeps (sub fm) (State.updLink_keeps (sub fm) ‹_›))
            · split
              · split
                · assumption
                · split
                  · exact State.showReplay_keeps (sub fm) (State.sendSeq_keeps (sub fm) (State.updLink_keeps (sub fm) ‹_›))
                  · exact State.showReplay_keeps (sub fm) ‹_›
              · exact State.arbitrate_keeps (sub fm) ‹_›
    · split
      · exact State.sendFrame_keeps (sub fm) (State.updLink_keeps (sub fm) ‹_›)
      · assumption

theorem State.setSpares_keeps {F a} {s1 : State} {x2 x3 x4} (fm : 32 &&& F = 32) (h1 : Keeps F a s1) : Keeps F a (@State.setSpares s1 x2 x3 x4) := by
  unfold State.setSpares
  dsimp only
  exact Keeps.set_psto (sub fm) (Keeps.eta ‹_›)

theorem State.enterSvc_keeps {F a} {s1 : State} {x2 x3} (fm : 257 &&& F = 257) (h1 : Keeps F a s1) : Keeps F a (@State.enterSvc s1 x2 x3) := by
  unfold State.enterSvc
  dsimp only
  split
  · exact State.setSvc_keeps (sub fm) (State.setSvc_keeps (sub fm) ‹_›)
  · exact State.setSvc_keeps (sub fm) ‹_›

theorem State.endTransition_keeps {F a} {s1 : State} {x2} (fm : 2049 &&& F = 2049) (h1 : Keeps F a s1) : Keeps F a (@State.endTransition s1 x2) := by
  unfold State.endTransition
  dsimp only
  exact Keeps.set_svc (sub fm) (Keeps.eta (State.bput_keeps (sub fm) ‹_›))

theorem State.retireInst_keeps {F a} {s1 : State} {x2} (fm : 2337 &&& F = 2337) (h1 : Keeps F a s1) : Keeps F a (@State.retireInst s1 x2) := by
  unfold State.retireInst
  exact State.retireElement_keeps (sub fm) (State.enterSvc_keeps (sub fm) (State.endTransition_keeps (sub fm) ‹_›))

theorem State.retirePort_keeps {F a} {s1 : State} {x2} (fm : 244513 &&& F = 244513) (h1 : Keeps F a s1) : Keeps F a (@State.retirePort s1 x2) := by
  unfold State.retirePort
  dsimp only
  refine State.redispatch_keeps (sub fm) (State.undecide_keeps (sub fm) (State.fput_keeps (sub fm) (State.updLink_keeps (sub fm) (State.setAdmit_keeps (sub fm) ?_))))
  split
  · exact State.endSession_keeps (sub fm) (State.retireInst_keeps (sub fm) ‹_›)
  · exact State.retireInst_keeps (sub fm) ‹_›

theorem State.retireTile_keeps {F a} {s1 : State} {x2} (fm : 244513 &&& F = 244513) (h1 : Keeps F a s1) : Keeps F a (@State.retireTile s1 x2) := by
  unfold State.retireTile
  refine Keeps.fold ?_ ?_
  · exact State.retireInst_keeps (sub fm) ‹_›
  · intro t1 t2 k3
    split
    · assumption
    · exact State.retirePort_keeps (sub fm) ‹_›

theorem State.withdrawRow_keeps {F a} {s1 : State} {x2} (fm : 244513 &&& F = 244513) (h1 : Keeps F a s1) : Keeps F a (@State.withdrawRow s1 x2) := by
  unfold State.withdrawRow
  dsimp only
  split
  · exact State.retireTile_keeps (sub fm) (Keeps.set_relia (sub fm) (Keeps.eta (State.poolMove_keeps (sub fm) (State.bump_keeps (sub fm) (State.raise_keeps (sub fm) ‹_›)))))
  · exact Keeps.set_relia (sub fm) (Keeps.eta (State.poolMove_keeps (sub fm) (State.bump_keeps (sub fm) (State.raise_keeps (sub fm) ‹_›))))

theorem State.rowStart_keeps {F a} {s1 : State} {x2 x3 x4} (fm : 136559393 &&& F = 136559393) (h1 : Keeps F a s1) : Keeps F a (@State.rowStart s1 x2 x3 x4) := by
  unfold State.rowStart
  dsimp only
  split
  · exact State.startTest_keeps (sub fm) ‹_›
  · split
    · exact State.setSpares_keeps (sub fm) (State.startTest_keeps (sub fm) ‹_›)
    · split
      · exact State.enterFatal_keeps (sub fm) (State.retireElement_keeps (sub fm) (State.startTest_keeps (sub fm) ‹_›))
      · exact State.withdrawRow_keeps (sub fm) (State.retireElement_keeps (sub fm) (State.startTest_keeps (sub fm) ‹_›))
      · exact State.retireElement_keeps (sub fm) (State.startTest_keeps (sub fm) ‹_›)

theorem State.rowError_keeps {F a} {s1 : State} {x2 x3 x4} (fm : 136559393 &&& F = 136559393) (h1 : Keeps F a s1) : Keeps F a (@State.rowError s1 x2 x3 x4) := by
  unfold State.rowError
  exact State.rowStart_keeps (sub fm) (State.raise_keeps (sub fm) ‹_›)

theorem State.retire_keeps {F a} {s1 : State} {x2} (fm : 136559393 &&& F = 136559393) (h1 : Keeps F a s1) : Keeps F a (@State.retire s1 x2) := by
  unfold State.retire
  dsimp only
  split
  · exact State.retirePort_keeps (sub fm) ‹_›
  · exact State.retireTile_keeps (sub fm) ‹_›
  · split
    · exact State.enterFatal_keeps (sub fm) (State.retireInst_keeps (sub fm) ‹_›)
    · exact State.retireInst_keeps (sub fm) ‹_›
  · exact State.retireInst_keeps (sub fm) ‹_›

theorem State.rowVerdict_keeps {F a} {s1 : State} {x2 x3 x4} (fm : 32 &&& F = 32) (h1 : Keeps F a s1) : Keeps F a (@State.rowVerdict s1 x2 x3 x4).1 := by
  unfold State.rowVerdict
  dsimp only
  split
  · split
    · exact Keeps.set_psto (sub fm) (Keeps.eta (State.setSpares_keeps (sub fm) ‹_›))
    · exact State.setSpares_keeps (sub fm) ‹_›
  · exact State.retireElement_keeps (sub fm) ‹_›

theorem State.lasting_keeps {F a} {s1 : State} {x2 x3} (fm : 136559393 &&& F = 136559393) (h1 : Keeps F a s1) : Keeps F a (@State.lasting s1 x2 x3).1 := by
  unfold State.lasting
  dsimp only
  split
  · split
    · dsimp only
      exact State.enterFatal_keeps (sub fm) ‹_›
    · dsimp only
      exact State.enterFatal_keeps (sub fm) ‹_›
    · dsimp only
      exact State.enterFatal_keeps (sub fm) ‹_›
    · dsimp only
      exact State.enterFatal_keeps (sub fm) ‹_›
    · dsimp only
      exact State.enterFatal_keeps (sub fm) ‹_›
    · dsimp only
      exact State.retire_keeps (sub fm) ‹_›
  · split
    · split
      · split
        · split
          · dsimp only
            exact State.retireElement_keeps (sub fm) (State.setSpares_keeps (sub fm) ‹_›)
          · dsimp only
            exact State.retireTile_keeps (sub fm) ‹_›
        · split
          · dsimp only
            exact State.retireElement_keeps (sub fm) (State.setSpares_keeps (sub fm) ‹_›)
          · dsimp only
            exact State.retireTile_keeps (sub fm) ‹_›
      · exact State.rowVerdict_keeps (sub fm) ‹_›
    · dsimp only
      exact State.retire_keeps (sub fm) ‹_›
    · split
      · dsimp only
        exact State.raise_keeps (sub fm) (State.satAdd_keeps (sub fm) ‹_›)
      · dsimp only
        refine State.enterFatal_keeps (sub fm) ?_
        split
        · exact State.raise_keeps (sub fm) ‹_›
        · assumption
    · split
      · split
        · dsimp only
          exact State.retireElement_keeps (sub fm) (State.raise_keeps (sub fm) (State.setSpares_keeps (sub fm) ‹_›))
        · dsimp only
          exact State.retire_keeps (sub fm) ‹_›
      · exact State.rowVerdict_keeps (sub fm) ‹_›

theorem State.targetVerdict_keeps {F a} {s1 : State} {x2 x3 x4 x5} (fm : 136559393 &&& F = 136559393) (h1 : Keeps F a s1) : Keeps F a (@State.targetVerdict s1 x2 x3 x4 x5) := by
  unfold State.targetVerdict
  dsimp only
  split
  · assumption
  · split
    · exact State.runTest_keeps (sub fm) (State.putVerdict_keeps (sub fm) ‹_›)
    · refine State.nextTest_keeps (sub fm) (State.logErr_keeps (sub fm) ?_)
      split
      · split
        · dsimp only
          exact State.rowVerdict_keeps (sub fm) (State.putVerdict_keeps (sub fm) ‹_›)
        · dsimp only
          exact State.putVerdict_keeps (sub fm) ‹_›
      · exact State.lasting_keeps (sub fm) (State.putVerdict_keeps (sub fm) ‹_›)

theorem State.failLane_keeps {F a} {s1 : State} {x2 x3} (fm : 4129 &&& F = 4129) (h1 : Keeps F a s1) : Keeps F a (@State.failLane s1 x2 x3) := by
  unfold State.failLane
  exact State.retireElement_keeps (sub fm) (State.bput_keeps (sub fm) (State.setLaneState_keeps (sub fm) (State.toSignal_keeps (sub fm) ‹_›)))

theorem State.retireLane_keeps {F a} {s1 : State} {x2 x3} (fm : 244513 &&& F = 244513) (h1 : Keeps F a s1) : Keeps F a (@State.retireLane s1 x2 x3).1 := by
  unfold State.retireLane
  dsimp only
  split
  · dsimp only
    exact State.retirePort_keeps (sub fm) (State.failLane_keeps (sub fm) ‹_›)
  · dsimp only
    exact State.failLane_keeps (sub fm) ‹_›

theorem State.clearRetired_keeps {F a} {s1 : State} {x2} (fm : 33 &&& F = 33) (h1 : Keeps F a s1) : Keeps F a (@State.clearRetired s1 x2) := by
  unfold State.clearRetired
  dsimp only
  split
  · exact State.fput_keeps (sub fm) (Keeps.set_psto (sub fm) (Keeps.eta ‹_›))
  · exact Keeps.set_psto (sub fm) (Keeps.eta ‹_›)

theorem State.releaseCommit_keeps {F a} {s1 : State} {x2} (fm : 131073 &&& F = 131073) (h1 : Keeps F a s1) : Keeps F a (@State.releaseCommit s1 x2) := by
  unfold State.releaseCommit
  dsimp only
  refine Keeps.set_route (sub fm) (Keeps.eta (State.event_keeps ?_))
  split
  · exact State.bput_keeps (sub fm) (State.fput_keeps (sub fm) (State.fput_keeps (sub fm) (State.bput_keeps (sub fm) (State.bput_keeps (sub fm) ‹_›))))
  · exact State.fput_keeps (sub fm) (State.fput_keeps (sub fm) (State.bput_keeps (sub fm) (State.bput_keeps (sub fm) ‹_›)))

theorem State.switchBanks_keeps {F a} {s1 : State} (fm : 1 &&& F = 1) (h1 : Keeps F a s1) : Keeps F a (@State.switchBanks s1) := by
  unfold State.switchBanks
  dsimp only
  refine State.bump_keeps (sub fm) ?_
  refine Keeps.fold ?_ ?_
  · exact State.put_keeps (sub fm) (State.put_keeps (sub fm) (State.bput_keeps (sub fm) (State.bput_keeps (sub fm) ‹_›)))
  · intro t1 t2 k3
    split
    · split
      · exact State.setAdmit_keeps (sub fm) ‹_›
      · assumption
    · split
      · exact State.setAdmit_keeps (sub fm) ‹_›
      · assumption

theorem State.deadlineCommit_keeps {F a} {s1 : State} (fm : 131073 &&& F = 131073) (h1 : Keeps F a s1) : Keeps F a (@State.deadlineCommit s1) := by
  unfold State.deadlineCommit
  split
  · exact State.raise_keeps (sub fm) (State.releaseCommit_keeps (sub fm) ‹_›)
  · exact State.bump_keeps (sub fm) (State.raise_keeps (sub fm) (State.releaseCommit_keeps (sub fm) ‹_›))

theorem State.commitStage_keeps {F a} {s1 : State} (fm : 131073 &&& F = 131073) (h1 : Keeps F a s1) : Keeps F a (@State.commitStage s1) := by
  unfold State.commitStage
  dsimp only
  split
  · assumption
  · split
    · exact State.releaseCommit_keeps (sub fm) (State.bput_keeps (sub fm) (State.switchBanks_keeps (sub fm) ‹_›))
    · split
      · exact State.deadlineCommit_keeps (sub fm) ‹_›
      · split
        · exact Keeps.set_route (sub fm) (Keeps.eta (State.fput_keeps (sub fm) ‹_›))
        · split
          · exact Keeps.set_route (sub fm) (Keeps.eta (State.fput_keeps (sub fm) (State.bput_keeps (sub fm) (State.switchBanks_keeps (sub fm) ‹_›))))
          · exact State.releaseCommit_keeps (sub fm) ‹_›

theorem State.setShadow_keeps {F a} {s1 : State} {x2 x3} (fm : 131072 &&& F = 131072) (h1 : Keeps F a s1) : Keeps F a (@State.setShadow s1 x2 x3) := by
  unfold State.setShadow
  dsimp only
  split
  · exact Keeps.set_route (sub fm) (Keeps.eta ‹_›)
  · exact Keeps.set_route (sub fm) (Keeps.eta ‹_›)

theorem execRouteTableWindowWrite_keeps {F a} {x1 x2 x3} {s4 : State} (fm : 131073 &&& F = 131073) (h4 : Keeps F a s4) {r} (e : @execRouteTableWindowWrite x1 x2 x3 s4 = .next r) : Keeps F a r := by
  unfold execRouteTableWindowWrite at e
  dsimp only at e
  split at e
  · rw [← Host.Outcome.next.inj e]
    assumption
  · split at e
    · rw [← Host.Outcome.next.inj e]
      exact State.raise_keeps (sub fm) ‹_›
    · split at e
      · rw [← Host.Outcome.next.inj e]
        exact State.raise_keeps (sub fm) ‹_›
      · split at e
        · rw [← Host.Outcome.next.inj e]
          exact State.raise_keeps (sub fm) ‹_›
        · split at e
          · rw [← Host.Outcome.next.inj e]
            assumption
          · rw [← Host.Outcome.next.inj e]
            exact State.setShadow_keeps (sub fm) ‹_›

theorem execCopyComplete_keeps {F a} {s1 : State} (fm : 131073 &&& F = 131073) (h1 : Keeps F a s1) {r} (e : @execCopyComplete s1 = .next r) : Keeps F a r := by
  unfold execCopyComplete at e
  dsimp only at e
  split at e
  · rw [← Host.Outcome.next.inj e]
    exact State.bput_keeps (sub fm) (State.bput_keeps (sub fm) (Keeps.set_route (sub fm) (Keeps.eta ‹_›)))
  · rw [← Host.Outcome.next.inj e]
    assumption

theorem State.jobEnd_keeps {F a} {s1 : State} {x2 x3} (fm : 1 &&& F = 1) (h1 : Keeps F a s1) : Keeps F a (@State.jobEnd s1 x2 x3) := by
  unfold State.jobEnd
  dsimp only
  exact State.fput_keeps (sub fm) (State.fput_keeps (sub fm) ‹_›)

theorem execRouteReplicaReload_keeps {F a} {x1 x2} {s3 : State} (fm : 136559393 &&& F = 136559393) (h3 : Keeps F a s3) {r} (e : @execRouteReplicaReload x1 x2 s3 = .next r) : Keeps F a r := by
  unfold execRouteReplicaReload at e
  dsimp only at e
  split at e
  · rw [← Host.Outcome.next.inj e]
    assumption
  · split at e
    · rw [← Host.Outcome.next.inj e]
      exact State.updTile_keeps (sub fm) ‹_›
    · rw [← Host.Outcome.next.inj e]
      exact State.rowError_keeps (sub fm) (State.updTile_keeps (sub fm) ‹_›)

theorem execPacketBufferEccError_keeps {F a} {x1 x2 x3 x4} {s5 : State} (fm : 136559393 &&& F = 136559393) (h5 : Keeps F a s5) {r} (e : @execPacketBufferEccError x1 x2 x3 x4 s5 = .next r) : Keeps F a r := by
  unfold execPacketBufferEccError at e
  split at e
  · split at e
    · rw [← Host.Outcome.next.inj e]
      exact State.rowError_keeps (sub fm) (State.bump_keeps (sub fm) ‹_›)
    · rw [← Host.Outcome.next.inj e]
      exact State.rowError_keeps (sub fm) (State.bump_keeps (sub fm) (State.discardPacket_keeps (sub fm) ‹_›))
  · rw [← Host.Outcome.next.inj e]
    assumption

theorem execCrossingRound_keeps {F a} {s1 : State} (fm : 491521 &&& F = 491521) (h1 : Keeps F a s1) {r} (e : @execCrossingRound s1 = .next r) : Keeps F a r := by
  rw [← Host.Outcome.next.inj e]
  exact State.crossRound_keeps (sub fm) h1

theorem execCommitDeadline_keeps {F a} {s1 : State} (fm : 131073 &&& F = 131073) (h1 : Keeps F a s1) {r} (e : @execCommitDeadline s1 = .next r) : Keeps F a r := by
  unfold execCommitDeadline at e
  split at e
  · split at e
    · rw [← Host.Outcome.next.inj e]
      exact State.deadlineCommit_keeps (sub fm) ‹_›
    · rw [← Host.Outcome.next.inj e]
      assumption
  · rw [← Host.Outcome.next.inj e]
    assumption

theorem State.jobStart_keeps {F a} {s1 : State} {x2} (fm : 65 &&& F = 65) (h1 : Keeps F a s1) : Keeps F a (@State.jobStart s1 x2).1 := by
  unfold State.jobStart
  dsimp only
  split
  · dsimp only
    assumption
  · split
    · split
      · dsimp only
        assumption
      · dsimp only
        exact State.bump_keeps (sub fm) (Keeps.set_tick (sub fm) (Keeps.eta ‹_›))
    · dsimp only
      assumption

theorem execRouteDecision_keeps {F a} {x1 x2 x3} {s4 : State} (fm : 229377 &&& F = 229377) (h4 : Keeps F a s4) {r} (e : @execRouteDecision x1 x2 x3 s4 = .next r) : Keeps F a r := by
  unfold execRouteDecision at e
  split at e
  · split at e
    · rw [← Host.Outcome.next.inj e]
      assumption
    · rw [← Host.Outcome.next.inj e]
      exact State.decideIn_keeps (sub fm) ‹_›
  · rw [← Host.Outcome.next.inj e]
    assumption

theorem execTelltaleReceive_keeps {F a} {x1 x2} {s3 : State} (fm : 2147990273 &&& F = 2147990273) (h3 : Keeps F a s3) {r} (e : @execTelltaleReceive x1 x2 s3 = .next r) : Keeps F a r := by
  unfold execTelltaleReceive at e
  dsimp only at e
  split at e
  · split at e
    · rename_i v2 v3 v4
      rw [← Host.Outcome.next.inj e]
      refine Keeps.fst ?_ v4
      exact State.rxFrame_keeps (sub fm) ‹_›
    · rename_i v5 v6 v7
      split at e
      · rw [← Host.Outcome.next.inj e]
        refine Keeps.fst ?_ v7
        exact State.rxFrame_keeps (sub fm) ‹_›
      · split at e
        · rw [← Host.Outcome.next.inj e]
          refine State.bump_keeps (sub fm) (Keeps.set_route (sub fm) (Keeps.eta ?_))
          refine Keeps.fst ?_ v7
          exact State.rxFrame_keeps (sub fm) ‹_›
        · rw [← Host.Outcome.next.inj e]
          refine State.raise_keeps (sub fm) ?_
          refine Keeps.fst ?_ v7
          exact State.rxFrame_keeps (sub fm) ‹_›
  · rw [← Host.Outcome.next.inj e]
    assumption

end Sys2Proof.Machine
end

