-- ==== Sys2Proof/Laws/KeepsTransport.lean ====
section
/-! SUPPORT. The end-to-end transport, memory accesses, cleats, descriptors, windows and matching keep what `Keeps` says: one lemma per operation, named after it. -/

-- one declaration after another: the threads of parallel elaboration would take the stack of each
set_option Elab.async false

namespace Sys2Proof.Machine

theorem State.takeClr_keeps {F a} {s1 : State} {x2} (fm : 262145 &&& F = 262145) (h1 : Keeps F a s1) : Keeps F a (@State.takeClr s1 x2) := by
  unfold State.takeClr
  exact State.bump_keeps (sub fm) (State.updXpt_keeps (sub fm) ‹_›)

theorem State.updCtx_keeps {F a} {s1 : State} {x2 x3 x4} (fm : 262144 &&& F = 262144) (h1 : Keeps F a s1) : Keeps F a (@State.updCtx s1 x2 x3 x4) := by
  unfold State.updCtx
  dsimp only
  exact State.updXpt_keeps (sub fm) ‹_›

theorem State.openTx_keeps {F a} {s1 : State} {x2 x3} (fm : 262145 &&& F = 262145) (h1 : Keeps F a s1) {r} (e : @State.openTx s1 x2 x3 = some r) : Keeps F a (r) := by
  unfold State.openTx at e
  dsimp only at e
  split at e
  · split at e
    · cases e
    · rw [← Option.some.inj e]
      assumption
  · split at e
    · cases e
    · split at e
      · rw [← Option.some.inj e]
        exact State.bump_keeps (sub fm) (State.updCtx_keeps (sub fm) ‹_›)
      · split at e
        · cases e
        · rw [← Option.some.inj e]
          exact State.bump_keeps (sub fm) (State.updCtx_keeps (sub fm) (State.updXpt_keeps (sub fm) ‹_›))

theorem State.updTx_keeps {F a} {s1 : State} {x2 x3 x4} (fm : 262144 &&& F = 262144) (h1 : Keeps F a s1) : Keeps F a (@State.updTx s1 x2 x3 x4) := by
  unfold State.updTx
  exact State.updCtx_keeps (sub fm) ‹_›

theorem State.sendCopy_keeps {F a} {s1 : State} {x2 x3 x4 x5} (fm : 98305 &&& F = 98305) (h1 : Keeps F a s1) : Keeps F a (@State.sendCopy s1 x2 x3 x4 x5) := by
  unfold State.sendCopy
  dsimp only
  exact State.injectPkt_keeps (sub fm) ‹_›

theorem State.noteCopy_keeps {F a} {s1 : State} {x2 x3 x4} (fm : 262144 &&& F = 262144) (h1 : Keeps F a s1) : Keeps F a (@State.noteCopy s1 x2 x3 x4) := by
  unfold State.noteCopy
  exact State.updTx_keeps (sub fm) ‹_›

theorem State.sendNew_keeps {F a} {s1 : State} {x2 x3 x4} (fm : 360449 &&& F = 360449) (h1 : Keeps F a s1) : Keeps F a (@State.sendNew s1 x2 x3 x4) := by
  unfold State.sendNew
  dsimp only
  split
  · assumption
  · refine State.sendCopy_keeps (sub fm) (State.noteCopy_keeps (sub fm) (State.bump_keeps (sub fm) (State.bump_keeps (sub fm) ?_)))
    split
    · exact State.bumpVf_keeps (sub fm) (State.bumpVf_keeps (sub fm) (State.updTx_keeps (sub fm) ‹_›))
    · exact State.updTx_keeps (sub fm) ‹_›

theorem State.sendNumbered_keeps {F a} {s1 : State} {x2 x3 x4} (fm : 360449 &&& F = 360449) (h1 : Keeps F a s1) : Keeps F a (@State.sendNumbered s1 x2 x3 x4) := by
  unfold State.sendNumbered
  split
  · split
    · exact State.sendNew_keeps (sub fm) (State.updTx_keeps (sub fm) ‹_›)
    · exact State.sendNew_keeps (sub fm) ‹_›
  · assumption

theorem State.updRx_keeps {F a} {s1 : State} {x2 x3 x4} (fm : 262144 &&& F = 262144) (h1 : Keeps F a s1) : Keeps F a (@State.updRx s1 x2 x3 x4) := by
  unfold State.updRx
  exact State.updCtx_keeps (sub fm) ‹_›

theorem State.dispose_keeps {F a} {s1 : State} {x2 x3 x4} (fm : 262144 &&& F = 262144) (h1 : Keeps F a s1) : Keeps F a (@State.dispose s1 x2 x3 x4) := by
  unfold State.dispose
  exact State.updRx_keeps (sub fm) ‹_›

theorem State.countWait_keeps {F a} {s1 : State} {x2 x3 x4} (fm : 262145 &&& F = 262145) (h1 : Keeps F a s1) : Keeps F a (@State.countWait s1 x2 x3 x4) := by
  unfold State.countWait
  dsimp only
  split
  · split
    · assumption
    · exact State.updXpt_keeps (sub fm) (State.bump_keeps (sub fm) ‹_›)
  · split
    · assumption
    · exact State.updXpt_keeps (sub fm) (State.bump_keeps (sub fm) ‹_›)
  · split
    · assumption
    · exact State.updXpt_keeps (sub fm) (State.bump_keeps (sub fm) ‹_›)
  · split
    · assumption
    · exact State.updXpt_keeps (sub fm) (State.bump_keeps (sub fm) ‹_›)
  · split
    · assumption
    · exact State.updXpt_keeps (sub fm) (State.bump_keeps (sub fm) ‹_›)
  · assumption
  · assumption

theorem State.flushQ_keeps {F a} {x1 x2 x3 x4 x5 x6} {s7 : State} (fm : 360449 &&& F = 360449) (h7 : Keeps F a s7) : Keeps F a (@State.flushQ x1 x2 x3 x4 x5 x6 s7) := by
  induction x4 generalizing x1 x2 x3 x5 x6 s7
  · unfold State.flushQ
    assumption
  · rename_i v1 v2 ih
    unfold State.flushQ
    dsimp only
    split
    · split
      · apply ih
        assumption
      · split
        · split
          · assumption
          · rename_i v9 v10 v11
            apply ih
            split
            · refine State.dispose_keeps (sub fm) (State.sendNumbered_keeps (sub fm) (State.updXpt_keeps (sub fm) ?_))
              refine (State.openTx_keeps (sub fm) ?_ v11 : _)
              assumption
            · refine State.sendNumbered_keeps (sub fm) (State.updXpt_keeps (sub fm) ?_)
              refine (State.openTx_keeps (sub fm) ?_ v11 : _)
              assumption
        · apply ih
          exact State.countWait_keeps (sub fm) ‹_›
    · split
      · apply ih
        assumption
      · split
        · split
          · assumption
          · rename_i v21 v22 v23
            apply ih
            split
            · refine State.dispose_keeps (sub fm) (State.sendNumbered_keeps (sub fm) (State.updXpt_keeps (sub fm) ?_))
              refine (State.openTx_keeps (sub fm) ?_ v23 : _)
              assumption
            · refine State.sendNumbered_keeps (sub fm) (State.updXpt_keeps (sub fm) ?_)
              refine (State.openTx_keeps (sub fm) ?_ v23 : _)
              assumption
        · apply ih
          exact State.countWait_keeps (sub fm) ‹_›

theorem State.pushReq_keeps {F a} {s1 : State} {x2} (fm : 262144 &&& F = 262144) (h1 : Keeps F a s1) : Keeps F a (@State.pushReq s1 x2) := by
  unfold State.pushReq
  exact State.updXpt_keeps (sub fm) ‹_›

theorem State.pushVoid_keeps {F a} {s1 : State} {x2 x3 x4 x5 x6 x7} (fm : 262144 &&& F = 262144) (h1 : Keeps F a s1) : Keeps F a (@State.pushVoid s1 x2 x3 x4 x5 x6 x7) := by
  unfold State.pushVoid
  exact State.pushReq_keeps (sub fm) ‹_›

theorem State.endAdopted_keeps {F a} {s1 : State} {x2 x3} (fm : 136314881 &&& F = 136314881) (h1 : Keeps F a s1) : Keeps F a (@State.endAdopted s1 x2 x3) := by
  unfold State.endAdopted
  dsimp only
  split
  · split
    · exact State.postCompletion_keeps (sub fm) (State.bump_keeps (sub fm) ‹_›)
    · exact State.bump_keeps (sub fm) (State.bump_keeps (sub fm) ‹_›)
  · split
    · exact State.postCompletion_keeps (sub fm) (State.bump_keeps (sub fm) ‹_›)
    · exact State.bump_keeps (sub fm) (State.bump_keeps (sub fm) ‹_›)

theorem State.newMsg_keeps {F a} {s1 : State} {x2 x3 x4} (fm : 262144 &&& F = 262144) (h1 : Keeps F a s1) : Keeps F a (@State.newMsg s1 x2 x3 x4).1 := by
  unfold State.newMsg
  split
  · dsimp only
    assumption
  · dsimp only
    exact State.updTx_keeps (sub fm) ‹_›

theorem State.startSignal_keeps {F a} {s1 : State} {x2 x3 x4 x5 x6 x7} (fm : 262144 &&& F = 262144) (h1 : Keeps F a s1) : Keeps F a (@State.startSignal s1 x2 x3 x4 x5 x6 x7) := by
  unfold State.startSignal
  dsimp only
  exact State.pushReq_keeps (sub fm) (State.newMsg_keeps (sub fm) ‹_›)

theorem State.endMsg_keeps {F a} {s1 : State} {x2 x3 x4 x5} (fm : 136577025 &&& F = 136577025) (h1 : Keeps F a s1) : Keeps F a (@State.endMsg s1 x2 x3 x4 x5) := by
  unfold State.endMsg
  dsimp only
  split
  · refine State.endAdopted_keeps (sub fm) (State.bump_keeps (sub fm) ?_)
    refine Keeps.fold ?_ ?_
    · exact State.updXpt_keeps (sub fm) (State.updTx_keeps (sub fm) ‹_›)
    · intro t2 t3 k4
      split
      · exact State.pushVoid_keeps (sub fm) ‹_›
      · assumption
  · split
    · split
      · refine State.startSignal_keeps (sub fm) (State.bump_keeps (sub fm) ?_)
        refine Keeps.fold ?_ ?_
        · exact State.updXpt_keeps (sub fm) (State.updTx_keeps (sub fm) ‹_›)
        · intro t14 t15 k16
          split
          · exact State.pushVoid_keeps (sub fm) ‹_›
          · assumption
      · refine State.complete_keeps (sub fm) (State.bump_keeps (sub fm) ?_)
        refine Keeps.fold ?_ ?_
        · exact State.updXpt_keeps (sub fm) (State.updTx_keeps (sub fm) ‹_›)
        · intro t20 t21 k22
          split
          · exact State.pushVoid_keeps (sub fm) ‹_›
          · assumption
    · refine State.complete_keeps (sub fm) (State.bump_keeps (sub fm) ?_)
      refine Keeps.fold ?_ ?_
      · exact State.updXpt_keeps (sub fm) (State.updTx_keeps (sub fm) ‹_›)
      · intro t28 t29 k30
        split
        · exact State.pushVoid_keeps (sub fm) ‹_›
        · assumption

theorem State.dropRx_keeps {F a} {s1 : State} {x2 x3 x4} (fm : 262144 &&& F = 262144) (h1 : Keeps F a s1) : Keeps F a (@State.dropRx s1 x2 x3 x4) := by
  unfold State.dropRx
  dsimp only
  split
  · assumption
  · exact State.updCtx_keeps (sub fm) ‹_›

theorem State.endRx_keeps {F a} {s1 : State} {x2 x3 x4} (fm : 262144 &&& F = 262144) (h1 : Keeps F a s1) : Keeps F a (@State.endRx s1 x2 x3 x4) := by
  unfold State.endRx
  split
  · assumption
  · exact State.dropRx_keeps (sub fm) (State.updXpt_keeps (sub fm) ‹_›)

theorem State.freeCtx_keeps {F a} {s1 : State} {x2 x3} (fm : 262144 &&& F = 262144) (h1 : Keeps F a s1) : Keeps F a (@State.freeCtx s1 x2 x3) := by
  unfold State.freeCtx
  exact State.updXpt_keeps (sub fm) ‹_›

theorem State.closedTx_keeps {F a} {s1 : State} {x2 x3} (fm : 262145 &&& F = 262145) (h1 : Keeps F a s1) : Keeps F a (@State.closedTx s1 x2 x3) := by
  unfold State.closedTx
  dsimp only
  refine State.freeCtx_keeps (sub fm) (State.bump_keeps (sub fm) (State.updXpt_keeps (sub fm) (State.updCtx_keeps (sub fm) ?_)))
  split
  · split
    · assumption
    · exact State.fput_keeps (sub fm) (State.updXpt_keeps (sub fm) ‹_›)
  · split
    · assumption
    · exact State.fput_keeps (sub fm) (State.updXpt_keeps (sub fm) ‹_›)

theorem State.endHalf_keeps {F a} {s1 : State} {x2 x3 x4} (fm : 136577025 &&& F = 136577025) (h1 : Keeps F a s1) : Keeps F a (@State.endHalf s1 x2 x3 x4) := by
  unfold State.endHalf
  dsimp only
  split
  · assumption
  · refine State.closedTx_keeps (sub fm) (State.updXpt_keeps (sub fm) (State.endRx_keeps (sub fm) (State.updXpt_keeps (sub fm) ?_)))
    refine Keeps.fold ?_ ?_
    · assumption
    · intro t6 t7 k8
      exact State.endMsg_keeps (sub fm) ‹_›

theorem State.endDir_keeps {F a} {s1 : State} {x2 x3 x4} (fm : 136577025 &&& F = 136577025) (h1 : Keeps F a s1) : Keeps F a (@State.endDir s1 x2 x3 x4) := by
  unfold State.endDir
  split
  · exact State.endHalf_keeps (sub fm) ‹_›
  · exact State.freeCtx_keeps (sub fm) (State.endRx_keeps (sub fm) (State.updXpt_keeps (sub fm) ‹_›))

theorem State.sendReset_keeps {F a} {s1 : State} {x2 x3 x4} (fm : 98305 &&& F = 98305) (h1 : Keeps F a s1) : Keeps F a (@State.sendReset s1 x2 x3 x4) := by
  unfold State.sendReset
  dsimp only
  exact State.sendCopy_keeps (sub fm) (State.bump_keeps (sub fm) ‹_›)

theorem State.answerReset_keeps {F a} {s1 : State} {x2} (fm : 360449 &&& F = 360449) (h1 : Keeps F a s1) : Keeps F a (@State.answerReset s1 x2) := by
  unfold State.answerReset
  dsimp only
  split
  · assumption
  · exact State.sendReset_keeps (sub fm) (State.updXpt_keeps (sub fm) ‹_›)

theorem State.sendClose_keeps {F a} {s1 : State} {x2 x3} (fm : 136675329 &&& F = 136675329) (h1 : Keeps F a s1) : Keeps F a (@State.sendClose s1 x2 x3) := by
  unfold State.sendClose
  dsimp only
  split
  · exact State.endHalf_keeps (sub fm) ‹_›
  · exact State.updTx_keeps (sub fm) (State.sendNew_keeps (sub fm) ‹_›)

theorem State.closeLru_keeps {F a} {s1 : State} {x2} (fm : 136675329 &&& F = 136675329) (h1 : Keeps F a s1) : Keeps F a (@State.closeLru s1 x2) := by
  unfold State.closeLru
  split
  · exact State.sendClose_keeps (sub fm) ‹_›
  · assumption

theorem State.flush_keeps {F a} {s1 : State} {x2 x3} (fm : 136675329 &&& F = 136675329) (h1 : Keeps F a s1) : Keeps F a (@State.flush s1 x2 x3) := by
  unfold State.flush
  dsimp only
  split
  · assumption
  · split
    · exact State.endDir_keeps (sub fm) (State.bump_keeps (sub fm) ‹_›)
    · exact State.flushQ_keeps (sub fm) ‹_›

theorem State.sendOwn_keeps {F a} {s1 : State} {x2 x3 x4} (fm : 136675329 &&& F = 136675329) (h1 : Keeps F a s1) : Keeps F a (@State.sendOwn s1 x2 x3 x4) := by
  unfold State.sendOwn
  dsimp only
  refine State.flush_keeps (sub fm) (State.pushReq_keeps (sub fm) ?_)
  split
  · exact State.closeLru_keeps (sub fm) ‹_›
  · assumption

theorem State.sendNotice_keeps {F a} {s1 : State} {x2 x3} (fm : 136675329 &&& F = 136675329) (h1 : Keeps F a s1) : Keeps F a (@State.sendNotice s1 x2 x3) := by
  unfold State.sendNotice
  dsimp only
  exact State.sendOwn_keeps (sub fm) (State.bump_keeps (sub fm) ‹_›)

theorem State.present_keeps {F a} {s1 : State} {x2 x3} (fm : 136675329 &&& F = 136675329) (h1 : Keeps F a s1) : Keeps F a (@State.present s1 x2 x3) := by
  unfold State.present
  dsimp only
  split
  · split
    · exact State.sendNotice_keeps (sub fm) (State.updRx_keeps (sub fm) ‹_›)
    · refine State.updXpt_keeps (sub fm) ?_
      split
      · refine State.updRx_keeps (sub fm) (State.updRx_keeps (sub fm) ?_)
        split
        · exact State.updXpt_keeps (sub fm) (State.updRx_keeps (sub fm) ‹_›)
        · exact State.updRx_keeps (sub fm) ‹_›
      · refine State.updRx_keeps (sub fm) ?_
        split
        · exact State.updXpt_keeps (sub fm) (State.updRx_keeps (sub fm) ‹_›)
        · exact State.updRx_keeps (sub fm) ‹_›
  · split
    · exact State.sendNotice_keeps (sub fm) (State.updRx_keeps (sub fm) ‹_›)
    · refine State.updXpt_keeps (sub fm) ?_
      split
      · refine State.updRx_keeps (sub fm) (State.updRx_keeps (sub fm) ?_)
        split
        · exact State.updXpt_keeps (sub fm) (State.updRx_keeps (sub fm) ‹_›)
        · exact State.updRx_keeps (sub fm) ‹_›
      · refine State.updRx_keeps (sub fm) ?_
        split
        · exact State.updXpt_keeps (sub fm) (State.updRx_keeps (sub fm) ‹_›)
        · exact State.updRx_keeps (sub fm) ‹_›

theorem State.endAnswered_keeps {F a} {s1 : State} {x2 x3} (fm : 136577025 &&& F = 136577025) (h1 : Keeps F a s1) : Keeps F a (@State.endAnswered s1 x2 x3) := by
  unfold State.endAnswered
  split
  · assumption
  · refine Keeps.fold ?_ ?_
    · assumption
    · intro t6 t7 k8
      exact State.endMsg_keeps (sub fm) ‹_›

theorem State.applyAcks_keeps {F a} {s1 : State} {x2 x3} (fm : 136577025 &&& F = 136577025) (h1 : Keeps F a s1) : Keeps F a (@State.applyAcks s1 x2 x3) := by
  unfold State.applyAcks
  dsimp only
  split
  · assumption
  · exact State.endAnswered_keeps (sub fm) (State.updTx_keeps (sub fm) ‹_›)

theorem State.rttSample_keeps {F a} {s1 : State} {x2 x3}  (h1 : Keeps F a s1) : Keeps F a (@State.rttSample s1 x2 x3).2 := by
  unfold State.rttSample
  dsimp only
  split
  · dsimp only
    assumption
  · split
    · dsimp only
      assumption
    · dsimp only
      exact State.free_keeps ‹_›

theorem State.touchIdle_keeps {F a} {s1 : State} {x2 x3} (fm : 262144 &&& F = 262144) (h1 : Keeps F a s1) : Keeps F a (@State.touchIdle s1 x2 x3) := by
  unfold State.touchIdle
  exact State.updTx_keeps (sub fm) ‹_›

theorem State.timeoutHalf_keeps {F a} {s1 : State} {x2 x3} (fm : 136675329 &&& F = 136675329) (h1 : Keeps F a s1) : Keeps F a (@State.timeoutHalf s1 x2 x3) := by
  unfold State.timeoutHalf
  dsimp only
  exact State.sendReset_keeps (sub fm) (State.endHalf_keeps (sub fm) (State.bump_keeps (sub fm) (State.raise_keeps (sub fm) ‹_›)))

theorem State.resend_keeps {F a} {s1 : State} {x2 x3 x4 x5} (fm : 136675329 &&& F = 136675329) (h1 : Keeps F a s1) : Keeps F a (@State.resend s1 x2 x3 x4 x5) := by
  unfold State.resend
  dsimp only
  split
  · assumption
  · split
    · exact State.endHalf_keeps (sub fm) ‹_›
    · split
      · exact State.timeoutHalf_keeps (sub fm) ‹_›
      · refine State.sendCopy_keeps (sub fm) (State.noteCopy_keeps (sub fm) (State.bump_keeps (sub fm) ?_))
        split
        · exact State.bumpVf_keeps (sub fm) (State.updTx_keeps (sub fm) ‹_›)
        · exact State.updTx_keeps (sub fm) ‹_›

theorem State.rxAck_keeps {F a} {s1 : State} {x2} (fm : 136675329 &&& F = 136675329) (h1 : Keeps F a s1) : Keeps F a (@State.rxAck s1 x2) := by
  unfold State.rxAck
  extract_lets loc rem u s2 done rcv ofs echo sack note got
  have k2 : Keeps F a s2 := State.bump_keeps (sub fm) h1
  clear_value s2
  split
  · exact k2
  · split
    · exact k2
    · extract_lets newly left freed latest closed
      split
      rename_i sample s3 e
      have k3 : Keeps F a s3 := Keeps.snd (State.rttSample_keeps k2) e
      extract_lets s4 s5 s6 s7 s8
      have k5 : Keeps F a s5 := State.touchIdle_keeps (sub fm) (State.updTx_keeps (sub fm) k3)
      clear_value s5
      have k6 : Keeps F a s6 := by
        refine Keeps.fold k5 (fun t x k => ?_)
        split
        · exact k
        · exact State.resend_keeps (sub fm) k
      clear_value s6
      have k7 : Keeps F a s7 := State.applyAcks_keeps (sub fm) k6
      clear_value s7
      split
      · split
        · exact k7
        · split
          · extract_lets s9
            have k8 : Keeps F a s8 := by
              refine Keeps.fold k7 (fun t x k => ?_)
              split
              · exact State.endMsg_keeps (sub fm) k
              · exact k
            clear_value s8
            have k9 : Keeps F a s9 := by
              unfold s9
              split
              · exact State.sendReset_keeps (sub fm) k8
              · exact k8
            clear_value s9
            exact State.closedTx_keeps (sub fm) (State.dropRx_keeps (sub fm) k9)
          · exact State.closedTx_keeps (sub fm) k7
      · exact State.flush_keeps (sub fm) k7

theorem State.shaperCharge_keeps {F a} {s1 : State} {x2 x3 x4} (fm : 1 &&& F = 1) (h1 : Keeps F a s1) : Keeps F a (@State.shaperCharge s1 x2 x3 x4) := by
  unfold State.shaperCharge
  split
  · exact State.bump_keeps (sub fm) (State.put_keeps (sub fm) ‹_›)
  · assumption

theorem State.startData_keeps {F a} {s1 : State} {x2 x3 x4 x5 x6 x7 x8 x9 x10 x11} (fm : 262144 &&& F = 262144) (h1 : Keeps F a s1) : Keeps F a (@State.startData s1 x2 x3 x4 x5 x6 x7 x8 x9 x10 x11) := by
  unfold State.startData
  dsimp only
  split
  · exact State.pushReq_keeps (sub fm) (State.newMsg_keeps (sub fm) ‹_›)
  · split
    · exact State.pushReq_keeps (sub fm) (State.newMsg_keeps (sub fm) ‹_›)
    · exact State.pushReq_keeps (sub fm) (State.pushReq_keeps (sub fm) (State.newMsg_keeps (sub fm) ‹_›))

theorem State.rxReset_keeps {F a} {s1 : State} {x2} (fm : 136577025 &&& F = 136577025) (h1 : Keeps F a s1) : Keeps F a (@State.rxReset s1 x2) := by
  unfold State.rxReset
  dsimp only
  split
  · exact State.bump_keeps (sub fm) ‹_›
  · split
    · exact State.endHalf_keeps (sub fm) (State.raise_keeps (sub fm) (State.bump_keeps (sub fm) ‹_›))
    · exact State.bump_keeps (sub fm) ‹_›

theorem State.ackClose_keeps {F a} {s1 : State} {x2} (fm : 98305 &&& F = 98305) (h1 : Keeps F a s1) : Keeps F a (@State.ackClose s1 x2) := by
  unfold State.ackClose
  dsimp only
  exact State.injectPkt_keeps (sub fm) (State.bump_keeps (sub fm) ‹_›)

theorem State.sendAck_keeps {F a} {s1 : State} {x2 x3 x4} (fm : 360449 &&& F = 360449) (h1 : Keeps F a s1) : Keeps F a (@State.sendAck s1 x2 x3 x4) := by
  unfold State.sendAck
  dsimp only
  split
  · assumption
  · exact State.injectPkt_keeps (sub fm) (State.bump_keeps (sub fm) (State.updRx_keeps (sub fm) (State.free_keeps ‹_›)))

theorem State.updMsg_keeps {F a} {s1 : State} {x2 x3 x4 x5} (fm : 262144 &&& F = 262144) (h1 : Keeps F a s1) : Keeps F a (@State.updMsg s1 x2 x3 x4 x5) := by
  unfold State.updMsg
  exact State.updTx_keeps (sub fm) ‹_›

theorem State.returnToken_keeps {F a} {s1 : State} {x2 x3} (fm : 262145 &&& F = 262145) (h1 : Keeps F a s1) : Keeps F a (@State.returnToken s1 x2 x3) := by
  unfold State.returnToken
  dsimp only
  split
  · exact State.updRx_keeps (sub fm) (State.bump_keeps (sub fm) ‹_›)
  · split
    · exact State.updMsg_keeps (sub fm) ‹_›
    · assumption

theorem State.releaseHeld_keeps {F a} {s1 : State} {x2 x3 x4 x5} (fm : 136675329 &&& F = 136675329) (h1 : Keeps F a s1) : Keeps F a (@State.releaseHeld s1 x2 x3 x4 x5) := by
  induction x5 generalizing s1 x2 x3 x4
  · unfold State.releaseHeld
    assumption
  · rename_i v1 ih
    unfold State.releaseHeld
    split
    · assumption
    · split
      · assumption
      · apply ih
        exact State.present_keeps (sub fm) (State.updRx_keeps (sub fm) ‹_›)

theorem State.afterAdvance_keeps {F a} {s1 : State} {x2 x3 x4 x5 x6} (fm : 136675329 &&& F = 136675329) (h1 : Keeps F a s1) : Keeps F a (@State.afterAdvance s1 x2 x3 x4 x5 x6) := by
  unfold State.afterAdvance
  dsimp only
  split
  · assumption
  · split
    · split
      · refine State.freeCtx_keeps (sub fm) ?_
        split
        · refine State.endRx_keeps (sub fm) ?_
          split
          · exact State.sendAck_keeps (sub fm) (State.applyAcks_keeps (sub fm) (State.releaseHeld_keeps (sub fm) ‹_›))
          · exact State.applyAcks_keeps (sub fm) (State.releaseHeld_keeps (sub fm) ‹_›)
        · refine State.dropRx_keeps (sub fm) ?_
          split
          · exact State.sendAck_keeps (sub fm) (State.applyAcks_keeps (sub fm) (State.releaseHeld_keeps (sub fm) ‹_›))
          · exact State.applyAcks_keeps (sub fm) (State.releaseHeld_keeps (sub fm) ‹_›)
      · split
        · exact State.sendAck_keeps (sub fm) (State.applyAcks_keeps (sub fm) (State.releaseHeld_keeps (sub fm) ‹_›))
        · exact State.applyAcks_keeps (sub fm) (State.releaseHeld_keeps (sub fm) ‹_›)
    · split
      · refine State.freeCtx_keeps (sub fm) ?_
        split
        · refine State.endRx_keeps (sub fm) ?_
          split
          · exact State.sendAck_keeps (sub fm) (State.applyAcks_keeps (sub fm) (State.releaseHeld_keeps (sub fm) ‹_›))
          · exact State.applyAcks_keeps (sub fm) (State.releaseHeld_keeps (sub fm) ‹_›)
        · refine State.dropRx_keeps (sub fm) ?_
          split
          · exact State.sendAck_keeps (sub fm) (State.applyAcks_keeps (sub fm) (State.releaseHeld_keeps (sub fm) ‹_›))
          · exact State.applyAcks_keeps (sub fm) (State.releaseHeld_keeps (sub fm) ‹_›)
      · split
        · exact State.sendAck_keeps (sub fm) (State.applyAcks_keeps (sub fm) (State.releaseHeld_keeps (sub fm) ‹_›))
        · exact State.applyAcks_keeps (sub fm) (State.releaseHeld_keeps (sub fm) ‹_›)

theorem State.rxWindow_keeps {F a} {s1 : State} {x2 x3} (fm : 136675329 &&& F = 136675329) (h1 : Keeps F a s1) : Keeps F a (@State.rxWindow s1 x2 x3) := by
  unfold State.rxWindow
  dsimp only
  split
  · assumption
  · split
    · exact State.bump_keeps (sub fm) (State.raise_keeps (sub fm) ‹_›)
    · split
      · split
        · exact State.sendAck_keeps (sub fm) (State.bump_keeps (sub fm) ‹_›)
        · split
          · exact State.bump_keeps (sub fm) (State.raise_keeps (sub fm) ‹_›)
          · refine State.afterAdvance_keeps (sub fm) ?_
            split
            · refine State.returnToken_keeps (sub fm) (State.updRx_keeps (sub fm) ?_)
              split
              · exact State.bumpVf_keeps (sub fm) (State.bumpVf_keeps (sub fm) (State.bump_keeps (sub fm) ‹_›))
              · exact State.bump_keeps (sub fm) ‹_›
            · split
              · refine State.bump_keeps (sub fm) (State.updRx_keeps (sub fm) (State.returnToken_keeps (sub fm) (State.updRx_keeps (sub fm) ?_)))
                split
                · exact State.bumpVf_keeps (sub fm) (State.bumpVf_keeps (sub fm) (State.bump_keeps (sub fm) ‹_›))
                · exact State.bump_keeps (sub fm) ‹_›
              · refine State.present_keeps (sub fm) (State.returnToken_keeps (sub fm) (State.updRx_keeps (sub fm) ?_))
                split
                · exact State.bumpVf_keeps (sub fm) (State.bumpVf_keeps (sub fm) (State.bump_keeps (sub fm) ‹_›))
                · exact State.bump_keeps (sub fm) ‹_›
      · split
        · exact State.sendAck_keeps (sub fm) (State.bump_keeps (sub fm) ‹_›)
        · split
          · exact State.bump_keeps (sub fm) (State.raise_keeps (sub fm) ‹_›)
          · refine State.afterAdvance_keeps (sub fm) ?_
            split
            · refine State.returnToken_keeps (sub fm) (State.updRx_keeps (sub fm) ?_)
              split
              · exact State.bumpVf_keeps (sub fm) (State.bumpVf_keeps (sub fm) (State.bump_keeps (sub fm) ‹_›))
              · exact State.bump_keeps (sub fm) ‹_›
            · split
              · refine State.bump_keeps (sub fm) (State.updRx_keeps (sub fm) (State.returnToken_keeps (sub fm) (State.updRx_keeps (sub fm) ?_)))
                split
                · exact State.bumpVf_keeps (sub fm) (State.bumpVf_keeps (sub fm) (State.bump_keeps (sub fm) ‹_›))
                · exact State.bump_keeps (sub fm) ‹_›
              · refine State.present_keeps (sub fm) (State.returnToken_keeps (sub fm) (State.updRx_keeps (sub fm) ?_))
                split
                · exact State.bumpVf_keeps (sub fm) (State.bumpVf_keeps (sub fm) (State.bump_keeps (sub fm) ‹_›))
                · exact State.bump_keeps (sub fm) ‹_›

theorem State.rxWiluth_keeps {F a} {s1 : State} {x2} (fm : 136675329 &&& F = 136675329) (h1 : Keeps F a s1) : Keeps F a (@State.rxWiluth s1 x2) := by
  unfold State.rxWiluth
  extract_lets rel loc rem u past s2 pkt s3 newRx refuse
  have k2 : Keeps F a s2 := State.updXpt_keeps (sub fm) h1
  clear_value s2
  split
  · exact State.bump_keeps (sub fm) (State.raise_keeps (sub fm) k2)
  · have k3 : Keeps F a s3 := by
      unfold s3
      split
      · exact State.updCtx_keeps (sub fm) k2
      · exact k2
    clear_value s3
    have kn : ∀ t, Keeps F a t → Keeps F a (newRx t) := fun t k => State.updCtx_keeps (sub fm) k
    have kr : ∀ t, Keeps F a t → Keeps F a (refuse t) := fun t k => by
      unfold refuse
      split
      · exact State.ackClose_keeps (sub fm) k
      · exact State.answerReset_keeps (sub fm) k
    clear_value newRx refuse
    split
    · exact State.rxAck_keeps (sub fm) k3
    · split
      · exact State.rxReset_keeps (sub fm) k3
      · split
        · split
          · exact State.rxWindow_keeps (sub fm) k3
          · split
            · split
              · exact State.rxWindow_keeps (sub fm) (State.bump_keeps (sub fm) (kn _ (State.endRx_keeps (sub fm) k3)))
              · exact kr _ k3
            · exact k3
        · split
          · exact kr _ k3
          · split
            · extract_lets buried
              split
              · exact State.bump_keeps (sub fm) k3
              · exact State.rxWindow_keeps (sub fm) (State.bump_keeps (sub fm) (kn _ k3))
            · split
              · exact State.bump_keeps (sub fm) (State.raise_keeps (sub fm) (State.closeLru_keeps (sub fm) k3))
              · exact State.rxWindow_keeps (sub fm) (State.bump_keeps (sub fm) (kn _ (State.updXpt_keeps (sub fm) k3)))

theorem State.takePresented_keeps {F a} {s1 : State} {x2 x3} (fm : 262144 &&& F = 262144) (h1 : Keeps F a s1) {r} (e : @State.takePresented s1 x2 x3 = some r) : Keeps F a (r.2) := by
  unfold State.takePresented at e
  split at e
  · cases e
  · rw [← Option.some.inj e]
    dsimp only
    exact State.updXpt_keeps (sub fm) ‹_›

theorem State.rejectPkt_keeps {F a} {s1 : State} {x2 x3} (fm : 8726609921 &&& F = 8726609921) (h1 : Keeps F a s1) : Keeps F a (@State.rejectPkt s1 x2 x3) := by
  unfold State.rejectPkt
  dsimp only
  split
  · split
    · exact State.sendNotice_keeps (sub fm) (State.nocAnswer_keeps (sub fm) ‹_›)
    · exact State.nocAnswer_keeps (sub fm) ‹_›
  · exact State.nocAnswer_keeps (sub fm) ‹_›

theorem State.pushRsp_keeps {F a} {s1 : State} {x2 x3 x4 x5 x6} (fm : 262144 &&& F = 262144) (h1 : Keeps F a s1) : Keeps F a (@State.pushRsp s1 x2 x3 x4 x5 x6) := by
  unfold State.pushRsp
  exact State.pushReq_keeps (sub fm) ‹_›

theorem State.disposePkt_keeps {F a} {s1 : State} {x2} (fm : 8590196736 &&& F = 8590196736) (h1 : Keeps F a s1) : Keeps F a (@State.disposePkt s1 x2) := by
  unfold State.disposePkt
  dsimp only
  split
  · split
    · exact State.dispose_keeps (sub fm) (State.nocAnswer_keeps (sub fm) ‹_›)
    · exact State.nocAnswer_keeps (sub fm) ‹_›
  · exact State.nocAnswer_keeps (sub fm) ‹_›

theorem State.updAnn_keeps {F a} {s1 : State} {x2 x3 x4 x5} (fm : 262144 &&& F = 262144) (h1 : Keeps F a s1) : Keeps F a (@State.updAnn s1 x2 x3 x4 x5) := by
  unfold State.updAnn
  exact State.updRx_keeps (sub fm) ‹_›

theorem State.refuseAnn_keeps {F a} {s1 : State} {x2 x3 x4 x5} (fm : 262144 &&& F = 262144) (h1 : Keeps F a s1) : Keeps F a (@State.refuseAnn s1 x2 x3 x4 x5) := by
  unfold State.refuseAnn
  exact State.updAnn_keeps (sub fm) ‹_›

theorem State.acceptAnn_keeps {F a} {s1 : State} {x2 x3 x4 x5} (fm : 262145 &&& F = 262145) (h1 : Keeps F a s1) : Keeps F a (@State.acceptAnn s1 x2 x3 x4 x5) := by
  unfold State.acceptAnn
  dsimp only
  exact State.updAnn_keeps (sub fm) (State.bump_keeps (sub fm) ‹_›)

theorem State.sendGrant_keeps {F a} {s1 : State} {x2 x3 x4 x5 x6 x7 x8 x9} (fm : 136675329 &&& F = 136675329) (h1 : Keeps F a s1) : Keeps F a (@State.sendGrant s1 x2 x3 x4 x5 x6 x7 x8 x9) := by
  unfold State.sendGrant
  dsimp only
  exact State.sendOwn_keeps (sub fm) ‹_›

theorem State.handPresented_keeps {F a} {s1 : State} {x2 x3 x4 x5} (fm : 8590196737 &&& F = 8590196737) (h1 : Keeps F a s1) (h5 : ∀ t1 y2, Keeps F a t1 → Keeps F a ((x5 t1 y2))) : Keeps F a (@State.handPresented s1 x2 x3 x4 x5) := by
  unfold State.handPresented
  dsimp only
  split
  · assumption
  · split
    · exact h5 _ _ (State.updXpt_keeps (sub fm) (State.nocHand_keeps (sub fm) ‹_›))
    · exact State.nocHand_keeps (sub fm) ‹_›

theorem State.sendSnoop_keeps {F a} {s1 : State} {x2 x3 x4} (fm : 8589934593 &&& F = 8589934593) (h1 : Keeps F a s1) : Keeps F a (@State.sendSnoop s1 x2 x3 x4) := by
  unfold State.sendSnoop
  dsimp only
  exact State.bump_keeps (sub fm) (State.emit_keeps (State.nocRun_keeps (sub fm) (State.nocSend_keeps (sub fm) (State.bump_keeps (sub fm) (State.bump_keeps (sub fm) ‹_›)))))

theorem State.snoopGo_keeps {F a} {s1 : State} {x2} (fm : 8724152321 &&& F = 8724152321) (h1 : Keeps F a s1) : Keeps F a (@State.snoopGo s1 x2) := by
  unfold State.snoopGo
  dsimp only
  split
  · assumption
  · refine Keeps.fold ?_ ?_
    · assumption
    · intro t6 t7 k8
      split
      · exact State.sendSnoop_keeps (sub fm) (Keeps.set_mem (sub fm) (Keeps.etaMem ‹_›))
      · assumption

theorem State.countPool_keeps {F a} {s1 : State} {x2 x3 x4 x5 x6} (fm : 8589934593 &&& F = 8589934593) (h1 : Keeps F a s1) : Keeps F a (@State.countPool s1 x2 x3 x4 x5 x6) := by
  unfold State.countPool
  dsimp only
  exact State.nocTxn_keeps (sub fm) (State.bump_keeps (sub fm) ‹_›)

theorem State.poolPut_keeps {F a} {s1 : State} {x2 x3} (fm : 268435456 &&& F = 268435456) (h1 : Keeps F a s1) : Keeps F a (@State.poolPut s1 x2 x3) := by
  refine ⟨h1.queue, h1.regs, ?_, h1.out, h1.ident, h1.free, fun p hp => by
    cases p <;> first | exact h1.frame _ hp |
      exact absurd (bit_of_sub (n := 28) fm) (by rw [show F.testBit 28 = false from hp]; decide)⟩
  have go : ∀ (b : Bytes) (t : Tab Byte) (o : Nat), Tab.wf poolD t = true → Tab.wf poolD (poolWrite t o b) = true := by
    intro b
    induction b with
    | nil => exact fun _ _ h => h
    | cons x b ih => exact fun _ _ h => ih _ _ (Tab.wf_set h _ _)
  exact go x3 _ _ h1.pool

theorem State.sendSnoops_keeps {F a} {s1 : State} {x2 x3 x4} (fm : 8724152321 &&& F = 8724152321) (h1 : Keeps F a s1) : Keeps F a (@State.sendSnoops s1 x2 x3 x4) := by
  unfold State.sendSnoops
  dsimp only
  split
  · assumption
  · exact State.snoopGo_keeps (sub fm) (Keeps.set_mem (sub fm) (Keeps.etaMem ‹_›))

theorem State.setHolders_keeps {F a} {s1 : State} {x2 x3} (fm : 134217728 &&& F = 134217728) (h1 : Keeps F a s1) : Keeps F a (@State.setHolders s1 x2 x3) := by
  unfold State.setHolders
  dsimp only
  exact Keeps.set_mem (sub fm) (Keeps.etaMem ‹_›)

theorem State.snoopWrite_keeps {F a} {s1 : State} {x2 x3} (fm : 8724152321 &&& F = 8724152321) (h1 : Keeps F a s1) : Keeps F a (@State.snoopWrite s1 x2 x3) := by
  unfold State.snoopWrite
  dsimp only
  refine Keeps.fold ?_ ?_
  · assumption
  · intro t1 t2 k3
    split
    · assumption
    · exact State.sendSnoops_keeps (sub fm) (State.setHolders_keeps (sub fm) ‹_›)

theorem State.snoopRead_keeps {F a} {s1 : State} {x2 x3} (fm : 8724152321 &&& F = 8724152321) (h1 : Keeps F a s1) : Keeps F a (@State.snoopRead s1 x2 x3) := by
  unfold State.snoopRead
  dsimp only
  refine Keeps.fold ?_ ?_
  · assumption
  · intro t1 t2 k3
    split
    · exact State.sendSnoops_keeps (sub fm) (State.setHolders_keeps (sub fm) ‹_›)
    · assumption

theorem State.hostTxn_keeps {F a} {s1 : State} {x2 x3 x4 x5 x6} (fm : 8589934593 &&& F = 8589934593) (h1 : Keeps F a s1) : Keeps F a (@State.hostTxn s1 x2 x3 x4 x5 x6) := by
  unfold State.hostTxn
  exact State.nocTxn_keeps (sub fm) ‹_›

theorem State.cleatStart_keeps {F a} {s1 : State} {x2 x3 x4 x5} (fm : 1073741825 &&& F = 1073741825) (h1 : Keeps F a s1) : Keeps F a (@State.cleatStart s1 x2 x3 x4 x5).1 := by
  unfold State.cleatStart
  dsimp only
  split
  · dsimp only
    exact State.bump_keeps (sub fm) ‹_›
  · split
    · dsimp only
      exact State.bump_keeps (sub fm) (State.bump_keeps (sub fm) (State.raise_keeps (sub fm) ‹_›))
    · dsimp only
      exact State.bump_keeps (sub fm) (Keeps.set_stalls (sub fm) (Keeps.eta (State.fresh_keeps ‹_›)))

theorem State.updCleat_keeps {F a} {s1 : State} {x2 x3} (fm : 536870912 &&& F = 536870912) (h1 : Keeps F a s1) : Keeps F a (@State.updCleat s1 x2 x3) := by
  unfold State.updCleat
  exact Keeps.set_cleats (sub fm) (Keeps.eta ‹_›)

theorem State.cleatMark_keeps {F a} {s1 : State} {x2} (fm : 536870913 &&& F = 536870913) (h1 : Keeps F a s1) : Keeps F a (@State.cleatMark s1 x2).1 := by
  unfold State.cleatMark
  split
  · dsimp only
    exact State.bump_keeps (sub fm) (State.updCleat_keeps (sub fm) ‹_›)
  · dsimp only
    assumption

theorem State.cleatAcquire_keeps {F a} {s1 : State} {x2 x3 x4} (fm : 536870913 &&& F = 536870913) (h1 : Keeps F a s1) : Keeps F a (@State.cleatAcquire s1 x2 x3 x4) := by
  unfold State.cleatAcquire
  dsimp only
  refine State.bump_keeps (sub fm) (State.bump_keeps (sub fm) ?_)
  split
  · split
    · exact State.bumpVf_keeps (sub fm) (State.updCleat_keeps (sub fm) ‹_›)
    · exact State.updCleat_keeps (sub fm) ‹_›
  · exact State.updCleat_keeps (sub fm) ‹_›

theorem State.cleatTake_keeps {F a} {s1 : State} {x2 x3} (fm : 536870913 &&& F = 536870913) (h1 : Keeps F a s1) : Keeps F a (@State.cleatTake s1 x2 x3).1 := by
  unfold State.cleatTake
  dsimp only
  exact State.cleatMark_keeps (sub fm) (State.cleatAcquire_keeps (sub fm) ‹_›)

theorem State.cleatReadBy_keeps {F a} {s1 : State} {x2 x3 x4 x5} (fm : 1610612737 &&& F = 1610612737) (h1 : Keeps F a s1) : Keeps F a (@State.cleatReadBy s1 x2 x3 x4 x5).1 := by
  unfold State.cleatReadBy
  dsimp only
  split
  · dsimp only
    exact State.cleatTake_keeps (sub fm) ‹_›
  · exact State.cleatStart_keeps (sub fm) ‹_›
  · dsimp only
    assumption
  · split
    · dsimp only
      exact State.cleatMark_keeps (sub fm) ‹_›
    · exact State.cleatStart_keeps (sub fm) ‹_›

theorem State.endStall_keeps {F a} {s1 : State} {x2 x3} (fm : 9664725121 &&& F = 9664725121) (h1 : Keeps F a s1) : Keeps F a (@State.endStall s1 x2 x3) := by
  unfold State.endStall
  dsimp only
  split
  · split
    · exact State.emit_keeps (Keeps.set_zyn (sub fm) (Keeps.eta (State.bump_keeps (sub fm) (State.bump_keeps (sub fm) (Keeps.set_stalls (sub fm) (Keeps.eta (State.nocAnswer_keeps (sub fm) ‹_›)))))))
    · exact State.emit_keeps (State.bump_keeps (sub fm) (State.bump_keeps (sub fm) (Keeps.set_stalls (sub fm) (Keeps.eta (State.nocAnswer_keeps (sub fm) ‹_›)))))
  · exact Keeps.set_mwus (sub fm) (Keeps.eta (State.bump_keeps (sub fm) (State.bump_keeps (sub fm) (Keeps.set_stalls (sub fm) (Keeps.eta (State.nocAnswer_keeps (sub fm) ‹_›))))))
  · exact State.bump_keeps (sub fm) (State.bump_keeps (sub fm) (Keeps.set_stalls (sub fm) (Keeps.eta (State.nocAnswer_keeps (sub fm) ‹_›))))

theorem State.cleatPass_keeps {F a} {s1 : State} {x2} (fm : 10201596033 &&& F = 10201596033) (h1 : Keeps F a s1) : Keeps F a (@State.cleatPass s1 x2) := by
  unfold State.cleatPass
  dsimp only
  split
  · refine Keeps.fold ?_ ?_
    · assumption
    · intro t2 t3 k4
      exact State.endStall_keeps (sub fm) ‹_›
  · split
    · assumption
    · exact State.endStall_keeps (sub fm) (State.cleatTake_keeps (sub fm) ‹_›)

theorem State.cleatRelease_keeps {F a} {s1 : State} {x2 x3} (fm : 10201596033 &&& F = 10201596033) (h1 : Keeps F a s1) : Keeps F a (@State.cleatRelease s1 x2 x3) := by
  unfold State.cleatRelease
  exact State.cleatPass_keeps (sub fm) (State.updCleat_keeps (sub fm) ‹_›)

theorem State.cleatAbandon_keeps {F a} {s1 : State} {x2} (fm : 10201596033 &&& F = 10201596033) (h1 : Keeps F a s1) : Keeps F a (@State.cleatAbandon s1 x2) := by
  unfold State.cleatAbandon
  refine Keeps.fold ?_ ?_
  · assumption
  · intro t1 t2 k3
    split
    · split
      · exact State.cleatRelease_keeps (sub fm) (State.bump_keeps (sub fm) ‹_›)
      · assumption
    · assumption

theorem State.cleatAbandonOrigin_keeps {F a} {s1 : State} {x2} (fm : 10201596033 &&& F = 10201596033) (h1 : Keeps F a s1) : Keeps F a (@State.cleatAbandonOrigin s1 x2) := by
  unfold State.cleatAbandonOrigin
  exact State.cleatAbandon_keeps (sub fm) ‹_›

theorem State.cleatReadFrom_keeps {F a} {s1 : State} {x2 x3 x4 x5 x6 x7} (fm : 10200547329 &&& F = 10200547329) (h1 : Keeps F a s1) : Keeps F a (@State.cleatReadFrom s1 x2 x3 x4 x5 x6 x7).1 := by
  unfold State.cleatReadFrom
  dsimp only
  split
  · dsimp only
    exact State.nocWait_keeps (sub fm) ‹_›
  · split
    · rename_i v3 v4 v5 v6
      dsimp only
      refine State.nocTxn_keeps (sub fm) ?_
      refine Keeps.fst ?_ v6
      exact State.cleatReadBy_keeps (sub fm) ‹_›
    · rename_i v7 v8 v9
      dsimp only
      refine State.nocHand_keeps (sub fm) ?_
      refine Keeps.fst ?_ v9
      exact State.cleatReadBy_keeps (sub fm) ‹_›

theorem State.cleatBad_keeps {F a} {s1 : State} (fm : 1 &&& F = 1) (h1 : Keeps F a s1) : Keeps F a (@State.cleatBad s1) := by
  unfold State.cleatBad
  exact State.bump_keeps (sub fm) (State.raise_keeps (sub fm) ‹_›)

theorem State.cleatWriteBy_keeps {F a} {s1 : State} {x2 x3 x4} (fm : 10201596033 &&& F = 10201596033) (h1 : Keeps F a s1) : Keeps F a (@State.cleatWriteBy s1 x2 x3 x4) := by
  unfold State.cleatWriteBy
  dsimp only
  split
  · split
    · split
      · exact State.cleatAcquire_keeps (sub fm) ‹_›
      · assumption
    · split
      · split
        · exact State.cleatRelease_keeps (sub fm) (State.bump_keeps (sub fm) ‹_›)
        · exact State.cleatBad_keeps (sub fm) ‹_›
      · split
        · exact State.cleatRelease_keeps (sub fm) (State.bump_keeps (sub fm) ‹_›)
        · exact State.cleatBad_keeps (sub fm) ‹_›
  · split
    · split
      · exact State.cleatRelease_keeps (sub fm) (State.bump_keeps (sub fm) ‹_›)
      · exact State.cleatBad_keeps (sub fm) ‹_›
    · split
      · exact State.cleatRelease_keeps (sub fm) (State.bump_keeps (sub fm) ‹_›)
      · exact State.cleatBad_keeps (sub fm) ‹_›

theorem State.cleatRevoke_keeps {F a} {s1 : State} {x2} (fm : 10201596033 &&& F = 10201596033) (h1 : Keeps F a s1) : Keeps F a (@State.cleatRevoke s1 x2) := by
  unfold State.cleatRevoke
  dsimp only
  refine State.cleatAbandon_keeps (sub fm) ?_
  refine Keeps.fold ?_ ?_
  · assumption
  · intro t1 t2 k3
    exact State.endStall_keeps (sub fm) ‹_›

theorem State.cleatWriteFrom_keeps {F a} {s1 : State} {x2 x3 x4 x5 x6} (fm : 10201596033 &&& F = 10201596033) (h1 : Keeps F a s1) : Keeps F a (@State.cleatWriteFrom s1 x2 x3 x4 x5 x6) := by
  unfold State.cleatWriteFrom
  exact State.cleatWriteBy_keeps (sub fm) (State.nocTxn_keeps (sub fm) ‹_›)

theorem State.cleatStopVi_keeps {F a} {s1 : State} {x2} (fm : 9664725121 &&& F = 9664725121) (h1 : Keeps F a s1) : Keeps F a (@State.cleatStopVi s1 x2) := by
  unfold State.cleatStopVi
  refine Keeps.fold ?_ ?_
  · assumption
  · intro t1 t2 k3
    exact State.endStall_keeps (sub fm) ‹_›

theorem State.cleatEndpoint_keeps {F a} {s1 : State} {x2} (fm : 10201596033 &&& F = 10201596033) (h1 : Keeps F a s1) : Keeps F a (@State.cleatEndpoint s1 x2) := by
  unfold State.cleatEndpoint
  exact State.cleatAbandon_keeps (sub fm) ‹_›

theorem State.beginDesc_keeps {F a} {s1 : State} {x2 x3} (fm : 2097153 &&& F = 2097153) (h1 : Keeps F a s1) : Keeps F a (@State.beginDesc s1 x2 x3) := by
  unfold State.beginDesc
  dsimp only
  split
  · exact State.updCmq_keeps (sub fm) (State.updVi_keeps (sub fm) ‹_›)
  · exact State.chainBegun_keeps (sub fm) (State.bump_keeps (sub fm) (State.updVi_keeps (sub fm) ‹_›))

theorem State.runDesc_keeps {F a} {s1 : State} {x2 x3 x4} (fm : 136314881 &&& F = 136314881) (h1 : Keeps F a s1) (h4 : ∀ t1, Keeps F a t1 → Keeps F a ((x4 t1).2.2)) : Keeps F a (@State.runDesc s1 x2 x3 x4) := by
  unfold State.runDesc
  dsimp only
  exact State.complete_keeps (sub fm) (h4 _ (State.beginDesc_keeps (sub fm) ‹_›))

theorem State.deferDesc_keeps {F a} {s1 : State} {x2 x3 x4} (fm : 2097153 &&& F = 2097153) (h1 : Keeps F a s1) (h4 : ∀ t1, Keeps F a t1 → Keeps F a ((x4 t1))) : Keeps F a (@State.deferDesc s1 x2 x3 x4) := by
  unfold State.deferDesc
  split
  · split
    · assumption
    · exact State.bumpVf_keeps (sub fm) (h4 _ (State.updVi_keeps (sub fm) ‹_›))
  · split
    · assumption
    · exact State.bumpVf_keeps (sub fm) (h4 _ (State.updCmq_keeps (sub fm) ‹_›))

theorem State.launch_keeps {F a} {s1 : State} {x2 x3 x4 x5 x6 x7 x8} (fm : 136675329 &&& F = 136675329) (h1 : Keeps F a s1) (h8 : ∀ t1, Keeps F a t1 → Keeps F a ((x8 t1))) : Keeps F a (@State.launch s1 x2 x3 x4 x5 x6 x7 x8) := by
  unfold State.launch
  dsimp only
  split
  · split
    · exact State.endDir_keeps (sub fm) (State.complete_keeps (sub fm) (State.beginDesc_keeps (sub fm) (State.bump_keeps (sub fm) ‹_›)))
    · exact State.complete_keeps (sub fm) (State.beginDesc_keeps (sub fm) (State.bump_keeps (sub fm) ‹_›))
  · refine State.deferDesc_keeps (sub fm) ?_ ?_
    · split
      · exact State.closeLru_keeps (sub fm) ‹_›
      · assumption
    · intro t10 k11
      exact State.bump_keeps (sub fm) ‹_›
  · split
    · assumption
    · exact State.bumpVf_keeps (sub fm) (State.bump_keeps (sub fm) (State.updVi_keeps (sub fm) ‹_›))
  · split
    · rename_i v18 v19 v20
      refine h8 _ (State.beginDesc_keeps (sub fm) ?_)
      refine (State.openTx_keeps (sub fm) ?_ v20 : _)
      assumption
    · assumption

theorem State.updMwu_keeps {F a} {s1 : State} {x2 x3} (fm : 1048576 &&& F = 1048576) (h1 : Keeps F a s1) : Keeps F a (@State.updMwu s1 x2 x3) := by
  unfold State.updMwu
  exact Keeps.set_mwus (sub fm) (Keeps.eta ‹_›)

theorem State.violation_keeps {F a} {s1 : State} {x2 x3 x4} (fm : 137363457 &&& F = 137363457) (h1 : Keeps F a s1) : Keeps F a (@State.violation s1 x2 x3 x4) := by
  unfold State.violation
  dsimp only
  split
  · exact State.updMwu_keeps (sub fm) (State.bump_keeps (sub fm) (State.raise_keeps (sub fm) ‹_›))
  · exact State.postEvent_keeps (sub fm) (State.bump_keeps (sub fm) (State.updMwu_keeps (sub fm) ‹_›))

theorem State.rejectRma_keeps {F a} {s1 : State} {x2 x3 x4} (fm : 8727658497 &&& F = 8727658497) (h1 : Keeps F a s1) : Keeps F a (@State.rejectRma s1 x2 x3 x4) := by
  unfold State.rejectRma
  dsimp only
  split
  · refine State.disposePkt_keeps (sub fm) (State.refuseAnn_keeps (sub fm) (State.violation_keeps (sub fm) (State.bumpVf_keeps (sub fm) (State.bump_keeps (sub fm) ?_))))
    split
    · exact State.bump_keeps (sub fm) ‹_›
    · assumption
  · refine State.rejectPkt_keeps (sub fm) ?_
    split
    · refine State.refuseAnn_keeps (sub fm) (State.bump_keeps (sub fm) (State.violation_keeps (sub fm) (State.bumpVf_keeps (sub fm) (State.bump_keeps (sub fm) ?_))))
      split
      · exact State.bump_keeps (sub fm) ‹_›
      · assumption
    · refine State.violation_keeps (sub fm) (State.bumpVf_keeps (sub fm) (State.bump_keeps (sub fm) ?_))
      split
      · exact State.bump_keeps (sub fm) ‹_›
      · assumption

theorem State.updAccess_keeps {F a} {s1 : State} {x2 x3 x4} (fm : 1048576 &&& F = 1048576) (h1 : Keeps F a s1) : Keeps F a (@State.updAccess s1 x2 x3 x4) := by
  unfold State.updAccess
  exact State.updMwu_keeps (sub fm) ‹_›

theorem State.cleatAccess_keeps {F a} {s1 : State} {x2 x3} (fm : 10201595905 &&& F = 10201595905) (h1 : Keeps F a s1) : Keeps F a (@State.cleatAccess s1 x2 x3) := by
  unfold State.cleatAccess
  split
  · split
    · split
      · rename_i v5 v6 v7 v8
        refine State.updAccess_keeps (sub fm) ?_
        refine Keeps.fst ?_ v8
        exact State.cleatReadFrom_keeps (sub fm) ‹_›
      · rename_i v9 v10 v11
        refine Keeps.fst ?_ v11
        exact State.cleatReadFrom_keeps (sub fm) ‹_›
    · assumption
  · assumption

theorem State.respond_keeps {F a} {s1 : State} {x2 x3 x4} (fm : 8590196737 &&& F = 8590196737) (h1 : Keeps F a s1) : Keeps F a (@State.respond s1 x2 x3 x4) := by
  unfold State.respond
  dsimp only
  exact State.pushRsp_keeps (sub fm) (State.nocTxn_keeps (sub fm) ‹_›)

theorem State.countAccess_keeps {F a} {s1 : State} {x2} (fm : 1 &&& F = 1) (h1 : Keeps F a s1) : Keeps F a (@State.countAccess s1 x2) := by
  unfold State.countAccess
  dsimp only
  split
  · exact State.bump_keeps (sub fm) (State.bump_keeps (sub fm) ‹_›)
  · split
    · exact State.bump_keeps (sub fm) (State.bump_keeps (sub fm) ‹_›)
    · split
      · refine State.bump_keeps (sub fm) ?_
        split
        · exact State.bump_keeps (sub fm) ‹_›
        · assumption
      · split
        · exact State.bump_keeps (sub fm) ‹_›
        · assumption

theorem State.endFences_keeps {F a} {s1 : State} {x2} (fm : 137363457 &&& F = 137363457) (h1 : Keeps F a s1) : Keeps F a (@State.endFences s1 x2) := by
  unfold State.endFences
  dsimp only
  refine Keeps.fold ?_ ?_
  · exact State.updMwu_keeps (sub fm) ‹_›
  · intro t1 t2 k3
    split
    · exact State.complete_keeps (sub fm) ‹_›
    · assumption

theorem State.dropAccess_keeps {F a} {s1 : State} {x2 x3} (fm : 137363457 &&& F = 137363457) (h1 : Keeps F a s1) : Keeps F a (@State.dropAccess s1 x2 x3) := by
  unfold State.dropAccess
  exact State.endFences_keeps (sub fm) (State.updMwu_keeps (sub fm) ‹_›)

theorem State.finishAccess_keeps {F a} {s1 : State} {x2 x3} (fm : 13022527489 &&& F = 13022527489) (h1 : Keeps F a s1) : Keeps F a (@State.finishAccess s1 x2 x3) := by
  unfold State.finishAccess
  dsimp only
  refine State.dropAccess_keeps (sub fm) (State.disposePkt_keeps (sub fm) ?_)
  split
  · refine State.postEvent_keeps (sub fm) ?_
    split
    · split
      · exact State.pushTrig_keeps (sub fm) (State.countAccess_keeps (sub fm) ‹_›)
      · exact State.countAccess_keeps (sub fm) ‹_›
    · split
      · split
        · exact State.pushTrig_keeps (sub fm) (State.countAccess_keeps (sub fm) ‹_›)
        · exact State.countAccess_keeps (sub fm) ‹_›
      · split
        · split
          · exact State.pushTrig_keeps (sub fm) (State.countAccess_keeps (sub fm) ‹_›)
          · exact State.countAccess_keeps (sub fm) ‹_›
        · split
          · exact State.pushTrig_keeps (sub fm) (State.countAccess_keeps (sub fm) ‹_›)
          · exact State.countAccess_keeps (sub fm) ‹_›
  · split
    · split
      · exact State.pushTrig_keeps (sub fm) (State.countAccess_keeps (sub fm) ‹_›)
      · exact State.countAccess_keeps (sub fm) ‹_›
    · split
      · split
        · exact State.pushTrig_keeps (sub fm) (State.countAccess_keeps (sub fm) ‹_›)
        · exact State.countAccess_keeps (sub fm) ‹_›
      · split
        · split
          · exact State.pushTrig_keeps (sub fm) (State.countAccess_keeps (sub fm) ‹_›)
          · exact State.countAccess_keeps (sub fm) ‹_›
        · split
          · exact State.pushTrig_keeps (sub fm) (State.countAccess_keeps (sub fm) ‹_›)
          · exact State.countAccess_keeps (sub fm) ‹_›

theorem State.sendAtomicOp_keeps {F a} {s1 : State} {x2 x3} (fm : 1 &&& F = 1) (h1 : Keeps F a s1) : Keeps F a (@State.sendAtomicOp s1 x2 x3) := by
  unfold State.sendAtomicOp
  exact State.bump_keeps (sub fm) (State.emit_keeps ‹_›)

theorem State.execAccess_keeps {F a} {s1 : State} {x2 x3 x4} (fm : 14901575809 &&& F = 14901575809) (h1 : Keeps F a s1) : Keeps F a (@State.execAccess s1 x2 x3 x4) := by
  unfold State.execAccess
  dsimp only
  split
  · refine State.finishAccess_keeps (sub fm) ?_
    split
    · exact State.respond_keeps (sub fm) ‹_›
    · exact State.cleatWriteFrom_keeps (sub fm) ‹_›
  · refine State.finishAccess_keeps (sub fm) ?_
    split
    · exact State.respond_keeps (sub fm) (State.countPool_keeps (sub fm) ‹_›)
    · split
      · exact State.poolPut_keeps (sub fm) (State.countPool_keeps (sub fm) ‹_›)
      · split
        · exact State.respond_keeps (sub fm) (State.bump_keeps (sub fm) (State.poolPut_keeps (sub fm) (State.countPool_keeps (sub fm) ‹_›)))
        · exact State.bump_keeps (sub fm) (State.poolPut_keeps (sub fm) (State.countPool_keeps (sub fm) ‹_›))
  · refine State.finishAccess_keeps (sub fm) ?_
    split
    · exact State.respond_keeps (sub fm) (State.bump_keeps (sub fm) (State.bump_keeps (sub fm) (State.atsFill_keeps (sub fm) (State.hostTxn_keeps (sub fm) ‹_›))))
    · split
      · exact State.writePieces_keeps (sub fm) (State.atsFill_keeps (sub fm) (State.hostTxn_keeps (sub fm) ‹_›))
      · split
        · split
          · exact State.respond_keeps (sub fm) (State.sendAtomicOp_keeps (sub fm) (State.atsFill_keeps (sub fm) (State.hostTxn_keeps (sub fm) ‹_›)))
          · exact State.sendAtomicOp_keeps (sub fm) (State.atsFill_keeps (sub fm) (State.hostTxn_keeps (sub fm) ‹_›))
        · split
          · exact State.respond_keeps (sub fm) (State.writePieces_keeps (sub fm) (State.bump_keeps (sub fm) (State.bump_keeps (sub fm) (State.atsFill_keeps (sub fm) (State.hostTxn_keeps (sub fm) ‹_›)))))
          · exact State.writePieces_keeps (sub fm) (State.bump_keeps (sub fm) (State.bump_keeps (sub fm) (State.atsFill_keeps (sub fm) (State.hostTxn_keeps (sub fm) ‹_›))))

theorem State.startAccess_keeps {F a} {s1 : State} {x2 x3 x4 x5 x6} (fm : 10335813633 &&& F = 10335813633) (h1 : Keeps F a s1) : Keeps F a (@State.startAccess s1 x2 x3 x4 x5 x6) := by
  unfold State.startAccess
  dsimp only
  split
  · split
    · exact State.snoopRead_keeps (sub fm) (State.bump_keeps (sub fm) (State.updMwu_keeps (sub fm) (State.fresh_keeps ‹_›)))
    · exact State.snoopWrite_keeps (sub fm) (State.bump_keeps (sub fm) (State.updMwu_keeps (sub fm) (State.fresh_keeps ‹_›)))
  · split
    · split
      · exact State.cleatAccess_keeps (sub fm) (State.bump_keeps (sub fm) (State.updMwu_keeps (sub fm) (State.fresh_keeps ‹_›)))
      · exact State.bump_keeps (sub fm) (State.updMwu_keeps (sub fm) (State.fresh_keeps ‹_›))
    · split
      · exact State.cleatAccess_keeps (sub fm) (State.bump_keeps (sub fm) (State.updMwu_keeps (sub fm) (State.fresh_keeps ‹_›)))
      · exact State.bump_keeps (sub fm) (State.updMwu_keeps (sub fm) (State.fresh_keeps ‹_›))
  · exact State.bump_keeps (sub fm) (State.updMwu_keeps (sub fm) (State.fresh_keeps ‹_›))

theorem State.abandonAccess_keeps {F a} {s1 : State} {x2 x3 x4} (fm : 9801400321 &&& F = 9801400321) (h1 : Keeps F a s1) : Keeps F a (@State.abandonAccess s1 x2 x3 x4) := by
  unfold State.abandonAccess
  dsimp only
  exact State.dropAccess_keeps (sub fm) (State.rejectRma_keeps (sub fm) (Keeps.set_stalls (sub fm) (Keeps.eta ‹_›)))

theorem State.updWin_keeps {F a} {s1 : State} {x2 x3} (fm : 524288 &&& F = 524288) (h1 : Keeps F a s1) : Keeps F a (@State.updWin s1 x2 x3) := by
  unfold State.updWin
  exact Keeps.set_wins (sub fm) (Keeps.eta ‹_›)

theorem State.winAdvance_keeps {F a} {s1 : State} {x2 x3} (fm : 524289 &&& F = 524289) (h1 : Keeps F a s1) : Keeps F a (@State.winAdvance s1 x2 x3) := by
  unfold State.winAdvance
  dsimp only
  exact State.updWin_keeps (sub fm) (State.fput_keeps (sub fm) ‹_›)

theorem State.revokeWin_keeps {F a} {s1 : State} {x2 x3 x4 x5} (fm : 10338435201 &&& F = 10338435201) (h1 : Keeps F a s1) : Keeps F a (@State.revokeWin s1 x2 x3 x4 x5) := by
  unfold State.revokeWin
  exact State.endFences_keeps (sub fm) (State.updMwu_keeps (sub fm) (State.fresh_keeps (State.cleatRevoke_keeps (sub fm) (State.bump_keeps (sub fm)
    (State.updWin_keeps (sub fm) (State.winAdvance_keeps (sub fm) h1))))))

theorem State.rejectVi_keeps {F a} {s1 : State} {x2 x3} (fm : 8726609921 &&& F = 8726609921) (h1 : Keeps F a s1) : Keeps F a (@State.rejectVi s1 x2 x3) := by
  unfold State.rejectVi
  dsimp only
  refine State.rejectPkt_keeps (sub fm) ?_
  split
  · exact State.refuseAnn_keeps (sub fm) ‹_›
  · assumption

theorem State.rxRma_keeps {F a} {s1 : State} {x2} (fm : 10338271233 &&& F = 10338271233) (h1 : Keeps F a s1) : Keeps F a (@State.rxRma s1 x2) := by
  unfold State.rxRma
  dsimp only
  split
  · exact State.rejectVi_keeps (sub fm) ‹_›
  · split
    · exact State.rejectRma_keeps (sub fm) (State.raise_keeps (sub fm) ‹_›)
    · split
      · exact State.rejectRma_keeps (sub fm) ‹_›
      · exact State.startAccess_keeps (sub fm) ‹_›

theorem State.updMtch_keeps {F a} {s1 : State} {x2 x3} (fm : 2097152 &&& F = 2097152) (h1 : Keeps F a s1) : Keeps F a (@State.updMtch s1 x2 x3) := by
  unfold State.updMtch
  exact State.updVi_keeps (sub fm) ‹_›

theorem State.matchClear_keeps {F a} {s1 : State} {x2} (fm : 2359296 &&& F = 2359296) (h1 : Keeps F a s1) : Keeps F a (@State.matchClear s1 x2) := by
  unfold State.matchClear
  dsimp only
  refine State.updMtch_keeps (sub fm) ?_
  refine Keeps.fold ?_ ?_
  · refine Keeps.fold ?_ ?_
    · assumption
    · intro t1 t2 k3
      exact State.refuseAnn_keeps (sub fm) ‹_›
  · intro t4 t5 k6
    exact State.refuseAnn_keeps (sub fm) ‹_›

theorem State.newIndex_keeps {F a} {s1 : State} {x2}  (h1 : Keeps F a s1) : Keeps F a (@State.newIndex s1 x2).2 := by
  unfold State.newIndex
  dsimp only
  exact State.free_keeps ‹_›

theorem State.rejectMsend_keeps {F a} {s1 : State} {x2 x3} (fm : 8726609921 &&& F = 8726609921) (h1 : Keeps F a s1) : Keeps F a (@State.rejectMsend s1 x2 x3) := by
  unfold State.rejectMsend
  dsimp only
  split
  · exact State.disposePkt_keeps (sub fm) (State.refuseAnn_keeps (sub fm) ‹_›)
  · refine State.rejectPkt_keeps (sub fm) ?_
    split
    · assumption
    · exact State.updRx_keeps (sub fm) ‹_›

theorem State.countWalk_keeps {F a} {s1 : State} {x2 x3 x4} (fm : 1 &&& F = 1) (h1 : Keeps F a s1) : Keeps F a (@State.countWalk s1 x2 x3 x4) := by
  unfold State.countWalk
  dsimp only
  exact State.bump_keeps (sub fm) (State.bump_keeps (sub fm) (State.bump_keeps (sub fm) (State.free_keeps ‹_›)))

theorem State.stopMatch_keeps {F a} {s1 : State} {x2 x3} (fm : 136314881 &&& F = 136314881) (h1 : Keeps F a s1) : Keeps F a (@State.stopMatch s1 x2 x3) := by
  unfold State.stopMatch
  dsimp only
  split
  · exact State.updMtch_keeps (sub fm) ‹_›
  · exact State.postEvent_keeps (sub fm) (State.bump_keeps (sub fm) (State.raise_keeps (sub fm) (State.updMtch_keeps (sub fm) ‹_›)))

theorem State.msgLen_keeps {F a} {s1 : State} {x2}  (h1 : Keeps F a s1) : Keeps F a (@State.msgLen s1 x2).2 := by
  unfold State.msgLen
  dsimp only
  split
  · dsimp only
    assumption
  · split
    · dsimp only
      assumption
    · dsimp only
      exact State.free_keeps ‹_›

theorem State.countBounce_keeps {F a} {s1 : State} {x2 x3 x4 x5} (fm : 8589934593 &&& F = 8589934593) (h1 : Keeps F a s1) : Keeps F a (@State.countBounce s1 x2 x3 x4 x5) := by
  unfold State.countBounce
  dsimp only
  split
  · assumption
  · split
    · assumption
    · exact State.nocTxn_keeps (sub fm) (State.bump_keeps (sub fm) (State.free_keeps ‹_›))

theorem State.park_keeps {F a} {s1 : State} {x2 x3} (fm : 8726609921 &&& F = 8726609921) (h1 : Keeps F a s1) : Keeps F a (@State.park s1 x2 x3) := by
  unfold State.park
  dsimp only
  split
  · split
    · exact State.rejectMsend_keeps (sub fm) (State.bump_keeps (sub fm) (State.stopMatch_keeps (sub fm) ‹_›))
    · exact State.disposePkt_keeps (sub fm) (State.countBounce_keeps (sub fm) (State.bumpVf_keeps (sub fm) (State.bump_keeps (sub fm) (State.updMtch_keeps (sub fm) (State.msgLen_keeps (State.newIndex_keeps ‹_›))))))
  · split
    · split
      · exact State.rejectMsend_keeps (sub fm) (State.bump_keeps (sub fm) (State.stopMatch_keeps (sub fm) ‹_›))
      · exact State.disposePkt_keeps (sub fm) (State.countBounce_keeps (sub fm) (State.bumpVf_keeps (sub fm) (State.bump_keeps (sub fm) (State.updMtch_keeps (sub fm) (State.msgLen_keeps (State.newIndex_keeps ‹_›))))))
    · split
      · exact State.rejectMsend_keeps (sub fm) (State.bump_keeps (sub fm) (State.stopMatch_keeps (sub fm) ‹_›))
      · exact State.disposePkt_keeps (sub fm) (State.countBounce_keeps (sub fm) (State.bumpVf_keeps (sub fm) (State.bump_keeps (sub fm) (State.updMtch_keeps (sub fm) (State.msgLen_keeps (State.newIndex_keeps ‹_›))))))

theorem State.startPlacing_keeps {F a} {s1 : State} {x2 x3} (fm : 2097152 &&& F = 2097152) (h1 : Keeps F a s1) : Keeps F a (@State.startPlacing s1 x2 x3).1 := by
  unfold State.startPlacing
  dsimp only
  exact State.updMtch_keeps (sub fm) (State.fresh_keeps ‹_›)

theorem State.endRecv_keeps {F a} {s1 : State} {x2 x3 x4} (fm : 136314881 &&& F = 136314881) (h1 : Keeps F a s1) : Keeps F a (@State.endRecv s1 x2 x3 x4) := by
  unfold State.endRecv
  dsimp only
  exact State.complete_keeps (sub fm) (State.bump_keeps (sub fm) (State.bump_keeps (sub fm) (State.updMtch_keeps (sub fm) ‹_›)))

theorem State.endPlaced_keeps {F a} {s1 : State} {x2 x3} (fm : 136314881 &&& F = 136314881) (h1 : Keeps F a s1) : Keeps F a (@State.endPlaced s1 x2 x3) := by
  unfold State.endPlaced
  exact State.endRecv_keeps (sub fm) ‹_›

theorem State.acceptMatch_keeps {F a} {s1 : State} {x2 x3 x4 x5} (fm : 136577025 &&& F = 136577025) (h1 : Keeps F a s1) : Keeps F a (@State.acceptMatch s1 x2 x3 x4 x5) := by
  unfold State.acceptMatch
  dsimp only
  split
  · exact State.endPlaced_keeps (sub fm) (State.acceptAnn_keeps (sub fm) (State.bump_keeps (sub fm) (State.startPlacing_keeps (sub fm) ‹_›)))
  · exact State.acceptAnn_keeps (sub fm) (State.bump_keeps (sub fm) (State.startPlacing_keeps (sub fm) ‹_›))

theorem State.place_keeps {F a} {s1 : State} {x2 x3 x4 x5 x6} (fm : 8724152321 &&& F = 8724152321) (h1 : Keeps F a s1) {r} (e : @State.place s1 x2 x3 x4 x5 x6 = .ok r) : Keeps F a (r.1) := by
  unfold State.place at e
  dsimp only at e
  split at e
  · rename_i v1 v2 v3
    rw [← Except.ok.inj e]
    dsimp only
    refine State.hostTxn_keeps (sub fm) ?_
    refine (State.viWrite_keeps (sub fm) ?_ v3 : _)
    assumption
  · cases e

theorem State.updPlacing_keeps {F a} {s1 : State} {x2 x3 x4} (fm : 2097152 &&& F = 2097152) (h1 : Keeps F a s1) : Keeps F a (@State.updPlacing s1 x2 x3 x4) := by
  unfold State.updPlacing
  exact State.updMtch_keeps (sub fm) ‹_›

theorem State.placeEager_keeps {F a} {s1 : State} {x2 x3 x4} (fm : 8726609921 &&& F = 8726609921) (h1 : Keeps F a s1) : Keeps F a (@State.placeEager s1 x2 x3 x4) := by
  unfold State.placeEager
  dsimp only
  split
  · exact State.rejectPkt_keeps (sub fm) (State.endRecv_keeps (sub fm) (State.bump_keeps (sub fm) ‹_›))
  · rename_i v4 v5 v6 v7
    split
    · refine State.endPlaced_keeps (sub fm) (State.disposePkt_keeps (sub fm) (State.updPlacing_keeps (sub fm) (State.bump_keeps (sub fm) ?_)))
      refine (State.place_keeps (sub fm) ?_ v7 : _)
      assumption
    · refine State.disposePkt_keeps (sub fm) (State.updPlacing_keeps (sub fm) (State.bump_keeps (sub fm) ?_))
      refine (State.place_keeps (sub fm) ?_ v7 : _)
      assumption

theorem State.rxFirst_keeps {F a} {s1 : State} {x2 x3} (fm : 8726609921 &&& F = 8726609921) (h1 : Keeps F a s1) : Keeps F a (@State.rxFirst s1 x2 x3) := by
  unfold State.rxFirst
  dsimp only
  split
  · exact State.rejectMsend_keeps (sub fm) (State.bump_keeps (sub fm) ‹_›)
  · split
    · exact State.rejectMsend_keeps (sub fm) (State.bump_keeps (sub fm) ‹_›)
    · split
      · exact State.park_keeps (sub fm) (State.countWalk_keeps (sub fm) ‹_›)
      · split
        · exact State.disposePkt_keeps (sub fm) (State.acceptMatch_keeps (sub fm) (State.msgLen_keeps (State.bumpVf_keeps (sub fm) (State.bump_keeps (sub fm) (State.bump_keeps (sub fm) (State.updMtch_keeps (sub fm) (State.countWalk_keeps (sub fm) ‹_›)))))))
        · exact State.placeEager_keeps (sub fm) (State.startPlacing_keeps (sub fm) (State.msgLen_keeps (State.bumpVf_keeps (sub fm) (State.bump_keeps (sub fm) (State.bump_keeps (sub fm) (State.updMtch_keeps (sub fm) (State.countWalk_keeps (sub fm) ‹_›)))))))

theorem State.rxSecond_keeps {F a} {s1 : State} {x2 x3} (fm : 8726609921 &&& F = 8726609921) (h1 : Keeps F a s1) : Keeps F a (@State.rxSecond s1 x2 x3) := by
  unfold State.rxSecond
  dsimp only
  split
  · exact State.rejectPkt_keeps (sub fm) (State.updRx_keeps (sub fm) ‹_›)
  · split
    · exact State.rejectPkt_keeps (sub fm) ‹_›
    · split
      · exact State.disposePkt_keeps (sub fm) ‹_›
      · split
        · split
          · exact State.disposePkt_keeps (sub fm) (State.countBounce_keeps (sub fm) (State.updPlacing_keeps (sub fm) ‹_›))
          · exact State.placeEager_keeps (sub fm) ‹_›
        · refine State.disposePkt_keeps (sub fm) (State.updMtch_keeps (sub fm) ?_)
          split
          · exact State.countBounce_keeps (sub fm) ‹_›
          · assumption

theorem State.rxMsend_keeps {F a} {s1 : State} {x2} (fm : 8726609921 &&& F = 8726609921) (h1 : Keeps F a s1) : Keeps F a (@State.rxMsend s1 x2) := by
  unfold State.rxMsend
  dsimp only
  split
  · exact State.rejectVi_keeps (sub fm) ‹_›
  · split
    · exact State.rejectMsend_keeps (sub fm) (State.raise_keeps (sub fm) ‹_›)
    · split
      · exact State.rxFirst_keeps (sub fm) ‹_›
      · exact State.rxSecond_keeps (sub fm) ‹_›

theorem State.rxMdata_keeps {F a} {s1 : State} {x2} (fm : 8726609921 &&& F = 8726609921) (h1 : Keeps F a s1) : Keeps F a (@State.rxMdata s1 x2) := by
  unfold State.rxMdata
  dsimp only
  split
  · exact State.rejectVi_keeps (sub fm) ‹_›
  · split
    · split
      · exact State.rejectMsend_keeps (sub fm) (State.raise_keeps (sub fm) ‹_›)
      · exact State.rejectPkt_keeps (sub fm) (State.raise_keeps (sub fm) ‹_›)
    · split
      · exact State.disposePkt_keeps (sub fm) ‹_›
      · split
        · exact State.disposePkt_keeps (sub fm) ‹_›
        · split
          · exact State.rejectPkt_keeps (sub fm) (State.refuseAnn_keeps (sub fm) (State.endRecv_keeps (sub fm) (State.bump_keeps (sub fm) ‹_›)))
          · rename_i v20 v21 v22 v23
            split
            · refine State.endPlaced_keeps (sub fm) (State.disposePkt_keeps (sub fm) (State.updPlacing_keeps (sub fm) ?_))
              refine (State.place_keeps (sub fm) ?_ v23 : _)
              assumption
            · refine State.disposePkt_keeps (sub fm) (State.updPlacing_keeps (sub fm) ?_)
              refine (State.place_keeps (sub fm) ?_ v23 : _)
              assumption

theorem State.deliver_keeps {F a} {s1 : State} {x2 x3 x4 x5} (fm : 136577025 &&& F = 136577025) (h1 : Keeps F a s1) : Keeps F a (@State.deliver s1 x2 x3 x4 x5) := by
  unfold State.deliver
  dsimp only
  split
  · exact State.acceptMatch_keeps (sub fm) (State.updMtch_keeps (sub fm) ‹_›)
  · split
    · exact State.endPlaced_keeps (sub fm) (State.startPlacing_keeps (sub fm) (State.updMtch_keeps (sub fm) ‹_›))
    · exact State.startPlacing_keeps (sub fm) (State.updMtch_keeps (sub fm) ‹_›)

theorem State.matchEnded_keeps {F a} {s1 : State} {x2 x3 x4} (fm : 2097153 &&& F = 2097153) (h1 : Keeps F a s1) : Keeps F a (@State.matchEnded s1 x2 x3 x4) := by
  unfold State.matchEnded
  dsimp only
  split
  · assumption
  · refine Keeps.fold ?_ ?_
    · assumption
    · intro t3 t4 k5
      exact State.bump_keeps (sub fm) (State.updMtch_keeps (sub fm) ‹_›)

end Sys2Proof.Machine
end

