-- ==== Sys2Proof/Laws/KeepsMessages.lean ====
section
/-! SUPPORT. Collectives, groups, the journal, memory, firmware, power and the message commands keep what `Keeps` says: one lemma per operation, named after it. -/

-- one declaration after another: the threads of parallel elaboration would take the stack of each
set_option Elab.async false

namespace Sys2Proof.Machine

theorem State.updGroup_keeps {F a} {s1 : State} {x2 x3} (fm : 33554432 &&& F = 33554432) (h1 : Keeps F a s1) : Keeps F a (@State.updGroup s1 x2 x3) := by
  unfold State.updGroup
  exact Keeps.set_groups (sub fm) (Keeps.eta ‹_›)

theorem State.endLocal_keeps {F a} {s1 : State} {x2 x3 x4 x5} (fm : 169869313 &&& F = 169869313) (h1 : Keeps F a s1) : Keeps F a (@State.endLocal s1 x2 x3 x4 x5) := by
  unfold State.endLocal
  dsimp only
  exact State.complete_keeps (sub fm) (State.bumpVf_keeps (sub fm) (State.bump_keeps (sub fm) (State.updGroup_keeps (sub fm) (State.free_keeps ‹_›))))

theorem State.tellLocals_keeps {F a} {s1 : State} {x2 x3 x4} (fm : 136314881 &&& F = 136314881) (h1 : Keeps F a s1) : Keeps F a (@State.tellLocals s1 x2 x3 x4) := by
  unfold State.tellLocals
  refine Keeps.fold ?_ ?_
  · assumption
  · intro t1 t2 k3
    exact State.postEvent_keeps (sub fm) ‹_›

theorem State.collSendTo_keeps {F a} {s1 : State} {x2 x3 x4 x5 x6 x7 x8 x9 x10 x11 x12} (fm : 136675329 &&& F = 136675329) (h1 : Keeps F a s1) : Keeps F a (@State.collSendTo s1 x2 x3 x4 x5 x6 x7 x8 x9 x10 x11 x12) := by
  unfold State.collSendTo
  dsimp only
  split
  · exact State.endDir_keeps (sub fm) (State.bump_keeps (sub fm) ‹_›)
  · exact State.sendOwn_keeps (sub fm) ‹_›

theorem State.sendGctl_keeps {F a} {s1 : State} {x2 x3 x4} (fm : 136675329 &&& F = 136675329) (h1 : Keeps F a s1) : Keeps F a (@State.sendGctl s1 x2 x3 x4) := by
  unfold State.sendGctl
  exact State.collSendTo_keeps (sub fm) ‹_›

theorem State.collClose_keeps {F a} {s1 : State} {x2 x3 x4} (fm : 170229761 &&& F = 170229761) (h1 : Keeps F a s1) : Keeps F a (@State.collClose s1 x2 x3 x4) := by
  unfold State.collClose
  dsimp only
  split
  · assumption
  · refine Keeps.fold ?_ ?_
    · refine State.updGroup_keeps (sub fm) (State.tellLocals_keeps (sub fm) ?_)
      refine Keeps.fold ?_ ?_
      · exact State.bump_keeps (sub fm) (State.bump_keeps (sub fm) ‹_›)
      · intro t3 t4 k5
        exact State.endLocal_keeps (sub fm) ‹_›
    · intro t6 t7 k8
      exact State.sendGctl_keeps (sub fm) ‹_›

theorem State.collFail_keeps {F a} {s1 : State} {x2 x3 x4} (fm : 170229761 &&& F = 170229761) (h1 : Keeps F a s1) : Keeps F a (@State.collFail s1 x2 x3 x4) := by
  unfold State.collFail
  exact State.collClose_keeps (sub fm) (State.raise_keeps (sub fm) ‹_›)

theorem State.collMalformed_keeps {F a} {s1 : State} {x2} (fm : 170229761 &&& F = 170229761) (h1 : Keeps F a s1) : Keeps F a (@State.collMalformed s1 x2) := by
  unfold State.collMalformed
  exact State.collFail_keeps (sub fm) ‹_›

theorem State.updStep_keeps {F a} {s1 : State} {x2 x3 x4} (fm : 33554432 &&& F = 33554432) (h1 : Keeps F a s1) : Keeps F a (@State.updStep s1 x2 x3 x4) := by
  unfold State.updStep
  exact State.updGroup_keeps (sub fm) ‹_›

theorem State.collSend_keeps {F a} {s1 : State} {x2 x3 x4 x5 x6 x7 x8 x9 x10 x11} (fm : 136675329 &&& F = 136675329) (h1 : Keeps F a s1) : Keeps F a (@State.collSend s1 x2 x3 x4 x5 x6 x7 x8 x9 x10 x11) := by
  unfold State.collSend
  exact State.collSendTo_keeps (sub fm) ‹_›

theorem State.updSlot_keeps {F a} {s1 : State} {x2 x3 x4} (fm : 33554432 &&& F = 33554432) (h1 : Keeps F a s1) : Keeps F a (@State.updSlot s1 x2 x3 x4) := by
  unfold State.updSlot
  exact State.updGroup_keeps (sub fm) ‹_›

theorem State.handDown_keeps {F a} {s1 : State} {x2 x3 x4} (fm : 170229761 &&& F = 170229761) (h1 : Keeps F a s1) {r} (e : @State.handDown s1 x2 x3 x4 = some r) : Keeps F a (r) := by
  unfold State.handDown at e
  dsimp only at e
  split at e
  · cases e
  · split at e
    · rw [← Option.some.inj e]
      exact State.collMalformed_keeps (sub fm) ‹_›
    · split at e
      · split at e
        · cases e
        · rw [← Option.some.inj e]
          exact State.bump_keeps (sub fm) (State.updStep_keeps (sub fm) ‹_›)
      · rw [← Option.some.inj e]
        refine Keeps.fold ?_ ?_
        · exact State.updStep_keeps (sub fm) ‹_›
        · intro t14 t15 k16
          exact State.collSend_keeps (sub fm) (State.updSlot_keeps (sub fm) ‹_›)

theorem State.passDepart_keeps {F a} {s1 : State} {x2 x3} (fm : 170229761 &&& F = 170229761) (h1 : Keeps F a s1) : Keeps F a (@State.passDepart s1 x2 x3) := by
  unfold State.passDepart
  dsimp only
  split
  · exact State.updGroup_keeps (sub fm) ‹_›
  · split
    · exact State.collSend_keeps (sub fm) (State.bump_keeps (sub fm) ‹_›)
    · assumption

theorem State.tellEpoch_keeps {F a} {s1 : State} {x2 x3} (fm : 136675329 &&& F = 136675329) (h1 : Keeps F a s1) : Keeps F a (@State.tellEpoch s1 x2 x3) := by
  unfold State.tellEpoch
  dsimp only
  refine Keeps.fold ?_ ?_
  · exact State.tellLocals_keeps (sub fm) ‹_›
  · intro t1 t2 k3
    exact State.collSend_keeps (sub fm) ‹_›

theorem State.rootDepart_keeps {F a} {s1 : State} {x2 x3 x4 x5} (fm : 170229761 &&& F = 170229761) (h1 : Keeps F a s1) : Keeps F a (@State.rootDepart s1 x2 x3 x4 x5) := by
  unfold State.rootDepart
  dsimp only
  split
  · exact State.collClose_keeps (sub fm) (State.updGroup_keeps (sub fm) (State.bump_keeps (sub fm) ‹_›))
  · exact State.tellEpoch_keeps (sub fm) (State.updGroup_keeps (sub fm) (State.bump_keeps (sub fm) ‹_›))

theorem State.sendDepart_keeps {F a} {s1 : State} {x2 x3 x4} (fm : 170229761 &&& F = 170229761) (h1 : Keeps F a s1) : Keeps F a (@State.sendDepart s1 x2 x3 x4) := by
  unfold State.sendDepart
  dsimp only
  split
  · exact State.passDepart_keeps (sub fm) ‹_›
  · split
    · exact State.updXpt_keeps (sub fm) ‹_›
    · exact State.rootDepart_keeps (sub fm) ‹_›

theorem State.collDepart_keeps {F a} {s1 : State} {x2 x3 x4 x5} (fm : 170229761 &&& F = 170229761) (h1 : Keeps F a s1) : Keeps F a (@State.collDepart s1 x2 x3 x4 x5) := by
  unfold State.collDepart
  dsimp only
  refine State.sendDepart_keeps (sub fm) (State.updGroup_keeps (sub fm) (State.updSlot_keeps (sub fm) ?_))
  refine Keeps.fold ?_ ?_
  · assumption
  · intro t1 t2 k3
    exact State.endLocal_keeps (sub fm) ‹_›

theorem State.writeOut_keeps {F a} {s1 : State} {x2 x3 x4 x5} (fm : 8760164353 &&& F = 8760164353) (h1 : Keeps F a s1) : Keeps F a (@State.writeOut s1 x2 x3 x4 x5) := by
  unfold State.writeOut
  split
  · rename_i v1 v2 v3
    refine State.hostTxn_keeps (sub fm) ?_
    refine (State.viWrite_keeps (sub fm) ?_ v3 : _)
    assumption
  · exact State.collDepart_keeps (sub fm) ‹_›

theorem State.sendCredit_keeps {F a} {s1 : State} {x2 x3 x4 x5 x6} (fm : 136675329 &&& F = 136675329) (h1 : Keeps F a s1) : Keeps F a (@State.sendCredit s1 x2 x3 x4 x5 x6) := by
  unfold State.sendCredit
  exact State.collSend_keeps (sub fm) ‹_›

theorem State.writeDown_keeps {F a} {s1 : State} {x2 x3 x4} (fm : 8760164353 &&& F = 8760164353) (h1 : Keeps F a s1) {r} (e : @State.writeDown s1 x2 x3 x4 = some r) : Keeps F a (r) := by
  unfold State.writeDown at e
  dsimp only at e
  split at e
  · cases e
  · split at e
    · cases e
    · split at e
      · rw [← Option.some.inj e]
        refine State.sendCredit_keeps (sub fm) (State.updGroup_keeps (sub fm) ?_)
        refine Keeps.fold ?_ ?_
        · exact State.updStep_keeps (sub fm) ‹_›
        · intro t15 t16 k17
          exact State.writeOut_keeps (sub fm) ‹_›
      · rw [← Option.some.inj e]
        refine Keeps.fold ?_ ?_
        · exact State.updStep_keeps (sub fm) ‹_›
        · intro t20 t21 k22
          exact State.writeOut_keeps (sub fm) ‹_›

theorem State.deliverDown_keeps {F a} {s1 : State} {x2 x3 x4} (fm : 8760164353 &&& F = 8760164353) (h1 : Keeps F a s1) {r} (e : @State.deliverDown s1 x2 x3 x4 = some r) : Keeps F a (r) := by
  unfold State.deliverDown at e
  split at e
  · rename_i v1 v2 v3
    rw [← Option.some.inj e]
    refine (State.handDown_keeps (sub fm) ?_ v3 : _)
    assumption
  · refine (State.writeDown_keeps (sub fm) ?_ e : _)
    assumption

theorem State.takeDirect_keeps {F a} {s1 : State} {x2 x3 x4 x5 x6 x7} (fm : 8760164353 &&& F = 8760164353) (h1 : Keeps F a s1) : Keeps F a (@State.takeDirect s1 x2 x3 x4 x5 x6 x7) := by
  unfold State.takeDirect
  dsimp only
  split
  · assumption
  · exact State.writeOut_keeps (sub fm) (State.updGroup_keeps (sub fm) ‹_›)

theorem State.sendDirect_keeps {F a} {s1 : State} {x2 x3 x4 x5 x6 x7 x8 x9 x10} (fm : 8760164353 &&& F = 8760164353) (h1 : Keeps F a s1) : Keeps F a (@State.sendDirect s1 x2 x3 x4 x5 x6 x7 x8 x9 x10) := by
  unfold State.sendDirect
  dsimp only
  split
  · assumption
  · split
    · assumption
    · split
      · exact State.takeDirect_keeps (sub fm) ‹_›
      · exact State.collSend_keeps (sub fm) (State.bump_keeps (sub fm) ‹_›)

theorem State.consumeUp_keeps {F a} {s1 : State} {x2 x3} (fm : 170229761 &&& F = 170229761) (h1 : Keeps F a s1) : Keeps F a (@State.consumeUp s1 x2 x3) := by
  unfold State.consumeUp
  dsimp only
  exact State.sendCredit_keeps (sub fm) (State.updSlot_keeps (sub fm) ‹_›)

theorem State.stepOpen_keeps {F a} {s1 : State} {x2} (fm : 170229761 &&& F = 170229761) (h1 : Keeps F a s1) {r} (e : @State.stepOpen s1 x2 = some r) : Keeps F a (r) := by
  unfold State.stepOpen at e
  dsimp only at e
  split at e
  · cases e
  · split at e
    · cases e
    · split at e
      · split at e
        · cases e
        · split at e
          · rw [← Option.some.inj e]
            exact State.updStep_keeps (sub fm) (State.bump_keeps (sub fm) (State.updGroup_keeps (sub fm) ‹_›))
          · rw [← Option.some.inj e]
            exact State.collSend_keeps (sub fm) (State.updStep_keeps (sub fm) (State.bump_keeps (sub fm) (State.updGroup_keeps (sub fm) ‹_›)))
      · split at e
        · cases e
        · split at e
          · rw [← Option.some.inj e]
            exact State.updStep_keeps (sub fm) (State.bump_keeps (sub fm) (State.updGroup_keeps (sub fm) ‹_›))
          · rw [← Option.some.inj e]
            exact State.collSend_keeps (sub fm) (State.updStep_keeps (sub fm) (State.bump_keeps (sub fm) (State.updGroup_keeps (sub fm) ‹_›)))

theorem State.dropParts_keeps {F a} {s1 : State} {x2 x3} (fm : 170229761 &&& F = 170229761) (h1 : Keeps F a s1) : Keeps F a (@State.dropParts s1 x2 x3) := by
  unfold State.dropParts
  dsimp only
  split
  · assumption
  · refine Keeps.fold ?_ ?_
    · exact State.updStep_keeps (sub fm) ‹_›
    · intro t6 t7 k8
      exact State.consumeUp_keeps (sub fm) ‹_›

theorem State.finish_keeps {F a} {s1 : State} {x2 x3} (fm : 170229761 &&& F = 170229761) (h1 : Keeps F a s1) {r} (e : @State.finish s1 x2 x3 = some r) : Keeps F a (r) := by
  unfold State.finish at e
  dsimp only at e
  split at e
  · split at e
    · split at e
      · rw [← Option.some.inj e]
        exact State.updStep_keeps (sub fm) ‹_›
      · cases e
    · split at e
      · rw [← Option.some.inj e]
        exact State.updStep_keeps (sub fm) ‹_›
      · cases e
  · split at e
    · cases e
    · split at e
      · rw [← Option.some.inj e]
        refine Keeps.fold ?_ ?_
        · exact State.bump_keeps (sub fm) (State.updGroup_keeps (sub fm) (State.updStep_keeps (sub fm) ‹_›))
        · intro t19 t20 k21
          exact State.collSend_keeps (sub fm) ‹_›
      · split at e
        · cases e
        · split at e
          · rw [← Option.some.inj e]
            exact State.complete_keeps (sub fm) (State.bump_keeps (sub fm) (State.updGroup_keeps (sub fm) ‹_›))
          · split at e
            · cases e
            · rw [← Option.some.inj e]
              exact State.updGroup_keeps (sub fm) (State.dropParts_keeps (sub fm) ‹_›)

theorem State.countUpWait_keeps {F a} {s1 : State} {x2 x3 x4} (fm : 33554433 &&& F = 33554433) (h1 : Keeps F a s1) {r} (e : @State.countUpWait s1 x2 x3 x4 = some r) : Keeps F a (r) := by
  unfold State.countUpWait at e
  split at e
  · split at e
    · cases e
    · rw [← Option.some.inj e]
      exact State.bump_keeps (sub fm) (State.updStep_keeps (sub fm) ‹_›)
  · cases e

theorem State.sendUp_keeps {F a} {s1 : State} {x2 x3 x4 x5 x6 x7} (fm : 170229761 &&& F = 170229761) (h1 : Keeps F a s1) : Keeps F a (@State.sendUp s1 x2 x3 x4 x5 x6 x7) := by
  unfold State.sendUp
  dsimp only
  split
  · assumption
  · refine Keeps.fold ?_ ?_
    · exact State.updGroup_keeps (sub fm) ‹_›
    · intro t7 t8 k9
      exact State.collSend_keeps (sub fm) ‹_›

theorem State.forward_keeps {F a} {s1 : State} {x2 x3 x4} (fm : 170229761 &&& F = 170229761) (h1 : Keeps F a s1) {r} (e : @State.forward s1 x2 x3 x4 = some r) : Keeps F a (r) := by
  unfold State.forward at e
  dsimp only at e
  split at e
  · cases e
  · split at e
    · cases e
    · split at e
      · cases e
      · split at e
        · refine (State.countUpWait_keeps (sub fm) ?_ e : _)
          assumption
        · split at e
          · rw [← Option.some.inj e]
            exact State.collMalformed_keeps (sub fm) ‹_›
          · split at e
            · rw [← Option.some.inj e]
              refine State.consumeUp_keeps (sub fm) (State.updStep_keeps (sub fm) ?_)
              split
              · exact State.sendUp_keeps (sub fm) ‹_›
              · exact State.updStep_keeps (sub fm) ‹_›
            · rw [← Option.some.inj e]
              refine State.updStep_keeps (sub fm) ?_
              split
              · exact State.sendUp_keeps (sub fm) ‹_›
              · exact State.updStep_keeps (sub fm) ‹_›

theorem State.rootResult_keeps {F a} {s1 : State} {x2 x3 x4 x5 x6} (fm : 8760164353 &&& F = 8760164353) (h1 : Keeps F a s1) : Keeps F a (@State.rootResult s1 x2 x3 x4 x5 x6) := by
  unfold State.rootResult
  dsimp only
  split
  · exact State.updStep_keeps (sub fm) ‹_›
  · exact State.sendDirect_keeps (sub fm) ‹_›
  · split
    · assumption
    · refine Keeps.fold ?_ ?_
      · assumption
      · intro t9 t10 k11
        split
        · exact State.sendDirect_keeps (sub fm) ‹_›
        · assumption
  · assumption

theorem State.combine_keeps {F a} {s1 : State} {x2 x3 x4} (fm : 8760164353 &&& F = 8760164353) (h1 : Keeps F a s1) {r} (e : @State.combine s1 x2 x3 x4 = some r) : Keeps F a (r) := by
  unfold State.combine at e
  dsimp only at e
  split at e
  · cases e
  · split at e
    · refine (State.countUpWait_keeps (sub fm) ?_ e : _)
      assumption
    · split at e
      · split at e
        · rw [← Option.some.inj e]
          exact State.collMalformed_keeps (sub fm) ‹_›
        · rw [← Option.some.inj e]
          refine Keeps.fold ?_ ?_
          · refine State.updStep_keeps (sub fm) (State.bump_keeps (sub fm) (State.bump_keeps (sub fm) ?_))
            split
            · exact State.sendUp_keeps (sub fm) (State.bump_keeps (sub fm) (State.bump_keeps (sub fm) ‹_›))
            · exact State.rootResult_keeps (sub fm) (State.bump_keeps (sub fm) (State.bump_keeps (sub fm) ‹_›))
          · intro t18 t19 k20
            exact State.consumeUp_keeps (sub fm) ‹_›
      · split at e
        · rw [← Option.some.inj e]
          exact State.collMalformed_keeps (sub fm) ‹_›
        · rw [← Option.some.inj e]
          refine Keeps.fold ?_ ?_
          · refine State.updStep_keeps (sub fm) (State.bump_keeps (sub fm) (State.bump_keeps (sub fm) ?_))
            split
            · exact State.sendUp_keeps (sub fm) ‹_›
            · exact State.rootResult_keeps (sub fm) ‹_›
          · intro t32 t33 k34
            exact State.consumeUp_keeps (sub fm) ‹_›

theorem State.stepMove_keeps {F a} {s1 : State} {x2 x3} (fm : 8760164353 &&& F = 8760164353) (h1 : Keeps F a s1) {r} (e : @State.stepMove s1 x2 x3 = some r) : Keeps F a (r) := by
  unfold State.stepMove at e
  split at e
  · refine (State.finish_keeps (sub fm) ?_ e : _)
    assumption
  · split at e
    · rename_i v6 v7 v8
      rw [← Option.some.inj e]
      refine (State.deliverDown_keeps (sub fm) ?_ v8 : _)
      assumption
    · split at e
      · rename_i v11 v12 v13
        rw [← Option.some.inj e]
        split at v13
        · cases v13
        · split at v13
          · refine (State.forward_keeps (sub fm) ?_ v13 : _)
            assumption
          · refine (State.combine_keeps (sub fm) ?_ v13 : _)
            assumption
      · refine (State.finish_keeps (sub fm) ?_ e : _)
        assumption

theorem State.pump_keeps {F a} {x1 x2} {s3 : State} (fm : 8760164353 &&& F = 8760164353) (h3 : Keeps F a s3) : Keeps F a (@State.pump x1 x2 s3) := by
  induction x2 generalizing s3 with
  | zero => exact h3
  | succ f ih =>
    unfold State.pump
    split
    · exact h3
    · split
      · rename_i t e
        exact ih (State.stepOpen_keeps (sub fm) h3 e)
      · split
        · rename_i t e
          obtain ⟨_, st, _, _, e', _⟩ := List.findSome?_eq_some_iff.mp e
          exact ih (State.stepMove_keeps (sub fm) h3 e')
        · exact h3

theorem State.run_keeps {F a} {s1 : State} {x2} (fm : 8760164353 &&& F = 8760164353) (h1 : Keeps F a s1) : Keeps F a (@State.run s1 x2) := by
  unfold State.run
  exact State.pump_keeps (sub fm) ‹_›

theorem State.takeUp_keeps {F a} {s1 : State} {x2 x3 x4} (fm : 8760164353 &&& F = 8760164353) (h1 : Keeps F a s1) : Keeps F a (@State.takeUp s1 x2 x3 x4) := by
  unfold State.takeUp
  dsimp only
  split
  · split
    · exact State.consumeUp_keeps (sub fm) ‹_›
    · assumption
  · split
    · split
      · exact State.collMalformed_keeps (sub fm) ‹_›
      · exact State.run_keeps (sub fm) (State.updStep_keeps (sub fm) ‹_›)
    · split
      · exact State.collMalformed_keeps (sub fm) ‹_›
      · exact State.run_keeps (sub fm) (State.updStep_keeps (sub fm) ‹_›)

theorem State.keepUps_keeps {F a} {s1 : State} {x2 x3 x4} (fm : 8760164353 &&& F = 8760164353) (h1 : Keeps F a s1) : Keeps F a (@State.keepUps s1 x2 x3 x4) := by
  unfold State.keepUps
  dsimp only
  refine Keeps.fold ?_ ?_
  · exact State.updXpt_keeps (sub fm) ‹_›
  · intro t1 t2 k3
    exact State.disposePkt_keeps (sub fm) (State.takeUp_keeps (sub fm) ‹_›)

theorem State.neighbourLost_keeps {F a} {s1 : State} {x2 x3} (fm : 8760164353 &&& F = 8760164353) (h1 : Keeps F a s1) : Keeps F a (@State.neighbourLost s1 x2 x3) := by
  unfold State.neighbourLost
  dsimp only
  split
  · assumption
  · refine State.run_keeps (sub fm) ?_
    split
    · split
      · refine State.updGroup_keeps (sub fm) (State.bump_keeps (sub fm) ?_)
        split
        · exact State.sendDepart_keeps (sub fm) (State.bump_keeps (sub fm) (State.updSlot_keeps (sub fm) (State.keepUps_keeps (sub fm) ‹_›)))
        · assumption
      · split
        · exact State.sendDepart_keeps (sub fm) (State.bump_keeps (sub fm) (State.updSlot_keeps (sub fm) (State.keepUps_keeps (sub fm) ‹_›)))
        · assumption
    · split
      · exact State.sendDepart_keeps (sub fm) (State.bump_keeps (sub fm) (State.updSlot_keeps (sub fm) (State.keepUps_keeps (sub fm) ‹_›)))
      · assumption

theorem State.collLost_keeps {F a} {s1 : State} {x2 x3} (fm : 8760164353 &&& F = 8760164353) (h1 : Keeps F a s1) : Keeps F a (@State.collLost s1 x2 x3) := by
  unfold State.collLost
  dsimp only
  split
  · assumption
  · refine Keeps.fold ?_ ?_
    · assumption
    · intro t3 t4 k5
      exact State.neighbourLost_keeps (sub fm) ‹_›

theorem State.settleN_keeps {F a} {x1} {s2 : State} (fm : 10371825793 &&& F = 10371825793) (h2 : Keeps F a s2) : Keeps F a (@State.settleN x1 s2) := by
  induction x1 generalizing s2
  · unfold State.settleN
    assumption
  · rename_i v1 ih
    unfold State.settleN
    dsimp only
    split
    · assumption
    · split
      · apply ih
        exact State.collLost_keeps (sub fm) (State.updXpt_keeps (sub fm) ‹_›)
      · apply ih
        split
        · exact State.cleatEndpoint_keeps (sub fm) (State.matchEnded_keeps (sub fm) (State.updXpt_keeps (sub fm) ‹_›))
        · exact State.matchEnded_keeps (sub fm) (State.updXpt_keeps (sub fm) ‹_›)

theorem State.settle_keeps {F a} {s1 : State} (fm : 10371825793 &&& F = 10371825793) (h1 : Keeps F a s1) : Keeps F a (@State.settle s1) := by
  unfold State.settle
  exact State.settleN_keeps (sub fm) ‹_›

theorem State.collLeave_keeps {F a} {s1 : State} {x2 x3 x4} (fm : 8760164353 &&& F = 8760164353) (h1 : Keeps F a s1) : Keeps F a (@State.collLeave s1 x2 x3 x4) := by
  unfold State.collLeave
  refine Keeps.fold ?_ ?_
  · assumption
  · intro t1 t2 k3
    split
    · exact State.run_keeps (sub fm) (State.collDepart_keeps (sub fm) ‹_›)
    · assumption

theorem State.abortNode_keeps {F a} {s1 : State} {x2} (fm : 33554432 &&& F = 33554432) (h1 : Keeps F a s1) : Keeps F a (@State.abortNode s1 x2) := by
  unfold State.abortNode
  exact State.updGroup_keeps (sub fm) ‹_›

theorem execQuarantineExpiry_keeps {F a} {x1} {s2 : State} (fm : 33554432 &&& F = 33554432) (h2 : Keeps F a s2) {r} (e : @execQuarantineExpiry x1 s2 = .next r) : Keeps F a r := by
  unfold execQuarantineExpiry at e
  dsimp only at e
  split at e
  · rw [← Host.Outcome.next.inj e]
    exact State.updGroup_keeps (sub fm) ‹_›
  · rw [← Host.Outcome.next.inj e]
    assumption

theorem State.onColl_keeps {F a} {s1 : State} {x2 x3 x4} (fm : 10371825793 &&& F = 10371825793) (h1 : Keeps F a s1) (h4 : ∀ t1 y2, Keeps F a t1 → Keeps F a ((x4 t1 y2))) : Keeps F a (@State.onColl s1 x2 x3 x4) := by
  unfold State.onColl
  split
  · assumption
  · refine State.handPresented_keeps (sub fm) ?_ ?_
    · assumption
    · intro t3 t4 k5
      exact State.settle_keeps (sub fm) (h4 _ _ ‹_›)

theorem State.collDiscard_keeps {F a} {s1 : State} {x2 x3} (fm : 8590196737 &&& F = 8590196737) (h1 : Keeps F a s1) : Keeps F a (@State.collDiscard s1 x2 x3) := by
  unfold State.collDiscard
  exact State.disposePkt_keeps (sub fm) (State.bump_keeps (sub fm) (State.raise_keeps (sub fm) ‹_›))

theorem State.onGctl_keeps {F a} {s1 : State} {x2 x3 x4} (fm : 10371825793 &&& F = 10371825793) (h1 : Keeps F a s1) (h4 : ∀ t1 y2 y3 y4, Keeps F a t1 → Keeps F a ((x4 t1 y2 y3 y4))) : Keeps F a (@State.onGctl s1 x2 x3 x4) := by
  unfold State.onGctl
  dsimp only
  refine State.onColl_keeps (sub fm) ?_ ?_
  · assumption
  · intro t1 t2 k3
    split
    · exact State.collDiscard_keeps (sub fm) ‹_›
    · split
      · exact State.disposePkt_keeps (sub fm) (State.collMalformed_keeps (sub fm) ‹_›)
      · exact State.disposePkt_keeps (sub fm) (h4 _ _ _ _ (State.svcTask_keeps (sub fm) ‹_›))

theorem State.commitNode_keeps {F a} {s1 : State} {x2 x3 x4 x5} (fm : 170229761 &&& F = 170229761) (h1 : Keeps F a s1) : Keeps F a (@State.commitNode s1 x2 x3 x4 x5) := by
  unfold State.commitNode
  dsimp only
  refine Keeps.fold ?_ ?_
  · refine Keeps.fold ?_ ?_
    · exact State.updGroup_keeps (sub fm) ‹_›
    · intro t1 t2 k3
      exact State.postEvent_keeps (sub fm) ‹_›
  · intro t4 t5 k6
    exact State.collDepart_keeps (sub fm) ‹_›

theorem State.endCreation_keeps {F a} {s1 : State} {x2} (fm : 237338625 &&& F = 237338625) (h1 : Keeps F a s1) : Keeps F a (@State.endCreation s1 x2) := by
  unfold State.endCreation
  dsimp only
  split
  · assumption
  · split
    · refine State.complete_keeps (sub fm) ?_
      refine Keeps.fold ?_ ?_
      · exact Keeps.set_creations (sub fm) (Keeps.eta ‹_›)
      · intro t4 t5 k6
        split
        · exact State.commitNode_keeps (sub fm) ‹_›
        · exact State.sendGctl_keeps (sub fm) ‹_›
    · refine State.complete_keeps (sub fm) ?_
      refine Keeps.fold ?_ ?_
      · exact Keeps.set_creations (sub fm) (Keeps.eta ‹_›)
      · intro t10 t11 k12
        split
        · exact State.abortNode_keeps (sub fm) ‹_›
        · exact State.sendGctl_keeps (sub fm) ‹_›

theorem execJoined_keeps {F a} {x1} {s2 : State} (fm : 10438934657 &&& F = 10438934657) (h2 : Keeps F a s2) {r} (e : @execJoined x1 s2 = .next r) : Keeps F a r := by
  unfold execJoined at e
  dsimp only at e
  rw [← Host.Outcome.next.inj e]
  refine State.onGctl_keeps (sub fm) ?_ ?_
  · assumption
  · intro t1 t2 t3 t4 k5
    split
    · assumption
    · split
      · assumption
      · exact State.endCreation_keeps (sub fm) (Keeps.set_creations (sub fm) (Keeps.eta ‹_›))

theorem State.reparent_keeps {F a} {s1 : State} {x2 x3} (fm : 170229761 &&& F = 170229761) (h1 : Keeps F a s1) : Keeps F a (@State.reparent s1 x2 x3) := by
  unfold State.reparent
  dsimp only
  refine Keeps.fold ?_ ?_
  · refine State.updGroup_keeps (sub fm) ?_
    refine Keeps.fold ?_ ?_
    · refine State.updGroup_keeps (sub fm) ?_
      refine Keeps.fold ?_ ?_
      · assumption
      · intro t1 t2 k3
        refine Keeps.fold ?_ ?_
        · exact State.dropParts_keeps (sub fm) (State.bump_keeps (sub fm) (State.free_keeps ‹_›))
        · intro t4 t5 k6
          exact State.collSend_keeps (sub fm) ‹_›
    · intro t7 t8 k9
      exact State.endLocal_keeps (sub fm) ‹_›
  · intro t10 t11 k12
    exact State.passDepart_keeps (sub fm) ‹_›

theorem execGroupLeave_keeps {F a} {x1 x2} {s3 : State} (fm : 10371825793 &&& F = 10371825793) (h3 : Keeps F a s3) {r} (e : @execGroupLeave x1 x2 s3 = .next r) : Keeps F a r := by
  unfold execGroupLeave at e
  dsimp only at e
  split at e
  · rw [← Host.Outcome.next.inj e]
    assumption
  · split at e
    · rw [← Host.Outcome.next.inj e]
      exact State.complete_keeps (sub fm) (State.beginDesc_keeps (sub fm) ‹_›)
    · rw [← Host.Outcome.next.inj e]
      exact State.settle_keeps (sub fm) (State.complete_keeps (sub fm) (State.run_keeps (sub fm) (State.collDepart_keeps (sub fm) (State.beginDesc_keeps (sub fm) ‹_›))))

theorem execGctlCommit_keeps {F a} {x1 x2 x3} {s4 : State} (fm : 10371825793 &&& F = 10371825793) (h4 : Keeps F a s4) {r} (e : @execGctlCommit x1 x2 x3 s4 = .next r) : Keeps F a r := by
  unfold execGctlCommit at e
  rw [← Host.Outcome.next.inj e]
  refine State.onGctl_keeps (sub fm) ?_ ?_
  · assumption
  · intro t1 t2 t3 t4 k5
    split
    · exact State.commitNode_keeps (sub fm) ‹_›
    · assumption

theorem execCollEccError_keeps {F a} {x1 x2 x3} {s4 : State} (fm : 10371826305 &&& F = 10371826305) (h4 : Keeps F a s4) {r} (e : @execCollEccError x1 x2 x3 s4 = .next r) : Keeps F a r := by
  unfold execCollEccError at e
  dsimp only at e
  split at e
  · rw [← Host.Outcome.next.inj e]
    assumption
  · split at e
    · rw [← Host.Outcome.next.inj e]
      exact State.detect_keeps (sub fm) ‹_›
    · rw [← Host.Outcome.next.inj e]
      exact State.settle_keeps (sub fm) (State.collClose_keeps (sub fm) (State.detect_keeps (sub fm) ‹_›))

theorem execGroupClose_keeps {F a} {x1 x2} {s3 : State} (fm : 10371825793 &&& F = 10371825793) (h3 : Keeps F a s3) {r} (e : @execGroupClose x1 x2 s3 = .next r) : Keeps F a r := by
  unfold execGroupClose at e
  dsimp only at e
  split at e
  · rw [← Host.Outcome.next.inj e]
    assumption
  · split at e
    · rw [← Host.Outcome.next.inj e]
      exact State.complete_keeps (sub fm) (State.beginDesc_keeps (sub fm) ‹_›)
    · rw [← Host.Outcome.next.inj e]
      exact State.settle_keeps (sub fm) (State.complete_keeps (sub fm) (State.collClose_keeps (sub fm) (State.beginDesc_keeps (sub fm) ‹_›)))

theorem execRepairTimeout_keeps {F a} {x1} {s2 : State} (fm : 10371825793 &&& F = 10371825793) (h2 : Keeps F a s2) {r} (e : @execRepairTimeout x1 s2 = .next r) : Keeps F a r := by
  unfold execRepairTimeout at e
  dsimp only at e
  split at e
  · rw [← Host.Outcome.next.inj e]
    exact State.settle_keeps (sub fm) (State.collFail_keeps (sub fm) ‹_›)
  · rw [← Host.Outcome.next.inj e]
    assumption

theorem State.adopt_keeps {F a} {s1 : State} {x2 x3} (fm : 33554432 &&& F = 33554432) (h1 : Keeps F a s1) : Keeps F a (@State.adopt s1 x2 x3).1 := by
  unfold State.adopt
  dsimp only
  split
  · dsimp only
    assumption
  · dsimp only
    exact State.updGroup_keeps (sub fm) ‹_›

theorem execRepair_keeps {F a} {x1} {s2 : State} (fm : 10371825793 &&& F = 10371825793) (h2 : Keeps F a s2) {r} (e : @execRepair x1 s2 = .next r) : Keeps F a r := by
  unfold execRepair at e
  dsimp only at e
  rw [← Host.Outcome.next.inj e]
  refine State.onGctl_keeps (sub fm) ?_ ?_
  · assumption
  · intro t1 t2 t3 t4 k5
    refine State.run_keeps (sub fm) (State.sendGctl_keeps (sub fm) ?_)
    split
    · dsimp only
      exact State.reparent_keeps (sub fm) (State.bump_keeps (sub fm) ‹_›)
    · exact State.adopt_keeps (sub fm) (State.bump_keeps (sub fm) ‹_›)

theorem execAbort_keeps {F a} {x1} {s2 : State} (fm : 10371825793 &&& F = 10371825793) (h2 : Keeps F a s2) {r} (e : @execAbort x1 s2 = .next r) : Keeps F a r := by
  unfold execAbort at e
  rw [← Host.Outcome.next.inj e]
  refine State.onGctl_keeps (sub fm) ?_ ?_
  · assumption
  · intro t1 t2 t3 t4 k5
    exact State.abortNode_keeps (sub fm) ‹_›

theorem State.joinNode_keeps {F a} {s1 : State} {x2 x3} (fm : 33554433 &&& F = 33554433) (h1 : Keeps F a s1) : Keeps F a (@State.joinNode s1 x2 x3) := by
  unfold State.joinNode
  dsimp only
  exact State.bump_keeps (sub fm) (State.updGroup_keeps (sub fm) ‹_›)

theorem State.create_keeps {F a} {s1 : State} {x2 x3 x4 x5} (fm : 237338625 &&& F = 237338625) (h1 : Keeps F a s1) : Keeps F a (@State.create s1 x2 x3 x4 x5) := by
  unfold State.create
  dsimp only
  split
  · exact State.complete_keeps (sub fm) (State.free_keeps (State.fresh_keeps ‹_›))
  · refine State.endCreation_keeps (sub fm) (Keeps.set_creations (sub fm) (Keeps.eta ?_))
    refine Keeps.foldFst ?_ ?_
    · dsimp only
      exact State.joinNode_keeps (sub fm) (State.free_keeps (State.fresh_keeps ‹_›))
    · intro t6 t7 k8
      split
      · dsimp only
        assumption
      · split
        · dsimp only
          assumption
        · dsimp only
          exact State.sendGctl_keeps (sub fm) ‹_›

theorem execGroupCreate_keeps {F a} {x1 x2 x3 x4} {s5 : State} (fm : 10438934657 &&& F = 10438934657) (h5 : Keeps F a s5) {r} (e : @execGroupCreate x1 x2 x3 x4 s5 = .next r) : Keeps F a r := by
  unfold execGroupCreate at e
  dsimp only at e
  split at e
  · rw [← Host.Outcome.next.inj e]
    assumption
  · split at e
    · rw [← Host.Outcome.next.inj e]
      exact State.complete_keeps (sub fm) (State.beginDesc_keeps (sub fm) (State.svcTask_keeps (sub fm) ‹_›))
    · split at e
      · rw [← Host.Outcome.next.inj e]
        exact State.complete_keeps (sub fm) (State.beginDesc_keeps (sub fm) (State.svcTask_keeps (sub fm) ‹_›))
      · rename_i v11 v12 v13
        split at e
        · rw [← Host.Outcome.next.inj e]
          refine State.complete_keeps (sub fm) (State.hostTxn_keeps (sub fm) ?_)
          refine (State.viRead_keeps (sub fm) ?_ v13 : _)
          exact State.beginDesc_keeps (sub fm) (State.svcTask_keeps (sub fm) ‹_›)
        · split at e
          · rw [← Host.Outcome.next.inj e]
            exact State.svcTask_keeps (sub fm) ‹_›
          · split at e
            · rw [← Host.Outcome.next.inj e]
              refine State.complete_keeps (sub fm) (State.hostTxn_keeps (sub fm) ?_)
              refine (State.viRead_keeps (sub fm) ?_ v13 : _)
              exact State.beginDesc_keeps (sub fm) (State.svcTask_keeps (sub fm) ‹_›)
            · rw [← Host.Outcome.next.inj e]
              refine State.settle_keeps (sub fm) (State.create_keeps (sub fm) (State.hostTxn_keeps (sub fm) ?_))
              refine (State.viRead_keeps (sub fm) ?_ v13 : _)
              exact State.beginDesc_keeps (sub fm) (State.svcTask_keeps (sub fm) ‹_›)

theorem execJoin_keeps {F a} {x1 x2} {s3 : State} (fm : 10371825793 &&& F = 10371825793) (h3 : Keeps F a s3) {r} (e : @execJoin x1 x2 s3 = .next r) : Keeps F a r := by
  unfold execJoin at e
  dsimp only at e
  rw [← Host.Outcome.next.inj e]
  refine State.onColl_keeps (sub fm) ?_ ?_
  · assumption
  · intro t1 t2 k3
    split
    · exact State.collDiscard_keeps (sub fm) ‹_›
    · split
      · exact State.disposePkt_keeps (sub fm) (State.raise_keeps (sub fm) ‹_›)
      · split
        · assumption
        · refine State.disposePkt_keeps (sub fm) (State.sendGctl_keeps (sub fm) ?_)
          split
          · exact State.joinNode_keeps (sub fm) (State.svcTask_keeps (sub fm) ‹_›)
          · exact State.svcTask_keeps (sub fm) ‹_›

theorem execGctlClose_keeps {F a} {x1} {s2 : State} (fm : 10371825793 &&& F = 10371825793) (h2 : Keeps F a s2) {r} (e : @execGctlClose x1 s2 = .next r) : Keeps F a r := by
  unfold execGctlClose at e
  rw [← Host.Outcome.next.inj e]
  refine State.onGctl_keeps (sub fm) ?_ ?_
  · assumption
  · intro t1 t2 t3 t4 k5
    exact State.collClose_keeps (sub fm) ‹_›

theorem State.endRepair_keeps {F a} {s1 : State} {x2} (fm : 33554433 &&& F = 33554433) (h1 : Keeps F a s1) : Keeps F a (@State.endRepair s1 x2) := by
  unfold State.endRepair
  split
  · exact State.bump_keeps (sub fm) (State.updGroup_keeps (sub fm) ‹_›)
  · assumption

theorem execRepaired_keeps {F a} {x1} {s2 : State} (fm : 10371825793 &&& F = 10371825793) (h2 : Keeps F a s2) {r} (e : @execRepaired x1 s2 = .next r) : Keeps F a r := by
  unfold execRepaired at e
  dsimp only at e
  rw [← Host.Outcome.next.inj e]
  refine State.onGctl_keeps (sub fm) ?_ ?_
  · assumption
  · intro t1 t2 t3 t4 k5
    split
    · exact State.collFail_keeps (sub fm) ‹_›
    · exact State.run_keeps (sub fm) (State.endRepair_keeps (sub fm) (State.updGroup_keeps (sub fm) ‹_›))

theorem State.holdRecs_keeps {F a} {s1 : State} {x2} (fm : 256 &&& F = 256) (h1 : Keeps F a s1) : Keeps F a (@State.holdRecs s1 x2) := by
  unfold State.holdRecs
  dsimp only
  exact Keeps.set_jrnl (sub fm) (Keeps.eta ‹_›)

theorem State.mirrorRec_keeps {F a} {s1 : State} {x2 x3} (fm : 1 &&& F = 1) (h1 : Keeps F a s1) : Keeps F a (@State.mirrorRec s1 x2 x3) := by
  unfold State.mirrorRec
  dsimp only
  split
  · exact State.satAdd_keeps (sub fm) ‹_›
  · exact State.pfEvent_keeps (sub fm) (State.hostWrite_keeps (sub fm) (State.put64_keeps (sub fm) ‹_›))

theorem State.emptyRing_keeps {F a} {s1 : State} (fm : 256 &&& F = 256) (h1 : Keeps F a s1) : Keeps F a (@State.emptyRing s1) := by
  unfold State.emptyRing
  dsimp only
  exact Keeps.set_jrnl (sub fm) (Keeps.eta ‹_›)

theorem State.writeRec_keeps {F a} {s1 : State} (fm : 256 &&& F = 256) (h1 : Keeps F a s1) : Keeps F a (@State.writeRec s1) := by
  unfold State.writeRec
  dsimp only
  split
  · assumption
  · exact Keeps.set_jrnl (sub fm) (Keeps.eta ‹_›)

theorem execJournalRecordWrite_keeps {F a} {s1 : State} (fm : 256 &&& F = 256) (h1 : Keeps F a s1) {r} (e : @execJournalRecordWrite s1 = .next r) : Keeps F a r := by
  unfold execJournalRecordWrite at e
  split at e
  · rw [← Host.Outcome.next.inj e]
    exact State.writeRec_keeps (sub fm) ‹_›
  · rw [← Host.Outcome.next.inj e]
    assumption

theorem State.stopRing_keeps {F a} {s1 : State} (fm : 256 &&& F = 256) (h1 : Keeps F a s1) : Keeps F a (@State.stopRing s1) := by
  unfold State.stopRing
  dsimp only
  exact State.holdRecs_keeps (sub fm) (Keeps.set_jrnl (sub fm) (Keeps.eta ‹_›))

theorem State.startRing_keeps {F a} {s1 : State} (fm : 256 &&& F = 256) (h1 : Keeps F a s1) : Keeps F a (@State.startRing s1) := by
  unfold State.startRing
  dsimp only
  exact Keeps.set_jrnl (sub fm) (Keeps.eta (State.mirrorOut_keeps (sub fm) ‹_›))

theorem execMirrorRecordWrite_keeps {F a} {x1} {s2 : State} (fm : 257 &&& F = 257) (h2 : Keeps F a s2) {r} (e : @execMirrorRecordWrite x1 s2 = .next r) : Keeps F a r := by
  unfold execMirrorRecordWrite at e
  dsimp only at e
  split at e
  · rw [← Host.Outcome.next.inj e]
    assumption
  · split at e
    · rw [← Host.Outcome.next.inj e]
      assumption
    · rw [← Host.Outcome.next.inj e]
      exact State.mirrorRec_keeps (sub fm) (Keeps.set_jrnl (sub fm) (Keeps.eta ‹_›))

theorem State.followRing_keeps {F a} {s1 : State} {x2} (fm : 256 &&& F = 256) (h1 : Keeps F a s1) : Keeps F a (@State.followRing s1 x2) := by
  unfold State.followRing
  split
  · exact State.stopRing_keeps (sub fm) ‹_›
  · split
    · exact State.startRing_keeps (sub fm) ‹_›
    · assumption

theorem State.cxlFilter_keeps {F a} {s1 : State} {x2 x3 x4} (fm : 8724152321 &&& F = 8724152321) (h1 : Keeps F a s1) : Keeps F a (@State.cxlFilter s1 x2 x3 x4) := by
  unfold State.cxlFilter
  dsimp only
  split
  · split
    · exact State.sendSnoops_keeps (sub fm) (State.setHolders_keeps (sub fm) ‹_›)
    · assumption
  · exact State.sendSnoops_keeps (sub fm) (State.setHolders_keeps (sub fm) ‹_›)
  · exact State.sendSnoops_keeps (sub fm) (State.setHolders_keeps (sub fm) ‹_›)

theorem State.makeRoom_keeps {F a} {s1 : State} {x2} (fm : 8724152321 &&& F = 8724152321) (h1 : Keeps F a s1) : Keeps F a (@State.makeRoom s1 x2) := by
  unfold State.makeRoom
  dsimp only
  split
  · split
    · exact State.free_keeps ‹_›
    · exact State.bump_keeps (sub fm) (State.sendSnoops_keeps (sub fm) (State.setHolders_keeps (sub fm) (State.free_keeps ‹_›)))
  · assumption

theorem State.cxlServe_keeps {F a} {s1 : State} {x2 x3 x4 x5} (fm : 8992587777 &&& F = 8992587777) (h1 : Keeps F a s1) : Keeps F a (@State.cxlServe s1 x2 x3 x4 x5) := by
  unfold State.cxlServe
  dsimp only
  split
  · exact State.emit_keeps (State.bump_keeps (sub fm) (State.poolPut_keeps (sub fm) (State.nocTxn_keeps (sub fm) ‹_›)))
  · exact State.emit_keeps (State.bump_keeps (sub fm) (State.setHolders_keeps (sub fm) (State.makeRoom_keeps (sub fm) (State.nocTxn_keeps (sub fm) ‹_›))))

theorem State.cxlReach_keeps {F a} {s1 : State} {x2 x3 x4 x5} (fm : 8992587777 &&& F = 8992587777) (h1 : Keeps F a s1) : Keeps F a (@State.cxlReach s1 x2 x3 x4 x5) := by
  unfold State.cxlReach
  dsimp only
  split
  · split
    · exact Keeps.set_mem (sub fm) (Keeps.etaMem (State.cxlFilter_keeps (sub fm) ‹_›))
    · exact State.cxlServe_keeps (sub fm) (State.cxlFilter_keeps (sub fm) ‹_›)
  · split
    · exact Keeps.set_mem (sub fm) (Keeps.etaMem ‹_›)
    · exact State.cxlServe_keeps (sub fm) ‹_›

theorem execCxlMemRequest_keeps {F a} {x1 x2 x3 x4} {s5 : State} (fm : 8992587777 &&& F = 8992587777) (h5 : Keeps F a s5) {r} (e : @execCxlMemRequest x1 x2 x3 x4 s5 = .next r) : Keeps F a r := by
  unfold execCxlMemRequest at e
  dsimp only at e
  split at e
  · rw [← Host.Outcome.next.inj e]
    assumption
  · split at e
    · rw [← Host.Outcome.next.inj e]
      exact State.raise_keeps (sub fm) ‹_›
    · split at e
      · rw [← Host.Outcome.next.inj e]
        exact State.emit_keeps ‹_›
      · split at e
        · cases e
        · rw [← Host.Outcome.next.inj e]
          exact State.cxlReach_keeps (sub fm) ‹_›

theorem State.endSnoop_keeps {F a} {s1 : State} {x2} (fm : 8992587777 &&& F = 8992587777) (h1 : Keeps F a s1) : Keeps F a (@State.endSnoop s1 x2) := by
  unfold State.endSnoop
  dsimp only
  split
  · assumption
  · split
    · refine Keeps.fold ?_ ?_
      · exact Keeps.set_mem (sub fm) (Keeps.etaMem ‹_›)
      · intro t7 t8 k9
        exact State.cxlReach_keeps (sub fm) ‹_›
    · assumption

theorem State.snoopPaid_keeps {F a} {s1 : State} {x2 x3} (fm : 8992587777 &&& F = 8992587777) (h1 : Keeps F a s1) : Keeps F a (@State.snoopPaid s1 x2 x3) := by
  unfold State.snoopPaid
  dsimp only
  refine Keeps.fold ?_ ?_
  · exact State.endSnoop_keeps (sub fm) (Keeps.set_mem (sub fm) (Keeps.etaMem ‹_›))
  · intro t1 t2 k3
    exact State.snoopGo_keeps (sub fm) ‹_›

theorem State.dropHolder_keeps {F a} {s1 : State} {x2} (fm : 8992587777 &&& F = 8992587777) (h1 : Keeps F a s1) : Keeps F a (@State.dropHolder s1 x2) := by
  unfold State.dropHolder
  dsimp only
  refine Keeps.fold ?_ ?_
  · refine Keeps.fold ?_ ?_
    · assumption
    · intro t1 t2 k3
      split
      · exact State.setHolders_keeps (sub fm) ‹_›
      · assumption
  · intro t6 t7 k8
    split
    · exact State.snoopPaid_keeps (sub fm) ‹_›
    · assumption

theorem execBirspTimeout_keeps {F a} {x1 x2} {s3 : State} (fm : 8992587777 &&& F = 8992587777) (h3 : Keeps F a s3) {r} (e : @execBirspTimeout x1 x2 s3 = .next r) : Keeps F a r := by
  unfold execBirspTimeout at e
  dsimp only at e
  split at e
  · rw [← Host.Outcome.next.inj e]
    assumption
  · split at e
    · rw [← Host.Outcome.next.inj e]
      exact State.snoopPaid_keeps (sub fm) (Keeps.set_mem (sub fm) (Keeps.etaMem (State.raise_keeps (sub fm) (State.bput_keeps (sub fm) (State.bump_keeps (sub fm) (State.raise_keeps (sub fm) (State.setHolders_keeps (sub fm) ‹_›)))))))
    · rw [← Host.Outcome.next.inj e]
      assumption

theorem execBirsp_keeps {F a} {x1 x2 x3} {s4 : State} (fm : 8992587777 &&& F = 8992587777) (h4 : Keeps F a s4) {r} (e : @execBirsp x1 x2 x3 s4 = .next r) : Keeps F a r := by
  unfold execBirsp at e
  dsimp only at e
  split at e
  · rw [← Host.Outcome.next.inj e]
    assumption
  · split at e
    · rw [← Host.Outcome.next.inj e]
      refine State.snoopPaid_keeps (sub fm) ?_
      split
      · exact State.nocRun_keeps (sub fm) (State.nocSend_keeps (sub fm) ‹_›)
      · exact State.bump_keeps (sub fm) (State.poolPut_keeps (sub fm) (State.nocRun_keeps (sub fm) (State.nocSend_keeps (sub fm) ‹_›)))
    · rw [← Host.Outcome.next.inj e]
      assumption

theorem State.commitPartition_keeps {F a} {s1 : State} (fm : 134217985 &&& F = 134217985) (h1 : Keeps F a s1) : Keeps F a (@State.commitPartition s1) := by
  unfold State.commitPartition
  dsimp only
  split
  · exact State.bput_keeps (sub fm) ‹_›
  · refine State.followRing_keeps (sub fm) (State.emptyRing_keeps (sub fm) ?_)
    refine Keeps.fold ?_ ?_
    · refine Keeps.fold ?_ ?_
      · refine Keeps.fold ?_ ?_
        · exact State.bput_keeps (sub fm) (State.bput_keeps (sub fm) (Keeps.set_mem (sub fm) (Keeps.etaMem ‹_›)))
        · intro t3 t4 k5
          exact State.fput_keeps (sub fm) ‹_›
      · intro t6 t7 k8
        exact State.fput_keeps (sub fm) ‹_›
    · intro t9 t10 k11
      exact State.fput_keeps (sub fm) ‹_›

theorem State.mcBoot_keeps {F a} {s1 : State} (fm : 1 &&& F = 1) (h1 : Keeps F a s1) : Keeps F a (@State.mcBoot s1) := by
  unfold State.mcBoot
  dsimp only
  split
  · assumption
  · split
    · exact State.fput_keeps (sub fm) (State.fput_keeps (sub fm) ‹_›)
    · exact State.bump_keeps (sub fm) (State.bput_keeps (sub fm) (State.fput_keeps (sub fm) ‹_›))

theorem State.clusterRuns_keeps {F a} {s1 : State} {x2 x3} (fm : 257 &&& F = 257) (h1 : Keeps F a s1) : Keeps F a (@State.clusterRuns s1 x2 x3) := by
  unfold State.clusterRuns
  dsimp only
  exact State.record3_keeps (sub fm) (State.put_keeps (sub fm) ‹_›)

theorem State.raiseSvn_keeps {F a} {s1 : State} {x2 x3} (fm : 32 &&& F = 32) (h1 : Keeps F a s1) : Keeps F a (@State.raiseSvn s1 x2 x3) := by
  unfold State.raiseSvn
  dsimp only
  exact Keeps.set_psto (sub fm) (Keeps.eta ‹_›)

theorem State.settleSvn_keeps {F a} {s1 : State} (fm : 1056 &&& F = 1056) (h1 : Keeps F a s1) : Keeps F a (@State.settleSvn s1) := by
  unfold State.settleSvn
  dsimp only
  split
  · assumption
  · split
    · exact State.raiseSvn_keeps (sub fm) (Keeps.set_fw (sub fm) (Keeps.eta ‹_›))
    · assumption

theorem State.dockBank_keeps {F a} {s1 : State} {x2} (fm : 1313 &&& F = 1313) (h1 : Keeps F a s1) : Keeps F a (@State.dockBank s1 x2) := by
  unfold State.dockBank
  dsimp only
  split
  · assumption
  · exact State.settleSvn_keeps (sub fm) (State.clusterRuns_keeps (sub fm) (Keeps.set_fw (sub fm) (Keeps.eta ‹_›)))

theorem State.crit_keeps {F a} {s1 : State} (fm : 136348177 &&& F = 136348177) (h1 : Keeps F a s1) : Keeps F a (@State.crit s1) := by
  unfold State.crit
  dsimp only
  split
  · exact State.enterFatal_keeps (sub fm) (Keeps.set_pwr (sub fm) (Keeps.eta (State.bput_keeps (sub fm) ‹_›)))
  · exact State.bput_keeps (sub fm) ‹_›

theorem State.pllUse_keeps {F a} {s1 : State} {x2} (fm : 1 &&& F = 1) (h1 : Keeps F a s1) : Keeps F a (@State.pllUse s1 x2) := by
  unfold State.pllUse
  exact State.bput_keeps (sub fm) (State.bput_keeps (sub fm) ‹_›)

theorem State.applyRetired_keeps {F a} {s1 : State} (fm : 4097 &&& F = 4097) (h1 : Keeps F a s1) : Keeps F a (@State.applyRetired s1) := by
  unfold State.applyRetired
  dsimp only
  refine Keeps.fold ?_ ?_
  · refine Keeps.fold ?_ ?_
    · assumption
    · intro t1 t2 k3
      split
      · assumption
      · exact State.put_keeps (sub fm) (State.put_keeps (sub fm) (State.put_keeps (sub fm) ‹_›))
  · intro t6 t7 k8
    split
    · split
      · exact State.bput_keeps (sub fm) (State.setLaneState_keeps (sub fm) ‹_›)
      · assumption
    · assumption

theorem State.pllEval_keeps {F a} {s1 : State} (fm : 65 &&& F = 65) (h1 : Keeps F a s1) : Keeps F a (@State.pllEval s1) := by
  unfold State.pllEval
  dsimp only
  split
  · assumption
  · split
    · split
      · exact State.pllUse_keeps (sub fm) (Keeps.set_tick (sub fm) (Keeps.eta ‹_›))
      · assumption
    · split
      · split
        · split
          · exact State.pllUse_keeps (sub fm) (State.bput_keeps (sub fm) ‹_›)
          · assumption
        · assumption
      · split
        · assumption
        · split
          · exact State.bump_keeps (sub fm) (State.bput_keeps (sub fm) (State.pllUse_keeps (sub fm) ‹_›))
          · exact Keeps.set_tick (sub fm) (Keeps.eta (State.bput_keeps (sub fm) (State.bput_keeps (sub fm) (State.bput_keeps (sub fm) ‹_›))))

theorem State.stopSession_keeps {F a} {s1 : State} (fm : 128 &&& F = 128) (h1 : Keeps F a s1) : Keeps F a (@State.stopSession s1) := by
  unfold State.stopSession
  dsimp only
  exact Keeps.set_zyn (sub fm) (Keeps.eta ‹_›)

theorem State.endReads_keeps {F a} {s1 : State}  (h1 : Keeps F a s1) : Keeps F a (@State.endReads s1) := by
  unfold State.endReads
  refine Keeps.fold ?_ ?_
  · assumption
  · intro t1 t2 k3
    exact State.emit_keeps ‹_›

theorem State.mainReset_keeps {F a} {s1 : State} (fm : 17179869135 &&& F = 17179869135) (h1 : Keeps F a s1) : Keeps F a (@State.mainReset s1) := by
  unfold State.mainReset
  refine State.applyRetired_keeps (sub fm) (State.put_keeps (sub fm) (State.bput_keeps (sub fm) (Keeps.fold ?_ (fun t x k => State.put_keeps (sub fm) k))))
  exact ⟨h1.queue, (State.resetRegs_keeps (sub fm) h1).regs, rfl, h1.out, h1.ident, h1.free, fun p hp => by
    cases p <;> first | exact h1.frame _ hp | exact absurd hp (by rw [most_mask fm _ (by decide)]; decide)⟩

theorem State.setPwr_keeps {F a} {s1 : State} {x2 x3} (fm : 1 &&& F = 1) (h1 : Keeps F a s1) : Keeps F a (@State.setPwr s1 x2 x3) := by
  unfold State.setPwr
  exact State.bput_keeps (sub fm) ‹_›

theorem State.keyEffect_keeps {F a} {s1 : State} {x2} (fm : 33 &&& F = 33) (h1 : Keeps F a s1) : Keeps F a (@State.keyEffect s1 x2) := by
  unfold State.keyEffect
  dsimp only
  split
  · assumption
  · split
    · exact State.setSlot_keeps (sub fm) (Keeps.set_psto (sub fm) (Keeps.eta ‹_›))
    · exact State.setSlot_keeps (sub fm) (Keeps.set_psto (sub fm) (Keeps.eta ‹_›))

theorem State.mainLost_keeps {F a} {s1 : State} (fm : 17179869183 &&& F = 17179869183) (h1 : Keeps F a s1) : Keeps F a (@State.mainLost s1) := by
  unfold State.mainLost
  dsimp only
  refine Keeps.fold ?_ ?_
  · refine State.setPwr_keeps (sub fm) (State.setPwr_keeps (sub fm) (State.setPwr_keeps (sub fm) (Keeps.set_pwr (sub fm) (Keeps.set_zyn (sub fm) (Keeps.eta ?_)))))
    refine Keeps.fold ?_ ?_
    · exact State.put_keeps (sub fm) (State.bput_keeps (sub fm) (State.mainReset_keeps (sub fm) (State.stopSession_keeps (sub fm) (State.endReads_keeps ‹_›))))
    · intro t1 t2 k3
      exact State.put_keeps (sub fm) ‹_›
  · intro t4 t5 k6
    exact State.keyEffect_keeps (sub fm) ‹_›

theorem State.openSwitch_keeps {F a} {s1 : State} {x2} (fm : 17179869183 &&& F = 17179869183) (h1 : Keeps F a s1) : Keeps F a (@State.openSwitch s1 x2) := by
  unfold State.openSwitch
  dsimp only
  split
  · exact State.setPwr_keeps (sub fm) (Keeps.set_pwr (sub fm) (Keeps.eta (State.mainLost_keeps (sub fm) ‹_›)))
  · exact State.mainLost_keeps (sub fm) ‹_›

theorem State.enterDock_keeps {F a} {s1 : State} {x2} (fm : 15649 &&& F = 15649) (h1 : Keeps F a s1) : Keeps F a (@State.enterDock s1 x2) := by
  unfold State.enterDock
  dsimp only
  split
  · exact State.bringUp_keeps (sub fm) (Keeps.set_svc (sub fm) (Keeps.eta (State.enterSvc_keeps (sub fm) ‹_›)))
  · exact State.dockBank_keeps (sub fm) (Keeps.set_svc (sub fm) (Keeps.eta (State.enterSvc_keeps (sub fm) ‹_›)))
  · exact Keeps.set_svc (sub fm) (Keeps.eta (State.enterSvc_keeps (sub fm) ‹_›))

theorem State.postOne_keeps {F a} {s1 : State} {x2 x3} (fm : 136560417 &&& F = 136560417) (h1 : Keeps F a s1) : Keeps F a (@State.postOne s1 x2 x3) := by
  unfold State.postOne
  dsimp only
  split
  · assumption
  · split
    · split
      · exact State.retireInst_keeps (sub fm) (State.satAdd_keeps (sub fm) (State.nextTest_keeps (sub fm) (State.setVerdict_keeps (sub fm) ‹_›)))
      · exact State.retire_keeps (sub fm) (State.satAdd_keeps (sub fm) (State.nextTest_keeps (sub fm) (State.setVerdict_keeps (sub fm) ‹_›)))
    · exact State.enterDock_keeps (sub fm) (State.nextTest_keeps (sub fm) (State.setVerdict_keeps (sub fm) ‹_›))

theorem State.postStart_keeps {F a} {s1 : State} (fm : 244481 &&& F = 244481) (h1 : Keeps F a s1) : Keeps F a (@State.postStart s1) := by
  unfold State.postStart
  refine Keeps.fold ?_ ?_
  · assumption
  · intro t1 t2 k3
    split
    · exact State.enterSvc_keeps (sub fm) ‹_›
    · exact State.runFull_keeps (sub fm) (State.enterSvc_keeps (sub fm) ‹_›)

theorem State.setFenced_keeps {F a} {s1 : State} {x2} (fm : 2305 &&& F = 2305) (h1 : Keeps F a s1) : Keeps F a (@State.setFenced s1 x2) := by
  unfold State.setFenced
  dsimp only
  exact State.record3_keeps (sub fm) (Keeps.set_svc (sub fm) (Keeps.eta (State.bput_keeps (sub fm) ‹_›)))

theorem State.requestFence_keeps {F a} {s1 : State} {x2} (fm : 8589936897 &&& F = 8589936897) (h1 : Keeps F a s1) : Keeps F a (@State.requestFence s1 x2) := by
  unfold State.requestFence
  dsimp only
  split
  · exact State.bput_keeps (sub fm) ‹_›
  · split
    · split
      · exact State.setFenced_keeps (sub fm) (State.nocRecall_keeps (sub fm) (Keeps.set_svc (sub fm) (Keeps.eta (State.bput_keeps (sub fm) ‹_›))))
      · exact State.nocRecall_keeps (sub fm) (Keeps.set_svc (sub fm) (Keeps.eta (State.bput_keeps (sub fm) ‹_›)))
    · split
      · exact State.setFenced_keeps (sub fm) (Keeps.set_svc (sub fm) (Keeps.eta (State.bput_keeps (sub fm) ‹_›)))
      · exact Keeps.set_svc (sub fm) (Keeps.eta (State.bput_keeps (sub fm) ‹_›))

theorem State.releaseFence_keeps {F a} {s1 : State} {x2} (fm : 8589936641 &&& F = 8589936641) (h1 : Keeps F a s1) : Keeps F a (@State.releaseFence s1 x2) := by
  unfold State.releaseFence
  dsimp only
  split
  · exact State.nocGrant_keeps (sub fm) (Keeps.set_svc (sub fm) (Keeps.eta (State.bput_keeps (sub fm) (State.bput_keeps (sub fm) ‹_›))))
  · exact Keeps.set_svc (sub fm) (Keeps.eta (State.bput_keeps (sub fm) (State.bput_keeps (sub fm) ‹_›)))

theorem State.openBy_keeps {F a} {s1 : State} {x2 x3 x4 x5} (fm : 8760164353 &&& F = 8760164353) (h1 : Keeps F a s1) : Keeps F a (@State.openBy s1 x2 x3 x4 x5) := by
  unfold State.openBy
  dsimp only
  split
  · split
    · exact State.collSend_keeps (sub fm) (State.free_keeps (State.updSlot_keeps (sub fm) ‹_›))
    · split
      · exact State.endLocal_keeps (sub fm) (State.free_keeps (State.updSlot_keeps (sub fm) ‹_›))
      · exact State.free_keeps (State.updSlot_keeps (sub fm) ‹_›)
  · split
    · split
      · exact State.run_keeps (sub fm) (State.updSlot_keeps (sub fm) ‹_›)
      · exact State.collFail_keeps (sub fm) (State.bump_keeps (sub fm) (State.updSlot_keeps (sub fm) ‹_›))
    · exact State.run_keeps (sub fm) (State.updStep_keeps (sub fm) (State.updSlot_keeps (sub fm) ‹_›))

theorem execCollStep_keeps {F a} {x1 x2} {s3 : State} (fm : 10371825793 &&& F = 10371825793) (h3 : Keeps F a s3) {r} (e : @execCollStep x1 x2 s3 = .next r) : Keeps F a r := by
  unfold execCollStep at e
  dsimp only at e
  split at e
  · rw [← Host.Outcome.next.inj e]
    assumption
  · split at e
    · rw [← Host.Outcome.next.inj e]
      exact State.complete_keeps (sub fm) (State.beginDesc_keeps (sub fm) ‹_›)
    · split at e
      · rw [← Host.Outcome.next.inj e]
        exact State.complete_keeps (sub fm) (State.bump_keeps (sub fm) (State.beginDesc_keeps (sub fm) ‹_›))
      · split at e
        · rw [← Host.Outcome.next.inj e]
          exact State.complete_keeps (sub fm) (State.beginDesc_keeps (sub fm) ‹_›)
        · rw [← Host.Outcome.next.inj e]
          exact State.settle_keeps (sub fm) (State.openBy_keeps (sub fm) (State.updGroup_keeps (sub fm) (State.beginDesc_keeps (sub fm) ‹_›)))

theorem State.repair_keeps {F a} {s1 : State} {x2 x3} (fm : 170229761 &&& F = 170229761) (h1 : Keeps F a s1) : Keeps F a (@State.repair s1 x2 x3) := by
  unfold State.repair
  dsimp only
  split
  · exact State.collFail_keeps (sub fm) ‹_›
  · split
    · assumption
    · refine Keeps.fold ?_ ?_
      · exact State.updGroup_keeps (sub fm) ‹_›
      · intro t5 t6 k7
        refine State.sendGctl_keeps (sub fm) ?_
        split
        · exact State.adopt_keeps (sub fm) ‹_›
        · exact State.sendGctl_keeps (sub fm) ‹_›

theorem State.fromNeighbour_keeps {F a} {s1 : State} {x2 x3 x4} (fm : 8623751169 &&& F = 8623751169) (h1 : Keeps F a s1) (h3 : ∀ t1 y2 y3 y4, Keeps F a t1 → Keeps F a ((x3 t1 y2 y3 y4))) : Keeps F a (@State.fromNeighbour s1 x2 x3 x4) := by
  unfold State.fromNeighbour
  dsimp only
  split
  · exact State.collDiscard_keeps (sub fm) ‹_›
  · split
    · split
      · exact State.disposePkt_keeps (sub fm) (h3 _ _ _ _ (State.updSlot_keeps (sub fm) ‹_›))
      · exact State.collDiscard_keeps (sub fm) ‹_›
    · split
      · split
        · exact State.disposePkt_keeps (sub fm) (h3 _ _ _ _ (State.updGroup_keeps (sub fm) ‹_›))
        · exact State.collDiscard_keeps (sub fm) ‹_›
      · exact State.collDiscard_keeps (sub fm) ‹_›

theorem State.onStep_keeps {F a} {s1 : State} {x2 x3 x4 x5} (fm : 10371825793 &&& F = 10371825793) (h1 : Keeps F a s1) (h5 : ∀ t1 y2 y3 y4, Keeps F a t1 → Keeps F a ((x5 t1 y2 y3 y4))) : Keeps F a (@State.onStep s1 x2 x3 x4 x5) := by
  unfold State.onStep
  refine State.onColl_keeps (sub fm) ?_ ?_
  · assumption
  · intro t1 t2 k3
    refine State.fromNeighbour_keeps (sub fm) ?_ ?_
    · assumption
    · intro t4 t5 t6 t7 k8
      exact h5 _ _ _ _ ‹_›

theorem execStepOpenReceive_keeps {F a} {x1} {s2 : State} (fm : 10371825793 &&& F = 10371825793) (h2 : Keeps F a s2) {r} (e : @execStepOpenReceive x1 s2 = .next r) : Keeps F a r := by
  unfold execStepOpenReceive at e
  dsimp only at e
  rw [← Host.Outcome.next.inj e]
  refine State.onStep_keeps (sub fm) ?_ ?_
  · assumption
  · intro t1 t2 t3 t4 k5
    split
    · exact State.collMalformed_keeps (sub fm) ‹_›
    · exact State.openBy_keeps (sub fm) ‹_›

theorem execDirectReceive_keeps {F a} {x1} {s2 : State} (fm : 10371825793 &&& F = 10371825793) (h2 : Keeps F a s2) {r} (e : @execDirectReceive x1 s2 = .next r) : Keeps F a r := by
  unfold execDirectReceive at e
  dsimp only at e
  rw [← Host.Outcome.next.inj e]
  refine State.onColl_keeps (sub fm) ?_ ?_
  · assumption
  · intro t1 t2 k3
    split
    · exact State.collDiscard_keeps (sub fm) ‹_›
    · split
      · exact State.disposePkt_keeps (sub fm) (State.bump_keeps (sub fm) ‹_›)
      · split
        · exact State.disposePkt_keeps (sub fm) (State.collMalformed_keeps (sub fm) (State.bump_keeps (sub fm) ‹_›))
        · exact State.disposePkt_keeps (sub fm) (State.run_keeps (sub fm) (State.takeDirect_keeps (sub fm) (State.bump_keeps (sub fm) ‹_›)))

theorem execCollHeartbeat_keeps {F a} {x1 x2} {s3 : State} (fm : 10371825793 &&& F = 10371825793) (h3 : Keeps F a s3) {r} (e : @execCollHeartbeat x1 x2 s3 = .next r) : Keeps F a r := by
  unfold execCollHeartbeat at e
  dsimp only at e
  split at e
  · rw [← Host.Outcome.next.inj e]
    assumption
  · split at e
    · split at e
      · rw [← Host.Outcome.next.inj e]
        exact State.settle_keeps (sub fm) (State.sendCredit_keeps (sub fm) (State.bump_keeps (sub fm) (State.updSlot_keeps (sub fm) ‹_›)))
      · rw [← Host.Outcome.next.inj e]
        assumption
    · split at e
      · split at e
        · rw [← Host.Outcome.next.inj e]
          exact State.settle_keeps (sub fm) (State.sendCredit_keeps (sub fm) (State.bump_keeps (sub fm) (State.updGroup_keeps (sub fm) ‹_›)))
        · rw [← Host.Outcome.next.inj e]
          assumption
      · rw [← Host.Outcome.next.inj e]
        assumption

theorem execUpReceive_keeps {F a} {x1} {s2 : State} (fm : 10371825793 &&& F = 10371825793) (h2 : Keeps F a s2) {r} (e : @execUpReceive x1 s2 = .next r) : Keeps F a r := by
  unfold execUpReceive at e
  dsimp only at e
  rw [← Host.Outcome.next.inj e]
  refine State.onColl_keeps (sub fm) ?_ ?_
  · assumption
  · intro t1 t2 k3
    split
    · refine State.fromNeighbour_keeps (sub fm) ?_ ?_
      · assumption
      · intro t5 t6 t7 t8 k9
        exact State.takeUp_keeps (sub fm) ‹_›
    · split
      · exact State.collDiscard_keeps (sub fm) ‹_›
      · exact State.disposePkt_keeps (sub fm) (State.collMalformed_keeps (sub fm) ‹_›)

theorem execDownReceive_keeps {F a} {x1} {s2 : State} (fm : 10371825793 &&& F = 10371825793) (h2 : Keeps F a s2) {r} (e : @execDownReceive x1 s2 = .next r) : Keeps F a r := by
  unfold execDownReceive at e
  dsimp only at e
  rw [← Host.Outcome.next.inj e]
  refine State.onStep_keeps (sub fm) ?_ ?_
  · assumption
  · intro t1 t2 t3 t4 k5
    split
    · split
      · exact State.collMalformed_keeps (sub fm) ‹_›
      · split
        · assumption
        · exact State.run_keeps (sub fm) (State.updStep_keeps (sub fm) ‹_›)
    · split
      · exact State.collMalformed_keeps (sub fm) ‹_›
      · split
        · assumption
        · exact State.run_keeps (sub fm) (State.updStep_keeps (sub fm) ‹_›)

theorem execCreditReceive_keeps {F a} {x1} {s2 : State} (fm : 10371825793 &&& F = 10371825793) (h2 : Keeps F a s2) {r} (e : @execCreditReceive x1 s2 = .next r) : Keeps F a r := by
  unfold execCreditReceive at e
  dsimp only at e
  rw [← Host.Outcome.next.inj e]
  refine State.onColl_keeps (sub fm) ?_ ?_
  · assumption
  · intro t1 t2 k3
    split
    · split
      · exact State.collDiscard_keeps (sub fm) ‹_›
      · split
        · exact State.disposePkt_keeps (sub fm) (State.collMalformed_keeps (sub fm) ‹_›)
        · split
          · exact State.disposePkt_keeps (sub fm) (State.run_keeps (sub fm) (State.updGroup_keeps (sub fm) ‹_›))
          · split
            · split
              · exact State.disposePkt_keeps (sub fm) (State.run_keeps (sub fm) (State.updSlot_keeps (sub fm) ‹_›))
              · exact State.disposePkt_keeps (sub fm) (State.collMalformed_keeps (sub fm) ‹_›)
            · exact State.disposePkt_keeps (sub fm) (State.collMalformed_keeps (sub fm) ‹_›)
    · split
      · exact State.collDiscard_keeps (sub fm) ‹_›
      · split
        · exact State.disposePkt_keeps (sub fm) (State.collMalformed_keeps (sub fm) ‹_›)
        · split
          · exact State.disposePkt_keeps (sub fm) (State.run_keeps (sub fm) (State.updGroup_keeps (sub fm) ‹_›))
          · split
            · split
              · exact State.disposePkt_keeps (sub fm) (State.run_keeps (sub fm) (State.updSlot_keeps (sub fm) ‹_›))
              · exact State.disposePkt_keeps (sub fm) (State.collMalformed_keeps (sub fm) ‹_›)
            · exact State.disposePkt_keeps (sub fm) (State.collMalformed_keeps (sub fm) ‹_›)

theorem execEpochReceive_keeps {F a} {x1} {s2 : State} (fm : 10371825793 &&& F = 10371825793) (h2 : Keeps F a s2) {r} (e : @execEpochReceive x1 s2 = .next r) : Keeps F a r := by
  unfold execEpochReceive at e
  dsimp only at e
  rw [← Host.Outcome.next.inj e]
  refine State.onStep_keeps (sub fm) ?_ ?_
  · assumption
  · intro t1 t2 t3 t4 k5
    split
    · exact State.collMalformed_keeps (sub fm) ‹_›
    · exact State.tellEpoch_keeps (sub fm) (State.updGroup_keeps (sub fm) ‹_›)

theorem execDepartReceive_keeps {F a} {x1 x2 x3} {s4 : State} (fm : 10371825793 &&& F = 10371825793) (h4 : Keeps F a s4) {r} (e : @execDepartReceive x1 x2 x3 s4 = .next r) : Keeps F a r := by
  unfold execDepartReceive at e
  dsimp only at e
  rw [← Host.Outcome.next.inj e]
  refine State.onColl_keeps (sub fm) ?_ ?_
  · assumption
  · intro t1 t2 k3
    split
    · exact State.collDiscard_keeps (sub fm) ‹_›
    · split
      · exact State.disposePkt_keeps (sub fm) (State.collMalformed_keeps (sub fm) ‹_›)
      · split
        · exact State.disposePkt_keeps (sub fm) (State.passDepart_keeps (sub fm) ‹_›)
        · split
          · exact State.disposePkt_keeps (sub fm) (State.run_keeps (sub fm) (State.rootDepart_keeps (sub fm) ‹_›))
          · refine State.disposePkt_keeps (sub fm) (State.run_keeps (sub fm) (State.endRepair_keeps (sub fm) ?_))
            split
            · exact State.repair_keeps (sub fm) (State.svcTask_keeps (sub fm) (State.rootDepart_keeps (sub fm) (State.updGroup_keeps (sub fm) ‹_›)))
            · exact State.rootDepart_keeps (sub fm) (State.updGroup_keeps (sub fm) ‹_›)

theorem execDoneReceive_keeps {F a} {x1} {s2 : State} (fm : 10371825793 &&& F = 10371825793) (h2 : Keeps F a s2) {r} (e : @execDoneReceive x1 s2 = .next r) : Keeps F a r := by
  unfold execDoneReceive at e
  dsimp only at e
  rw [← Host.Outcome.next.inj e]
  refine State.onStep_keeps (sub fm) ?_ ?_
  · assumption
  · intro t1 t2 t3 t4 k5
    split
    · exact State.collMalformed_keeps (sub fm) ‹_›
    · split
      · assumption
      · refine State.run_keeps (sub fm) (State.updStep_keeps (sub fm) ?_)
        split
        · split
          · split
            · exact State.dropParts_keeps (sub fm) ‹_›
            · assumption
          · refine State.sendCredit_keeps (sub fm) (State.updGroup_keeps (sub fm) ?_)
            split
            · exact State.dropParts_keeps (sub fm) ‹_›
            · assumption
        · split
          · exact State.dropParts_keeps (sub fm) ‹_›
          · assumption

theorem execLocalSegmentRead_keeps {F a} {x1 x2 x3} {s4 : State} (fm : 10371825793 &&& F = 10371825793) (h4 : Keeps F a s4) {r} (e : @execLocalSegmentRead x1 x2 x3 s4 = .next r) : Keeps F a r := by
  unfold execLocalSegmentRead at e
  dsimp only at e
  split at e
  · rw [← Host.Outcome.next.inj e]
    assumption
  · split at e
    · rw [← Host.Outcome.next.inj e]
      assumption
    · split at e
      · split at e
        · rw [← Host.Outcome.next.inj e]
          assumption
        · rw [← Host.Outcome.next.inj e]
          exact State.updGroup_keeps (sub fm) (State.bump_keeps (sub fm) ‹_›)
      · split at e
        · rw [← Host.Outcome.next.inj e]
          exact State.settle_keeps (sub fm) (State.run_keeps (sub fm) (State.collDepart_keeps (sub fm) ‹_›))
        · rename_i v16 v17 v18
          rw [← Host.Outcome.next.inj e]
          refine State.settle_keeps (sub fm) (State.run_keeps (sub fm) (State.updStep_keeps (sub fm) (State.updGroup_keeps (sub fm) (State.shaperCharge_keeps (sub fm) (State.hostTxn_keeps (sub fm) ?_)))))
          refine (State.viRead_keeps (sub fm) ?_ v18 : _)
          assumption

theorem State.post_keeps {F a} {s1 : State} {x2 x3} (fm : 136577025 &&& F = 136577025) (h1 : Keeps F a s1) : Keeps F a (@State.post s1 x2 x3) := by
  unfold State.post
  dsimp only
  split
  · exact State.deliver_keeps (sub fm) (State.bumpVf_keeps (sub fm) (State.bump_keeps (sub fm) (State.countWalk_keeps (sub fm) (State.beginDesc_keeps (sub fm) ‹_›))))
  · split
    · refine State.deferDesc_keeps (sub fm) ?_ ?_
      · assumption
      · intro t7 k8
        exact State.bump_keeps (sub fm) ‹_›
    · exact State.bump_keeps (sub fm) (State.updMtch_keeps (sub fm) (State.countWalk_keeps (sub fm) (State.beginDesc_keeps (sub fm) ‹_›)))

theorem execMatchResume_keeps {F a} {x1 x2} {s3 : State} (fm : 136314881 &&& F = 136314881) (h3 : Keeps F a s3) {r} (e : @execMatchResume x1 x2 s3 = .next r) : Keeps F a r := by
  unfold execMatchResume at e
  dsimp only at e
  split at e
  · rw [← Host.Outcome.next.inj e]
    assumption
  · split at e
    · rw [← Host.Outcome.next.inj e]
      exact State.complete_keeps (sub fm) (State.bump_keeps (sub fm) (State.beginDesc_keeps (sub fm) ‹_›))
    · rw [← Host.Outcome.next.inj e]
      exact State.complete_keeps (sub fm) (State.updMtch_keeps (sub fm) (State.bump_keeps (sub fm) (State.beginDesc_keeps (sub fm) ‹_›)))

theorem execRecvClaimed_keeps {F a} {x1 x2} {s3 : State} (fm : 136577025 &&& F = 136577025) (h3 : Keeps F a s3) {r} (e : @execRecvClaimed x1 x2 s3 = .next r) : Keeps F a r := by
  unfold execRecvClaimed at e
  dsimp only at e
  split at e
  · rw [← Host.Outcome.next.inj e]
    assumption
  · split at e
    · rw [← Host.Outcome.next.inj e]
      exact State.beginDesc_keeps (sub fm) ‹_›
    · split at e
      · rw [← Host.Outcome.next.inj e]
        exact State.complete_keeps (sub fm) (State.bump_keeps (sub fm) (State.beginDesc_keeps (sub fm) ‹_›))
      · rw [← Host.Outcome.next.inj e]
        exact State.deliver_keeps (sub fm) (State.beginDesc_keeps (sub fm) ‹_›)

theorem execBounceCopyDone_keeps {F a} {x1 x2} {s3 : State} (fm : 8726249473 &&& F = 8726249473) (h3 : Keeps F a s3) {r} (e : @execBounceCopyDone x1 x2 s3 = .next r) : Keeps F a r := by
  unfold execBounceCopyDone at e
  dsimp only at e
  split at e
  · rw [← Host.Outcome.next.inj e]
    assumption
  · split at e
    · rw [← Host.Outcome.next.inj e]
      assumption
    · split at e
      · rw [← Host.Outcome.next.inj e]
        exact State.endRecv_keeps (sub fm) (State.bump_keeps (sub fm) (State.countBounce_keeps (sub fm) ‹_›))
      · rename_i v11 v12 v13 v14
        split at e
        · rw [← Host.Outcome.next.inj e]
          refine State.updPlacing_keeps (sub fm) (State.bump_keeps (sub fm) ?_)
          refine (State.place_keeps (sub fm) ?_ v14 : _)
          exact State.countBounce_keeps (sub fm) ‹_›
        · rw [← Host.Outcome.next.inj e]
          refine State.endPlaced_keeps (sub fm) (State.bump_keeps (sub fm) ?_)
          refine (State.place_keeps (sub fm) ?_ v14 : _)
          exact State.countBounce_keeps (sub fm) ‹_›

theorem State.probe_keeps {F a} {s1 : State} {x2 x3} (fm : 136314881 &&& F = 136314881) (h1 : Keeps F a s1) : Keeps F a (@State.probe s1 x2 x3) := by
  unfold State.probe
  dsimp only
  split
  · exact State.complete_keeps (sub fm) (State.countWalk_keeps (sub fm) (State.bump_keeps (sub fm) ‹_›))
  · refine State.complete_keeps (sub fm) ?_
    split
    · exact State.updMtch_keeps (sub fm) (State.bump_keeps (sub fm) (State.bump_keeps (sub fm) (State.countWalk_keeps (sub fm) (State.bump_keeps (sub fm) ‹_›))))
    · exact State.bump_keeps (sub fm) (State.bump_keeps (sub fm) (State.countWalk_keeps (sub fm) (State.bump_keeps (sub fm) ‹_›)))

theorem execProbe_keeps {F a} {x1 x2} {s3 : State} (fm : 136314881 &&& F = 136314881) (h3 : Keeps F a s3) {r} (e : @execProbe x1 x2 s3 = .next r) : Keeps F a r := by
  unfold execProbe at e
  split at e
  · rw [← Host.Outcome.next.inj e]
    assumption
  · rw [← Host.Outcome.next.inj e]
    exact State.probe_keeps (sub fm) (State.beginDesc_keeps (sub fm) ‹_›)

theorem State.onMatch_keeps {F a} {s1 : State} {x2 x3 x4} (fm : 8590196737 &&& F = 8590196737) (h1 : Keeps F a s1) (h4 : ∀ t1 y2, Keeps F a t1 → Keeps F a ((x4 t1 y2))) : Keeps F a (@State.onMatch s1 x2 x3 x4) := by
  unfold State.onMatch
  split
  · assumption
  · refine State.handPresented_keeps (sub fm) ?_ ?_
    · assumption
    · intro t3 t4 k5
      exact h4 _ _ ‹_›

theorem execMatchEccError_keeps {F a} {x1 x2 x3} {s4 : State} (fm : 136315393 &&& F = 136315393) (h4 : Keeps F a s4) {r} (e : @execMatchEccError x1 x2 x3 s4 = .next r) : Keeps F a r := by
  unfold execMatchEccError at e
  dsimp only at e
  split at e
  · rw [← Host.Outcome.next.inj e]
    assumption
  · split at e
    · rw [← Host.Outcome.next.inj e]
      exact State.detect_keeps (sub fm) ‹_›
    · rw [← Host.Outcome.next.inj e]
      exact State.stopMatch_keeps (sub fm) (State.detect_keeps (sub fm) ‹_›)

theorem execMrecv_keeps {F a} {x1 x2} {s3 : State} (fm : 136577025 &&& F = 136577025) (h3 : Keeps F a s3) {r} (e : @execMrecv x1 x2 s3 = .next r) : Keeps F a r := by
  unfold execMrecv at e
  split at e
  · rw [← Host.Outcome.next.inj e]
    assumption
  · rw [← Host.Outcome.next.inj e]
    split
    · exact State.beginDesc_keeps (sub fm) ‹_›
    · exact State.post_keeps (sub fm) ‹_›

theorem execCancel_keeps {F a} {x1 x2} {s3 : State} (fm : 136314881 &&& F = 136314881) (h3 : Keeps F a s3) {r} (e : @execCancel x1 x2 s3 = .next r) : Keeps F a r := by
  unfold execCancel at e
  dsimp only at e
  split at e
  · rw [← Host.Outcome.next.inj e]
    assumption
  · split at e
    · rw [← Host.Outcome.next.inj e]
      exact State.complete_keeps (sub fm) (State.bump_keeps (sub fm) (State.beginDesc_keeps (sub fm) ‹_›))
    · rw [← Host.Outcome.next.inj e]
      exact State.complete_keeps (sub fm) (State.bump_keeps (sub fm) (State.complete_keeps (sub fm) (State.updMtch_keeps (sub fm) (State.beginDesc_keeps (sub fm) ‹_›))))

theorem execMsendArrival_keeps {F a} {x1} {s2 : State} (fm : 8726609921 &&& F = 8726609921) (h2 : Keeps F a s2) {r} (e : @execMsendArrival x1 s2 = .next r) : Keeps F a r := by
  unfold execMsendArrival at e
  rw [← Host.Outcome.next.inj e]
  refine State.onMatch_keeps (sub fm) ?_ ?_
  · assumption
  · intro t1 t2 k3
    exact State.rxMsend_keeps (sub fm) ‹_›

theorem execMdataArrival_keeps {F a} {x1} {s2 : State} (fm : 8726609921 &&& F = 8726609921) (h2 : Keeps F a s2) {r} (e : @execMdataArrival x1 s2 = .next r) : Keeps F a r := by
  unfold execMdataArrival at e
  rw [← Host.Outcome.next.inj e]
  refine State.onMatch_keeps (sub fm) ?_ ?_
  · assumption
  · intro t1 t2 k3
    exact State.rxMdata_keeps (sub fm) ‹_›

theorem execMsend_keeps {F a} {x1 x2} {s3 : State} (fm : 136675329 &&& F = 136675329) (h3 : Keeps F a s3) {r} (e : @execMsend x1 x2 s3 = .next r) : Keeps F a r := by
  unfold execMsend at e
  dsimp only at e
  split at e
  · rw [← Host.Outcome.next.inj e]
    assumption
  · rw [← Host.Outcome.next.inj e]
    refine State.launch_keeps (sub fm) ?_ ?_
    · assumption
    · intro t6 k7
      exact State.startData_keeps (sub fm) ‹_›

theorem State.onMwu_keeps {F a} {s1 : State} {x2 x3} (fm : 10338271233 &&& F = 10338271233) (h1 : Keeps F a s1) : Keeps F a (@State.onMwu s1 x2 x3) := by
  unfold State.onMwu
  split
  · assumption
  · refine State.handPresented_keeps (sub fm) ?_ ?_
    · assumption
    · intro t3 t4 k5
      exact State.rxRma_keeps (sub fm) ‹_›

theorem execSignalReceive_keeps {F a} {x1} {s2 : State} (fm : 10338271233 &&& F = 10338271233) (h2 : Keeps F a s2) {r} (e : @execSignalReceive x1 s2 = .next r) : Keeps F a r := by
  unfold execSignalReceive at e
  rw [← Host.Outcome.next.inj e]
  exact State.onMwu_keeps (sub fm) ‹_›

theorem State.badResponse_keeps {F a} {s1 : State} {x2} (fm : 8727658497 &&& F = 8727658497) (h1 : Keeps F a s1) : Keeps F a (@State.badResponse s1 x2) := by
  unfold State.badResponse
  exact State.rejectRma_keeps (sub fm) (State.raise_keeps (sub fm) ‹_›)

theorem execAtomicReceive_keeps {F a} {x1} {s2 : State} (fm : 10338271233 &&& F = 10338271233) (h2 : Keeps F a s2) {r} (e : @execAtomicReceive x1 s2 = .next r) : Keeps F a r := by
  unfold execAtomicReceive at e
  rw [← Host.Outcome.next.inj e]
  exact State.onMwu_keeps (sub fm) ‹_›

theorem State.onData_keeps {F a} {s1 : State} {x2 x3 x4} (fm : 262144 &&& F = 262144) (h1 : Keeps F a s1) (h4 : ∀ t1 y2, Keeps F a t1 → Keeps F a ((x4 t1 y2))) : Keeps F a (@State.onData s1 x2 x3 x4) := by
  unfold State.onData
  split
  · assumption
  · split
    · assumption
    · rename_i v5 v6 v7 v8
      refine h4 _ _ ?_
      refine (State.takePresented_keeps (sub fm) ?_ v8 : _)
      assumption

theorem State.placeResponse_keeps {F a} {s1 : State} {x2 x3 x4 x5 x6} (fm : 8724414465 &&& F = 8724414465) (h1 : Keeps F a s1) : Keeps F a (@State.placeResponse s1 x2 x3 x4 x5 x6) := by
  unfold State.placeResponse
  split
  · assumption
  · split
    · rename_i v3 v4 v5
      refine State.hostTxn_keeps (sub fm) ?_
      refine (State.viWrite_keeps (sub fm) ?_ v5 : _)
      assumption
    · exact State.updMsg_keeps (sub fm) ‹_›

theorem State.rxGetRsp_keeps {F a} {s1 : State} {x2} (fm : 8727658497 &&& F = 8727658497) (h1 : Keeps F a s1) : Keeps F a (@State.rxGetRsp s1 x2) := by
  unfold State.rxGetRsp
  dsimp only
  split
  · exact State.badResponse_keeps (sub fm) ‹_›
  · split
    · exact State.disposePkt_keeps (sub fm) ‹_›
    · split
      · exact State.endAnswered_keeps (sub fm) (State.disposePkt_keeps (sub fm) (State.updMsg_keeps (sub fm) (State.placeResponse_keeps (sub fm) ‹_›)))
      · exact State.disposePkt_keeps (sub fm) ‹_›

theorem execGetRspReceive_keeps {F a} {x1} {s2 : State} (fm : 8727658497 &&& F = 8727658497) (h2 : Keeps F a s2) {r} (e : @execGetRspReceive x1 s2 = .next r) : Keeps F a r := by
  unfold execGetRspReceive at e
  rw [← Host.Outcome.next.inj e]
  refine State.onData_keeps (sub fm) ?_ ?_
  · assumption
  · intro t1 t2 k3
    exact State.rxGetRsp_keeps (sub fm) ‹_›

theorem execFenceDeadline_keeps {F a} {x1} {s2 : State} (fm : 9801400321 &&& F = 9801400321) (h2 : Keeps F a s2) {r} (e : @execFenceDeadline x1 s2 = .next r) : Keeps F a r := by
  unfold execFenceDeadline at e
  dsimp only at e
  rw [← Host.Outcome.next.inj e]
  refine Keeps.fold ?_ ?_
  · assumption
  · intro t1 t2 k3
    exact State.abandonAccess_keeps (sub fm) (State.bump_keeps (sub fm) ‹_›)

theorem execPutPacketReceive_keeps {F a} {x1} {s2 : State} (fm : 10338271233 &&& F = 10338271233) (h2 : Keeps F a s2) {r} (e : @execPutPacketReceive x1 s2 = .next r) : Keeps F a r := by
  unfold execPutPacketReceive at e
  rw [← Host.Outcome.next.inj e]
  exact State.onMwu_keeps (sub fm) ‹_›

theorem execGetReqReceive_keeps {F a} {x1} {s2 : State} (fm : 10338271233 &&& F = 10338271233) (h2 : Keeps F a s2) {r} (e : @execGetReqReceive x1 s2 = .next r) : Keeps F a r := by
  unfold execGetReqReceive at e
  rw [← Host.Outcome.next.inj e]
  exact State.onMwu_keeps (sub fm) ‹_›

theorem State.wakeCleat_keeps {F a} {s1 : State} {x2 x3} (fm : 10201595905 &&& F = 10201595905) (h1 : Keeps F a s1) : Keeps F a (@State.wakeCleat s1 x2 x3) := by
  unfold State.wakeCleat
  split
  · exact State.cleatAccess_keeps (sub fm) ‹_›
  · assumption

theorem execAccessDisposed_keeps {F a} {x1 x2} {s3 : State} (fm : 14901575809 &&& F = 14901575809) (h3 : Keeps F a s3) {r} (e : @execAccessDisposed x1 x2 s3 = .next r) : Keeps F a r := by
  unfold execAccessDisposed at e
  dsimp only at e
  split at e
  · rw [← Host.Outcome.next.inj e]
    assumption
  · split at e
    · rw [← Host.Outcome.next.inj e]
      assumption
    · split at e
      · rw [← Host.Outcome.next.inj e]
        exact State.wakeCleat_keeps (sub fm) ‹_›
      · split at e
        · rw [← Host.Outcome.next.inj e]
          exact State.wakeCleat_keeps (sub fm) ‹_›
        · split at e
          · rw [← Host.Outcome.next.inj e]
            exact State.nocWait_keeps (sub fm) (State.wakeCleat_keeps (sub fm) ‹_›)
          · split at e
            · cases e
            · rw [← Host.Outcome.next.inj e]
              exact State.execAccess_keeps (sub fm) (State.wakeCleat_keeps (sub fm) ‹_›)

theorem State.rxAtomicRsp_keeps {F a} {s1 : State} {x2} (fm : 8727658497 &&& F = 8727658497) (h1 : Keeps F a s1) : Keeps F a (@State.rxAtomicRsp s1 x2) := by
  unfold State.rxAtomicRsp
  dsimp only
  split
  · exact State.badResponse_keeps (sub fm) ‹_›
  · split
    · exact State.disposePkt_keeps (sub fm) ‹_›
    · split
      · exact State.endAnswered_keeps (sub fm) (State.disposePkt_keeps (sub fm) (State.updMsg_keeps (sub fm) (State.placeResponse_keeps (sub fm) ‹_›)))
      · exact State.disposePkt_keeps (sub fm) ‹_›

theorem execAtomicRspReceive_keeps {F a} {x1} {s2 : State} (fm : 8727658497 &&& F = 8727658497) (h2 : Keeps F a s2) {r} (e : @execAtomicRspReceive x1 s2 = .next r) : Keeps F a r := by
  unfold execAtomicRspReceive at e
  rw [← Host.Outcome.next.inj e]
  refine State.onData_keeps (sub fm) ?_ ?_
  · assumption
  · intro t1 t2 k3
    exact State.rxAtomicRsp_keeps (sub fm) ‹_›

theorem execAtomicopErrorCompletion_keeps {F a} {x1} {s2 : State} (fm : 9801400321 &&& F = 9801400321) (h2 : Keeps F a s2) {r} (e : @execAtomicopErrorCompletion x1 s2 = .next r) : Keeps F a r := by
  unfold execAtomicopErrorCompletion at e
  dsimp only at e
  split at e
  · rw [← Host.Outcome.next.inj e]
    assumption
  · split at e
    · split at e
      · rw [← Host.Outcome.next.inj e]
        exact State.abandonAccess_keeps (sub fm) (State.raise_keeps (sub fm) (State.sendAtomicOp_keeps (sub fm) ‹_›))
      · rw [← Host.Outcome.next.inj e]
        assumption
    · rw [← Host.Outcome.next.inj e]
      assumption

theorem State.stopMsg_keeps {F a} {s1 : State} {x2 x3 x4} (fm : 262144 &&& F = 262144) (h1 : Keeps F a s1) : Keeps F a (@State.stopMsg s1 x2 x3 x4) := by
  unfold State.stopMsg
  dsimp only
  refine State.touchIdle_keeps (sub fm) (State.updMsg_keeps (sub fm) ?_)
  refine Keeps.fold ?_ ?_
  · exact State.updXpt_keeps (sub fm) ‹_›
  · intro t1 t2 k3
    split
    · exact State.pushVoid_keeps (sub fm) ‹_›
    · assumption

theorem State.pushGranted_keeps {F a} {s1 : State} {x2 x3 x4 x5 x6} (fm : 262144 &&& F = 262144) (h1 : Keeps F a s1) : Keeps F a (@State.pushGranted s1 x2 x3 x4 x5 x6) := by
  unfold State.pushGranted
  dsimp only
  exact State.pushReq_keeps (sub fm) (State.updMsg_keeps (sub fm) ‹_›)

theorem State.rxGrant_keeps {F a} {s1 : State} {x2} (fm : 136577025 &&& F = 136577025) (h1 : Keeps F a s1) : Keeps F a (@State.rxGrant s1 x2) := by
  unfold State.rxGrant
  dsimp only
  split
  · split
    · assumption
    · exact State.pushVoid_keeps (sub fm) (State.free_keeps ‹_›)
  · split
    · split
      · refine State.endAnswered_keeps (sub fm) ?_
        split
        · exact State.updMsg_keeps (sub fm) (State.updMsg_keeps (sub fm) ‹_›)
        · exact State.updMsg_keeps (sub fm) ‹_›
      · exact State.endAnswered_keeps (sub fm) (State.stopMsg_keeps (sub fm) (State.updMsg_keeps (sub fm) ‹_›))
    · split
      · exact State.pushVoid_keeps (sub fm) ‹_›
      · exact State.pushGranted_keeps (sub fm) ‹_›

theorem execGrantReceive_keeps {F a} {x1} {s2 : State} (fm : 8726511617 &&& F = 8726511617) (h2 : Keeps F a s2) {r} (e : @execGrantReceive x1 s2 = .next r) : Keeps F a r := by
  unfold execGrantReceive at e
  split at e
  · rw [← Host.Outcome.next.inj e]
    assumption
  · split at e
    · rw [← Host.Outcome.next.inj e]
      assumption
    · rename_i v5 v6 v7 v8
      rw [← Host.Outcome.next.inj e]
      refine State.disposePkt_keeps (sub fm) (State.rxGrant_keeps (sub fm) ?_)
      refine (State.takePresented_keeps (sub fm) ?_ v8 : _)
      assumption

theorem State.arrive_keeps {F a} {s1 : State} {x2 x3} (fm : 10371825793 &&& F = 10371825793) (h1 : Keeps F a s1) : Keeps F a (@State.arrive s1 x2 x3) := by
  unfold State.arrive
  split
  · exact State.settle_keeps (sub fm) (State.rxWiluth_keeps (sub fm) ‹_›)
  · assumption

theorem execWiluthAckReceive_keeps {F a} {x1} {s2 : State} (fm : 10371825793 &&& F = 10371825793) (h2 : Keeps F a s2) {r} (e : @execWiluthAckReceive x1 s2 = .next r) : Keeps F a r := by
  unfold execWiluthAckReceive at e
  rw [← Host.Outcome.next.inj e]
  exact State.arrive_keeps (sub fm) ‹_›

theorem State.retryOwn_keeps {F a} {s1 : State} {x2} (fm : 136675329 &&& F = 136675329) (h1 : Keeps F a s1) : Keeps F a (@State.retryOwn s1 x2) := by
  unfold State.retryOwn
  dsimp only
  refine Keeps.fold ?_ ?_
  · split
    · exact State.closeLru_keeps (sub fm) ‹_›
    · assumption
  · intro t3 t4 k5
    exact State.flush_keeps (sub fm) ‹_›

theorem State.countWaits_keeps {F a} {s1 : State} {x2 x3} (fm : 262145 &&& F = 262145) (h1 : Keeps F a s1) : Keeps F a (@State.countWaits s1 x2 x3) := by
  unfold State.countWaits
  refine Keeps.fold ?_ ?_
  · assumption
  · intro t1 t2 k3
    exact State.countWait_keeps (sub fm) ‹_›

theorem State.sentOf_keeps {F a} {s1 : State} {x2 x3} (fm : 262145 &&& F = 262145) (h1 : Keeps F a s1) : Keeps F a (@State.sentOf s1 x2 x3) := by
  unfold State.sentOf
  dsimp only
  split
  · assumption
  · split
    · assumption
    · split
      · split
        · exact State.updMsg_keeps (sub fm) (State.takeClr_keeps (sub fm) (State.updMsg_keeps (sub fm) ‹_›))
        · exact State.pushReq_keeps (sub fm) (State.updMsg_keeps (sub fm) (State.takeClr_keeps (sub fm) (State.updMsg_keeps (sub fm) ‹_›)))
      · split
        · exact State.updMsg_keeps (sub fm) (State.updMsg_keeps (sub fm) ‹_›)
        · exact State.updMsg_keeps (sub fm) (State.updMsg_keeps (sub fm) ‹_›)

theorem State.buildReq_keeps {F a} {s1 : State} {x2 x3 x4} (fm : 8726609921 &&& F = 8726609921) (h1 : Keeps F a s1) : Keeps F a (@State.buildReq s1 x2 x3 x4) := by
  unfold State.buildReq
  dsimp only
  split
  · split
    · exact State.updXpt_keeps (sub fm) ‹_›
    · rename_i v5 v6 v7
      split
      · refine State.bump_keeps (sub fm) (State.shaperCharge_keeps (sub fm) ?_)
        refine (State.openTx_keeps (sub fm) ?_ v7 : _)
        exact State.updXpt_keeps (sub fm) ‹_›
      · refine State.sentOf_keeps (sub fm) ?_
        split
        · refine State.sendNew_keeps (sub fm) (State.updTx_keeps (sub fm) (State.bump_keeps (sub fm) (State.shaperCharge_keeps (sub fm) ?_)))
          refine (State.openTx_keeps (sub fm) ?_ v7 : _)
          exact State.updXpt_keeps (sub fm) ‹_›
        · refine State.sendNew_keeps (sub fm) (State.bump_keeps (sub fm) (State.shaperCharge_keeps (sub fm) ?_))
          refine (State.openTx_keeps (sub fm) ?_ v7 : _)
          exact State.updXpt_keeps (sub fm) ‹_›
  · split
    · rename_i v19 v20 v21
      split
      · refine State.hostTxn_keeps (sub fm) ?_
        refine (State.viRead_keeps (sub fm) ?_ v21 : _)
        exact State.updXpt_keeps (sub fm) ‹_›
      · rename_i v24 v25 v26
        split
        · refine State.bump_keeps (sub fm) (State.shaperCharge_keeps (sub fm) ?_)
          refine (State.openTx_keeps (sub fm) ?_ v26 : _)
          refine State.hostTxn_keeps (sub fm) ?_
          refine (State.viRead_keeps (sub fm) ?_ v21 : _)
          exact State.updXpt_keeps (sub fm) ‹_›
        · refine State.sentOf_keeps (sub fm) ?_
          split
          · refine State.sendNew_keeps (sub fm) (State.updTx_keeps (sub fm) (State.bump_keeps (sub fm) (State.shaperCharge_keeps (sub fm) ?_)))
            refine (State.openTx_keeps (sub fm) ?_ v26 : _)
            refine State.hostTxn_keeps (sub fm) ?_
            refine (State.viRead_keeps (sub fm) ?_ v21 : _)
            exact State.updXpt_keeps (sub fm) ‹_›
          · refine State.sendNew_keeps (sub fm) (State.bump_keeps (sub fm) (State.shaperCharge_keeps (sub fm) ?_))
            refine (State.openTx_keeps (sub fm) ?_ v26 : _)
            refine State.hostTxn_keeps (sub fm) ?_
            refine (State.viRead_keeps (sub fm) ?_ v21 : _)
            exact State.updXpt_keeps (sub fm) ‹_›
    · split
      · split
        · exact State.pushVoid_keeps (sub fm) (State.updXpt_keeps (sub fm) ‹_›)
        · exact State.updXpt_keeps (sub fm) ‹_›
      · refine State.endMsg_keeps (sub fm) ?_
        split
        · exact State.pushVoid_keeps (sub fm) (State.updXpt_keeps (sub fm) ‹_›)
        · exact State.updXpt_keeps (sub fm) ‹_›

theorem execPacketAdmit_keeps {F a} {x1 x2} {s3 : State} (fm : 10371825793 &&& F = 10371825793) (h3 : Keeps F a s3) {r} (e : @execPacketAdmit x1 x2 s3 = .next r) : Keeps F a r := by
  unfold execPacketAdmit at e
  dsimp only at e
  split at e
  · rw [← Host.Outcome.next.inj e]
    assumption
  · split at e
    · rw [← Host.Outcome.next.inj e]
      exact State.settle_keeps (sub fm) (State.countWaits_keeps (sub fm) (State.retryOwn_keeps (sub fm) ‹_›))
    · split at e
      · rw [← Host.Outcome.next.inj e]
        exact State.settle_keeps (sub fm) (State.endDir_keeps (sub fm) (State.bump_keeps (sub fm) (State.countWaits_keeps (sub fm) (State.retryOwn_keeps (sub fm) ‹_›))))
      · rw [← Host.Outcome.next.inj e]
        exact State.settle_keeps (sub fm) (State.buildReq_keeps (sub fm) (State.countWaits_keeps (sub fm) (State.retryOwn_keeps (sub fm) ‹_›)))

theorem execContextIdleClose_keeps {F a} {x1 x2} {s3 : State} (fm : 136675329 &&& F = 136675329) (h3 : Keeps F a s3) {r} (e : @execContextIdleClose x1 x2 s3 = .next r) : Keeps F a r := by
  unfold execContextIdleClose at e
  dsimp only at e
  split at e
  · rw [← Host.Outcome.next.inj e]
    assumption
  · split at e
    · rw [← Host.Outcome.next.inj e]
      exact State.sendClose_keeps (sub fm) ‹_›
    · rw [← Host.Outcome.next.inj e]
      assumption

theorem State.rxNotice_keeps {F a} {s1 : State} {x2} (fm : 262144 &&& F = 262144) (h1 : Keeps F a s1) : Keeps F a (@State.rxNotice s1 x2) := by
  unfold State.rxNotice
  dsimp only
  split
  · assumption
  · split
    · exact State.stopMsg_keeps (sub fm) (State.updMsg_keeps (sub fm) ‹_›)
    · exact State.updMsg_keeps (sub fm) ‹_›

theorem execNoticeReceive_keeps {F a} {x1} {s2 : State} (fm : 8726511617 &&& F = 8726511617) (h2 : Keeps F a s2) {r} (e : @execNoticeReceive x1 s2 = .next r) : Keeps F a r := by
  unfold execNoticeReceive at e
  dsimp only at e
  split at e
  · rw [← Host.Outcome.next.inj e]
    assumption
  · split at e
    · rw [← Host.Outcome.next.inj e]
      assumption
    · rename_i v5 v6 v7 v8
      rw [← Host.Outcome.next.inj e]
      refine State.endAnswered_keeps (sub fm) (State.applyAcks_keeps (sub fm) (State.disposePkt_keeps (sub fm) (State.rxNotice_keeps (sub fm) ?_)))
      refine (State.takePresented_keeps (sub fm) ?_ v8 : _)
      assumption

theorem execCloseReceive_keeps {F a} {x1} {s2 : State} (fm : 10371825793 &&& F = 10371825793) (h2 : Keeps F a s2) {r} (e : @execCloseReceive x1 s2 = .next r) : Keeps F a r := by
  unfold execCloseReceive at e
  rw [← Host.Outcome.next.inj e]
  exact State.arrive_keeps (sub fm) ‹_›

theorem execResetReceive_keeps {F a} {x1} {s2 : State} (fm : 10371825793 &&& F = 10371825793) (h2 : Keeps F a s2) {r} (e : @execResetReceive x1 s2 = .next r) : Keeps F a r := by
  unfold execResetReceive at e
  rw [← Host.Outcome.next.inj e]
  exact State.arrive_keeps (sub fm) ‹_›

theorem execGiveupExpiry_keeps {F a} {x1 x2 x3} {s4 : State} (fm : 10371825793 &&& F = 10371825793) (h4 : Keeps F a s4) {r} (e : @execGiveupExpiry x1 x2 x3 s4 = .next r) : Keeps F a r := by
  unfold execGiveupExpiry at e
  dsimp only at e
  split at e
  · rw [← Host.Outcome.next.inj e]
    assumption
  · split at e
    · rw [← Host.Outcome.next.inj e]
      exact State.settle_keeps (sub fm) (State.timeoutHalf_keeps (sub fm) ‹_›)
    · rw [← Host.Outcome.next.inj e]
      assumption

theorem execTombstoneExpiry_keeps {F a} {x1 x2} {s3 : State} (fm : 262144 &&& F = 262144) (h3 : Keeps F a s3) {r} (e : @execTombstoneExpiry x1 x2 s3 = .next r) : Keeps F a r := by
  unfold execTombstoneExpiry at e
  split at e
  · rw [← Host.Outcome.next.inj e]
    assumption
  · split at e
    · rw [← Host.Outcome.next.inj e]
      exact State.freeCtx_keeps (sub fm) (State.updCtx_keeps (sub fm) ‹_›)
    · rw [← Host.Outcome.next.inj e]
      assumption

theorem execReopenDelayEnd_keeps {F a} {x1 x2} {s3 : State} (fm : 136675329 &&& F = 136675329) (h3 : Keeps F a s3) {r} (e : @execReopenDelayEnd x1 x2 s3 = .next r) : Keeps F a r := by
  unfold execReopenDelayEnd at e
  dsimp only at e
  split at e
  · rw [← Host.Outcome.next.inj e]
    exact State.flush_keeps (sub fm) (State.updXpt_keeps (sub fm) ‹_›)
  · rw [← Host.Outcome.next.inj e]
    assumption

theorem execWiluthDataReceive_keeps {F a} {x1} {s2 : State} (fm : 10371825793 &&& F = 10371825793) (h2 : Keeps F a s2) {r} (e : @execWiluthDataReceive x1 s2 = .next r) : Keeps F a r := by
  unfold execWiluthDataReceive at e
  rw [← Host.Outcome.next.inj e]
  exact State.arrive_keeps (sub fm) ‹_›

theorem execGapFillReceive_keeps {F a} {x1} {s2 : State} (fm : 10371825793 &&& F = 10371825793) (h2 : Keeps F a s2) {r} (e : @execGapFillReceive x1 s2 = .next r) : Keeps F a r := by
  unfold execGapFillReceive at e
  rw [← Host.Outcome.next.inj e]
  exact State.arrive_keeps (sub fm) ‹_›

theorem execRetransmitTimerExpiry_keeps {F a} {x1 x2 x3} {s4 : State} (fm : 10371825793 &&& F = 10371825793) (h4 : Keeps F a s4) {r} (e : @execRetransmitTimerExpiry x1 x2 x3 s4 = .next r) : Keeps F a r := by
  unfold execRetransmitTimerExpiry at e
  split at e
  · rw [← Host.Outcome.next.inj e]
    assumption
  · split at e
    · rw [← Host.Outcome.next.inj e]
      exact State.settle_keeps (sub fm) (State.resend_keeps (sub fm) ‹_›)
    · rw [← Host.Outcome.next.inj e]
      assumption

theorem State.rxIntentPut_keeps {F a} {s1 : State} {x2} (fm : 8727658497 &&& F = 8727658497) (h1 : Keeps F a s1) : Keeps F a (@State.rxIntentPut s1 x2) := by
  unfold State.rxIntentPut
  dsimp only
  split
  · exact State.rejectVi_keeps (sub fm) ‹_›
  · split
    · exact State.rejectRma_keeps (sub fm) (State.raise_keeps (sub fm) ‹_›)
    · split
      · exact State.rejectRma_keeps (sub fm) ‹_›
      · exact State.disposePkt_keeps (sub fm) (State.acceptAnn_keeps (sub fm) ‹_›)

theorem State.serveAnn_keeps {F a} {s1 : State} {x2 x3} (fm : 136675329 &&& F = 136675329) (h1 : Keeps F a s1) : Keeps F a (@State.serveAnn s1 x2 x3) := by
  unfold State.serveAnn
  dsimp only
  split
  · assumption
  · split
    · exact State.updRx_keeps (sub fm) (State.updAnn_keeps (sub fm) (State.sendGrant_keeps (sub fm) (State.updXpt_keeps (sub fm) ‹_›)))
    · split
      · exact State.updAnn_keeps (sub fm) (State.sendGrant_keeps (sub fm) (State.takeClr_keeps (sub fm) (State.updXpt_keeps (sub fm) ‹_›)))
      · assumption

theorem execIntentReceive_keeps {F a} {x1} {s2 : State} (fm : 8727658497 &&& F = 8727658497) (h2 : Keeps F a s2) {r} (e : @execIntentReceive x1 s2 = .next r) : Keeps F a r := by
  unfold execIntentReceive at e
  dsimp only at e
  split at e
  · rw [← Host.Outcome.next.inj e]
    assumption
  · split at e
    · rw [← Host.Outcome.next.inj e]
      assumption
    · split at e
      · rw [← Host.Outcome.next.inj e]
        exact State.rxIntentPut_keeps (sub fm) (State.updXpt_keeps (sub fm) ‹_›)
      · split at e
        · rw [← Host.Outcome.next.inj e]
          exact State.rxMsend_keeps (sub fm) (State.updXpt_keeps (sub fm) ‹_›)
        · rw [← Host.Outcome.next.inj e]
          exact State.rxMdata_keeps (sub fm) (State.updXpt_keeps (sub fm) ‹_›)

theorem execWinRegister_keeps {F a} {x1 x2} {s3 : State} (fm : 136839169 &&& F = 136839169) (h3 : Keeps F a s3) {r} (e : @execWinRegister x1 x2 s3 = .next r) : Keeps F a r := by
  unfold execWinRegister at e
  dsimp only at e
  split at e
  · rw [← Host.Outcome.next.inj e]
    assumption
  · split at e
    · rw [← Host.Outcome.next.inj e]
      assumption
    · rw [← Host.Outcome.next.inj e]
      refine State.runDesc_keeps (sub fm) ?_ ?_
      · assumption
      · intro t8 k9
        split
        · dsimp only
          exact State.bump_keeps (sub fm) ‹_›
        · dsimp only
          exact State.bump_keeps (sub fm) (State.updWin_keeps (sub fm) ‹_›)

theorem execWinRevoke_keeps {F a} {x1 x2} {s3 : State} (fm : 10338435201 &&& F = 10338435201) (h3 : Keeps F a s3) {r} (e : @execWinRevoke x1 x2 s3 = .next r) : Keeps F a r := by
  unfold execWinRevoke at e
  dsimp only at e
  split at e
  · rw [← Host.Outcome.next.inj e]
    assumption
  · split at e
    · rw [← Host.Outcome.next.inj e]
      assumption
    · split at e
      · rw [← Host.Outcome.next.inj e]
        exact State.revokeWin_keeps (sub fm) (State.beginDesc_keeps (sub fm) ‹_›)
      · rw [← Host.Outcome.next.inj e]
        exact State.complete_keeps (sub fm) (State.beginDesc_keeps (sub fm) ‹_›)

theorem execDescriptorEccError_keeps {F a} {x1 x2 x3} {s4 : State} (fm : 136839681 &&& F = 136839681) (h4 : Keeps F a s4) {r} (e : @execDescriptorEccError x1 x2 x3 s4 = .next r) : Keeps F a r := by
  unfold execDescriptorEccError at e
  dsimp only at e
  split at e
  · rw [← Host.Outcome.next.inj e]
    assumption
  · split at e
    · rw [← Host.Outcome.next.inj e]
      assumption
    · split at e
      · split at e
        · rw [← Host.Outcome.next.inj e]
          exact State.detect_keeps (sub fm) ‹_›
        · split at e
          · rw [← Host.Outcome.next.inj e]
            exact State.postEvent_keeps (sub fm) (State.updWin_keeps (sub fm) (State.detect_keeps (sub fm) ‹_›))
          · rw [← Host.Outcome.next.inj e]
            exact State.updWin_keeps (sub fm) (State.detect_keeps (sub fm) ‹_›)
      · split at e
        · rw [← Host.Outcome.next.inj e]
          exact State.detect_keeps (sub fm) ‹_›
        · split at e
          · rw [← Host.Outcome.next.inj e]
            exact State.postEvent_keeps (sub fm) (State.updWin_keeps (sub fm) (State.detect_keeps (sub fm) ‹_›))
          · rw [← Host.Outcome.next.inj e]
            exact State.updWin_keeps (sub fm) (State.detect_keeps (sub fm) ‹_›)

end Sys2Proof.Machine
end

