-- ==== Sys2Proof/Laws/KeepsHost.lean ====
section
/-! SUPPORT. The host interface, service states, register accesses and the lane commands keep what `Keeps` says: one lemma per operation, named after it. -/

-- one declaration after another: the threads of parallel elaboration would take the stack of each
set_option Elab.async false

namespace Sys2Proof.Machine

theorem State.stopBuild_keeps {F a} {s1 : State} {x2} (fm : 262144 &&& F = 262144) (h1 : Keeps F a s1) : Keeps F a (@State.stopBuild s1 x2) := by
  unfold State.stopBuild
  refine Keeps.fold ?_ ?_
  · assumption
  · intro t1 t2 k3
    split
    · assumption
    · refine Keeps.fold ?_ ?_
      · assumption
      · intro t9 t10 k11
        exact State.stopMsg_keeps (sub fm) (State.updMsg_keeps (sub fm) ‹_›)

theorem State.stopVi_keeps {F a} {s1 : State} {x2 x3} (fm : 9667084673 &&& F = 9667084673) (h1 : Keeps F a s1) : Keeps F a (@State.stopVi s1 x2 x3) := by
  unfold State.stopVi
  dsimp only
  split
  · split
    · exact State.updVi_keeps (sub fm) (State.fput_keeps (sub fm) (State.fput_keeps (sub fm) ‹_›))
    · exact State.fput_keeps (sub fm) (State.fput_keeps (sub fm) ‹_›)
  · refine State.cleatStopVi_keeps (sub fm) (State.stopBuild_keeps (sub fm) ?_)
    split
    · exact State.updVi_keeps (sub fm) (State.record3_keeps (sub fm) (State.fput_keeps (sub fm) (State.fput_keeps (sub fm) ‹_›)))
    · exact State.record3_keeps (sub fm) (State.fput_keeps (sub fm) (State.fput_keeps (sub fm) ‹_›))

theorem State.portStopVi_keeps {F a} {s1 : State} {x2} (fm : 9667084673 &&& F = 9667084673) (h1 : Keeps F a s1) : Keeps F a (@State.portStopVi s1 x2) := by
  unfold State.portStopVi
  dsimp only
  split
  · assumption
  · split
    · exact State.updVi_keeps (sub fm) (State.bput_keeps (sub fm) (State.bput_keeps (sub fm) ‹_›))
    · exact State.stopVi_keeps (sub fm) (State.updVi_keeps (sub fm) (State.bput_keeps (sub fm) (State.bput_keeps (sub fm) ‹_›)))

theorem State.portReset_keeps {F a} {s1 : State} {x2} (fm : 9801302401 &&& F = 9801302401) (h1 : Keeps F a s1) : Keeps F a (@State.portReset s1 x2) := by
  unfold State.portReset
  dsimp only
  refine State.bput_keeps (sub fm) (Keeps.set_zyn (sub fm) (Keeps.set_mem (sub fm) (Keeps.etaMem (State.bput_keeps (sub fm) (State.bput_keeps (sub fm) ?_)))))
  refine Keeps.fold ?_ ?_
  · assumption
  · intro t1 t2 k3
    exact State.portStopVi_keeps (sub fm) ‹_›

theorem State.viGone_keeps {F a} {s1 : State} {x2} (fm : 2621697 &&& F = 2621697) (h1 : Keeps F a s1) : Keeps F a (@State.viGone s1 x2) := by
  unfold State.viGone
  dsimp only
  refine State.setViState_keeps (sub fm) (State.updVi_keeps (sub fm) (State.fput_keeps (sub fm) (State.resetRegs_keeps (sub fm) ?_)))
  refine Keeps.fold ?_ ?_
  · assumption
  · intro t1 t2 k3
    exact State.updWin_keeps (sub fm) (State.winAdvance_keeps (sub fm) ‹_›)

theorem State.viDestroyed_keeps {F a} {s1 : State} {x2} (fm : 9667608961 &&& F = 9667608961) (h1 : Keeps F a s1) : Keeps F a (@State.viDestroyed s1 x2) := by
  unfold State.viDestroyed
  dsimp only
  split
  · exact State.viGone_keeps (sub fm) (State.bput_keeps (sub fm) (State.bput_keeps (sub fm) ‹_›))
  · exact State.updVi_keeps (sub fm) (State.stopVi_keeps (sub fm) (State.bput_keeps (sub fm) (State.bput_keeps (sub fm) ‹_›)))

theorem State.stopDescs_keeps {F a} {s1 : State} {x2} (fm : 4431544321 &&& F = 4431544321) (h1 : Keeps F a s1) : Keeps F a (@State.stopDescs s1 x2) := by
  unfold State.stopDescs
  dsimp only
  refine Keeps.fold ?_ ?_
  · refine Keeps.set_trig (sub fm) (Keeps.eta (State.updVi_keeps (sub fm) (State.bump_keeps (sub fm) ?_)))
    refine Keeps.fold ?_ ?_
    · assumption
    · intro t1 t2 k3
      exact State.complete_keeps (sub fm) ‹_›
  · intro t4 t5 k6
    exact State.endAnswered_keeps (sub fm) ‹_›

theorem State.disarm_keeps {F a} {s1 : State} {x2 x3} (fm : 2097152 &&& F = 2097152) (h1 : Keeps F a s1) : Keeps F a (@State.disarm s1 x2 x3) := by
  unfold State.disarm
  exact State.updChain_keeps (sub fm) ‹_›

theorem State.disarmAll_keeps {F a} {s1 : State} {x2} (fm : 136314881 &&& F = 136314881) (h1 : Keeps F a s1) : Keeps F a (@State.disarmAll s1 x2) := by
  unfold State.disarmAll
  dsimp only
  refine Keeps.fold ?_ ?_
  · assumption
  · intro t1 t2 k3
    split
    · refine Keeps.fold ?_ ?_
      · exact State.disarm_keeps (sub fm) ‹_›
      · intro t5 t6 k7
        exact State.postCompletion_keeps (sub fm) ‹_›
    · exact State.disarm_keeps (sub fm) ‹_›

theorem State.portDown_keeps {F a} {s1 : State} {x2} (fm : 8992587777 &&& F = 8992587777) (h1 : Keeps F a s1) : Keeps F a (@State.portDown s1 x2) := by
  unfold State.portDown
  dsimp only
  split
  · exact State.dropHolder_keeps (sub fm) (State.pfEvent_keeps (sub fm) (State.bump_keeps (sub fm) (State.raise_keeps (sub fm) (State.put_keeps (sub fm) (State.put_keeps (sub fm) ‹_›)))))
  · assumption

theorem execVfEnableClear_keeps {F a} {x1} {s2 : State} (fm : 9801302401 &&& F = 9801302401) (h2 : Keeps F a s2) {r} (e : @execVfEnableClear x1 s2 = .next r) : Keeps F a r := by
  unfold execVfEnableClear at e
  split at e
  · rw [← Host.Outcome.next.inj e]
    assumption
  · rw [← Host.Outcome.next.inj e]
    exact State.bput_keeps (sub fm) (State.portReset_keeps (sub fm) ‹_›)

theorem State.enterEnabling_keeps {F a} {s1 : State} {x2} (fm : 2097409 &&& F = 2097409) (h1 : Keeps F a s1) : Keeps F a (@State.enterEnabling s1 x2) := by
  unfold State.enterEnabling
  dsimp only
  exact State.updVi_keeps (sub fm) (State.resetRegs_keeps (sub fm) (State.setViState_keeps (sub fm) (State.bput_keeps (sub fm) ‹_›)))

theorem execHostLinkUp_keeps {F a} {x1 x2} {s3 : State} (fm : 16777217 &&& F = 16777217) (h3 : Keeps F a s3) {r} (e : @execHostLinkUp x1 x2 s3 = .next r) : Keeps F a r := by
  unfold execHostLinkUp at e
  dsimp only at e
  split at e
  · rw [← Host.Outcome.next.inj e]
    assumption
  · rw [← Host.Outcome.next.inj e]
    split
    · exact Keeps.set_hostAts (sub fm) (Keeps.eta (State.put_keeps (sub fm) ‹_›))
    · exact State.pfEvent_keeps (sub fm) (Keeps.set_hostAts (sub fm) (Keeps.eta (State.put_keeps (sub fm) (State.put_keeps (sub fm) ‹_›))))

theorem State.vfStop_keeps {F a} {s1 : State} {x2} (fm : 9667084673 &&& F = 9667084673) (h1 : Keeps F a s1) : Keeps F a (@State.vfStop s1 x2) := by
  unfold State.vfStop
  dsimp only
  split
  · exact State.stopVi_keeps (sub fm) (State.bput_keeps (sub fm) (State.updVi_keeps (sub fm) ‹_›))
  · exact State.updVi_keeps (sub fm) ‹_›

theorem execVfFlr_keeps {F a} {x1} {s2 : State} (fm : 9667084673 &&& F = 9667084673) (h2 : Keeps F a s2) {r} (e : @execVfFlr x1 s2 = .next r) : Keeps F a r := by
  unfold execVfFlr at e
  split at e
  · rw [← Host.Outcome.next.inj e]
    assumption
  · rw [← Host.Outcome.next.inj e]
    exact State.vfStop_keeps (sub fm) (State.updVi_keeps (sub fm) ‹_›)

theorem State.stopUnits_keeps {F a} {s1 : State} {x2} (fm : 10372350081 &&& F = 10372350081) (h1 : Keeps F a s1) : Keeps F a (@State.stopUnits s1 x2) := by
  unfold State.stopUnits
  dsimp only
  refine State.disarmAll_keeps (sub fm) (State.cleatAbandonOrigin_keeps (sub fm) (State.settle_keeps (sub fm) (State.collLeave_keeps (sub fm) (State.matchClear_keeps (sub fm) (State.updVi_keeps (sub fm) ?_)))))
  refine Keeps.fold ?_ ?_
  · assumption
  · intro t1 t2 k3
    exact State.revokeWin_keeps (sub fm) ‹_›

theorem State.endStop_keeps {F a} {s1 : State} {x2} (fm : 14667317633 &&& F = 14667317633) (h1 : Keeps F a s1) : Keeps F a (@State.endStop s1 x2) := by
  unfold State.endStop
  dsimp only
  split
  · split
    · assumption
    · refine State.pfEvent_keeps (sub fm) ?_
      split
      · exact State.viGone_keeps (sub fm) (State.bump_keeps (sub fm) (State.stopDescs_keeps (sub fm) (State.updVi_keeps (sub fm) ‹_›)))
      · split
        · exact State.enterEnabling_keeps (sub fm) (State.bump_keeps (sub fm) (State.stopDescs_keeps (sub fm) (State.updVi_keeps (sub fm) ‹_›)))
        · exact State.setViState_keeps (sub fm) (State.bump_keeps (sub fm) (State.stopDescs_keeps (sub fm) (State.updVi_keeps (sub fm) ‹_›)))
  · split
    · exact State.stopUnits_keeps (sub fm) ‹_›
    · refine State.pfEvent_keeps (sub fm) ?_
      split
      · exact State.viGone_keeps (sub fm) (State.bump_keeps (sub fm) (State.stopDescs_keeps (sub fm) (State.updVi_keeps (sub fm) (State.stopUnits_keeps (sub fm) ‹_›))))
      · split
        · exact State.enterEnabling_keeps (sub fm) (State.bump_keeps (sub fm) (State.stopDescs_keeps (sub fm) (State.updVi_keeps (sub fm) (State.stopUnits_keeps (sub fm) ‹_›))))
        · exact State.setViState_keeps (sub fm) (State.bump_keeps (sub fm) (State.stopDescs_keeps (sub fm) (State.updVi_keeps (sub fm) (State.stopUnits_keeps (sub fm) ‹_›))))

theorem execViStopEnd_keeps {F a} {x1} {s2 : State} (fm : 14667317633 &&& F = 14667317633) (h2 : Keeps F a s2) {r} (e : @execViStopEnd x1 s2 = .next r) : Keeps F a r := by
  unfold execViStopEnd at e
  split at e
  · rw [← Host.Outcome.next.inj e]
    assumption
  · rw [← Host.Outcome.next.inj e]
    exact State.endStop_keeps (sub fm) ‹_›

theorem execAtsInvalidate_keeps {F a} {x1 x2 x3 x4} {s5 : State} (fm : 134217729 &&& F = 134217729) (h5 : Keeps F a s5) {r} (e : @execAtsInvalidate x1 x2 x3 x4 s5 = .next r) : Keeps F a r := by
  unfold execAtsInvalidate at e
  dsimp only at e
  split at e
  · rw [← Host.Outcome.next.inj e]
    assumption
  · rw [← Host.Outcome.next.inj e]
    exact State.bump_keeps (sub fm) (Keeps.set_mem (sub fm) (Keeps.etaMem ‹_›))

theorem execPerst_keeps {F a} {x1} {s2 : State} (fm : 10610803073 &&& F = 10610803073) (h2 : Keeps F a s2) {r} (e : @execPerst x1 s2 = .next r) : Keeps F a r := by
  unfold execPerst at e
  dsimp only at e
  split at e
  · rw [← Host.Outcome.next.inj e]
    assumption
  · rw [← Host.Outcome.next.inj e]
    exact State.cleatAbandonOrigin_keeps (sub fm) (State.bput_keeps (sub fm) (Keeps.set_hostCfg (sub fm) (Keeps.set_mem (sub fm) (Keeps.etaMem (State.dropHolder_keeps (sub fm) (State.portDown_keeps (sub fm) (State.portReset_keeps (sub fm) ‹_›)))))))

theorem execVfBusMasterClear_keeps {F a} {x1} {s2 : State} (fm : 9667084673 &&& F = 9667084673) (h2 : Keeps F a s2) {r} (e : @execVfBusMasterClear x1 s2 = .next r) : Keeps F a r := by
  unfold execVfBusMasterClear at e
  split at e
  · rw [← Host.Outcome.next.inj e]
    assumption
  · rw [← Host.Outcome.next.inj e]
    exact State.vfStop_keeps (sub fm) ‹_›

theorem execCompletionTimeout_keeps {F a} {x1} {s2 : State} (fm : 1 &&& F = 1) (h2 : Keeps F a s2) {r} (e : @execCompletionTimeout x1 s2 = .next r) : Keeps F a r := by
  unfold execCompletionTimeout at e
  split at e
  · rw [← Host.Outcome.next.inj e]
    assumption
  · rw [← Host.Outcome.next.inj e]
    exact State.pfEvent_keeps (sub fm) (State.bump_keeps (sub fm) (State.raise_keeps (sub fm) ‹_›))

theorem execHostLinkDown_keeps {F a} {x1} {s2 : State} (fm : 10069737857 &&& F = 10069737857) (h2 : Keeps F a s2) {r} (e : @execHostLinkDown x1 s2 = .next r) : Keeps F a r := by
  unfold execHostLinkDown at e
  split at e
  · rw [← Host.Outcome.next.inj e]
    assumption
  · rw [← Host.Outcome.next.inj e]
    exact State.portDown_keeps (sub fm) (State.portReset_keeps (sub fm) ‹_›)

theorem execPfFlr_keeps {F a} {x1} {s2 : State} (fm : 10338173313 &&& F = 10338173313) (h2 : Keeps F a s2) {r} (e : @execPfFlr x1 s2 = .next r) : Keeps F a r := by
  unfold execPfFlr at e
  split at e
  · rw [← Host.Outcome.next.inj e]
    assumption
  · rw [← Host.Outcome.next.inj e]
    exact State.cleatAbandonOrigin_keeps (sub fm) (State.put_keeps (sub fm) (State.portReset_keeps (sub fm) ‹_›))

theorem State.viEnabled_keeps {F a} {s1 : State} {x2 x3} (fm : 9667084673 &&& F = 9667084673) (h1 : Keeps F a s1) : Keeps F a (@State.viEnabled s1 x2 x3) := by
  unfold State.viEnabled
  dsimp only
  split
  · exact State.enterEnabling_keeps (sub fm) ‹_›
  · split
    · exact State.stopVi_keeps (sub fm) ‹_›
    · split
      · exact State.bput_keeps (sub fm) ‹_›
      · assumption

theorem execEnablingEnd_keeps {F a} {x1} {s2 : State} (fm : 9667084673 &&& F = 9667084673) (h2 : Keeps F a s2) {r} (e : @execEnablingEnd x1 s2 = .next r) : Keeps F a r := by
  unfold execEnablingEnd at e
  dsimp only at e
  split at e
  · rw [← Host.Outcome.next.inj e]
    assumption
  · rw [← Host.Outcome.next.inj e]
    split
    · exact State.setViState_keeps (sub fm) (State.updVi_keeps (sub fm) ‹_›)
    · exact State.stopVi_keeps (sub fm) (State.updVi_keeps (sub fm) ‹_›)

theorem State.enterDockAs_keeps {F a} {s1 : State} {x2 x3 x4} (fm : 3361 &&& F = 3361) (h1 : Keeps F a s1) : Keeps F a (@State.enterDockAs s1 x2 x3 x4) := by
  unfold State.enterDockAs
  dsimp only
  split
  · exact State.dockBank_keeps (sub fm) (Keeps.set_svc (sub fm) (Keeps.eta (State.enterSvc_keeps (sub fm) (State.endTransition_keeps (sub fm) ‹_›))))
  · split
    · exact State.lightEngine_keeps (sub fm) (Keeps.set_svc (sub fm) (Keeps.eta (State.enterSvc_keeps (sub fm) (State.endTransition_keeps (sub fm) ‹_›))))
    · exact Keeps.set_svc (sub fm) (Keeps.eta (State.enterSvc_keeps (sub fm) (State.endTransition_keeps (sub fm) ‹_›)))
  · exact Keeps.set_svc (sub fm) (Keeps.eta (State.enterSvc_keeps (sub fm) (State.endTransition_keeps (sub fm) ‹_›)))

theorem State.fullEnd_keeps {F a} {s1 : State} {x2 x3 x4} (fm : 136560417 &&& F = 136560417) (h1 : Keeps F a s1) : Keeps F a (@State.fullEnd s1 x2 x3 x4) := by
  unfold State.fullEnd
  dsimp only
  split
  · refine State.enterDockAs_keeps (sub fm) ?_
    refine Keeps.fold ?_ ?_
    · refine State.clearRetired_keeps (sub fm) ?_
      split
      · exact State.fput_keeps (sub fm) (State.nextTest_keeps (sub fm) (State.bput_keeps (sub fm) (State.setVerdict_keeps (sub fm) ‹_›)))
      · exact State.nextTest_keeps (sub fm) (State.bput_keeps (sub fm) (State.setVerdict_keeps (sub fm) ‹_›))
    · intro t4 t5 k6
      split
      · split
        · split
          · exact State.retireElement_keeps (sub fm) ‹_›
          · assumption
        · split
          · exact State.retireElement_keeps (sub fm) ‹_›
          · assumption
      · split
        · exact State.retireElement_keeps (sub fm) ‹_›
        · assumption
  · split
    · refine State.retire_keeps (sub fm) ?_
      split
      · exact State.fput_keeps (sub fm) (State.nextTest_keeps (sub fm) (State.bput_keeps (sub fm) (State.setVerdict_keeps (sub fm) ‹_›)))
      · exact State.nextTest_keeps (sub fm) (State.bput_keeps (sub fm) (State.setVerdict_keeps (sub fm) ‹_›))
    · refine State.enterDockAs_keeps (sub fm) ?_
      split
      · exact State.fput_keeps (sub fm) (State.nextTest_keeps (sub fm) (State.bput_keeps (sub fm) (State.setVerdict_keeps (sub fm) ‹_›)))
      · exact State.nextTest_keeps (sub fm) (State.bput_keeps (sub fm) (State.setVerdict_keeps (sub fm) ‹_›))

theorem State.leaveActive_keeps {F a} {s1 : State} {x2} (fm : 10606852993 &&& F = 10606852993) (h1 : Keeps F a s1) : Keeps F a (@State.leaveActive s1 x2) := by
  unfold State.leaveActive
  split
  · split
    · exact State.reExchange_keeps (sub fm) (State.endSession_keeps (sub fm) ‹_›)
    · assumption
  · split
    · exact State.portDown_keeps (sub fm) (State.portReset_keeps (sub fm) ‹_›)
    · assumption
  · exact State.cleatAbandonOrigin_keeps (sub fm) ‹_›
  · assumption

theorem State.startTransition_keeps {F a} {s1 : State} {x2 x3} (fm : 2049 &&& F = 2049) (h1 : Keeps F a s1) : Keeps F a (@State.startTransition s1 x2 x3) := by
  unfold State.startTransition
  dsimp only
  exact Keeps.set_svc (sub fm) (Keeps.eta (State.bput_keeps (sub fm) ‹_›))

theorem State.startDrain_keeps {F a} {s1 : State} {x2} (fm : 2305 &&& F = 2305) (h1 : Keeps F a s1) : Keeps F a (@State.startDrain s1 x2) := by
  unfold State.startDrain
  dsimp only
  exact Keeps.set_svc (sub fm) (Keeps.eta (State.enterSvc_keeps (sub fm) (State.startTransition_keeps (sub fm) ‹_›)))

theorem State.moduleLeaves_keeps {F a} {s1 : State} (fm : 10069737857 &&& F = 10069737857) (h1 : Keeps F a s1) : Keeps F a (@State.moduleLeaves s1) := by
  unfold State.moduleLeaves
  dsimp only
  refine Keeps.fold ?_ ?_
  · refine Keeps.fold ?_ ?_
    · assumption
    · intro t1 t2 k3
      exact State.put_keeps (sub fm) ‹_›
  · intro t4 t5 k6
    split
    · exact State.portDown_keeps (sub fm) (State.portReset_keeps (sub fm) ‹_›)
    · assumption

theorem State.enterOut_keeps {F a} {s1 : State} {x2} (fm : 260865 &&& F = 260865) (h1 : Keeps F a s1) : Keeps F a (@State.enterOut s1 x2) := by
  unfold State.enterOut
  dsimp only
  split
  · refine State.lanesOff_keeps (sub fm) (State.linkDrop_keeps (sub fm) ?_)
    split
    · exact State.endSession_keeps (sub fm) (State.enterSvc_keeps (sub fm) (State.endTransition_keeps (sub fm) ‹_›))
    · exact State.enterSvc_keeps (sub fm) (State.endTransition_keeps (sub fm) ‹_›)
  · exact State.darken_keeps (sub fm) (State.enterSvc_keeps (sub fm) (State.endTransition_keeps (sub fm) ‹_›))
  · exact State.enterSvc_keeps (sub fm) (State.endTransition_keeps (sub fm) ‹_›)

theorem State.svcRequest_keeps {F a} {s1 : State} {x2 x3} (fm : 10606870449 &&& F = 10606870449) (h1 : Keeps F a s1) : Keeps F a (@State.svcRequest s1 x2 x3).1 := by
  unfold State.svcRequest
  dsimp only
  split
  · dsimp only
    exact State.enterSvc_keeps (sub fm) (State.endTransition_keeps (sub fm) (State.releaseFence_keeps (sub fm) ‹_›))
  · split
    · dsimp only
      assumption
    · split
      · split
        · dsimp only
          exact State.raise_keeps (sub fm) ‹_›
        · dsimp only
          split
          · exact State.moduleLeaves_keeps (sub fm) (State.leaveActive_keeps (sub fm) (State.startDrain_keeps (sub fm) ‹_›))
          · exact State.requestFence_keeps (sub fm) (State.leaveActive_keeps (sub fm) (State.startDrain_keeps (sub fm) ‹_›))
      · split
        · split
          · split
            · dsimp only
              exact State.moduleLeaves_keeps (sub fm) (State.startDrain_keeps (sub fm) ‹_›)
            · dsimp only
              exact State.raise_keeps (sub fm) ‹_›
          · dsimp only
            exact State.requestFence_keeps (sub fm) (State.startTransition_keeps (sub fm) ‹_›)
        · split
          · dsimp only
            exact State.enterOut_keeps (sub fm) ‹_›
          · split
            · split
              · dsimp only
                exact Keeps.set_pwr (sub fm) (Keeps.eta (State.startTransition_keeps (sub fm) ‹_›))
              · dsimp only
                split
                · exact State.bringUp_keeps (sub fm) (State.enterDockAs_keeps (sub fm) (State.releaseFence_keeps (sub fm) ‹_›))
                · exact State.enterDockAs_keeps (sub fm) (State.releaseFence_keeps (sub fm) ‹_›)
            · split
              · dsimp only
                exact State.runFull_keeps (sub fm) (State.enterSvc_keeps (sub fm) (State.endTransition_keeps (sub fm) ‹_›))
              · split
                · split
                  · dsimp only
                    exact State.enterSvc_keeps (sub fm) (State.endTransition_keeps (sub fm) ‹_›)
                  · dsimp only
                    exact State.raise_keeps (sub fm) ‹_›
                · dsimp only
                  assumption

theorem State.noteSvcReq_keeps {F a} {s1 : State} {x2 x3} (fm : 1 &&& F = 1) (h1 : Keeps F a s1) : Keeps F a (@State.noteSvcReq s1 x2 x3) := by
  unfold State.noteSvcReq
  exact State.fput_keeps (sub fm) ‹_›

theorem State.svcCommand_keeps {F a} {s1 : State} {x2 x3} (fm : 10606870449 &&& F = 10606870449) (h1 : Keeps F a s1) : Keeps F a (@State.svcCommand s1 x2 x3).1 := by
  unfold State.svcCommand
  dsimp only
  split
  · dsimp only
    refine Keeps.foldFst ?_ ?_
    · dsimp only
      assumption
    · intro t2 t3 k4
      dsimp only
      split
      · exact State.noteSvcReq_keeps (sub fm) (State.svcRequest_keeps (sub fm) ‹_›)
      · exact State.svcRequest_keeps (sub fm) ‹_›
  · dsimp only
    split
    · exact State.noteSvcReq_keeps (sub fm) (State.svcRequest_keeps (sub fm) ‹_›)
    · exact State.svcRequest_keeps (sub fm) ‹_›

theorem State.drainComplete_keeps {F a} {s1 : State} {x2} (fm : 260865 &&& F = 260865) (h1 : Keeps F a s1) : Keeps F a (@State.drainComplete s1 x2) := by
  unfold State.drainComplete
  split
  · assumption
  · split
    · exact State.enterOut_keeps (sub fm) ‹_›
    · assumption

theorem State.closeSession_keeps {F a} {s1 : State} (fm : 10201596033 &&& F = 10201596033) (h1 : Keeps F a s1) : Keeps F a (@State.closeSession s1) := by
  unfold State.closeSession
  dsimp only
  split
  · assumption
  · split
    · exact State.cleatAbandonOrigin_keeps (sub fm) (State.fput_keeps (sub fm) (State.bput_keeps (sub fm) (State.bput_keeps (sub fm) (Keeps.set_zyn (sub fm) (Keeps.eta ‹_›)))))
    · exact State.fput_keeps (sub fm) (State.bput_keeps (sub fm) (State.bput_keeps (sub fm) (Keeps.set_zyn (sub fm) (Keeps.eta ‹_›))))

theorem State.mcResetNow_keeps {F a} {s1 : State} (fm : 10201597071 &&& F = 10201597071) (h1 : Keeps F a s1) : Keeps F a (@State.mcResetNow s1) := by
  unfold State.mcResetNow
  dsimp only
  exact State.cleatAbandonOrigin_keeps (sub fm) (State.bump_keeps (sub fm) (State.loadHwms_keeps (sub fm) (Keeps.set_orig (sub fm) (Keeps.set_latches (sub fm) (Keeps.set_heldLo (sub fm) (Keeps.set_zyn (sub fm) (Keeps.set_fw (sub fm) (Keeps.eta (State.resetRegs_keeps (sub fm) (State.closeSession_keeps (sub fm) ‹_›))))))))))

theorem State.setOwn_keeps {F a} {s1 : State} {x2 x3 x4 x5} (fm : 2 &&& F = 2) (h1 : Keeps F a s1) : Keeps F a (@State.setOwn s1 x2 x3 x4 x5) := by
  unfold State.setOwn
  exact Keeps.set_orig (sub fm) (Keeps.eta ‹_›)

theorem State.readReg_keeps {F a} {s1 : State} {x2 x3 x4} (fm : 4103 &&& F = 4103) (h1 : Keeps F a s1) : Keeps F a (@State.readReg s1 x2 x3 x4).1 := by
  unfold State.readReg
  dsimp only
  split
  · dsimp only
    assumption
  · split
    · dsimp only
      assumption
    · dsimp only
      split
      · split
        · split
          · split
            · split
              · exact State.setOwn_keeps (sub fm) (State.setOwn_keeps (sub fm) (State.updLane_keeps (sub fm) (Keeps.set_latches (sub fm) (Keeps.eta ‹_›))))
              · exact State.updLane_keeps (sub fm) (Keeps.set_latches (sub fm) (Keeps.eta ‹_›))
            · split
              · exact State.setOwn_keeps (sub fm) (State.setOwn_keeps (sub fm) (State.updLane_keeps (sub fm) (Keeps.set_latches (sub fm) (Keeps.eta ‹_›))))
              · exact State.updLane_keeps (sub fm) (Keeps.set_latches (sub fm) (Keeps.eta ‹_›))
          · split
            · split
              · exact State.setOwn_keeps (sub fm) (State.setOwn_keeps (sub fm) (State.updLane_keeps (sub fm) (State.put_keeps (sub fm) (Keeps.set_latches (sub fm) (Keeps.eta ‹_›)))))
              · exact State.updLane_keeps (sub fm) (State.put_keeps (sub fm) (Keeps.set_latches (sub fm) (Keeps.eta ‹_›)))
            · split
              · exact State.setOwn_keeps (sub fm) (State.setOwn_keeps (sub fm) (State.updLane_keeps (sub fm) (State.put_keeps (sub fm) (Keeps.set_latches (sub fm) (Keeps.eta ‹_›)))))
              · exact State.updLane_keeps (sub fm) (State.put_keeps (sub fm) (Keeps.set_latches (sub fm) (Keeps.eta ‹_›)))
        · split
          · split
            · split
              · exact State.setOwn_keeps (sub fm) (State.setOwn_keeps (sub fm) (State.updLane_keeps (sub fm) (Keeps.set_latches (sub fm) (Keeps.eta ‹_›))))
              · exact State.updLane_keeps (sub fm) (Keeps.set_latches (sub fm) (Keeps.eta ‹_›))
            · split
              · exact State.setOwn_keeps (sub fm) (State.setOwn_keeps (sub fm) (State.updLane_keeps (sub fm) (Keeps.set_latches (sub fm) (Keeps.eta ‹_›))))
              · exact State.updLane_keeps (sub fm) (Keeps.set_latches (sub fm) (Keeps.eta ‹_›))
          · split
            · split
              · exact State.setOwn_keeps (sub fm) (State.setOwn_keeps (sub fm) (State.updLane_keeps (sub fm) (State.put_keeps (sub fm) (Keeps.set_latches (sub fm) (Keeps.eta ‹_›)))))
              · exact State.updLane_keeps (sub fm) (State.put_keeps (sub fm) (Keeps.set_latches (sub fm) (Keeps.eta ‹_›)))
            · split
              · exact State.setOwn_keeps (sub fm) (State.setOwn_keeps (sub fm) (State.updLane_keeps (sub fm) (State.put_keeps (sub fm) (Keeps.set_latches (sub fm) (Keeps.eta ‹_›)))))
              · exact State.updLane_keeps (sub fm) (State.put_keeps (sub fm) (Keeps.set_latches (sub fm) (Keeps.eta ‹_›)))
      · split
        · split
          · split
            · split
              · exact State.setOwn_keeps (sub fm) (State.setOwn_keeps (sub fm) (Keeps.set_latches (sub fm) (Keeps.eta ‹_›)))
              · exact Keeps.set_latches (sub fm) (Keeps.eta ‹_›)
            · split
              · exact State.setOwn_keeps (sub fm) (State.setOwn_keeps (sub fm) (Keeps.set_latches (sub fm) (Keeps.eta ‹_›)))
              · exact Keeps.set_latches (sub fm) (Keeps.eta ‹_›)
          · split
            · split
              · exact State.setOwn_keeps (sub fm) (State.setOwn_keeps (sub fm) (State.put_keeps (sub fm) (Keeps.set_latches (sub fm) (Keeps.eta ‹_›))))
              · exact State.put_keeps (sub fm) (Keeps.set_latches (sub fm) (Keeps.eta ‹_›))
            · split
              · exact State.setOwn_keeps (sub fm) (State.setOwn_keeps (sub fm) (State.put_keeps (sub fm) (Keeps.set_latches (sub fm) (Keeps.eta ‹_›))))
              · exact State.put_keeps (sub fm) (Keeps.set_latches (sub fm) (Keeps.eta ‹_›))
        · split
          · split
            · split
              · exact State.setOwn_keeps (sub fm) (State.setOwn_keeps (sub fm) (Keeps.set_latches (sub fm) (Keeps.eta ‹_›)))
              · exact Keeps.set_latches (sub fm) (Keeps.eta ‹_›)
            · split
              · exact State.setOwn_keeps (sub fm) (State.setOwn_keeps (sub fm) (Keeps.set_latches (sub fm) (Keeps.eta ‹_›)))
              · exact Keeps.set_latches (sub fm) (Keeps.eta ‹_›)
          · split
            · split
              · exact State.setOwn_keeps (sub fm) (State.setOwn_keeps (sub fm) (State.put_keeps (sub fm) (Keeps.set_latches (sub fm) (Keeps.eta ‹_›))))
              · exact State.put_keeps (sub fm) (Keeps.set_latches (sub fm) (Keeps.eta ‹_›))
            · split
              · exact State.setOwn_keeps (sub fm) (State.setOwn_keeps (sub fm) (State.put_keeps (sub fm) (Keeps.set_latches (sub fm) (Keeps.eta ‹_›))))
              · exact State.put_keeps (sub fm) (Keeps.set_latches (sub fm) (Keeps.eta ‹_›))

theorem State.burst_keeps {F a} {s1 : State} {x2 x3} (fm : 244481 &&& F = 244481) (h1 : Keeps F a s1) : Keeps F a (@State.burst s1 x2 x3) := by
  unfold State.burst
  dsimp only
  split
  · exact State.burstTest_keeps (sub fm) (State.updLane_keeps (sub fm) (State.raise_keeps (sub fm) (State.bput_keeps (sub fm) ‹_›)))
  · exact State.updLane_keeps (sub fm) (State.raise_keeps (sub fm) (State.bput_keeps (sub fm) ‹_›))

theorem execTrainTimeout_keeps {F a} {x1 x2} {s3 : State} (fm : 244481 &&& F = 244481) (h3 : Keeps F a s3) {r} (e : @execTrainTimeout x1 x2 s3 = .next r) : Keeps F a r := by
  unfold execTrainTimeout at e
  split at e
  · rw [← Host.Outcome.next.inj e]
    refine State.syncLink_keeps (sub fm) ?_ ?_
    · assumption
    · exact State.qualFail_keeps (sub fm) ‹_›
  · rw [← Host.Outcome.next.inj e]
    assumption

theorem State.endLaneTest_keeps {F a} {s1 : State} {x2 x3 x4} (fm : 244513 &&& F = 244513) (h1 : Keeps F a s1) : Keeps F a (@State.endLaneTest s1 x2 x3 x4) := by
  unfold State.endLaneTest
  dsimp only
  split
  · split
    · exact State.rebond_keeps (sub fm) (State.updLane_keeps (sub fm) (State.setLaneState_keeps (sub fm) (State.laneVerdict_keeps (sub fm) ‹_›)))
    · exact State.toSignal_keeps (sub fm) (State.laneVerdict_keeps (sub fm) ‹_›)
  · split
    · exact State.nextLaneTest_keeps (sub fm) (State.checkBond_keeps (sub fm) (State.laneVerdict_keeps (sub fm) (State.updLport_keeps (sub fm) (State.failLane_keeps (sub fm) ‹_›))))
    · exact State.nextLaneTest_keeps (sub fm) (State.checkBond_keeps (sub fm) (State.laneVerdict_keeps (sub fm) (State.retireLane_keeps (sub fm) ‹_›)))

theorem execLaneTestEnd_keeps {F a} {x1 x2 x3 x4} {s5 : State} (fm : 244513 &&& F = 244513) (h5 : Keeps F a s5) {r} (e : @execLaneTestEnd x1 x2 x3 x4 s5 = .next r) : Keeps F a r := by
  unfold execLaneTestEnd at e
  split at e
  · rw [← Host.Outcome.next.inj e]
    refine State.syncLink_keeps (sub fm) ?_ ?_
    · assumption
    · exact State.endLaneTest_keeps (sub fm) ‹_›
  · rw [← Host.Outcome.next.inj e]
    assumption

theorem State.startSpare_keeps {F a} {s1 : State} {x2 x3 x4} (fm : 16385 &&& F = 16385) (h1 : Keeps F a s1) : Keeps F a (@State.startSpare s1 x2 x3 x4) := by
  unfold State.startSpare
  dsimp only
  exact State.fput_keeps (sub fm) (State.free_keeps (State.fput_keeps (sub fm) (State.fput_keeps (sub fm) (State.bput_keeps (sub fm) (State.updSpare_keeps (sub fm) ‹_›)))))

theorem State.detectorOn_keeps {F a} {s1 : State} {x2 x3 x4 x5 x6} (fm : 244481 &&& F = 244481) (h1 : Keeps F a s1) : Keeps F a (@State.detectorOn s1 x2 x3 x4 x5 x6) := by
  unfold State.detectorOn
  dsimp only
  split
  · refine State.syncLink_keeps (sub fm) ?_ ?_
    · exact State.raise_keeps (sub fm) (State.bump_keeps (sub fm) (State.bput_keeps (sub fm) (State.bput_keeps (sub fm) ‹_›)))
    · exact State.leaveBond_keeps (sub fm) (State.raise_keeps (sub fm) (State.bump_keeps (sub fm) (State.bput_keeps (sub fm) (State.bput_keeps (sub fm) ‹_›))))
  · exact State.raise_keeps (sub fm) (State.bump_keeps (sub fm) (State.bput_keeps (sub fm) (State.bput_keeps (sub fm) ‹_›)))

theorem State.losOn_keeps {F a} {s1 : State} {x2 x3} (fm : 244481 &&& F = 244481) (h1 : Keeps F a s1) : Keeps F a (@State.losOn s1 x2 x3) := by
  unfold State.losOn
  exact State.detectorOn_keeps (sub fm) ‹_›

theorem State.startPrbs_keeps {F a} {s1 : State} {x2 x3} (fm : 4096 &&& F = 4096) (h1 : Keeps F a s1) : Keeps F a (@State.startPrbs s1 x2 x3) := by
  unfold State.startPrbs
  split
  · assumption
  · exact State.emit_keeps (State.updLane_keeps (sub fm) ‹_›)

theorem State.answerTap_keeps {F a} {s1 : State} {x2 x3 x4} (fm : 4097 &&& F = 4097) (h1 : Keeps F a s1) : Keeps F a (@State.answerTap s1 x2 x3 x4) := by
  unfold State.answerTap
  dsimp only
  split
  · exact State.updLane_keeps (sub fm) ‹_›
  · split
    · split
      · exact State.updLane_keeps (sub fm) ‹_›
      · exact State.updLane_keeps (sub fm) (State.fput_keeps (sub fm) (State.fput_keeps (sub fm) ‹_›))
    · split
      · split
        · exact State.updLane_keeps (sub fm) ‹_›
        · exact State.updLane_keeps (sub fm) (State.fput_keeps (sub fm) (State.fput_keeps (sub fm) ‹_›))
      · split
        · exact State.updLane_keeps (sub fm) ‹_›
        · exact State.updLane_keeps (sub fm) (State.fput_keeps (sub fm) (State.fput_keeps (sub fm) ‹_›))

theorem State.lolOn_keeps {F a} {s1 : State} {x2 x3} (fm : 244481 &&& F = 244481) (h1 : Keeps F a s1) : Keeps F a (@State.lolOn s1 x2 x3) := by
  unfold State.lolOn
  exact State.detectorOn_keeps (sub fm) ‹_›

theorem execLolAssert_keeps {F a} {x1 x2} {s3 : State} (fm : 244481 &&& F = 244481) (h3 : Keeps F a s3) {r} (e : @execLolAssert x1 x2 s3 = .next r) : Keeps F a r := by
  unfold execLolAssert at e
  split at e
  · rw [← Host.Outcome.next.inj e]
    exact State.lolOn_keeps (sub fm) ‹_›
  · rw [← Host.Outcome.next.inj e]
    assumption

theorem execLosAssert_keeps {F a} {x1 x2} {s3 : State} (fm : 244481 &&& F = 244481) (h3 : Keeps F a s3) {r} (e : @execLosAssert x1 x2 s3 = .next r) : Keeps F a r := by
  unfold execLosAssert at e
  split at e
  · rw [← Host.Outcome.next.inj e]
    exact State.losOn_keeps (sub fm) ‹_›
  · rw [← Host.Outcome.next.inj e]
    assumption

theorem State.askSpare_keeps {F a} {s1 : State} {x2 x3} (fm : 16384 &&& F = 16384) (h1 : Keeps F a s1) : Keeps F a (@State.askSpare s1 x2 x3) := by
  unfold State.askSpare
  dsimp only
  split
  · assumption
  · exact State.updSpare_keeps (sub fm) ‹_›

theorem State.driverReports_keeps {F a} {s1 : State} {x2 x3 x4 x5} (fm : 16385 &&& F = 16385) (h1 : Keeps F a s1) : Keeps F a (@State.driverReports s1 x2 x3 x4 x5) := by
  unfold State.driverReports
  dsimp only
  split
  · split
    · exact State.fput_keeps (sub fm) ‹_›
    · exact State.updSpare_keeps (sub fm) (State.raise_keeps (sub fm) (State.bput_keeps (sub fm) (State.bput_keeps (sub fm) (State.fput_keeps (sub fm) ‹_›))))
  · exact State.bput_keeps (sub fm) (State.fput_keeps (sub fm) ‹_›)

theorem State.biasWritten_keeps {F a} {s1 : State} {x2 x3} (fm : 16385 &&& F = 16385) (h1 : Keeps F a s1) : Keeps F a (@State.biasWritten s1 x2 x3) := by
  unfold State.biasWritten
  dsimp only
  split
  · assumption
  · split
    · exact State.driverReports_keeps (sub fm) ‹_›
    · exact State.driverReports_keeps (sub fm) (State.free_keeps ‹_›)

theorem State.advance_keeps {F a} {s1 : State} {x2} (fm : 12289 &&& F = 12289) (h1 : Keeps F a s1) : Keeps F a (@State.advance s1 x2) := by
  unfold State.advance
  dsimp only
  split
  · assumption
  · split
    · split
      · exact State.rebond_keeps (sub fm) ‹_›
      · assumption
    · split
      · split
        · exact State.updLport_keeps (sub fm) ‹_›
        · split
          · exact State.updLport_keeps (sub fm) ‹_›
          · assumption
      · assumption

theorem State.takeLtf_keeps {F a} {s1 : State} {x2 x3 x4} (fm : 28673 &&& F = 28673) (h1 : Keeps F a s1) : Keeps F a (@State.takeLtf s1 x2 x3 x4) := by
  unfold State.takeLtf
  extract_lets pg prop was s2 s3 s4 los lol s5 s6 short auto s7 back s8
  have k4 : Keeps F a s4 := State.answerTap_keeps (sub fm) (State.fput_keeps (sub fm) (State.updLane_keeps (sub fm) h1))
  clear_value s4
  have k5 : Keeps F a s5 := by
    unfold s5
    split
    · exact State.updLane_keeps (sub fm) (State.setLaneState_keeps (sub fm) k4)
    · exact k4
  clear_value s5
  have k6 : Keeps F a s6 := by
    unfold s6
    split
    · split
      · exact State.checkBond_keeps (sub fm) k5
      · exact State.noBond_keeps (sub fm) k5
    · exact k5
  clear_value s6
  have k7 : Keeps F a s7 := by
    unfold s7
    split
    · split
      · exact State.updLport_keeps (sub fm) (State.askSpare_keeps (sub fm) k6)
      · exact State.startPrbs_keeps (sub fm) k6
    · exact State.updLane_keeps (sub fm) k6
  clear_value s7
  have k8 : Keeps F a s8 := by
    unfold s8
    split
    · exact State.rebond_keeps (sub fm) k7
    · exact k7
  clear_value s8
  exact State.advance_keeps (sub fm) (State.tryForm_keeps (sub fm) k8)

theorem execLtfReceive_keeps {F a} {x1 x2 x3} {s4 : State} (fm : 260865 &&& F = 260865) (h4 : Keeps F a s4) {r} (e : @execLtfReceive x1 x2 x3 s4 = .next r) : Keeps F a r := by
  unfold execLtfReceive at e
  dsimp only at e
  split at e
  · rw [← Host.Outcome.next.inj e]
    refine State.syncLink_keeps (sub fm) ?_ ?_
    · assumption
    · exact State.takeLtf_keeps (sub fm) ‹_›
  · rw [← Host.Outcome.next.inj e]
    assumption

theorem execShortfallLasting_keeps {F a} {x1 x2} {s3 : State} (fm : 16385 &&& F = 16385) (h3 : Keeps F a s3) {r} (e : @execShortfallLasting x1 x2 s3 = .next r) : Keeps F a r := by
  unfold execShortfallLasting at e
  dsimp only at e
  split at e
  · rw [← Host.Outcome.next.inj e]
    split
    · exact State.askSpare_keeps (sub fm) ‹_›
    · exact State.startSpare_keeps (sub fm) ‹_›
  · rw [← Host.Outcome.next.inj e]
    assumption

theorem execLosClear_keeps {F a} {x1 x2} {s3 : State} (fm : 1 &&& F = 1) (h3 : Keeps F a s3) {r} (e : @execLosClear x1 x2 s3 = .next r) : Keeps F a r := by
  unfold execLosClear at e
  split at e
  · rw [← Host.Outcome.next.inj e]
    exact State.bput_keeps (sub fm) ‹_›
  · rw [← Host.Outcome.next.inj e]
    assumption

theorem State.endSpare_keeps {F a} {s1 : State} {x2 x3 x4} (fm : 28673 &&& F = 28673) (h1 : Keeps F a s1) : Keeps F a (@State.endSpare s1 x2 x3 x4) := by
  unfold State.endSpare
  dsimp only
  refine State.updSpare_keeps (sub fm) ?_
  refine Keeps.fold ?_ ?_
  · exact State.bput_keeps (sub fm) (State.bput_keeps (sub fm) ‹_›)
  · intro t1 t2 k3
    refine State.updLport_keeps (sub fm) ?_
    refine Keeps.fold ?_ ?_
    · assumption
    · intro t4 t5 k6
      split
      · split
        · exact State.startPrbs_keeps (sub fm) (State.updLane_keeps (sub fm) ‹_›)
        · exact State.updLane_keeps (sub fm) ‹_›
      · split
        · exact State.startPrbs_keeps (sub fm) (State.updLane_keeps (sub fm) ‹_›)
        · exact State.updLane_keeps (sub fm) ‹_›

theorem execSpareSelectorMove_keeps {F a} {x1 x2 x3} {s4 : State} (fm : 29217 &&& F = 29217) (h4 : Keeps F a s4) {r} (e : @execSpareSelectorMove x1 x2 x3 s4 = .next r) : Keeps F a r := by
  unfold execSpareSelectorMove at e
  dsimp only at e
  split at e
  · split at e
    · rw [← Host.Outcome.next.inj e]
      refine State.endSpare_keeps (sub fm) ?_
      split
      · exact State.bump_keeps (sub fm) (State.logErr_keeps (sub fm) (State.retireElement_keeps (sub fm) (State.fput_keeps (sub fm) (State.bput_keeps (sub fm) (State.bput_keeps (sub fm) (State.bput_keeps (sub fm) (State.fput_keeps (sub fm) ‹_›)))))))
      · exact State.bump_keeps (sub fm) (State.logErr_keeps (sub fm) (State.raise_keeps (sub fm) (State.retireElement_keeps (sub fm) (State.fput_keeps (sub fm) (State.bput_keeps (sub fm) (State.bput_keeps (sub fm) (State.fput_keeps (sub fm) ‹_›)))))))
    · rw [← Host.Outcome.next.inj e]
      assumption
  · rw [← Host.Outcome.next.inj e]
    assumption

theorem execLolClear_keeps {F a} {x1 x2} {s3 : State} (fm : 4097 &&& F = 4097) (h3 : Keeps F a s3) {r} (e : @execLolClear x1 x2 s3 = .next r) : Keeps F a r := by
  unfold execLolClear at e
  split at e
  · rw [← Host.Outcome.next.inj e]
    exact State.bput_keeps (sub fm) (State.updLane_keeps (sub fm) ‹_›)
  · rw [← Host.Outcome.next.inj e]
    assumption

theorem execAutomaticPowerControl_keeps {F a} {x1 x2 x3 x4 x5} {s6 : State} (fm : 16385 &&& F = 16385) (h6 : Keeps F a s6) {r} (e : @execAutomaticPowerControl x1 x2 x3 x4 x5 s6 = .next r) : Keeps F a r := by
  unfold execAutomaticPowerControl at e
  dsimp only at e
  split at e
  · split at e
    · rw [← Host.Outcome.next.inj e]
      exact State.driverReports_keeps (sub fm) (State.fput_keeps (sub fm) (State.fput_keeps (sub fm) (State.updSpare_keeps (sub fm) ‹_›)))
    · rw [← Host.Outcome.next.inj e]
      assumption
  · split at e
    · rw [← Host.Outcome.next.inj e]
      exact State.driverReports_keeps (sub fm) (State.fput_keeps (sub fm) (State.fput_keeps (sub fm) (State.updSpare_keeps (sub fm) ‹_›)))
    · rw [← Host.Outcome.next.inj e]
      assumption

theorem State.putFom_keeps {F a} {s1 : State} {x2 x3 x4 x5} (fm : 4097 &&& F = 4097) (h1 : Keeps F a s1) : Keeps F a (@State.putFom s1 x2 x3 x4 x5) := by
  unfold State.putFom
  dsimp only
  exact State.updLane_keeps (sub fm) (State.fput_keeps (sub fm) (State.fput_keeps (sub fm) ‹_›))

theorem State.fomUpdate_keeps {F a} {s1 : State} {x2} (fm : 4097 &&& F = 4097) (h1 : Keeps F a s1) : Keeps F a (@State.fomUpdate s1 x2) := by
  unfold State.fomUpdate
  dsimp only
  split
  · assumption
  · split
    · refine State.putFom_keeps (sub fm) (State.bump_keeps (sub fm) (State.updLane_keeps (sub fm) ?_))
      split
      · dsimp only
        exact State.free_keeps (State.updLane_keeps (sub fm) (State.fput_keeps (sub fm) (State.bump_keeps (sub fm) (State.bump_keeps (sub fm) (State.bump_keeps (sub fm) ‹_›)))))
      · dsimp only
        exact State.updLane_keeps (sub fm) (State.fput_keeps (sub fm) (State.bump_keeps (sub fm) (State.bump_keeps (sub fm) (State.bump_keeps (sub fm) ‹_›))))
    · split
      · exact State.updLane_keeps (sub fm) (State.putFom_keeps (sub fm) (State.updLane_keeps (sub fm) (State.fput_keeps (sub fm) (State.bump_keeps (sub fm) (State.bump_keeps (sub fm) (State.bump_keeps (sub fm) ‹_›))))))
      · exact State.updLane_keeps (sub fm) (State.fput_keeps (sub fm) (State.bump_keeps (sub fm) (State.bump_keeps (sub fm) (State.bump_keeps (sub fm) ‹_›))))

theorem execStepTimeout_keeps {F a} {x1 x2} {s3 : State} (fm : 244481 &&& F = 244481) (h3 : Keeps F a s3) {r} (e : @execStepTimeout x1 x2 s3 = .next r) : Keeps F a r := by
  unfold execStepTimeout at e
  split at e
  · rw [← Host.Outcome.next.inj e]
    refine State.syncLink_keeps (sub fm) ?_ ?_
    · assumption
    · exact State.qualFail_keeps (sub fm) ‹_›
  · rw [← Host.Outcome.next.inj e]
    assumption

theorem State.nextSpare_keeps {F a} {s1 : State} {x2} (fm : 16385 &&& F = 16385) (h1 : Keeps F a s1) : Keeps F a (@State.nextSpare s1 x2) := by
  unfold State.nextSpare
  dsimp only
  refine Keeps.fold ?_ ?_
  · assumption
  · intro t1 t2 k3
    split
    · assumption
    · split
      · exact State.startSpare_keeps (sub fm) ‹_›
      · exact State.bput_keeps (sub fm) (State.updSpare_keeps (sub fm) ‹_›)

theorem execStepChange_keeps {F a} {x1} {s2 : State} (fm : 12289 &&& F = 12289) (h2 : Keeps F a s2) {r} (e : @execStepChange x1 s2 = .next r) : Keeps F a r := by
  unfold execStepChange at e
  dsimp only at e
  split at e
  · rw [← Host.Outcome.next.inj e]
    refine Keeps.fold ?_ ?_
    · exact State.updLport_keeps (sub fm) (State.setPortStep_keeps (sub fm) ‹_›)
    · intro t2 t3 k4
      split
      · exact State.updLane_keeps (sub fm) (State.setLaneState_keeps (sub fm) ‹_›)
      · assumption
  · rw [← Host.Outcome.next.inj e]
    assumption

theorem execLaneErrorBurst_keeps {F a} {x1 x2} {s3 : State} (fm : 244481 &&& F = 244481) (h3 : Keeps F a s3) {r} (e : @execLaneErrorBurst x1 x2 s3 = .next r) : Keeps F a r := by
  unfold execLaneErrorBurst at e
  split at e
  · rw [← Host.Outcome.next.inj e]
    exact State.burst_keeps (sub fm) ‹_›
  · rw [← Host.Outcome.next.inj e]
    assumption

theorem execLaneTestTimeout_keeps {F a} {x1 x2} {s3 : State} (fm : 244513 &&& F = 244513) (h3 : Keeps F a s3) {r} (e : @execLaneTestTimeout x1 x2 s3 = .next r) : Keeps F a r := by
  unfold execLaneTestTimeout at e
  split at e
  · rw [← Host.Outcome.next.inj e]
    refine State.syncLink_keeps (sub fm) ?_ ?_
    · assumption
    · exact State.endLaneTest_keeps (sub fm) ‹_›
  · rw [← Host.Outcome.next.inj e]
    assumption

theorem execLaneQualified_keeps {F a} {x1 x2} {s3 : State} (fm : 12289 &&& F = 12289) (h3 : Keeps F a s3) {r} (e : @execLaneQualified x1 x2 s3 = .next r) : Keeps F a r := by
  unfold execLaneQualified at e
  split at e
  · rw [← Host.Outcome.next.inj e]
    exact State.advance_keeps (sub fm) (State.updLane_keeps (sub fm) ‹_›)
  · rw [← Host.Outcome.next.inj e]
    assumption

theorem execBondFormed_keeps {F a} {x1 x2} {s3 : State} (fm : 12289 &&& F = 12289) (h3 : Keeps F a s3) {r} (e : @execBondFormed x1 x2 s3 = .next r) : Keeps F a r := by
  unfold execBondFormed at e
  dsimp only at e
  split at e
  · split at e
    · rw [← Host.Outcome.next.inj e]
      exact State.qualFail_keeps (sub fm) ‹_›
    · rw [← Host.Outcome.next.inj e]
      exact State.formBond_keeps (sub fm) ‹_›
  · rw [← Host.Outcome.next.inj e]
    assumption

theorem State.enChanged_keeps {F a} {s1 : State} {x2 x3 x4} (fm : 244481 &&& F = 244481) (h1 : Keeps F a s1) : Keeps F a (@State.enChanged s1 x2 x3 x4) := by
  unfold State.enChanged
  split
  · exact State.followRing_keeps (sub fm) ‹_›
  · split
    · exact State.lanesOff_keeps (sub fm) (State.linkDrop_keeps (sub fm) ‹_›)
    · assumption
  · assumption

theorem State.softCollar_keeps {F a} {s1 : State} {x2} (fm : 1 &&& F = 1) (h1 : Keeps F a s1) : Keeps F a (@State.softCollar s1 x2) := by
  unfold State.softCollar
  exact State.put_keeps (sub fm) (State.put_keeps (sub fm) ‹_›)

theorem State.softRecords_keeps {F a} {s1 : State} {s2 : State} {x3} (fm : 256 &&& F = 256) (_h1 : Keeps F a s1) (h2 : Keeps F a s2) : Keeps F a (@State.softRecords s1 s2 x3) := by
  unfold State.softRecords
  dsimp only
  refine Keeps.fold ?_ ?_
  · assumption
  · intro t1 t2 k3
    split
    · split
      · exact State.record3_keeps (sub fm) (State.record3_keeps (sub fm) ‹_›)
      · exact State.record3_keeps (sub fm) ‹_›
    · split
      · exact State.record3_keeps (sub fm) ‹_›
      · assumption

theorem State.softBlock_keeps {F a} {s1 : State} {x2} (fm : 134246657 &&& F = 134246657) (h1 : Keeps F a s1) : Keeps F a (@State.softBlock s1 x2) := by
  unfold State.softBlock
  dsimp only
  split
  · split
    · exact State.fput_keeps (sub fm) ‹_›
    · assumption
  · split
    · exact State.fput_keeps (sub fm) ‹_›
    · assumption
  · split
    · exact State.fput_keeps (sub fm) ‹_›
    · assumption
  · split
    · exact Keeps.set_mem (sub fm) (Keeps.etaMem ‹_›)
    · assumption
  · exact Keeps.set_jrnl (sub fm) (Keeps.eta ‹_›)
  · exact State.put_keeps (sub fm) (State.put_keeps (sub fm) (State.put_keeps (sub fm) ‹_›))
  · exact State.updSpare_keeps (sub fm) ‹_›
  · refine Keeps.fold ?_ ?_
    · exact State.lanesOff_keeps (sub fm) ‹_›
    · intro t34 t35 k36
      split
      · exact State.bput_keeps (sub fm) (State.setLaneState_keeps (sub fm) ‹_›)
      · assumption
  · assumption

theorem State.softReset_keeps {F a} {s1 : State} {x2} (fm : 134478595 &&& F = 134478595) (h1 : Keeps F a s1) : Keeps F a (@State.softReset s1 x2) := by
  unfold State.softReset
  dsimp only
  refine State.softRecords_keeps (sub fm) ?_ ?_
  · assumption
  · refine State.followRing_keeps (sub fm) (State.softBlock_keeps (sub fm) ?_)
    refine Keeps.fold ?_ ?_
    · refine Keeps.set_orig (sub fm) (Keeps.set_relia (sub fm) (Keeps.set_svc (sub fm) (Keeps.eta (State.resetRegs_keeps (sub fm) ?_))))
      split
      · refine State.updLink_keeps (sub fm) ?_
        split
        · exact State.endSession_keeps (sub fm) ‹_›
        · assumption
      · assumption
    · intro t5 t6 k7
      exact State.softCollar_keeps (sub fm) ‹_›

theorem State.ctlWritten_keeps {F a} {s1 : State} {x2 x3 x4 x5} (fm : 8724413187 &&& F = 8724413187) (h1 : Keeps F a s1) : Keeps F a (@State.ctlWritten s1 x2 x3 x4 x5) := by
  unfold State.ctlWritten
  dsimp only
  split
  · refine State.softReset_keeps (sub fm) ?_
    split
    · split
      · exact State.enChanged_keeps (sub fm) ‹_›
      · assumption
    · split
      · refine State.requestFence_keeps (sub fm) ?_
        split
        · exact State.enChanged_keeps (sub fm) ‹_›
        · assumption
      · refine State.releaseFence_keeps (sub fm) ?_
        split
        · exact State.enChanged_keeps (sub fm) ‹_›
        · assumption
  · split
    · split
      · exact State.enChanged_keeps (sub fm) ‹_›
      · assumption
    · split
      · refine State.requestFence_keeps (sub fm) ?_
        split
        · exact State.enChanged_keeps (sub fm) ‹_›
        · assumption
      · refine State.releaseFence_keeps (sub fm) ?_
        split
        · exact State.enChanged_keeps (sub fm) ‹_›
        · assumption

theorem State.forceSpares_keeps {F a} {s1 : State} {x2 x3} (fm : 16385 &&& F = 16385) (h1 : Keeps F a s1) : Keeps F a (@State.forceSpares s1 x2 x3) := by
  unfold State.forceSpares
  refine Keeps.fold ?_ ?_
  · assumption
  · intro t1 t2 k3
    split
    · assumption
    · split
      · exact State.askSpare_keeps (sub fm) ‹_›
      · exact State.bput_keeps (sub fm) ‹_›

theorem State.beginStaging_keeps {F a} {s1 : State} (fm : 33 &&& F = 33) (h1 : Keeps F a s1) : Keeps F a (@State.beginStaging s1) := by
  unfold State.beginStaging
  dsimp only
  exact Keeps.set_psto (sub fm) (Keeps.eta (State.bput_keeps (sub fm) (State.bput_keeps (sub fm) ‹_›)))

theorem State.stageWord_keeps {F a} {s1 : State} {x2} (fm : 1025 &&& F = 1025) (h1 : Keeps F a s1) : Keeps F a (@State.stageWord s1 x2) := by
  unfold State.stageWord
  dsimp only
  exact Keeps.set_fw (sub fm) (Keeps.eta (State.put_keeps (sub fm) ‹_›))

theorem State.xlateCommit_keeps {F a} {s1 : State} {x2} (fm : 2097153 &&& F = 2097153) (h1 : Keeps F a s1) : Keeps F a (@State.xlateCommit s1 x2) := by
  unfold State.xlateCommit
  dsimp only
  split
  · exact State.updVi_keeps (sub fm) (State.fput_keeps (sub fm) (State.fput_keeps (sub fm) (State.bput_keeps (sub fm) ‹_›)))
  · exact State.raise_keeps (sub fm) (State.fput_keeps (sub fm) (State.bput_keeps (sub fm) ‹_›))

theorem State.retrain_keeps {F a} {s1 : State} {x2} (fm : 244481 &&& F = 244481) (h1 : Keeps F a s1) : Keeps F a (@State.retrain s1 x2) := by
  unfold State.retrain
  split
  · exact State.bput_keeps (sub fm) ‹_›
  · split
    · refine State.syncLink_keeps (sub fm) ?_ ?_
      · assumption
      · exact State.setBond_keeps (sub fm) ‹_›
    · exact State.bringUp_keeps (sub fm) ‹_›

theorem State.queueEnabled_keeps {F a} {s1 : State} {x2 x3 x4} (fm : 2097152 &&& F = 2097152) (h1 : Keeps F a s1) : Keeps F a (@State.queueEnabled s1 x2 x3 x4) := by
  unfold State.queueEnabled
  split
  · exact State.updCmq_keeps (sub fm) ‹_›
  · exact State.updCq_keeps (sub fm) ‹_›

theorem State.blockWritten_keeps {F a} {s1 : State} {x2 x3 x4 x5 x6} (fm : 11949047777 &&& F = 11949047777) (h1 : Keeps F a s1) : Keeps F a (@State.blockWritten s1 x2 x3 x4 x5 x6) := by
  unfold State.blockWritten
  dsimp only
  split
  · split
    · exact Keeps.set_psto (sub fm) (Keeps.eta ‹_›)
    · split
      · exact Keeps.set_psto (sub fm) (Keeps.eta ‹_›)
      · split
        · exact State.bput_keeps (sub fm) (Keeps.set_zyn (sub fm) (Keeps.eta ‹_›))
        · assumption
  · split
    · exact State.pllEval_keeps (sub fm) ‹_›
    · assumption
  · split
    · exact State.emptyRing_keeps (sub fm) ‹_›
    · assumption
  · split
    · exact State.beginStaging_keeps (sub fm) ‹_›
    · split
      · exact State.stageWord_keeps (sub fm) ‹_›
      · assumption
  · split
    · exact State.retrain_keeps (sub fm) ‹_›
    · assumption
  · split
    · exact State.forceSpares_keeps (sub fm) ‹_›
    · split
      · exact State.biasWritten_keeps (sub fm) ‹_›
      · assumption
  · split
    · exact State.put_keeps (sub fm) ‹_›
    · assumption
  · split
    · exact State.bput_keeps (sub fm) ‹_›
    · assumption
  · split
    · exact State.bput_keeps (sub fm) (State.commitPartition_keeps (sub fm) ‹_›)
    · assumption
  · split
    · exact State.bput_keeps (sub fm) (Keeps.set_zyn (sub fm) (Keeps.eta ‹_›))
    · assumption
  · split
    · exact State.viEnabled_keeps (sub fm) ‹_›
    · split
      · exact State.xlateCommit_keeps (sub fm) ‹_›
      · assumption
  · split
    · exact State.queueEnabled_keeps (sub fm) ‹_›
    · assumption
  · split
    · exact State.startSync_keeps (sub fm) ‹_›
    · assumption
  · split
    · exact State.put64_keeps (sub fm) (State.put64_keeps (sub fm) ‹_›)
    · assumption
  · assumption

theorem State.clearCtrs_keeps {F a} {s1 : State} {x2 x3} (fm : 1 &&& F = 1) (h1 : Keeps F a s1) : Keeps F a (@State.clearCtrs s1 x2 x3) := by
  unfold State.clearCtrs
  refine State.put_keeps (sub fm) ?_
  refine Keeps.fold ?_ ?_
  · assumption
  · intro t1 t2 k3
    split
    · exact State.putCtr_keeps (sub fm) ‹_›
    · assumption

theorem State.written_keeps {F a} {s1 : State} {x2 x3 x4 x5 x6 x7} (fm : 11949047779 &&& F = 11949047779) (h1 : Keeps F a s1) : Keeps F a (@State.written s1 x2 x3 x4 x5 x6 x7) := by
  unfold State.written
  split
  · exact State.ctlWritten_keeps (sub fm) ‹_›
  · split
    · split
      · exact State.runFull_keeps (sub fm) (State.bput_keeps (sub fm) ‹_›)
      · assumption
    · split
      · exact State.clearCtrs_keeps (sub fm) ‹_›
      · exact State.blockWritten_keeps (sub fm) ‹_›

theorem State.badAccess_keeps {F a} {s1 : State} {x2 x3} (fm : 1 &&& F = 1) (h1 : Keeps F a s1) : Keeps F a (@State.badAccess s1 x2 x3) := by
  unfold State.badAccess
  split
  · assumption
  · split
    · split
      · exact State.raise_keeps (sub fm) ‹_›
      · assumption
    · assumption

theorem State.badRead_keeps {F a} {s1 : State} {x2 x3} (fm : 1 &&& F = 1) (h1 : Keeps F a s1) : Keeps F a (@State.badRead s1 x2 x3) := by
  unfold State.badRead
  exact State.emit_keeps (State.badAccess_keeps (sub fm) ‹_›)

theorem State.readAt_keeps {F a} {s1 : State} {x2 x3} (fm : 4103 &&& F = 4103) (h1 : Keeps F a s1) : Keeps F a (@State.readAt s1 x2 x3).1 := by
  unfold State.readAt
  dsimp only
  split
  · dsimp only
    assumption
  · split
    · split
      · exact State.readReg_keeps (sub fm) ‹_›
      · dsimp only
        assumption
    · split
      · split
        · dsimp only
          assumption
        · split
          · dsimp only
            assumption
          · split
            · dsimp only
              assumption
            · dsimp only
              assumption
      · split
        · dsimp only
          assumption
        · dsimp only
          assumption

theorem State.readOut_keeps {F a} {s1 : State} {x2 x3} (fm : 4103 &&& F = 4103) (h1 : Keeps F a s1) : Keeps F a (@State.readOut s1 x2 x3) := by
  unfold State.readOut
  dsimp only
  split
  · exact State.badRead_keeps (sub fm) ‹_›
  · exact State.emit_keeps (State.readAt_keeps (sub fm) ‹_›)

theorem State.putFor_keeps {F a} {s1 : State} {x2 x3 x4 x5} (fm : 3 &&& F = 3) (h1 : Keeps F a s1) : Keeps F a (@State.putFor s1 x2 x3 x4 x5) := by
  unfold State.putFor
  split
  · exact State.setOwn_keeps (sub fm) ‹_›
  · exact State.put_keeps (sub fm) ‹_›

theorem State.setHeld_keeps {F a} {s1 : State} {x2 x3 x4 x5} (fm : 8 &&& F = 8) (h1 : Keeps F a s1) : Keeps F a (@State.setHeld s1 x2 x3 x4 x5) := by
  unfold State.setHeld
  exact Keeps.set_heldLo (sub fm) (Keeps.eta ‹_›)

theorem State.storeOne_keeps {F a} {s1 : State} {x2} (fm : 11 &&& F = 11) (h1 : Keeps F a s1) : Keeps F a (@State.storeOne s1 x2).1 := by
  unfold State.storeOne
  dsimp only
  split
  · dsimp only
    assumption
  · split
    · dsimp only
      exact State.chg_keeps (sub fm) (State.setHeld_keeps (sub fm) (State.putFor_keeps (sub fm) (State.putFor_keeps (sub fm) ‹_›)))
    · split
      · dsimp only
        assumption
      · dsimp only
        exact State.chg_keeps (sub fm) (State.putFor_keeps (sub fm) ‹_›)

theorem State.holdLo_keeps {F a} {s1 : State} {x2} (fm : 8 &&& F = 8) (h1 : Keeps F a s1) : Keeps F a (@State.holdLo s1 x2) := by
  unfold State.holdLo
  dsimp only
  split
  · exact State.setHeld_keeps (sub fm) ‹_›
  · assumption

theorem State.blame_keeps {F a} {s1 : State} {x2} (fm : 1 &&& F = 1) (h1 : Keeps F a s1) : Keeps F a (@State.blame s1 x2) := by
  unfold State.blame
  split
  · exact State.badAccess_keeps (sub fm) ‹_›
  · exact State.raise_keeps (sub fm) ‹_›
  · exact State.raise_keeps (sub fm) ‹_›
  · assumption

theorem State.runWrites_keeps {F a} {s1 : State} {x2 x3} (fm : 11949047787 &&& F = 11949047787) (h1 : Keeps F a s1) : Keeps F a (@State.runWrites s1 x2 x3).1 := by
  unfold State.runWrites
  dsimp only
  refine Keeps.fold ?_ ?_
  · refine Keeps.fold ?_ ?_
    · refine Keeps.foldFst ?_ ?_
      · dsimp only
        refine Keeps.fold ?_ ?_
        · assumption
        · intro t1 t2 k3
          exact State.holdLo_keeps (sub fm) ‹_›
      · intro t4 t5 k6
        dsimp only
        exact State.storeOne_keeps (sub fm) ‹_›
    · intro t7 t8 k9
      exact State.blame_keeps (sub fm) ‹_›
  · intro t10 t11 k12
    split
    · exact State.written_keeps (sub fm) ‹_›
    · assumption

theorem State.directWrites_keeps {F a} {s1 : State} {x2 x3} (fm : 11949047787 &&& F = 11949047787) (h1 : Keeps F a s1) : Keeps F a (@State.directWrites s1 x2 x3).1 := by
  unfold State.directWrites
  exact State.runWrites_keeps (sub fm) ‹_›

theorem State.recordOne_keeps {F a} {s1 : State} {s2 : State} {x3} (fm : 256 &&& F = 256) (_h1 : Keeps F a s1) (h2 : Keeps F a s2) : Keeps F a (@State.recordOne s1 s2 x3) := by
  unfold State.recordOne
  split
  · assumption
  · assumption
  · assumption
  · split
    · exact State.record_keeps (sub fm) ‹_›
    · exact State.record_keeps (sub fm) ‹_›

theorem State.records_keeps {F a} {s1 : State} {s2 : State} {x3} (fm : 256 &&& F = 256) (h1 : Keeps F a s1) (h2 : Keeps F a s2) : Keeps F a (@State.records s1 s2 x3) := by
  unfold State.records
  refine Keeps.fold ?_ ?_
  · assumption
  · intro t1 t2 k3
    refine State.recordOne_keeps (sub fm) ?_ ?_
    · assumption
    · assumption

theorem State.writeKeyed_keeps {F a} {s1 : State} {x2 x3} (fm : 11949047787 &&& F = 11949047787) (h1 : Keeps F a s1) : Keeps F a (@State.writeKeyed s1 x2 x3).1 := by
  unfold State.writeKeyed
  dsimp only
  exact State.runWrites_keeps (sub fm) ‹_›

theorem execCleatRead_keeps {F a} {x1 x2} {s3 : State} (fm : 10200547329 &&& F = 10200547329) (h3 : Keeps F a s3) {r} (e : @execCleatRead x1 x2 s3 = .next r) : Keeps F a r := by
  unfold execCleatRead at e
  dsimp only at e
  split at e
  · rw [← Host.Outcome.next.inj e]
    exact State.badRead_keeps (sub fm) ‹_›
  · split at e
    · rw [← Host.Outcome.next.inj e]
      assumption
    · rw [← Host.Outcome.next.inj e]
      exact State.emit_keeps ‹_›
    · rw [← Host.Outcome.next.inj e]
      exact State.emit_keeps ‹_›
    · split at e
      · rename_i v12 v13 v14 v15
        rw [← Host.Outcome.next.inj e]
        refine State.emit_keeps ?_
        refine Keeps.fst ?_ v15
        exact State.cleatReadFrom_keeps (sub fm) ‹_›
      · rename_i v16 v17 v18
        rw [← Host.Outcome.next.inj e]
        refine Keeps.fst ?_ v18
        exact State.cleatReadFrom_keeps (sub fm) ‹_›

theorem execCleatWrite_keeps {F a} {x1 x2 x3} {s4 : State} (fm : 10201596033 &&& F = 10201596033) (h4 : Keeps F a s4) {r} (e : @execCleatWrite x1 x2 x3 s4 = .next r) : Keeps F a r := by
  unfold execCleatWrite at e
  split at e
  · rw [← Host.Outcome.next.inj e]
    exact State.badAccess_keeps (sub fm) ‹_›
  · split at e
    · rw [← Host.Outcome.next.inj e]
      exact State.cleatWriteFrom_keeps (sub fm) ‹_›
    · rw [← Host.Outcome.next.inj e]
      assumption
    · rw [← Host.Outcome.next.inj e]
      assumption
    · rw [← Host.Outcome.next.inj e]
      assumption

theorem execCleatStallEnd_keeps {F a} {x1} {s2 : State} (fm : 9664725121 &&& F = 9664725121) (h2 : Keeps F a s2) {r} (e : @execCleatStallEnd x1 s2 = .next r) : Keeps F a r := by
  unfold execCleatStallEnd at e
  split at e
  · split at e
    · rw [← Host.Outcome.next.inj e]
      exact State.endStall_keeps (sub fm) ‹_›
    · rw [← Host.Outcome.next.inj e]
      assumption
  · rw [← Host.Outcome.next.inj e]
    assumption

theorem State.showOffset_keeps {F a} {s1 : State} (fm : 1 &&& F = 1) (h1 : Keeps F a s1) : Keeps F a (@State.showOffset s1) := by
  unfold State.showOffset
  dsimp only
  exact State.put_keeps (sub fm) ‹_›

theorem State.setAligned_keeps {F a} {s1 : State} (fm : 1 &&& F = 1) (h1 : Keeps F a s1) : Keeps F a (@State.setAligned s1) := by
  unfold State.setAligned
  dsimp only
  exact State.bput_keeps (sub fm) ‹_›

theorem State.selectParent_keeps {F a} {s1 : State} (fm : 65 &&& F = 65) (h1 : Keeps F a s1) : Keeps F a (@State.selectParent s1) := by
  unfold State.selectParent
  dsimp only
  split
  · refine State.setAligned_keeps (sub fm) (State.showOffset_keeps (sub fm) (State.fput_keeps (sub fm) (State.fput_keeps (sub fm) ?_)))
    split
    · exact State.bump_keeps (sub fm) (Keeps.set_tick (sub fm) (Keeps.eta ‹_›))
    · assumption
  · refine State.setAligned_keeps (sub fm) (State.showOffset_keeps (sub fm) (Keeps.set_tick (sub fm) (Keeps.eta ?_)))
    split
    · split
      · exact State.fput_keeps (sub fm) (State.fput_keeps (sub fm) ‹_›)
      · split
        · exact State.bput_keeps (sub fm) (State.fput_keeps (sub fm) (State.fput_keeps (sub fm) ‹_›))
        · exact Keeps.set_tick (sub fm) (Keeps.eta (State.bump_keeps (sub fm) (State.put64_keeps (sub fm) (State.fput_keeps (sub fm) (State.fput_keeps (sub fm) ‹_›)))))
    · split
      · exact State.fput_keeps (sub fm) (State.fput_keeps (sub fm) (State.bump_keeps (sub fm) (Keeps.set_tick (sub fm) (Keeps.eta ‹_›))))
      · split
        · exact State.bput_keeps (sub fm) (State.fput_keeps (sub fm) (State.fput_keeps (sub fm) (State.bump_keeps (sub fm) (Keeps.set_tick (sub fm) (Keeps.eta ‹_›)))))
        · exact Keeps.set_tick (sub fm) (Keeps.eta (State.bump_keeps (sub fm) (State.put64_keeps (sub fm) (State.fput_keeps (sub fm) (State.fput_keeps (sub fm) (State.bump_keeps (sub fm) (Keeps.set_tick (sub fm) (Keeps.eta ‹_›))))))))

theorem State.trackPhase_keeps {F a} {s1 : State} (fm : 64 &&& F = 64) (h1 : Keeps F a s1) : Keeps F a (@State.trackPhase s1) := by
  unfold State.trackPhase
  dsimp only
  split
  · assumption
  · split
    · assumption
    · exact Keeps.set_tick (sub fm) (Keeps.eta ‹_›)

end Sys2Proof.Machine
end

