-- ==== Sys2Proof/Laws/KeepsManagement.lean ====
section
/-! SUPPORT. Clocks, errors, Zynken, firmware, dumps, Lanyard, power and the queues keep what `Keeps` says: one lemma per operation, named after it. -/

-- one declaration after another: the threads of parallel elaboration would take the stack of each
set_option Elab.async false

namespace Sys2Proof.Machine

theorem State.windowExceeded_keeps {F a} {s1 : State} {x2} (fm : 244481 &&& F = 244481) (h1 : Keeps F a s1) : Keeps F a (@State.windowExceeded s1 x2) := by
  unfold State.windowExceeded
  exact State.linkDown_keeps (sub fm) (State.updLink_keeps (sub fm) (State.testLanes_keeps (sub fm) (State.raise_keeps (sub fm) ‹_›)))

theorem execErrorWindowExceeded_keeps {F a} {x1} {s2 : State} (fm : 244481 &&& F = 244481) (h2 : Keeps F a s2) {r} (e : @execErrorWindowExceeded x1 s2 = .next r) : Keeps F a r := by
  unfold execErrorWindowExceeded at e
  split at e
  · rw [← Host.Outcome.next.inj e]
    exact State.windowExceeded_keeps (sub fm) ‹_›
  · rw [← Host.Outcome.next.inj e]
    assumption

theorem execFrameBoundary_keeps {F a} {x1 x2} {s3 : State} (fm : 98305 &&& F = 98305) (h3 : Keeps F a s3) {r} (e : @execFrameBoundary x1 x2 s3 = .next r) : Keeps F a r := by
  unfold execFrameBoundary at e
  split at e
  · rw [← Host.Outcome.next.inj e]
    assumption
  · split at e
    · rw [← Host.Outcome.next.inj e]
      assumption
    · rename_i v5 v6 v7
      rw [← Host.Outcome.next.inj e]
      refine State.chooseFrame_keeps (sub fm) ?_
      refine (State.endBegun_keeps (sub fm) ?_ v7 : _)
      assumption

theorem execIdentFrameReceive_keeps {F a} {x1 x2} {s3 : State} (fm : 2147990273 &&& F = 2147990273) (h3 : Keeps F a s3) {r} (e : @execIdentFrameReceive x1 x2 s3 = .next r) : Keeps F a r := by
  unfold execIdentFrameReceive at e
  split at e
  · rw [← Host.Outcome.next.inj e]
    assumption
  · split at e
    · rw [← Host.Outcome.next.inj e]
      exact State.gap_keeps (sub fm) (State.linkError_keeps (sub fm) ‹_›)
    · rw [← Host.Outcome.next.inj e]
      exact State.gap_keeps (sub fm) (State.linkError_keeps (sub fm) ‹_›)
    · rw [← Host.Outcome.next.inj e]
      exact State.bump_keeps (sub fm) ‹_›
    · split at e
      · rw [← Host.Outcome.next.inj e]
        exact State.rxIdent_keeps (sub fm) ‹_›
      · rw [← Host.Outcome.next.inj e]
        assumption

theorem execPortUp_keeps {F a} {x1} {s2 : State} (fm : 32769 &&& F = 32769) (h2 : Keeps F a s2) {r} (e : @execPortUp x1 s2 = .next r) : Keeps F a r := by
  unfold execPortUp at e
  split at e
  · rw [← Host.Outcome.next.inj e]
    exact State.startExchange_keeps (sub fm) ‹_›
  · rw [← Host.Outcome.next.inj e]
    assumption

theorem execIdentResendTimer_keeps {F a} {x1} {s2 : State} (fm : 32768 &&& F = 32768) (h2 : Keeps F a s2) {r} (e : @execIdentResendTimer x1 s2 = .next r) : Keeps F a r := by
  unfold execIdentResendTimer at e
  split at e
  · rw [← Host.Outcome.next.inj e]
    exact State.updLink_keeps (sub fm) ‹_›
  · rw [← Host.Outcome.next.inj e]
    assumption

theorem execHoldExpiry_keeps {F a} {x1} {s2 : State} (fm : 244481 &&& F = 244481) (h2 : Keeps F a s2) {r} (e : @execHoldExpiry x1 s2 = .next r) : Keeps F a r := by
  unfold execHoldExpiry at e
  split at e
  · rw [← Host.Outcome.next.inj e]
    exact State.reExchange_keeps (sub fm) (State.endSession_keeps (sub fm) ‹_›)
  · rw [← Host.Outcome.next.inj e]
    assumption

theorem execReplayTimerExpiry_keeps {F a} {x1} {s2 : State} (fm : 244481 &&& F = 244481) (h2 : Keeps F a s2) {r} (e : @execReplayTimerExpiry x1 s2 = .next r) : Keeps F a r := by
  unfold execReplayTimerExpiry at e
  split at e
  · rw [← Host.Outcome.next.inj e]
    exact State.startReplay_keeps (sub fm) (State.bump_keeps (sub fm) ‹_›)
  · rw [← Host.Outcome.next.inj e]
    assumption

theorem State.failOpen_keeps {F a} {s1 : State} {x2} (fm : 98305 &&& F = 98305) (h1 : Keeps F a s1) : Keeps F a (@State.failOpen s1 x2) := by
  unfold State.failOpen
  split
  · exact State.discardPacket_keeps (sub fm) ‹_›
  · assumption

theorem State.rxSeq_keeps {F a} {s1 : State} {x2 x3 x4} (fm : 2147990273 &&& F = 2147990273) (h1 : Keeps F a s1) : Keeps F a (@State.rxSeq s1 x2 x3 x4) := by
  unfold State.rxSeq
  dsimp only
  split
  · rename_i v1 v2 v3
    refine State.failOpen_keeps (sub fm) ?_
    refine Keeps.fst ?_ v3
    exact State.rxFrame_keeps (sub fm) ‹_›
  · rename_i v4 v5 v6
    split
    · refine State.failOpen_keeps (sub fm) ?_
      refine Keeps.fst ?_ v6
      exact State.rxFrame_keeps (sub fm) ‹_›
    · split
      · split
        · refine State.acceptData_keeps (sub fm) ?_
          refine Keeps.fst ?_ v6
          exact State.rxFrame_keeps (sub fm) ‹_›
        · split
          · refine State.updLink_keeps (sub fm) (State.updLink_keeps (sub fm) ?_)
            refine Keeps.fst ?_ v6
            exact State.rxFrame_keeps (sub fm) ‹_›
          · refine State.updLink_keeps (sub fm) ?_
            refine Keeps.fst ?_ v6
            exact State.rxFrame_keeps (sub fm) ‹_›
      · split
        · refine State.gap_keeps (sub fm) (State.failOpen_keeps (sub fm) ?_)
          refine Keeps.fst ?_ v6
          exact State.rxFrame_keeps (sub fm) ‹_›
        · refine State.failOpen_keeps (sub fm) ?_
          refine Keeps.fst ?_ v6
          exact State.rxFrame_keeps (sub fm) ‹_›

theorem execDataFrameReceive_keeps {F a} {x1 x2} {s3 : State} (fm : 2147990273 &&& F = 2147990273) (h3 : Keeps F a s3) {r} (e : @execDataFrameReceive x1 x2 s3 = .next r) : Keeps F a r := by
  unfold execDataFrameReceive at e
  dsimp only at e
  split at e
  · rw [← Host.Outcome.next.inj e]
    assumption
  · split at e
    · rw [← Host.Outcome.next.inj e]
      exact State.rxCells_keeps (sub fm) (State.updLink_keeps (sub fm) ‹_›)
    · rw [← Host.Outcome.next.inj e]
      exact State.rxSeq_keeps (sub fm) (State.updLink_keeps (sub fm) ‹_›)

theorem execEmptyAckTimer_keeps {F a} {x1} {s2 : State} (fm : 32768 &&& F = 32768) (h2 : Keeps F a s2) {r} (e : @execEmptyAckTimer x1 s2 = .next r) : Keeps F a r := by
  unfold execEmptyAckTimer at e
  split at e
  · rw [← Host.Outcome.next.inj e]
    exact State.updLink_keeps (sub fm) ‹_›
  · rw [← Host.Outcome.next.inj e]
    assumption

theorem execAckFrameReceive_keeps {F a} {x1 x2} {s3 : State} (fm : 2147990273 &&& F = 2147990273) (h3 : Keeps F a s3) {r} (e : @execAckFrameReceive x1 x2 s3 = .next r) : Keeps F a r := by
  unfold execAckFrameReceive at e
  split at e
  · rw [← Host.Outcome.next.inj e]
    assumption
  · split at e
    · rename_i v3 v4 v5
      rw [← Host.Outcome.next.inj e]
      refine Keeps.fst ?_ v5
      exact State.rxFrame_keeps (sub fm) ‹_›
    · rename_i v6 v7 v8
      split at e
      · rw [← Host.Outcome.next.inj e]
        refine State.updLink_keeps (sub fm) ?_
        refine Keeps.fst ?_ v8
        exact State.rxFrame_keeps (sub fm) ‹_›
      · rw [← Host.Outcome.next.inj e]
        refine Keeps.fst ?_ v8
        exact State.rxFrame_keeps (sub fm) ‹_›

theorem State.putDelay_keeps {F a} {s1 : State} {x2 x3} (fm : 1 &&& F = 1) (h1 : Keeps F a s1) : Keeps F a (@State.putDelay s1 x2 x3) := by
  unfold State.putDelay
  dsimp only
  exact State.put_keeps (sub fm) ‹_›

theorem execRefInputLoss_keeps {F a} {x1} {s2 : State} (fm : 65 &&& F = 65) (h2 : Keeps F a s2) {r} (e : @execRefInputLoss x1 s2 = .next r) : Keeps F a r := by
  unfold execRefInputLoss at e
  split at e
  · rw [← Host.Outcome.next.inj e]
    exact State.pllEval_keeps (sub fm) (State.bput_keeps (sub fm) ‹_›)
  · rw [← Host.Outcome.next.inj e]
    assumption

theorem State.measure_keeps {F a} {s1 : State} {x2 x3 x4} (fm : 65 &&& F = 65) (h1 : Keeps F a s1) : Keeps F a (@State.measure s1 x2 x3 x4) := by
  unfold State.measure
  dsimp only
  split
  · exact Keeps.set_tick (sub fm) (Keeps.eta (State.putDelay_keeps (sub fm) ‹_›))
  · exact State.putDelay_keeps (sub fm) ‹_›

theorem State.takeMarker_keeps {F a} {s1 : State} {x2 x3 x4} (fm : 32833 &&& F = 32833) (h1 : Keeps F a s1) : Keeps F a (@State.takeMarker s1 x2 x3 x4) := by
  unfold State.takeMarker
  dsimp only
  refine State.setAligned_keeps (sub fm) (State.showOffset_keeps (sub fm) ?_)
  split
  · exact State.measure_keeps (sub fm) (Keeps.set_tick (sub fm) (Keeps.eta (State.updLink_keeps (sub fm) ‹_›)))
  · exact Keeps.set_tick (sub fm) (Keeps.eta (State.updLink_keeps (sub fm) ‹_›))

theorem execTickMarkerReceive_keeps {F a} {x1 x2 x3} {s4 : State} (fm : 2147990337 &&& F = 2147990337) (h4 : Keeps F a s4) {r} (e : @execTickMarkerReceive x1 x2 x3 s4 = .next r) : Keeps F a r := by
  unfold execTickMarkerReceive at e
  split at e
  · rw [← Host.Outcome.next.inj e]
    assumption
  · split at e
    · rename_i v3 v4 v5
      rw [← Host.Outcome.next.inj e]
      refine Keeps.fst ?_ v5
      exact State.rxFrame_keeps (sub fm) ‹_›
    · rename_i v6 v7 v8
      split at e
      · rw [← Host.Outcome.next.inj e]
        refine Keeps.fst ?_ v8
        exact State.rxFrame_keeps (sub fm) ‹_›
      · rw [← Host.Outcome.next.inj e]
        refine State.takeMarker_keeps (sub fm) ?_
        refine Keeps.fst ?_ v8
        exact State.rxFrame_keeps (sub fm) ‹_›

theorem execRefInputGood_keeps {F a} {x1} {s2 : State} (fm : 65 &&& F = 65) (h2 : Keeps F a s2) {r} (e : @execRefInputGood x1 s2 = .next r) : Keeps F a r := by
  unfold execRefInputGood at e
  split at e
  · rw [← Host.Outcome.next.inj e]
    exact State.pllEval_keeps (sub fm) (State.bput_keeps (sub fm) ‹_›)
  · rw [← Host.Outcome.next.inj e]
    assumption

theorem execHoldoverTimeout_keeps {F a} {s1 : State} (fm : 136348161 &&& F = 136348161) (h1 : Keeps F a s1) {r} (e : @execHoldoverTimeout s1 = .next r) : Keeps F a r := by
  unfold execHoldoverTimeout at e
  split at e
  · rw [← Host.Outcome.next.inj e]
    exact State.enterFatal_keeps (sub fm) ‹_›
  · rw [← Host.Outcome.next.inj e]
    assumption

theorem execPcieErrorDetected_keeps {F a} {x1 x2} {s3 : State} (fm : 1 &&& F = 1) (h3 : Keeps F a s3) {r} (e : @execPcieErrorDetected x1 x2 s3 = .next r) : Keeps F a r := by
  unfold execPcieErrorDetected at e
  split at e
  · rw [← Host.Outcome.next.inj e]
    assumption
  · rw [← Host.Outcome.next.inj e]
    exact State.pfEvent_keeps (sub fm) (State.raise_keeps (sub fm) ‹_›)

theorem execContextCacheEccError_keeps {F a} {x1 x2} {s3 : State} (fm : 136559393 &&& F = 136559393) (h3 : Keeps F a s3) {r} (e : @execContextCacheEccError x1 x2 s3 = .next r) : Keeps F a r := by
  unfold execContextCacheEccError at e
  split at e
  · rw [← Host.Outcome.next.inj e]
    exact State.rowStart_keeps (sub fm) ‹_›
  · rw [← Host.Outcome.next.inj e]
    assumption

theorem execHbmEccError_keeps {F a} {x1 x2 x3} {s4 : State} (fm : 513 &&& F = 513) (h4 : Keeps F a s4) {r} (e : @execHbmEccError x1 x2 x3 s4 = .next r) : Keeps F a r := by
  unfold execHbmEccError at e
  dsimp only at e
  split at e
  · rw [← Host.Outcome.next.inj e]
    assumption
  · rw [← Host.Outcome.next.inj e]
    exact State.detect_keeps (sub fm) (State.bump_keeps (sub fm) ‹_›)

theorem State.engineCheck_keeps {F a} {s1 : State} {x2 x3} (fm : 10201596545 &&& F = 10201596545) (h1 : Keeps F a s1) : Keeps F a (@State.engineCheck s1 x2 x3) := by
  unfold State.engineCheck
  exact State.cleatAbandonOrigin_keeps (sub fm) (State.detect_keeps (sub fm) (State.fput_keeps (sub fm) ‹_›))

theorem execCfgParityError_keeps {F a} {x1} {s2 : State} (fm : 513 &&& F = 513) (h2 : Keeps F a s2) {r} (e : @execCfgParityError x1 s2 = .next r) : Keeps F a r := by
  unfold execCfgParityError at e
  split at e
  · rw [← Host.Outcome.next.inj e]
    assumption
  · split at e
    · rw [← Host.Outcome.next.inj e]
      exact State.detect_keeps (sub fm) ‹_›
    · rw [← Host.Outcome.next.inj e]
      assumption

theorem execEngineMemoryEccError_keeps {F a} {x1 x2} {s3 : State} (fm : 10201596545 &&& F = 10201596545) (h3 : Keeps F a s3) {r} (e : @execEngineMemoryEccError x1 x2 s3 = .next r) : Keeps F a r := by
  unfold execEngineMemoryEccError at e
  split at e
  · rw [← Host.Outcome.next.inj e]
    assumption
  · rw [← Host.Outcome.next.inj e]
    exact State.engineCheck_keeps (sub fm) (State.bump_keeps (sub fm) ‹_›)

theorem execReplayBufferEccError_keeps {F a} {x1 x2 x3 x4} {s5 : State} (fm : 136559393 &&& F = 136559393) (h5 : Keeps F a s5) {r} (e : @execReplayBufferEccError x1 x2 x3 x4 s5 = .next r) : Keeps F a r := by
  unfold execReplayBufferEccError at e
  dsimp only at e
  split at e
  · rw [← Host.Outcome.next.inj e]
    assumption
  · rw [← Host.Outcome.next.inj e]
    refine State.rowError_keeps (sub fm) (State.bump_keeps (sub fm) ?_)
    split
    · assumption
    · exact State.updLink_keeps (sub fm) ‹_›

theorem execRingHopParityError_keeps {F a} {x1 x2} {s3 : State} (fm : 513 &&& F = 513) (h3 : Keeps F a s3) {r} (e : @execRingHopParityError x1 x2 s3 = .next r) : Keeps F a r := by
  unfold execRingHopParityError at e
  split at e
  · rw [← Host.Outcome.next.inj e]
    assumption
  · rw [← Host.Outcome.next.inj e]
    exact State.detect_keeps (sub fm) ‹_›

theorem execRoutingUnitEccError_keeps {F a} {x1 x2} {s3 : State} (fm : 136559393 &&& F = 136559393) (h3 : Keeps F a s3) {r} (e : @execRoutingUnitEccError x1 x2 s3 = .next r) : Keeps F a r := by
  unfold execRoutingUnitEccError at e
  dsimp only at e
  split at e
  · rw [← Host.Outcome.next.inj e]
    assumption
  · split at e
    · split at e
      · rw [← Host.Outcome.next.inj e]
        exact State.rowError_keeps (sub fm) ‹_›
      · rw [← Host.Outcome.next.inj e]
        exact State.enterFatal_keeps (sub fm) (State.rowError_keeps (sub fm) ‹_›)
    · split at e
      · rw [← Host.Outcome.next.inj e]
        exact State.rowError_keeps (sub fm) ‹_›
      · rw [← Host.Outcome.next.inj e]
        exact State.enterFatal_keeps (sub fm) (State.rowError_keeps (sub fm) ‹_›)

theorem execBusLaneParityError_keeps {F a} {x1 x2} {s3 : State} (fm : 513 &&& F = 513) (h3 : Keeps F a s3) {r} (e : @execBusLaneParityError x1 x2 s3 = .next r) : Keeps F a r := by
  unfold execBusLaneParityError at e
  split at e
  · rw [← Host.Outcome.next.inj e]
    assumption
  · rw [← Host.Outcome.next.inj e]
    exact State.detect_keeps (sub fm) ‹_›

theorem execFenceTimeout_keeps {F a} {x1} {s2 : State} (fm : 2049 &&& F = 2049) (h2 : Keeps F a s2) {r} (e : @execFenceTimeout x1 s2 = .next r) : Keeps F a r := by
  unfold execFenceTimeout at e
  dsimp only at e
  split at e
  · rw [← Host.Outcome.next.inj e]
    assumption
  · split at e
    · rw [← Host.Outcome.next.inj e]
      assumption
    · split at e
      · rw [← Host.Outcome.next.inj e]
        exact State.raise_keeps (sub fm) (Keeps.set_svc (sub fm) (Keeps.eta ‹_›))
      · rw [← Host.Outcome.next.inj e]
        assumption

theorem execFenceComplete_keeps {F a} {x1} {s2 : State} (fm : 8589936897 &&& F = 8589936897) (h2 : Keeps F a s2) {r} (e : @execFenceComplete x1 s2 = .next r) : Keeps F a r := by
  unfold execFenceComplete at e
  dsimp only at e
  split at e
  · rw [← Host.Outcome.next.inj e]
    assumption
  · split at e
    · rw [← Host.Outcome.next.inj e]
      split
      · exact State.setFenced_keeps (sub fm) (State.nocRun_keeps (sub fm) ‹_›)
      · exact State.nocRun_keeps (sub fm) ‹_›
    · rw [← Host.Outcome.next.inj e]
      assumption

theorem execSelfTestVerdict_keeps {F a} {x1 x2 x3} {s4 : State} (fm : 136560417 &&& F = 136560417) (h4 : Keeps F a s4) {r} (e : @execSelfTestVerdict x1 x2 x3 s4 = .next r) : Keeps F a r := by
  unfold execSelfTestVerdict at e
  dsimp only at e
  split at e
  · rw [← Host.Outcome.next.inj e]
    assumption
  · split at e
    · rw [← Host.Outcome.next.inj e]
      assumption
    · split at e
      · rw [← Host.Outcome.next.inj e]
        assumption
      · split at e
        · split at e
          · rw [← Host.Outcome.next.inj e]
            exact State.fullEnd_keeps (sub fm) ‹_›
          · rw [← Host.Outcome.next.inj e]
            assumption
        · rw [← Host.Outcome.next.inj e]
          split
          · exact State.fput_keeps (sub fm) (State.targetVerdict_keeps (sub fm) ‹_›)
          · exact State.targetVerdict_keeps (sub fm) ‹_›

theorem State.zCount_keeps {F a} {s1 : State} {x2} (fm : 1 &&& F = 1) (h1 : Keeps F a s1) : Keeps F a (@State.zCount s1 x2) := by
  unfold State.zCount
  split
  · exact State.bump_keeps (sub fm) ‹_›
  · split
    · exact State.bump_keeps (sub fm) ‹_›
    · split
      · exact State.bump_keeps (sub fm) ‹_›
      · split
        · exact State.bump_keeps (sub fm) ‹_›
        · split
          · exact State.bump_keeps (sub fm) ‹_›
          · assumption

theorem State.zReply_keeps {F a} {s1 : State} {x2 x3 x4} (fm : 32897 &&& F = 32897) (h1 : Keeps F a s1) : Keeps F a (@State.zReply s1 x2 x3 x4) := by
  unfold State.zReply
  dsimp only
  split
  · exact State.sendLany_keeps (sub fm) ‹_›
  · split
    · exact State.pfEvent_keeps (sub fm) (Keeps.set_zyn (sub fm) (Keeps.eta (State.put_keeps (sub fm) (State.bput_keeps (sub fm) (State.hostWrite_keeps (sub fm) ‹_›)))))
    · assumption
  · exact State.emit_keeps ‹_›

theorem State.zAnswerAt_keeps {F a} {s1 : State} {x2 x3 x4 x5 x6 x7} (fm : 32897 &&& F = 32897) (h1 : Keeps F a s1) : Keeps F a (@State.zAnswerAt s1 x2 x3 x4 x5 x6 x7) := by
  unfold State.zAnswerAt
  dsimp only
  exact State.zReply_keeps (sub fm) (State.zCount_keeps (sub fm) ‹_›)

theorem State.zAnswer_keeps {F a} {s1 : State} {x2 x3 x4 x5 x6} (fm : 32897 &&& F = 32897) (h1 : Keeps F a s1) : Keeps F a (@State.zAnswer s1 x2 x3 x4 x5 x6) := by
  unfold State.zAnswer
  exact State.zAnswerAt_keeps (sub fm) ‹_›

theorem State.zRecordAt_keeps {F a} {s1 : State} {x2 x3 x4 x5 x6} (fm : 256 &&& F = 256) (h1 : Keeps F a s1) : Keeps F a (@State.zRecordAt s1 x2 x3 x4 x5 x6) := by
  unfold State.zRecordAt
  exact State.record_keeps (sub fm) ‹_›

theorem State.zRecord_keeps {F a} {s1 : State} {x2 x3 x4 x5} (fm : 256 &&& F = 256) (h1 : Keeps F a s1) : Keeps F a (@State.zRecord s1 x2 x3 x4 x5) := by
  unfold State.zRecord
  exact State.zRecordAt_keeps (sub fm) ‹_›

theorem State.zFinish_keeps {F a} {s1 : State} {x2 x3 x4 x5 x6} (fm : 33153 &&& F = 33153) (h1 : Keeps F a s1) : Keeps F a (@State.zFinish s1 x2 x3 x4 x5 x6) := by
  unfold State.zFinish
  exact State.zAnswer_keeps (sub fm) (State.zRecord_keeps (sub fm) ‹_›)

theorem State.zQueue_keeps {F a} {s1 : State} {x2 x3} (fm : 128 &&& F = 128) (h1 : Keeps F a s1) : Keeps F a (@State.zQueue s1 x2 x3) := by
  unfold State.zQueue
  dsimp only
  exact Keeps.set_zyn (sub fm) (Keeps.eta ‹_›)

theorem State.zReject_keeps {F a} {s1 : State} {x2 x3} (fm : 33153 &&& F = 33153) (h1 : Keeps F a s1) : Keeps F a (@State.zReject s1 x2 x3) := by
  unfold State.zReject
  dsimp only
  exact State.zReply_keeps (sub fm) (State.zCount_keeps (sub fm) (State.zRecord_keeps (sub fm) ‹_›))

theorem State.doRouteCommit_keeps {F a} {s1 : State} {x2} (fm : 131073 &&& F = 131073) (h1 : Keeps F a s1) : Keeps F a (@State.doRouteCommit s1 x2).1 := by
  unfold State.doRouteCommit
  dsimp only
  split
  · dsimp only
    assumption
  · split
    · dsimp only
      assumption
    · split
      · dsimp only
        exact State.fput_keeps (sub fm) (State.fput_keeps (sub fm) ‹_›)
      · split
        · dsimp only
          exact State.fput_keeps (sub fm) (State.fput_keeps (sub fm) ‹_›)
        · dsimp only
          exact Keeps.set_route (sub fm) (Keeps.eta (State.put_keeps (sub fm) (State.fput_keeps (sub fm) (State.fput_keeps (sub fm) (State.bput_keeps (sub fm) (State.bput_keeps (sub fm) (State.bput_keeps (sub fm) ‹_›)))))))

theorem State.doSvcState_keeps {F a} {s1 : State} {x2} (fm : 10606870449 &&& F = 10606870449) (h1 : Keeps F a s1) : Keeps F a (@State.doSvcState s1 x2).1 := by
  unfold State.doSvcState
  dsimp only
  split
  · dsimp only
    assumption
  · split
    · dsimp only
      assumption
    · split
      · dsimp only
        split
        · refine State.chg_keeps (sub fm) (State.noteSvcReq_keeps (sub fm) ?_)
          refine Keeps.fold ?_ ?_
          · exact State.svcCommand_keeps (sub fm) ‹_›
          · intro t10 t11 k12
            exact State.chg_keeps (sub fm) ‹_›
        · refine Keeps.fold ?_ ?_
          · exact State.svcCommand_keeps (sub fm) ‹_›
          · intro t14 t15 k16
            exact State.chg_keeps (sub fm) ‹_›
      · split
        · dsimp only
          exact State.chg_keeps (sub fm) (State.svcCommand_keeps (sub fm) ‹_›)
        · dsimp only
          exact State.svcCommand_keeps (sub fm) ‹_›

theorem State.doViCreate_keeps {F a} {s1 : State} {x2} (fm : 2097409 &&& F = 2097409) (h1 : Keeps F a s1) : Keeps F a (@State.doViCreate s1 x2).1 := by
  unfold State.doViCreate
  dsimp only
  split
  · dsimp only
    assumption
  · split
    · dsimp only
      assumption
    · dsimp only
      exact State.chg_keeps (sub fm) (State.setViState_keeps (sub fm) (State.updVi_keeps (sub fm) (State.put_keeps (sub fm) (State.put_keeps (sub fm) (State.resetRegs_keeps (sub fm) ‹_›)))))

theorem State.doViDestroy_keeps {F a} {s1 : State} {x2} (fm : 9667608961 &&& F = 9667608961) (h1 : Keeps F a s1) : Keeps F a (@State.doViDestroy s1 x2).1 := by
  unfold State.doViDestroy
  dsimp only
  split
  · dsimp only
    assumption
  · dsimp only
    exact State.chg_keeps (sub fm) (State.viDestroyed_keeps (sub fm) ‹_›)

theorem State.doKeyUpdate_keeps {F a} {s1 : State} {x2} (fm : 33 &&& F = 33) (h1 : Keeps F a s1) : Keeps F a (@State.doKeyUpdate s1 x2).1 := by
  unfold State.doKeyUpdate
  dsimp only
  split
  · dsimp only
    assumption
  · split
    · dsimp only
      assumption
    · split
      · dsimp only
        assumption
      · dsimp only
        refine State.chg_keeps (sub fm) ?_
        split
        · exact State.bput_keeps (sub fm) (State.fput_keeps (sub fm) (Keeps.set_psto (sub fm) (Keeps.eta ‹_›)))
        · exact State.keyEffect_keeps (sub fm) (Keeps.set_psto (sub fm) (Keeps.eta ‹_›))

theorem State.doFwActivate_keeps {F a} {s1 : State} {x2 x3} (fm : 1024 &&& F = 1024) (h1 : Keeps F a s1) : Keeps F a (@State.doFwActivate s1 x2 x3).1 := by
  unfold State.doFwActivate
  dsimp only
  split
  · dsimp only
    assumption
  · split
    · dsimp only
      assumption
    · dsimp only
      exact Keeps.set_fw (sub fm) (Keeps.eta ‹_›)

theorem State.doCleatRelease_keeps {F a} {s1 : State} {x2 x3} (fm : 10201596033 &&& F = 10201596033) (h1 : Keeps F a s1) : Keeps F a (@State.doCleatRelease s1 x2 x3).1 := by
  unfold State.doCleatRelease
  dsimp only
  split
  · dsimp only
    assumption
  · split
    · dsimp only
      exact State.cleatRelease_keeps (sub fm) (State.bump_keeps (sub fm) ‹_›)
    · dsimp only
      assumption

theorem State.zWrite_keeps {F a} {s1 : State} {x2 x3 x4 x5 x6} (fm : 11949047787 &&& F = 11949047787) (h1 : Keeps F a s1) : Keeps F a (@State.zWrite s1 x2 x3 x4 x5 x6).1 := by
  unfold State.zWrite
  exact State.writeKeyed_keeps (sub fm) ‹_›

theorem State.doTickElect_keeps {F a} {s1 : State} {x2} (fm : 11949047787 &&& F = 11949047787) (h1 : Keeps F a s1) : Keeps F a (@State.doTickElect s1 x2).1 := by
  unfold State.doTickElect
  dsimp only
  exact State.bput_keeps (sub fm) (State.zWrite_keeps (sub fm) ‹_›)

theorem State.doFailover_keeps {F a} {s1 : State} {x2} (fm : 2147516417 &&& F = 2147516417) (h1 : Keeps F a s1) : Keeps F a (@State.doFailover s1 x2).1 := by
  unfold State.doFailover
  dsimp only
  split
  · dsimp only
    assumption
  · split
    · dsimp only
      assumption
    · dsimp only
      exact State.event_keeps (State.raise_keeps (sub fm) (State.fput_keeps (sub fm) (State.sendLany_keeps (sub fm) (Keeps.set_lany (sub fm) (Keeps.eta ‹_›)))))

theorem State.doDumpTrigger_keeps {F a} {s1 : State} {x2} (fm : 512 &&& F = 512) (h1 : Keeps F a s1) : Keeps F a (@State.doDumpTrigger s1 x2).1 := by
  unfold State.doDumpTrigger
  dsimp only
  split
  · dsimp only
    assumption
  · dsimp only
    exact Keeps.set_relia (sub fm) (Keeps.eta ‹_›)

theorem State.doOwnerChange_keeps {F a} {s1 : State} {x2} (fm : 11949047787 &&& F = 11949047787) (h1 : Keeps F a s1) : Keeps F a (@State.doOwnerChange s1 x2).1 := by
  unfold State.doOwnerChange
  dsimp only
  refine Keeps.fold ?_ ?_
  · assumption
  · intro t1 t2 k3
    exact State.zWrite_keeps (sub fm) ‹_›

theorem State.doRegWriteKeyed_keeps {F a} {s1 : State} {x2} (fm : 11949047787 &&& F = 11949047787) (h1 : Keeps F a s1) : Keeps F a (@State.doRegWriteKeyed s1 x2).1 := by
  unfold State.doRegWriteKeyed
  dsimp only
  split
  · dsimp only
    assumption
  · dsimp only
    exact State.zWrite_keeps (sub fm) ‹_›

theorem State.zDo_keeps {F a} {s1 : State} {x2} (fm : 12754878459 &&& F = 12754878459) (h1 : Keeps F a s1) : Keeps F a (@State.zDo s1 x2).1 := by
  unfold State.zDo
  dsimp only
  split
  · exact State.doRouteCommit_keeps (sub fm) ‹_›
  · exact State.doSvcState_keeps (sub fm) ‹_›
  · exact State.doViCreate_keeps (sub fm) ‹_›
  · exact State.doViDestroy_keeps (sub fm) ‹_›
  · exact State.doKeyUpdate_keeps (sub fm) ‹_›
  · exact State.doFwActivate_keeps (sub fm) ‹_›
  · exact State.doCleatRelease_keeps (sub fm) ‹_›
  · exact State.doTickElect_keeps (sub fm) ‹_›
  · exact State.doFailover_keeps (sub fm) ‹_›
  · exact State.doDumpTrigger_keeps (sub fm) ‹_›
  · exact State.doOwnerChange_keeps (sub fm) ‹_›
  · exact State.doRegWriteKeyed_keeps (sub fm) ‹_›
  · dsimp only
    assumption

theorem State.zEffect_keeps {F a} {s1 : State} {x2} (fm : 12754878459 &&& F = 12754878459) (h1 : Keeps F a s1) : Keeps F a (@State.zEffect s1 x2).1 := by
  unfold State.zEffect
  split
  · dsimp only
    assumption
  · split
    · dsimp only
      assumption
    · exact State.zDo_keeps (sub fm) ‹_›

theorem State.zLosers_keeps {F a} {s1 : State} {x2} (fm : 33153 &&& F = 33153) (h1 : Keeps F a s1) : Keeps F a (@State.zLosers s1 x2) := by
  unfold State.zLosers
  refine Keeps.fold ?_ ?_
  · assumption
  · intro t1 t2 k3
    exact State.zFinish_keeps (sub fm) ‹_›

theorem State.zRecords_keeps {F a} {s1 : State} {x2 x3} (fm : 256 &&& F = 256) (h1 : Keeps F a s1) : Keeps F a (@State.zRecords s1 x2 x3) := by
  unfold State.zRecords
  dsimp only
  split
  · assumption
  · refine Keeps.fold ?_ ?_
    · exact State.zRecord_keeps (sub fm) ‹_›
    · intro t3 t4 k5
      exact State.zRecordAt_keeps (sub fm) ‹_›

theorem State.zReplies_keeps {F a} {s1 : State} {x2 x3} (fm : 33153 &&& F = 33153) (h1 : Keeps F a s1) : Keeps F a (@State.zReplies s1 x2 x3) := by
  unfold State.zReplies
  refine State.zLosers_keeps (sub fm) ?_
  split
  · assumption
  · exact State.zAnswer_keeps (sub fm) ‹_›

theorem State.jointCycle_keeps {F a} {s1 : State} {x2 x3} (fm : 12754878459 &&& F = 12754878459) (h1 : Keeps F a s1) : Keeps F a (@State.jointCycle s1 x2 x3).1 := by
  unfold State.jointCycle
  dsimp only
  split
  · dsimp only
    refine State.zLosers_keeps (sub fm) (State.zFinish_keeps (sub fm) ?_)
    refine State.records_keeps (sub fm) ?_ ?_
    · exact Keeps.set_zyn (sub fm) (Keeps.eta ‹_›)
    · exact State.directWrites_keeps (sub fm) (Keeps.set_zyn (sub fm) (Keeps.eta ‹_›))
  · dsimp only
    refine State.zReplies_keeps (sub fm) ?_
    refine State.records_keeps (sub fm) ?_ ?_
    · exact Keeps.set_zyn (sub fm) (Keeps.eta ‹_›)
    · refine State.zRecords_keeps (sub fm) ?_
      refine State.records_keeps (sub fm) ?_ ?_
      · exact Keeps.set_zyn (sub fm) (Keeps.eta ‹_›)
      · exact State.zEffect_keeps (sub fm) (State.directWrites_keeps (sub fm) (Keeps.set_zyn (sub fm) (Keeps.eta ‹_›)))

theorem State.cycle_keeps {F a} {s1 : State} {x2} (fm : 12754878459 &&& F = 12754878459) (h1 : Keeps F a s1) : Keeps F a (@State.cycle s1 x2).1 := by
  unfold State.cycle
  dsimp only
  split
  · exact State.jointCycle_keeps (sub fm) ‹_›
  · dsimp only
    refine State.records_keeps (sub fm) ?_ ?_
    · assumption
    · exact State.directWrites_keeps (sub fm) ‹_›

theorem State.cycleWrites_keeps {F a} {s1 : State} {x2} (fm : 12754878459 &&& F = 12754878459) (h1 : Keeps F a s1) : Keeps F a (@State.cycleWrites s1 x2) := by
  unfold State.cycleWrites
  exact State.cycle_keeps (sub fm) ‹_›

theorem State.zWindow_keeps {F a} {s1 : State} (fm : 33153 &&& F = 33153) (h1 : Keeps F a s1) : Keeps F a (@State.zWindow s1) := by
  unfold State.zWindow
  dsimp only
  refine State.bump_keeps (sub fm) ?_
  refine Keeps.fold ?_ ?_
  · refine Keeps.fold ?_ ?_
    · exact Keeps.set_zyn (sub fm) (Keeps.eta ‹_›)
    · intro t1 t2 k3
      exact State.zFinish_keeps (sub fm) ‹_›
  · intro t4 t5 k6
    exact State.zLosers_keeps (sub fm) ‹_›

theorem State.zExec_keeps {F a} {s1 : State} {x2} (fm : 12754878459 &&& F = 12754878459) (h1 : Keeps F a s1) : Keeps F a (@State.zExec s1 x2) := by
  unfold State.zExec
  dsimp only
  exact State.zReplies_keeps (sub fm) (State.zRecords_keeps (sub fm) (State.zEffect_keeps (sub fm) ‹_›))

theorem State.zRunTo_keeps {F a} {x1 x2} {s3 : State} (fm : 12754878459 &&& F = 12754878459) (h3 : Keeps F a s3) : Keeps F a (@State.zRunTo x1 x2 s3) := by
  induction x2 generalizing x1 s3
  · unfold State.zRunTo
    assumption
  · rename_i v1 ih
    unfold State.zRunTo
    dsimp only
    split
    · assumption
    · split
      · assumption
      · split
        · assumption
        · apply ih
          exact State.zExec_keeps (sub fm) (State.refillTo_keeps (sub fm) (Keeps.set_tick (sub fm) (Keeps.set_zyn (sub fm) (Keeps.eta ‹_›))))

theorem State.zReached_keeps {F a} {s1 : State} {x2} (fm : 12754878459 &&& F = 12754878459) (h1 : Keeps F a s1) : Keeps F a (@State.zReached s1 x2) := by
  unfold State.zReached
  exact State.zRunTo_keeps (sub fm) ‹_›

theorem State.zLoad_keeps {F a} {s1 : State} {x2} (fm : 33185 &&& F = 33185) (h1 : Keeps F a s1) : Keeps F a (@State.zLoad s1 x2) := by
  unfold State.zLoad
  split
  · exact State.zFinish_keeps (sub fm) ‹_›
  · exact State.zFinish_keeps (sub fm) (State.chg_keeps (sub fm) (State.setSlot_keeps (sub fm) ‹_›))

theorem State.zLoads_keeps {F a} {s1 : State} (fm : 33185 &&& F = 33185) (h1 : Keeps F a s1) : Keeps F a (@State.zLoads s1) := by
  unfold State.zLoads
  dsimp only
  refine Keeps.fold ?_ ?_
  · exact Keeps.set_zyn (sub fm) (Keeps.eta ‹_›)
  · intro t1 t2 k3
    exact State.zLoad_keeps (sub fm) ‹_›

theorem State.zOffOne_keeps {F a} {s1 : State} {x2} (fm : 12754878459 &&& F = 12754878459) (h1 : Keeps F a s1) : Keeps F a (@State.zOffOne s1 x2) := by
  unfold State.zOffOne
  split
  · exact State.zLosers_keeps (sub fm) (State.zFinish_keeps (sub fm) ‹_›)
  · split
    · exact State.zLosers_keeps (sub fm) (State.zFinish_keeps (sub fm) ‹_›)
    · split
      · exact State.zLosers_keeps (sub fm) (State.zFinish_keeps (sub fm) ‹_›)
      · exact State.zExec_keeps (sub fm) ‹_›

theorem State.zOffRun_keeps {F a} {x1} {s2 : State} (fm : 12754878459 &&& F = 12754878459) (h2 : Keeps F a s2) : Keeps F a (@State.zOffRun x1 s2) := by
  induction x1 generalizing s2
  · unfold State.zOffRun
    assumption
  · rename_i v1 ih
    unfold State.zOffRun
    dsimp only
    split
    · assumption
    · split
      · apply ih
        exact State.zOffOne_keeps (sub fm) (Keeps.set_zyn (sub fm) (Keeps.eta ‹_›))
      · assumption

theorem State.zAfterPersist_keeps {F a} {s1 : State} (fm : 12754878459 &&& F = 12754878459) (h1 : Keeps F a s1) : Keeps F a (@State.zAfterPersist s1) := by
  unfold State.zAfterPersist
  dsimp only
  split
  · exact State.zLoads_keeps (sub fm) ‹_›
  · exact State.zOffRun_keeps (sub fm) (State.zLoads_keeps (sub fm) ‹_›)

theorem State.zFlush_keeps {F a} {s1 : State} (fm : 12754878459 &&& F = 12754878459) (h1 : Keeps F a s1) : Keeps F a (@State.zFlush s1) := by
  unfold State.zFlush
  exact State.zReached_keeps (sub fm) ‹_›

theorem State.powerOff_keeps {F a} {s1 : State} {x2} (fm : 17179869183 &&& F = 17179869183) (h1 : Keeps F a s1) : Keeps F a (@State.powerOff s1 x2) := by
  unfold State.powerOff
  exact State.zAfterPersist_keeps (sub fm) (State.openSwitch_keeps (sub fm) ‹_›)

theorem State.keysDue_keeps {F a} {s1 : State} (fm : 33 &&& F = 33) (h1 : Keeps F a s1) : Keeps F a (@State.keysDue s1) := by
  unfold State.keysDue
  refine Keeps.fold ?_ ?_
  · assumption
  · intro t1 t2 k3
    split
    · assumption
    · split
      · exact State.keyEffect_keeps (sub fm) ‹_›
      · assumption

theorem State.idle_keeps {F a} {s1 : State} (fm : 12754878459 &&& F = 12754878459) (h1 : Keeps F a s1) : Keeps F a (@State.idle s1) := by
  unfold State.idle
  dsimp only
  split
  · split
    · exact State.refillTo_keeps (sub fm) (idleCycle_keeps (sub fm) (State.nocTick_keeps (sub fm) (State.zReached_keeps (sub fm) ‹_›)))
    · exact idleCycle_keeps (sub fm) (State.nocTick_keeps (sub fm) (State.zReached_keeps (sub fm) ‹_›))
  · split
    · exact State.refillTo_keeps (sub fm) (idleCycle_keeps (sub fm) (State.nocTick_keeps (sub fm) ‹_›))
    · exact idleCycle_keeps (sub fm) (State.nocTick_keeps (sub fm) ‹_›)

theorem State.cycleOne_keeps {F a} {s1 : State} {x2} (fm : 12754878459 &&& F = 12754878459) (h1 : Keeps F a s1) : Keeps F a (@State.cycleOne s1 x2).1 := by
  unfold State.cycleOne
  dsimp only
  exact State.cycle_keeps (sub fm) ‹_›

theorem State.zSessionRec_keeps {F a} {s1 : State} {x2 x3} (fm : 256 &&& F = 256) (h1 : Keeps F a s1) : Keeps F a (@State.zSessionRec s1 x2 x3) := by
  unfold State.zSessionRec
  split
  · assumption
  · exact State.zRecord_keeps (sub fm) ‹_›

theorem State.zSessionDone_keeps {F a} {s1 : State} {x2 x3 x4} (fm : 257 &&& F = 257) (h1 : Keeps F a s1) : Keeps F a (@State.zSessionDone s1 x2 x3 x4) := by
  unfold State.zSessionDone
  exact State.emit_keeps (State.bump_keeps (sub fm) (State.zSessionRec_keeps (sub fm) ‹_›))

theorem State.sessionRead_keeps {F a} {s1 : State} {x2 x3 x4} (fm : 10200551815 &&& F = 10200551815) (h1 : Keeps F a s1) : Keeps F a (@State.sessionRead s1 x2 x3 x4) := by
  unfold State.sessionRead
  dsimp only
  split
  · split
    · rename_i v4 v5 v6 v7
      refine State.zSessionDone_keeps (sub fm) ?_
      refine Keeps.fst ?_ v7
      exact State.cleatReadFrom_keeps (sub fm) ‹_›
    · rename_i v8 v9 v10
      refine State.bump_keeps (sub fm) (State.zSessionRec_keeps (sub fm) (Keeps.set_zyn (sub fm) (Keeps.eta ?_)))
      refine Keeps.fst ?_ v10
      exact State.cleatReadFrom_keeps (sub fm) ‹_›
  · exact State.zSessionDone_keeps (sub fm) (State.readAt_keeps (sub fm) ‹_›)

theorem State.touchSession_keeps {F a} {s1 : State} (fm : 128 &&& F = 128) (h1 : Keeps F a s1) : Keeps F a (@State.touchSession s1) := by
  unfold State.touchSession
  dsimp only
  exact Keeps.set_zyn (sub fm) (Keeps.eta ‹_›)

theorem State.openSession_keeps {F a} {s1 : State} {x2} (fm : 10201596033 &&& F = 10201596033) (h1 : Keeps F a s1) : Keeps F a (@State.openSession s1 x2) := by
  unfold State.openSession
  dsimp only
  exact State.fput_keeps (sub fm) (State.bput_keeps (sub fm) (State.bput_keeps (sub fm) (Keeps.set_zyn (sub fm) (Keeps.eta (State.touchSession_keeps (sub fm) (State.closeSession_keeps (sub fm) ‹_›))))))

theorem State.sessionWrite_keeps {F a} {s1 : State} {x2 x3 x4} (fm : 12754878459 &&& F = 12754878459) (h1 : Keeps F a s1) : Keeps F a (@State.sessionWrite s1 x2 x3 x4) := by
  unfold State.sessionWrite
  dsimp only
  split
  · exact State.zSessionDone_keeps (sub fm) (State.cleatWriteFrom_keeps (sub fm) ‹_›)
  · exact State.zSessionDone_keeps (sub fm) (State.cycleOne_keeps (sub fm) ‹_›)

theorem State.sessionFrame_keeps {F a} {s1 : State} {x2} (fm : 12754878463 &&& F = 12754878463) (h1 : Keeps F a s1) : Keeps F a (@State.sessionFrame s1 x2) := by
  unfold State.sessionFrame
  split
  · exact State.zSessionDone_keeps (sub fm) (State.openSession_keeps (sub fm) ‹_›)
  · exact State.zSessionDone_keeps (sub fm) (State.closeSession_keeps (sub fm) ‹_›)
  · split
    · exact State.sessionRead_keeps (sub fm) ‹_›
    · assumption
  · split
    · exact State.sessionWrite_keeps (sub fm) ‹_›
    · assumption
  · assumption

theorem State.zArrive_keeps {F a} {s1 : State} {x2 x3} (fm : 12754878463 &&& F = 12754878463) (h1 : Keeps F a s1) : Keeps F a (@State.zArrive s1 x2 x3) := by
  unfold State.zArrive
  dsimp only
  split
  · exact State.zReject_keeps (sub fm) ‹_›
  · split
    · split
      · exact State.zReject_keeps (sub fm) ‹_›
      · split
        · exact State.zFinish_keeps (sub fm) ‹_›
        · split
          · refine State.zFinish_keeps (sub fm) ?_
            split
            · split
              · exact State.touchSession_keeps (sub fm) (State.setHwm_keeps (sub fm) ‹_›)
              · exact State.setHwm_keeps (sub fm) ‹_›
            · split
              · exact State.touchSession_keeps (sub fm) (State.setHwm_keeps (sub fm) ‹_›)
              · exact State.setHwm_keeps (sub fm) ‹_›
          · split
            · refine State.sessionFrame_keeps (sub fm) ?_
              split
              · split
                · exact State.touchSession_keeps (sub fm) (State.setHwm_keeps (sub fm) ‹_›)
                · exact State.setHwm_keeps (sub fm) ‹_›
              · split
                · exact State.touchSession_keeps (sub fm) (State.setHwm_keeps (sub fm) ‹_›)
                · exact State.setHwm_keeps (sub fm) ‹_›
            · split
              · split
                · split
                  · exact State.zFinish_keeps (sub fm) (State.touchSession_keeps (sub fm) (State.setHwm_keeps (sub fm) ‹_›))
                  · exact State.zQueue_keeps (sub fm) (State.touchSession_keeps (sub fm) (State.setHwm_keeps (sub fm) ‹_›))
                · split
                  · exact State.zFinish_keeps (sub fm) (State.setHwm_keeps (sub fm) ‹_›)
                  · exact State.zQueue_keeps (sub fm) (State.setHwm_keeps (sub fm) ‹_›)
              · split
                · split
                  · exact State.zFinish_keeps (sub fm) (State.touchSession_keeps (sub fm) (State.setHwm_keeps (sub fm) ‹_›))
                  · exact State.zQueue_keeps (sub fm) (State.touchSession_keeps (sub fm) (State.setHwm_keeps (sub fm) ‹_›))
                · split
                  · exact State.zFinish_keeps (sub fm) (State.setHwm_keeps (sub fm) ‹_›)
                  · exact State.zQueue_keeps (sub fm) (State.setHwm_keeps (sub fm) ‹_›)
    · split
      · exact State.zReject_keeps (sub fm) ‹_›
      · split
        · exact State.zFinish_keeps (sub fm) ‹_›
        · split
          · refine State.zFinish_keeps (sub fm) ?_
            split
            · split
              · exact State.touchSession_keeps (sub fm) (State.setHwm_keeps (sub fm) ‹_›)
              · exact State.setHwm_keeps (sub fm) ‹_›
            · split
              · exact State.touchSession_keeps (sub fm) (State.setHwm_keeps (sub fm) ‹_›)
              · exact State.setHwm_keeps (sub fm) ‹_›
          · split
            · refine State.sessionFrame_keeps (sub fm) ?_
              split
              · split
                · exact State.touchSession_keeps (sub fm) (State.setHwm_keeps (sub fm) ‹_›)
                · exact State.setHwm_keeps (sub fm) ‹_›
              · split
                · exact State.touchSession_keeps (sub fm) (State.setHwm_keeps (sub fm) ‹_›)
                · exact State.setHwm_keeps (sub fm) ‹_›
            · split
              · split
                · split
                  · exact State.zFinish_keeps (sub fm) (State.touchSession_keeps (sub fm) (State.setHwm_keeps (sub fm) ‹_›))
                  · exact State.zQueue_keeps (sub fm) (State.touchSession_keeps (sub fm) (State.setHwm_keeps (sub fm) ‹_›))
                · split
                  · exact State.zFinish_keeps (sub fm) (State.setHwm_keeps (sub fm) ‹_›)
                  · exact State.zQueue_keeps (sub fm) (State.setHwm_keeps (sub fm) ‹_›)
              · split
                · split
                  · exact State.zFinish_keeps (sub fm) (State.touchSession_keeps (sub fm) (State.setHwm_keeps (sub fm) ‹_›))
                  · exact State.zQueue_keeps (sub fm) (State.touchSession_keeps (sub fm) (State.setHwm_keeps (sub fm) ‹_›))
                · split
                  · exact State.zFinish_keeps (sub fm) (State.setHwm_keeps (sub fm) ‹_›)
                  · exact State.zQueue_keeps (sub fm) (State.setHwm_keeps (sub fm) ‹_›)

theorem State.zRow_keeps {F a} {s1 : State} {x2 x3 x4} (fm : 12754878463 &&& F = 12754878463) (h1 : Keeps F a s1) : Keeps F a (@State.zRow s1 x2 x3 x4) := by
  unfold State.zRow
  split
  · split
    · exact State.nocWait_keeps (sub fm) ‹_›
    · exact State.zArrive_keeps (sub fm) ‹_›
  · assumption

theorem State.readMailbox_keeps {F a} {s1 : State} {x2 x3} (fm : 12754878463 &&& F = 12754878463) (h1 : Keeps F a s1) : Keeps F a (@State.readMailbox s1 x2 x3) := by
  unfold State.readMailbox
  dsimp only
  split
  · exact State.zArrive_keeps (sub fm) (Keeps.set_zyn (sub fm) (Keeps.eta ‹_›))
  · assumption

theorem execZcmdGo_keeps {F a} {x1 x2} {s3 : State} (fm : 12754878463 &&& F = 12754878463) (h3 : Keeps F a s3) {r} (e : @execZcmdGo x1 x2 s3 = .next r) : Keeps F a r := by
  unfold execZcmdGo at e
  split at e
  · split at e
    · rw [← Host.Outcome.next.inj e]
      exact State.readMailbox_keeps (sub fm) (State.cycleWrites_keeps (sub fm) ‹_›)
    · rw [← Host.Outcome.next.inj e]
      assumption
  · rw [← Host.Outcome.next.inj e]
    assumption

theorem execRegRead_keeps {F a} {x1 x2} {s3 : State} (fm : 12754878463 &&& F = 12754878463) (h3 : Keeps F a s3) {r} (e : @execRegRead x1 x2 s3 = .next r) : Keeps F a r := by
  unfold execRegRead at e
  rw [← Host.Outcome.next.inj e]
  exact State.zRow_keeps (sub fm) ‹_›

theorem execKeyPendingEffect_keeps {F a} {x1} {s2 : State} (fm : 33 &&& F = 33) (h2 : Keeps F a s2) {r} (e : @execKeyPendingEffect x1 s2 = .next r) : Keeps F a r := by
  unfold execKeyPendingEffect at e
  split at e
  · rw [← Host.Outcome.next.inj e]
    assumption
  · split at e
    · rw [← Host.Outcome.next.inj e]
      exact State.keyEffect_keeps (sub fm) ‹_›
    · rw [← Host.Outcome.next.inj e]
      assumption

theorem execPairFailover_keeps {F a} {x1 x2} {s3 : State} (fm : 12754878463 &&& F = 12754878463) (h3 : Keeps F a s3) {r} (e : @execPairFailover x1 x2 s3 = .next r) : Keeps F a r := by
  unfold execPairFailover at e
  rw [← Host.Outcome.next.inj e]
  exact State.zRow_keeps (sub fm) ‹_›

theorem execRegWriteKeyed_keeps {F a} {x1 x2} {s3 : State} (fm : 12754878463 &&& F = 12754878463) (h3 : Keeps F a s3) {r} (e : @execRegWriteKeyed x1 x2 s3 = .next r) : Keeps F a r := by
  unfold execRegWriteKeyed at e
  rw [← Host.Outcome.next.inj e]
  exact State.zRow_keeps (sub fm) ‹_›

theorem execViCreate_keeps {F a} {x1 x2} {s3 : State} (fm : 12754878463 &&& F = 12754878463) (h3 : Keeps F a s3) {r} (e : @execViCreate x1 x2 s3 = .next r) : Keeps F a r := by
  unfold execViCreate at e
  rw [← Host.Outcome.next.inj e]
  exact State.zRow_keeps (sub fm) ‹_›

theorem execFwActivate_keeps {F a} {x1 x2} {s3 : State} (fm : 12754878463 &&& F = 12754878463) (h3 : Keeps F a s3) {r} (e : @execFwActivate x1 x2 s3 = .next r) : Keeps F a r := by
  unfold execFwActivate at e
  rw [← Host.Outcome.next.inj e]
  exact State.zRow_keeps (sub fm) ‹_›

theorem execKeyUpdate_keeps {F a} {x1 x2} {s3 : State} (fm : 12754878463 &&& F = 12754878463) (h3 : Keeps F a s3) {r} (e : @execKeyUpdate x1 x2 s3 = .next r) : Keeps F a r := by
  unfold execKeyUpdate at e
  rw [← Host.Outcome.next.inj e]
  exact State.zRow_keeps (sub fm) ‹_›

theorem execKeyLoadInitial_keeps {F a} {x1 x2} {s3 : State} (fm : 12754878463 &&& F = 12754878463) (h3 : Keeps F a s3) {r} (e : @execKeyLoadInitial x1 x2 s3 = .next r) : Keeps F a r := by
  unfold execKeyLoadInitial at e
  rw [← Host.Outcome.next.inj e]
  exact State.zRow_keeps (sub fm) ‹_›

theorem execSessionIdleTimeout_keeps {F a} {s1 : State} (fm : 10201596033 &&& F = 10201596033) (h1 : Keeps F a s1) {r} (e : @execSessionIdleTimeout s1 = .next r) : Keeps F a r := by
  unfold execSessionIdleTimeout at e
  split at e
  · rw [← Host.Outcome.next.inj e]
    assumption
  · rw [← Host.Outcome.next.inj e]
    exact State.closeSession_keeps (sub fm) ‹_›

theorem execTickElect_keeps {F a} {x1 x2} {s3 : State} (fm : 12754878463 &&& F = 12754878463) (h3 : Keeps F a s3) {r} (e : @execTickElect x1 x2 s3 = .next r) : Keeps F a r := by
  unfold execTickElect at e
  rw [← Host.Outcome.next.inj e]
  exact State.zRow_keeps (sub fm) ‹_›

theorem execViDestroy_keeps {F a} {x1 x2} {s3 : State} (fm : 12754878463 &&& F = 12754878463) (h3 : Keeps F a s3) {r} (e : @execViDestroy x1 x2 s3 = .next r) : Keeps F a r := by
  unfold execViDestroy at e
  rw [← Host.Outcome.next.inj e]
  exact State.zRow_keeps (sub fm) ‹_›

theorem execRouteCommit_keeps {F a} {x1 x2} {s3 : State} (fm : 12754878463 &&& F = 12754878463) (h3 : Keeps F a s3) {r} (e : @execRouteCommit x1 x2 s3 = .next r) : Keeps F a r := by
  unfold execRouteCommit at e
  rw [← Host.Outcome.next.inj e]
  exact State.zRow_keeps (sub fm) ‹_›

theorem execOwnerChange_keeps {F a} {x1 x2} {s3 : State} (fm : 12754878463 &&& F = 12754878463) (h3 : Keeps F a s3) {r} (e : @execOwnerChange x1 x2 s3 = .next r) : Keeps F a r := by
  unfold execOwnerChange at e
  rw [← Host.Outcome.next.inj e]
  exact State.zRow_keeps (sub fm) ‹_›

theorem execHwmPersisted_keeps {F a} {x1} {s2 : State} (fm : 12754878459 &&& F = 12754878459) (h2 : Keeps F a s2) {r} (e : @execHwmPersisted x1 s2 = .next r) : Keeps F a r := by
  unfold execHwmPersisted at e
  split at e
  · rw [← Host.Outcome.next.inj e]
    assumption
  · split at e
    · rw [← Host.Outcome.next.inj e]
      exact State.zAfterPersist_keeps (sub fm) (State.persistHwm_keeps (sub fm) ‹_›)
    · rw [← Host.Outcome.next.inj e]
      assumption

theorem execCleatRelease_keeps {F a} {x1 x2} {s3 : State} (fm : 12754878463 &&& F = 12754878463) (h3 : Keeps F a s3) {r} (e : @execCleatRelease x1 x2 s3 = .next r) : Keeps F a r := by
  unfold execCleatRelease at e
  rw [← Host.Outcome.next.inj e]
  exact State.zRow_keeps (sub fm) ‹_›

theorem execSvcState_keeps {F a} {x1 x2} {s3 : State} (fm : 12754878463 &&& F = 12754878463) (h3 : Keeps F a s3) {r} (e : @execSvcState x1 x2 s3 = .next r) : Keeps F a r := by
  unfold execSvcState at e
  rw [← Host.Outcome.next.inj e]
  exact State.zRow_keeps (sub fm) ‹_›

theorem execMgmtLinkLoss_keeps {F a} {s1 : State} (fm : 10201596033 &&& F = 10201596033) (h1 : Keeps F a s1) {r} (e : @execMgmtLinkLoss s1 = .next r) : Keeps F a r := by
  unfold execMgmtLinkLoss at e
  rw [← Host.Outcome.next.inj e]
  exact State.closeSession_keeps (sub fm) ‹_›

theorem execSessionClose_keeps {F a} {x1 x2} {s3 : State} (fm : 12754878463 &&& F = 12754878463) (h3 : Keeps F a s3) {r} (e : @execSessionClose x1 x2 s3 = .next r) : Keeps F a r := by
  unfold execSessionClose at e
  rw [← Host.Outcome.next.inj e]
  exact State.zRow_keeps (sub fm) ‹_›

theorem execSessionOpen_keeps {F a} {x1 x2} {s3 : State} (fm : 12754878463 &&& F = 12754878463) (h3 : Keeps F a s3) {r} (e : @execSessionOpen x1 x2 s3 = .next r) : Keeps F a r := by
  unfold execSessionOpen at e
  rw [← Host.Outcome.next.inj e]
  exact State.zRow_keeps (sub fm) ‹_›

theorem execDumpTrigger_keeps {F a} {x1 x2} {s3 : State} (fm : 12754878463 &&& F = 12754878463) (h3 : Keeps F a s3) {r} (e : @execDumpTrigger x1 x2 s3 = .next r) : Keeps F a r := by
  unfold execDumpTrigger at e
  rw [← Host.Outcome.next.inj e]
  exact State.zRow_keeps (sub fm) ‹_›

theorem execRegWrite_keeps {F a} {x1 x2} {s3 : State} (fm : 12754878463 &&& F = 12754878463) (h3 : Keeps F a s3) {r} (e : @execRegWrite x1 x2 s3 = .next r) : Keeps F a r := by
  unfold execRegWrite at e
  rw [← Host.Outcome.next.inj e]
  exact State.zRow_keeps (sub fm) ‹_›

theorem State.writeIf_keeps {F a} {s1 : State} {x2 x3} (fm : 12754878459 &&& F = 12754878459) (h1 : Keeps F a s1) : Keeps F a (@State.writeIf s1 x2 x3) := by
  unfold State.writeIf
  split
  · exact State.cycleWrites_keeps (sub fm) ‹_›
  · assumption

theorem execCmdqEnable_keeps {F a} {x1} {s2 : State} (fm : 12754878459 &&& F = 12754878459) (h2 : Keeps F a s2) {r} (e : @execCmdqEnable x1 s2 = .next r) : Keeps F a r := by
  unfold execCmdqEnable at e
  rw [← Host.Outcome.next.inj e]
  exact State.writeIf_keeps (sub fm) ‹_›

theorem execRetrain_keeps {F a} {x1} {s2 : State} (fm : 12754878459 &&& F = 12754878459) (h2 : Keeps F a s2) {r} (e : @execRetrain x1 s2 = .next r) : Keeps F a r := by
  unfold execRetrain at e
  rw [← Host.Outcome.next.inj e]
  exact State.writeIf_keeps (sub fm) ‹_›

theorem execPairHiCommit_keeps {F a} {x1} {s2 : State} (fm : 12754878459 &&& F = 12754878459) (h2 : Keeps F a s2) {r} (e : @execPairHiCommit x1 s2 = .next r) : Keeps F a r := by
  unfold execPairHiCommit at e
  rw [← Host.Outcome.next.inj e]
  exact State.cycleWrites_keeps (sub fm) ‹_›

theorem execRefselWrite_keeps {F a} {x1} {s2 : State} (fm : 12754878459 &&& F = 12754878459) (h2 : Keeps F a s2) {r} (e : @execRefselWrite x1 s2 = .next r) : Keeps F a r := by
  unfold execRefselWrite at e
  rw [← Host.Outcome.next.inj e]
  exact State.writeIf_keeps (sub fm) ‹_›

theorem execBlkErrinjWrite_keeps {F a} {x1} {s2 : State} (fm : 12754878459 &&& F = 12754878459) (h2 : Keeps F a s2) {r} (e : @execBlkErrinjWrite x1 s2 = .next r) : Keeps F a r := by
  unfold execBlkErrinjWrite at e
  rw [← Host.Outcome.next.inj e]
  exact State.writeIf_keeps (sub fm) ‹_›

theorem execForceSpare_keeps {F a} {x1} {s2 : State} (fm : 12754878459 &&& F = 12754878459) (h2 : Keeps F a s2) {r} (e : @execForceSpare x1 s2 = .next r) : Keeps F a r := by
  unfold execForceSpare at e
  rw [← Host.Outcome.next.inj e]
  exact State.writeIf_keeps (sub fm) ‹_›

theorem execPartitionCommit_keeps {F a} {x1} {s2 : State} (fm : 12754878459 &&& F = 12754878459) (h2 : Keeps F a s2) {r} (e : @execPartitionCommit x1 s2 = .next r) : Keeps F a r := by
  unfold execPartitionCommit at e
  rw [← Host.Outcome.next.inj e]
  exact State.writeIf_keeps (sub fm) ‹_›

theorem execFenceRequest_keeps {F a} {x1} {s2 : State} (fm : 12754878459 &&& F = 12754878459) (h2 : Keeps F a s2) {r} (e : @execFenceRequest x1 s2 = .next r) : Keeps F a r := by
  unfold execFenceRequest at e
  rw [← Host.Outcome.next.inj e]
  exact State.writeIf_keeps (sub fm) ‹_›

theorem execPairLoRead_keeps {F a} {x1 x2} {s3 : State} (fm : 4103 &&& F = 4103) (h3 : Keeps F a s3) {r} (e : @execPairLoRead x1 x2 s3 = .next r) : Keeps F a r := by
  unfold execPairLoRead at e
  split at e
  · rw [← Host.Outcome.next.inj e]
    exact State.badRead_keeps (sub fm) ‹_›
  · split at e
    · split at e
      · rw [← Host.Outcome.next.inj e]
        exact State.readOut_keeps (sub fm) ‹_›
      · rw [← Host.Outcome.next.inj e]
        assumption
    · rw [← Host.Outcome.next.inj e]
      assumption

theorem execNarrowAccess_keeps {F a} {x1 x2} {s3 : State} (fm : 1 &&& F = 1) (h3 : Keeps F a s3) {r} (e : @execNarrowAccess x1 x2 s3 = .next r) : Keeps F a r := by
  unfold execNarrowAccess at e
  rw [← Host.Outcome.next.inj e]
  split
  · exact State.badAccess_keeps (sub fm) ‹_›
  · exact State.badRead_keeps (sub fm) ‹_›

theorem execPairingEnable_keeps {F a} {x1} {s2 : State} (fm : 12754878459 &&& F = 12754878459) (h2 : Keeps F a s2) {r} (e : @execPairingEnable x1 s2 = .next r) : Keeps F a r := by
  unfold execPairingEnable at e
  rw [← Host.Outcome.next.inj e]
  exact State.writeIf_keeps (sub fm) ‹_›

theorem execBlkEnableWrite_keeps {F a} {x1} {s2 : State} (fm : 12754878459 &&& F = 12754878459) (h2 : Keeps F a s2) {r} (e : @execBlkEnableWrite x1 s2 = .next r) : Keeps F a r := by
  unfold execBlkEnableWrite at e
  rw [← Host.Outcome.next.inj e]
  exact State.writeIf_keeps (sub fm) ‹_›

theorem execRouteCopy_keeps {F a} {x1} {s2 : State} (fm : 12754878459 &&& F = 12754878459) (h2 : Keeps F a s2) {r} (e : @execRouteCopy x1 s2 = .next r) : Keeps F a r := by
  unfold execRouteCopy at e
  rw [← Host.Outcome.next.inj e]
  exact State.writeIf_keeps (sub fm) ‹_›

theorem execFenceRelease_keeps {F a} {x1} {s2 : State} (fm : 12754878459 &&& F = 12754878459) (h2 : Keeps F a s2) {r} (e : @execFenceRelease x1 s2 = .next r) : Keeps F a r := by
  unfold execFenceRelease at e
  rw [← Host.Outcome.next.inj e]
  exact State.writeIf_keeps (sub fm) ‹_›

theorem execXlateCommit_keeps {F a} {x1} {s2 : State} (fm : 12754878459 &&& F = 12754878459) (h2 : Keeps F a s2) {r} (e : @execXlateCommit x1 s2 = .next r) : Keeps F a r := by
  unfold execXlateCommit at e
  rw [← Host.Outcome.next.inj e]
  exact State.writeIf_keeps (sub fm) ‹_›

theorem execStageData_keeps {F a} {x1} {s2 : State} (fm : 12754878459 &&& F = 12754878459) (h2 : Keeps F a s2) {r} (e : @execStageData x1 s2 = .next r) : Keeps F a r := by
  unfold execStageData at e
  rw [← Host.Outcome.next.inj e]
  exact State.writeIf_keeps (sub fm) ‹_›

theorem execCtrClear_keeps {F a} {x1} {s2 : State} (fm : 12754878459 &&& F = 12754878459) (h2 : Keeps F a s2) {r} (e : @execCtrClear x1 s2 = .next r) : Keeps F a r := by
  unfold execCtrClear at e
  rw [← Host.Outcome.next.inj e]
  exact State.writeIf_keeps (sub fm) ‹_›

theorem execSelfTestStart_keeps {F a} {x1} {s2 : State} (fm : 12754878459 &&& F = 12754878459) (h2 : Keeps F a s2) {r} (e : @execSelfTestStart x1 s2 = .next r) : Keeps F a r := by
  unfold execSelfTestStart at e
  rw [← Host.Outcome.next.inj e]
  exact State.writeIf_keeps (sub fm) ‹_›

theorem execViEnableWrite_keeps {F a} {x1} {s2 : State} (fm : 12754878459 &&& F = 12754878459) (h2 : Keeps F a s2) {r} (e : @execViEnableWrite x1 s2 = .next r) : Keeps F a r := by
  unfold execViEnableWrite at e
  rw [← Host.Outcome.next.inj e]
  exact State.writeIf_keeps (sub fm) ‹_›

theorem execSoftReset_keeps {F a} {x1} {s2 : State} (fm : 12754878459 &&& F = 12754878459) (h2 : Keeps F a s2) {r} (e : @execSoftReset x1 s2 = .next r) : Keeps F a r := by
  unfold execSoftReset at e
  rw [← Host.Outcome.next.inj e]
  exact State.writeIf_keeps (sub fm) ‹_›

theorem execCplqEnable_keeps {F a} {x1} {s2 : State} (fm : 12754878459 &&& F = 12754878459) (h2 : Keeps F a s2) {r} (e : @execCplqEnable x1 s2 = .next r) : Keeps F a r := by
  unfold execCplqEnable at e
  rw [← Host.Outcome.next.inj e]
  exact State.writeIf_keeps (sub fm) ‹_›

theorem execPairLoWrite_keeps {F a} {x1} {s2 : State} (fm : 12754878459 &&& F = 12754878459) (h2 : Keeps F a s2) {r} (e : @execPairLoWrite x1 s2 = .next r) : Keeps F a r := by
  unfold execPairLoWrite at e
  rw [← Host.Outcome.next.inj e]
  exact State.writeIf_keeps (sub fm) ‹_›

theorem execJournalRecordRead_keeps {F a} {x1 x2} {s3 : State} (fm : 4103 &&& F = 4103) (h3 : Keeps F a s3) {r} (e : @execJournalRecordRead x1 x2 s3 = .next r) : Keeps F a r := by
  unfold execJournalRecordRead at e
  split at e
  · rw [← Host.Outcome.next.inj e]
    exact State.readOut_keeps (sub fm) ‹_›
  · rw [← Host.Outcome.next.inj e]
    assumption

theorem execJournalSizeWrite_keeps {F a} {x1} {s2 : State} (fm : 12754878459 &&& F = 12754878459) (h2 : Keeps F a s2) {r} (e : @execJournalSizeWrite x1 s2 = .next r) : Keeps F a r := by
  unfold execJournalSizeWrite at e
  rw [← Host.Outcome.next.inj e]
  exact State.writeIf_keeps (sub fm) ‹_›

theorem execSnapEnable_keeps {F a} {x1} {s2 : State} (fm : 12754878459 &&& F = 12754878459) (h2 : Keeps F a s2) {r} (e : @execSnapEnable x1 s2 = .next r) : Keeps F a r := by
  unfold execSnapEnable at e
  rw [← Host.Outcome.next.inj e]
  exact State.writeIf_keeps (sub fm) ‹_›

theorem execReadClear_keeps {F a} {x1 x2} {s3 : State} (fm : 4103 &&& F = 4103) (h3 : Keeps F a s3) {r} (e : @execReadClear x1 x2 s3 = .next r) : Keeps F a r := by
  unfold execReadClear at e
  rw [← Host.Outcome.next.inj e]
  exact State.readOut_keeps (sub fm) ‹_›

theorem execRegisterWrite_keeps {F a} {x1} {s2 : State} (fm : 12754878459 &&& F = 12754878459) (h2 : Keeps F a s2) {r} (e : @execRegisterWrite x1 s2 = .next r) : Keeps F a r := by
  unfold execRegisterWrite at e
  rw [← Host.Outcome.next.inj e]
  exact State.cycleWrites_keeps (sub fm) ‹_›

theorem execAllotmentWrite_keeps {F a} {x1} {s2 : State} (fm : 12754878459 &&& F = 12754878459) (h2 : Keeps F a s2) {r} (e : @execAllotmentWrite x1 s2 = .next r) : Keeps F a r := by
  unfold execAllotmentWrite at e
  rw [← Host.Outcome.next.inj e]
  exact State.writeIf_keeps (sub fm) ‹_›

theorem execReefWrite_keeps {F a} {x1} {s2 : State} (fm : 12754878459 &&& F = 12754878459) (h2 : Keeps F a s2) {r} (e : @execReefWrite x1 s2 = .next r) : Keeps F a r := by
  unfold execReefWrite at e
  rw [← Host.Outcome.next.inj e]
  exact State.writeIf_keeps (sub fm) ‹_›

theorem execFwStage_keeps {F a} {x1} {s2 : State} (fm : 12754878459 &&& F = 12754878459) (h2 : Keeps F a s2) {r} (e : @execFwStage x1 s2 = .next r) : Keeps F a r := by
  unfold execFwStage at e
  rw [← Host.Outcome.next.inj e]
  exact State.writeIf_keeps (sub fm) ‹_›

theorem State.reloadVerdict_keeps {F a} {s1 : State} {x2 x3} (fm : 10338155425 &&& F = 10338155425) (h1 : Keeps F a s1) : Keeps F a (@State.reloadVerdict s1 x2 x3) := by
  unfold State.reloadVerdict
  dsimp only
  split
  · exact State.retire_keeps (sub fm) (State.cleatAbandonOrigin_keeps (sub fm) (State.logErr_keeps (sub fm) (State.putVerdict_keeps (sub fm) ‹_›)))
  · exact State.cleatAbandonOrigin_keeps (sub fm) (State.setVerdict_keeps (sub fm) ‹_›)

theorem State.setReload_keeps {F a} {s1 : State} {x2 x3} (fm : 1024 &&& F = 1024) (h1 : Keeps F a s1) : Keeps F a (@State.setReload s1 x2 x3) := by
  unfold State.setReload
  dsimp only
  exact Keeps.set_fw (sub fm) (Keeps.eta ‹_›)

theorem State.setFwAct_keeps {F a} {s1 : State} {x2 x3} (fm : 1024 &&& F = 1024) (h1 : Keeps F a s1) : Keeps F a (@State.setFwAct s1 x2 x3) := by
  unfold State.setFwAct
  dsimp only
  exact Keeps.set_fw (sub fm) (Keeps.eta ‹_›)

theorem State.reloadDone_keeps {F a} {s1 : State} {x2} (fm : 1056 &&& F = 1056) (h1 : Keeps F a s1) : Keeps F a (@State.reloadDone s1 x2) := by
  unfold State.reloadDone
  dsimp only
  split
  · exact State.settleSvn_keeps (sub fm) ‹_›
  · split
    · exact State.settleSvn_keeps (sub fm) (State.setFwAct_keeps (sub fm) ‹_›)
    · exact State.setFwAct_keeps (sub fm) ‹_›

theorem execClusterReloadComplete_keeps {F a} {x1 x2} {s3 : State} (fm : 10338156449 &&& F = 10338156449) (h3 : Keeps F a s3) {r} (e : @execClusterReloadComplete x1 x2 s3 = .next r) : Keeps F a r := by
  unfold execClusterReloadComplete at e
  dsimp only at e
  split at e
  · rw [← Host.Outcome.next.inj e]
    assumption
  · split at e
    · rw [← Host.Outcome.next.inj e]
      assumption
    · split at e
      · rw [← Host.Outcome.next.inj e]
        refine State.reloadDone_keeps (sub fm) (State.raise_keeps (sub fm) (Keeps.set_fw (sub fm) (Keeps.eta (State.bump_keeps (sub fm) (State.bput_keeps (sub fm) (State.bput_keeps (sub fm) ?_))))))
        refine Keeps.fold ?_ ?_
        · exact State.setReload_keeps (sub fm) ‹_›
        · intro t11 t12 k13
          exact State.cleatAbandonOrigin_keeps (sub fm) (State.putVerdict_keeps (sub fm) ‹_›)
      · rw [← Host.Outcome.next.inj e]
        refine State.reloadDone_keeps (sub fm) (State.bump_keeps (sub fm) (State.clusterRuns_keeps (sub fm) ?_))
        refine Keeps.fold ?_ ?_
        · exact State.setReload_keeps (sub fm) ‹_›
        · intro t15 t16 k17
          exact State.reloadVerdict_keeps (sub fm) ‹_›

theorem execFwImageCheckEnd_keeps {F a} {x1} {s2 : State} (fm : 34177 &&& F = 34177) (h2 : Keeps F a s2) {r} (e : @execFwImageCheckEnd x1 s2 = .next r) : Keeps F a r := by
  unfold execFwImageCheckEnd at e
  dsimp only at e
  split at e
  · rw [← Host.Outcome.next.inj e]
    assumption
  · split at e
    · rw [← Host.Outcome.next.inj e]
      assumption
    · split at e
      · rw [← Host.Outcome.next.inj e]
        exact State.zFinish_keeps (sub fm) (State.setFwAct_keeps (sub fm) ‹_›)
      · rw [← Host.Outcome.next.inj e]
        refine State.zAnswerAt_keeps (sub fm) (State.zRecord_keeps (sub fm) ?_)
        split
        · exact State.chg_keeps (sub fm) (State.fput_keeps (sub fm) (State.setFwAct_keeps (sub fm) ‹_›))
        · exact State.setFwAct_keeps (sub fm) ‹_›

theorem execReloadTimeout_keeps {F a} {x1} {s2 : State} (fm : 1025 &&& F = 1025) (h2 : Keeps F a s2) {r} (e : @execReloadTimeout x1 s2 = .next r) : Keeps F a r := by
  unfold execReloadTimeout at e
  split at e
  · rw [← Host.Outcome.next.inj e]
    assumption
  · split at e
    · rw [← Host.Outcome.next.inj e]
      assumption
    · rw [← Host.Outcome.next.inj e]
      exact State.raise_keeps (sub fm) (State.setReload_keeps (sub fm) ‹_›)

theorem State.beginFw_keeps {F a} {s1 : State} (fm : 1056 &&& F = 1056) (h1 : Keeps F a s1) : Keeps F a (@State.beginFw s1) := by
  unfold State.beginFw
  dsimp only
  split
  · assumption
  · split
    · assumption
    · split
      · split
        · exact State.settleSvn_keeps (sub fm) (State.setFwAct_keeps (sub fm) (Keeps.set_fw (sub fm) (Keeps.eta ‹_›)))
        · exact State.setFwAct_keeps (sub fm) (Keeps.set_fw (sub fm) (Keeps.eta ‹_›))
      · split
        · exact State.settleSvn_keeps (sub fm) (State.setFwAct_keeps (sub fm) (Keeps.set_fw (sub fm) (Keeps.eta ‹_›)))
        · exact State.setFwAct_keeps (sub fm) (Keeps.set_fw (sub fm) (Keeps.eta ‹_›))

theorem execStagingEnd_keeps {F a} {x1} {s2 : State} (fm : 33 &&& F = 33) (h2 : Keeps F a s2) {r} (e : @execStagingEnd x1 s2 = .next r) : Keeps F a r := by
  unfold execStagingEnd at e
  dsimp only at e
  split at e
  · rw [← Host.Outcome.next.inj e]
    assumption
  · rw [← Host.Outcome.next.inj e]
    exact State.bump_keeps (sub fm) (State.bump_keeps (sub fm) (State.bput_keeps (sub fm) (State.put_keeps (sub fm) (Keeps.set_psto (sub fm) (Keeps.eta ‹_›)))))

theorem execClusterReload_keeps {F a} {x1} {s2 : State} (fm : 1057 &&& F = 1057) (h2 : Keeps F a s2) {r} (e : @execClusterReload x1 s2 = .next r) : Keeps F a r := by
  unfold execClusterReload at e
  dsimp only at e
  split at e
  · rw [← Host.Outcome.next.inj e]
    assumption
  · split at e
    · rw [← Host.Outcome.next.inj e]
      assumption
    · split at e
      · rw [← Host.Outcome.next.inj e]
        exact State.reloadDone_keeps (sub fm) (Keeps.set_fw (sub fm) (Keeps.eta ‹_›))
      · split at e
        · rw [← Host.Outcome.next.inj e]
          assumption
        · rw [← Host.Outcome.next.inj e]
          exact State.setReload_keeps (sub fm) (State.bput_keeps (sub fm) ‹_›)

theorem State.journalRun_keeps {F a} {s1 : State} {x2} (fm : 2147516417 &&& F = 2147516417) (h1 : Keeps F a s1) : Keeps F a (@State.journalRun s1 x2) := by
  unfold State.journalRun
  dsimp only
  split
  · assumption
  · refine State.bump_keeps (sub fm) (Keeps.set_lany (sub fm) (Keeps.eta ?_))
    refine Keeps.fold ?_ ?_
    · assumption
    · intro t3 t4 k5
      exact State.sendLany_keeps (sub fm) ‹_›

theorem State.moveShare_keeps {F a} {s1 : State} {x2} (fm : 1 &&& F = 1) (h1 : Keeps F a s1) : Keeps F a (@State.moveShare s1 x2) := by
  unfold State.moveShare
  dsimp only
  split
  · split
    · exact State.bump_keeps (sub fm) ‹_›
    · assumption
  · split
    · split
      · exact State.bump_keeps (sub fm) (State.put_keeps (sub fm) ‹_›)
      · exact State.put_keeps (sub fm) ‹_›
    · split
      · split
        · exact State.bump_keeps (sub fm) (State.put_keeps (sub fm) ‹_›)
        · exact State.put_keeps (sub fm) ‹_›
      · split
        · exact State.bump_keeps (sub fm) (State.raise_keeps (sub fm) (State.put_keeps (sub fm) ‹_›))
        · exact State.raise_keeps (sub fm) (State.put_keeps (sub fm) ‹_›)

theorem State.moveShares_keeps {F a} {s1 : State} (fm : 1 &&& F = 1) (h1 : Keeps F a s1) : Keeps F a (@State.moveShares s1) := by
  unfold State.moveShares
  dsimp only
  refine Keeps.fold ?_ ?_
  · refine Keeps.fold ?_ ?_
    · assumption
    · intro t1 t2 k3
      exact State.moveShare_keeps (sub fm) ‹_›
  · intro t4 t5 k6
    split
    · assumption
    · exact State.bput_keeps (sub fm) ‹_›

theorem State.takeCommit_keeps {F a} {s1 : State} {x2 x3} (fm : 2147516417 &&& F = 2147516417) (h1 : Keeps F a s1) : Keeps F a (@State.takeCommit s1 x2 x3) := by
  unfold State.takeCommit
  dsimp only
  split
  · exact Keeps.set_lany (sub fm) (Keeps.eta ‹_›)
  · split
    · split
      · exact State.sendLany_keeps (sub fm) (State.fput_keeps (sub fm) (Keeps.set_lany (sub fm) (Keeps.eta ‹_›)))
      · exact State.fput_keeps (sub fm) (Keeps.set_lany (sub fm) (Keeps.eta ‹_›))
    · split
      · split
        · exact State.sendLany_keeps (sub fm) (State.fput_keeps (sub fm) (Keeps.set_lany (sub fm) (Keeps.eta ‹_›)))
        · exact State.fput_keeps (sub fm) (Keeps.set_lany (sub fm) (Keeps.eta ‹_›))
      · split
        · exact State.sendLany_keeps (sub fm) (State.fput_keeps (sub fm) (Keeps.set_lany (sub fm) (Keeps.eta ‹_›)))
        · exact State.fput_keeps (sub fm) (Keeps.set_lany (sub fm) (Keeps.eta ‹_›))

theorem State.takeJournal_keeps {F a} {s1 : State} {x2} (fm : 2147516417 &&& F = 2147516417) (h1 : Keeps F a s1) : Keeps F a (@State.takeJournal s1 x2) := by
  unfold State.takeJournal
  dsimp only
  refine Keeps.fold ?_ ?_
  · assumption
  · intro t1 t2 k3
    split
    · exact State.takeCommit_keeps (sub fm) ‹_›
    · exact Keeps.set_lany (sub fm) (Keeps.eta ‹_›)

theorem State.adoptCtx_keeps {F a} {s1 : State} {x2 x3 x4 x5} (fm : 136675329 &&& F = 136675329) (h1 : Keeps F a s1) : Keeps F a (@State.adoptCtx s1 x2 x3 x4 x5) := by
  unfold State.adoptCtx
  dsimp only
  split
  · split
    · exact State.sendReset_keeps (sub fm) ‹_›
    · assumption
  · split
    · assumption
    · split
      · split
        · split
          · exact State.endHalf_keeps (sub fm) (State.bump_keeps (sub fm) (State.fput_keeps (sub fm) (State.bump_keeps (sub fm) (State.updXpt_keeps (sub fm) ‹_›))))
          · refine State.sendClose_keeps (sub fm) (State.updTx_keeps (sub fm) ?_)
            split
            · refine Keeps.fold ?_ ?_
              · exact State.bump_keeps (sub fm) (State.fput_keeps (sub fm) (State.bump_keeps (sub fm) (State.updXpt_keeps (sub fm) ‹_›)))
              · intro t15 t16 k17
                exact State.sendCopy_keeps (sub fm) (State.noteCopy_keeps (sub fm) ‹_›)
            · refine State.bump_keeps (sub fm) (State.bump_keeps (sub fm) (State.sendNew_keeps (sub fm) ?_))
              refine Keeps.fold ?_ ?_
              · exact State.bump_keeps (sub fm) (State.fput_keeps (sub fm) (State.bump_keeps (sub fm) (State.updXpt_keeps (sub fm) ‹_›)))
              · intro t19 t20 k21
                exact State.sendCopy_keeps (sub fm) (State.noteCopy_keeps (sub fm) ‹_›)
        · split
          · exact State.endHalf_keeps (sub fm) (State.bump_keeps (sub fm) (State.fput_keeps (sub fm) (State.bump_keeps (sub fm) (State.updXpt_keeps (sub fm) ‹_›))))
          · refine State.sendClose_keeps (sub fm) (State.updTx_keeps (sub fm) ?_)
            split
            · refine Keeps.fold ?_ ?_
              · exact State.bump_keeps (sub fm) (State.fput_keeps (sub fm) (State.bump_keeps (sub fm) (State.updXpt_keeps (sub fm) ‹_›)))
              · intro t26 t27 k28
                exact State.sendCopy_keeps (sub fm) (State.noteCopy_keeps (sub fm) ‹_›)
            · refine State.bump_keeps (sub fm) (State.bump_keeps (sub fm) (State.sendNew_keeps (sub fm) ?_))
              refine Keeps.fold ?_ ?_
              · exact State.bump_keeps (sub fm) (State.fput_keeps (sub fm) (State.bump_keeps (sub fm) (State.updXpt_keeps (sub fm) ‹_›)))
              · intro t30 t31 k32
                exact State.sendCopy_keeps (sub fm) (State.noteCopy_keeps (sub fm) ‹_›)
      · split
        · split
          · exact State.endHalf_keeps (sub fm) (State.bump_keeps (sub fm) (State.fput_keeps (sub fm) (State.bump_keeps (sub fm) (State.updXpt_keeps (sub fm) ‹_›))))
          · refine State.sendClose_keeps (sub fm) (State.updTx_keeps (sub fm) ?_)
            split
            · refine Keeps.fold ?_ ?_
              · exact State.bump_keeps (sub fm) (State.fput_keeps (sub fm) (State.bump_keeps (sub fm) (State.updXpt_keeps (sub fm) ‹_›)))
              · intro t38 t39 k40
                exact State.sendCopy_keeps (sub fm) (State.noteCopy_keeps (sub fm) ‹_›)
            · refine State.bump_keeps (sub fm) (State.bump_keeps (sub fm) (State.sendNew_keeps (sub fm) ?_))
              refine Keeps.fold ?_ ?_
              · exact State.bump_keeps (sub fm) (State.fput_keeps (sub fm) (State.bump_keeps (sub fm) (State.updXpt_keeps (sub fm) ‹_›)))
              · intro t42 t43 k44
                exact State.sendCopy_keeps (sub fm) (State.noteCopy_keeps (sub fm) ‹_›)
        · split
          · exact State.endHalf_keeps (sub fm) (State.bump_keeps (sub fm) (State.fput_keeps (sub fm) (State.bump_keeps (sub fm) (State.updXpt_keeps (sub fm) ‹_›))))
          · refine State.sendClose_keeps (sub fm) (State.updTx_keeps (sub fm) ?_)
            split
            · refine Keeps.fold ?_ ?_
              · exact State.bump_keeps (sub fm) (State.fput_keeps (sub fm) (State.bump_keeps (sub fm) (State.updXpt_keeps (sub fm) ‹_›)))
              · intro t49 t50 k51
                exact State.sendCopy_keeps (sub fm) (State.noteCopy_keeps (sub fm) ‹_›)
            · refine State.bump_keeps (sub fm) (State.bump_keeps (sub fm) (State.sendNew_keeps (sub fm) ?_))
              refine Keeps.fold ?_ ?_
              · exact State.bump_keeps (sub fm) (State.fput_keeps (sub fm) (State.bump_keeps (sub fm) (State.updXpt_keeps (sub fm) ‹_›)))
              · intro t53 t54 k55
                exact State.sendCopy_keeps (sub fm) (State.noteCopy_keeps (sub fm) ‹_›)

theorem State.adoptAll_keeps {F a} {x1 x2 x3 x4} {s5 : State} (fm : 136675329 &&& F = 136675329) (h5 : Keeps F a s5) : Keeps F a (@State.adoptAll x1 x2 x3 x4 s5) := by
  induction x3 generalizing x1 x2 x4 s5
  · unfold State.adoptAll
    assumption
  · rename_i v1 v2 ih
    unfold State.adoptAll
    dsimp only
    apply ih
    exact State.adoptCtx_keeps (sub fm) ‹_›

theorem State.takeLany_keeps {F a} {s1 : State} {x2 x3} (fm : 32768 &&& F = 32768) (h1 : Keeps F a s1) {r} (e : @State.takeLany s1 x2 x3 = some r) : Keeps F a (r.2) := by
  unfold State.takeLany at e
  split at e
  · cases e
  · rw [← Option.some.inj e]
    dsimp only
    exact State.updLink_keeps (sub fm) ‹_›

theorem State.tookFree_keeps {F a} {s1 : State} {x2}  (h1 : Keeps F a s1) : Keeps F a (@State.tookFree s1 x2) := by
  unfold State.tookFree
  exact Keeps.add_freeCtr (Keeps.eta ‹_›)

theorem State.freeBytes_keeps {F a} {s1 : State} {x2}  (h1 : Keeps F a s1) : Keeps F a (@State.freeBytes s1 x2).2 := by
  unfold State.freeBytes
  dsimp only
  exact State.tookFree_keeps ‹_›

theorem State.unexpBytes_keeps {F a} {s1 : State} {x2 x3}  (h1 : Keeps F a s1) : Keeps F a (@State.unexpBytes s1 x2 x3).2 := by
  unfold State.unexpBytes
  dsimp only
  exact State.free_keeps (State.free_keeps (State.free_keeps (State.free_keeps ‹_›)))

theorem State.sections_keeps {F a} {s1 : State} {x2 x3 x4}  (h1 : Keeps F a s1) (h4 : ∀ t1 y2, Keeps F a t1 → Keeps F a ((x4 t1 y2).2)) : Keeps F a (@State.sections s1 x2 x3 x4).2 := by
  unfold State.sections
  dsimp only
  refine Keeps.foldSnd ?_ ?_
  · dsimp only
    assumption
  · intro t1 t2 k3
    dsimp only
    exact h4 _ _ ‹_›

theorem State.cellImage_keeps {F a} {s1 : State} {x2}  (h1 : Keeps F a s1) : Keeps F a (@State.cellImage s1 x2).2 := by
  unfold State.cellImage
  dsimp only
  exact State.tookFree_keeps ‹_›

theorem State.postedBytes_keeps {F a} {s1 : State} {x2 x3}  (h1 : Keeps F a s1) : Keeps F a (@State.postedBytes s1 x2 x3).2 := by
  unfold State.postedBytes
  dsimp only
  exact State.free_keeps ‹_›

theorem State.matchImage_keeps {F a} {s1 : State} {x2}  (h1 : Keeps F a s1) : Keeps F a (@State.matchImage s1 x2).2 := by
  unfold State.matchImage
  dsimp only
  refine Keeps.foldSnd ?_ ?_
  · dsimp only
    assumption
  · intro t1 t2 k3
    refine Keeps.foldSnd ?_ ?_
    · refine Keeps.foldSnd ?_ ?_
      · assumption
      · intro t4 t5 k6
        dsimp only
        exact State.postedBytes_keeps ‹_›
    · intro t7 t8 k9
      dsimp only
      exact State.unexpBytes_keeps ‹_›

theorem State.dumpSections_keeps {F a} {s1 : State} {x2}  (h1 : Keeps F a s1) : Keeps F a (@State.dumpSections s1 x2).2 := by
  unfold State.dumpSections
  dsimp only
  split
  · dsimp only
    refine State.sections_keeps ?_ ?_
    · refine State.sections_keeps ?_ ?_
      · refine State.sections_keeps ?_ ?_
        · refine State.sections_keeps ?_ ?_
          · refine State.sections_keeps ?_ ?_
            · refine State.sections_keeps ?_ ?_
              · refine State.sections_keeps ?_ ?_
                · refine State.sections_keeps ?_ ?_
                  · refine State.sections_keeps ?_ ?_
                    · refine State.sections_keeps ?_ ?_
                      · refine State.sections_keeps ?_ ?_
                        · refine State.sections_keeps ?_ ?_
                          · assumption
                          · intro t2 t3 k4
                            dsimp only
                            assumption
                        · intro t5 t6 k7
                          dsimp only
                          assumption
                      · intro t8 t9 k10
                        dsimp only
                        assumption
                    · intro t11 t12 k13
                      exact State.cellImage_keeps ‹_›
                  · intro t14 t15 k16
                    dsimp only
                    assumption
                · intro t17 t18 k19
                  dsimp only
                  assumption
              · intro t20 t21 k22
                dsimp only
                assumption
            · intro t23 t24 k25
              exact State.matchImage_keeps ‹_›
          · intro t26 t27 k28
            dsimp only
            assumption
        · intro t29 t30 k31
          dsimp only
          assumption
      · intro t32 t33 k34
        dsimp only
        exact State.freeBytes_keeps ‹_›
    · intro t35 t36 k37
      dsimp only
      assumption
  · dsimp only
    refine State.sections_keeps ?_ ?_
    · refine State.sections_keeps ?_ ?_
      · refine State.sections_keeps ?_ ?_
        · assumption
        · intro t39 t40 k41
          dsimp only
          assumption
      · intro t42 t43 k44
        dsimp only
        assumption
    · intro t45 t46 k47
      dsimp only
      assumption

theorem State.writeSecs_keeps {F a} {s1 : State} {x2 x3 x4}  (h1 : Keeps F a s1) : Keeps F a (@State.writeSecs s1 x2 x3 x4).2 := by
  unfold State.writeSecs
  dsimp only
  refine Keeps.foldSnd ?_ ?_
  · dsimp only
    exact State.dumpSections_keeps ‹_›
  · intro t1 t2 k3
    split
    · dsimp only
      exact State.tookFree_keeps (State.free_keeps ‹_›)
    · dsimp only
      exact State.free_keeps ‹_›

theorem State.writeDump_keeps {F a} {s1 : State} {x2 x3 x4 x5} (fm : 512 &&& F = 512) (h1 : Keeps F a s1) : Keeps F a (@State.writeDump s1 x2 x3 x4 x5) := by
  unfold State.writeDump
  dsimp only
  exact Keeps.set_relia (sub fm) (Keeps.eta (State.writeSecs_keeps (State.free_keeps ‹_›)))

theorem State.dumpDone_keeps {F a} {s1 : State} {x2 x3 x4} (fm : 513 &&& F = 513) (h1 : Keeps F a s1) : Keeps F a (@State.dumpDone s1 x2 x3 x4) := by
  unfold State.dumpDone
  dsimp only
  refine Keeps.set_relia (sub fm) (Keeps.eta (State.put_keeps (sub fm) ?_))
  split
  · refine Keeps.fold ?_ ?_
    · assumption
    · intro t2 t3 k4
      exact State.writeDump_keeps (sub fm) ‹_›
  · refine State.bput_keeps (sub fm) ?_
    refine Keeps.fold ?_ ?_
    · assumption
    · intro t6 t7 k8
      exact State.writeDump_keeps (sub fm) ‹_›

theorem execDumpComplete_keeps {F a} {x1} {s2 : State} (fm : 513 &&& F = 513) (h2 : Keeps F a s2) {r} (e : @execDumpComplete x1 s2 = .next r) : Keeps F a r := by
  unfold execDumpComplete at e
  split at e
  · rw [← Host.Outcome.next.inj e]
    assumption
  · split at e
    · rw [← Host.Outcome.next.inj e]
      assumption
    · rw [← Host.Outcome.next.inj e]
      exact State.dumpDone_keeps (sub fm) ‹_›

theorem execDumpLimitExpiry_keeps {F a} {s1 : State} (fm : 513 &&& F = 513) (h1 : Keeps F a s1) {r} (e : @execDumpLimitExpiry s1 = .next r) : Keeps F a r := by
  unfold execDumpLimitExpiry at e
  dsimp only at e
  split at e
  · rw [← Host.Outcome.next.inj e]
    assumption
  · split at e
    · rw [← Host.Outcome.next.inj e]
      assumption
    · rw [← Host.Outcome.next.inj e]
      exact State.dumpDone_keeps (sub fm) (State.free_keeps ‹_›)

theorem State.copySecs_keeps {F a} {s1 : State} {x2 x3 x4 x5 x6}  (h1 : Keeps F a s1) : Keeps F a (@State.copySecs s1 x2 x3 x4 x5 x6).2 := by
  unfold State.copySecs
  refine Keeps.foldSnd ?_ ?_
  · dsimp only
    assumption
  · intro t1 t2 k3
    split
    · dsimp only
      assumption
    · split
      · dsimp only
        assumption
      · dsimp only
        exact State.emit_keeps ‹_›

theorem execDumpHostCopyEnd_keeps {F a} {x1} {s2 : State} (fm : 513 &&& F = 513) (h2 : Keeps F a s2) {r} (e : @execDumpHostCopyEnd x1 s2 = .next r) : Keeps F a r := by
  unfold execDumpHostCopyEnd at e
  dsimp only at e
  split at e
  · rw [← Host.Outcome.next.inj e]
    assumption
  · split at e
    · rw [← Host.Outcome.next.inj e]
      assumption
    · split at e
      · rw [← Host.Outcome.next.inj e]
        exact Keeps.set_relia (sub fm) (Keeps.eta ‹_›)
      · rw [← Host.Outcome.next.inj e]
        split
        · split
          · split
            · exact State.copySecs_keeps (State.copySecs_keeps (Keeps.set_relia (sub fm) (Keeps.eta ‹_›)))
            · exact State.emit_keeps (State.copySecs_keeps (State.copySecs_keeps (Keeps.set_relia (sub fm) (Keeps.eta ‹_›))))
          · split
            · exact State.emit_keeps (State.copySecs_keeps (State.copySecs_keeps (Keeps.set_relia (sub fm) (Keeps.eta ‹_›))))
            · exact State.emit_keeps (State.emit_keeps (State.copySecs_keeps (State.copySecs_keeps (Keeps.set_relia (sub fm) (Keeps.eta ‹_›)))))
        · refine State.bput_keeps (sub fm) ?_
          split
          · split
            · exact State.copySecs_keeps (State.copySecs_keeps (Keeps.set_relia (sub fm) (Keeps.eta ‹_›)))
            · exact State.emit_keeps (State.copySecs_keeps (State.copySecs_keeps (Keeps.set_relia (sub fm) (Keeps.eta ‹_›))))
          · split
            · exact State.emit_keeps (State.copySecs_keeps (State.copySecs_keeps (Keeps.set_relia (sub fm) (Keeps.eta ‹_›))))
            · exact State.emit_keeps (State.emit_keeps (State.copySecs_keeps (State.copySecs_keeps (Keeps.set_relia (sub fm) (Keeps.eta ‹_›)))))

theorem execTemperatureTrip_keeps {F a} {s1 : State} (fm : 17179869183 &&& F = 17179869183) (h1 : Keeps F a s1) {r} (e : @execTemperatureTrip s1 = .next r) : Keeps F a r := by
  unfold execTemperatureTrip at e
  dsimp only at e
  split at e
  · rw [← Host.Outcome.next.inj e]
    refine Keeps.set_psto (sub fm) (Keeps.eta (State.bput_keeps (sub fm) ?_))
    split
    · exact State.powerOff_keeps (sub fm) ‹_›
    · assumption
  · rw [← Host.Outcome.next.inj e]
    assumption

theorem execRailOutOfLimits_keeps {F a} {x1} {s2 : State} (fm : 17179869183 &&& F = 17179869183) (h2 : Keeps F a s2) {r} (e : @execRailOutOfLimits x1 s2 = .next r) : Keeps F a r := by
  unfold execRailOutOfLimits at e
  dsimp only at e
  split at e
  · split at e
    · rw [← Host.Outcome.next.inj e]
      exact State.powerOff_keeps (sub fm) (State.setPwr_keeps (sub fm) ‹_›)
    · rw [← Host.Outcome.next.inj e]
      exact State.setPwr_keeps (sub fm) ‹_›
  · split at e
    · rw [← Host.Outcome.next.inj e]
      exact State.powerOff_keeps (sub fm) ‹_›
    · rw [← Host.Outcome.next.inj e]
      assumption

theorem State.railOff_keeps {F a} {s1 : State} {x2} (fm : 17179869183 &&& F = 17179869183) (h1 : Keeps F a s1) : Keeps F a (@State.railOff s1 x2) := by
  unfold State.railOff
  dsimp only
  split
  · exact Keeps.set_pwr (sub fm) (Keeps.eta (State.setPwr_keeps (sub fm) (State.powerOff_keeps (sub fm) ‹_›)))
  · assumption

theorem execOverVoltage_keeps {F a} {s1 : State} (fm : 17179869183 &&& F = 17179869183) (h1 : Keeps F a s1) {r} (e : @execOverVoltage s1 = .next r) : Keeps F a r := by
  unfold execOverVoltage at e
  rw [← Host.Outcome.next.inj e]
  exact State.railOff_keeps (sub fm) ‹_›

theorem execHotSwapClose_keeps {F a} {s1 : State} (fm : 17179869151 &&& F = 17179869151) (h1 : Keeps F a s1) {r} (e : @execHotSwapClose s1 = .next r) : Keeps F a r := by
  unfold execHotSwapClose at e
  dsimp only at e
  split at e
  · rw [← Host.Outcome.next.inj e]
    exact Keeps.set_pwr (sub fm) (Keeps.eta (State.setPwr_keeps (sub fm) (State.setPwr_keeps (sub fm) (State.setPwr_keeps (sub fm) (State.mainReset_keeps (sub fm) ‹_›)))))
  · rw [← Host.Outcome.next.inj e]
    assumption

theorem execAuxiliaryPowerUp_keeps {F a} {s1 : State} (fm : 17179869151 &&& F = 17179869151) (h1 : Keeps F a s1) {r} (e : @execAuxiliaryPowerUp s1 = .next r) : Keeps F a r := by
  unfold execAuxiliaryPowerUp at e
  split at e
  · rw [← Host.Outcome.next.inj e]
    exact h1
  · rw [← Host.Outcome.next.inj e]
    refine State.mcBoot_keeps (sub fm) (State.applyRetired_keeps (sub fm) (State.loadHwms_keeps (sub fm) (State.bput_keeps (sub fm) (State.setPwr_keeps (sub fm) (State.setPwr_keeps (sub fm) ?_)))))
    exact ⟨h1.queue, (State.resetRegs_keeps (sub fm) h1).regs, rfl, h1.out, h1.ident, h1.free, fun p hp => by
      cases p <;> first | exact h1.frame _ hp | exact absurd hp (by rw [most_mask (sub fm) _ (by decide)]; decide) |
        exact absurd hp (by rw [show F.testBit Component.pwr.code = true from bit_of_sub (n := 4) (sub fm)]; decide)⟩

theorem execStage2Mate_keeps {F a} {x1} {s2 : State} (fm : 17 &&& F = 17) (h2 : Keeps F a s2) {r} (e : @execStage2Mate x1 s2 = .next r) : Keeps F a r := by
  unfold execStage2Mate at e
  dsimp only at e
  split at e
  · rw [← Host.Outcome.next.inj e]
    split
    · exact State.setPwr_keeps (sub fm) ‹_›
    · assumption
  · rw [← Host.Outcome.next.inj e]
    exact Keeps.set_pwr (sub fm) (Keeps.eta ‹_›)

theorem execAuxRailLoss_keeps {F a} {s1 : State} (fm : 17179869183 &&& F = 17179869183) (h1 : Keeps F a s1) {r} (e : @execAuxRailLoss s1 = .next r) : Keeps F a r := by
  unfold execAuxRailLoss at e
  dsimp only at e
  split at e
  · rw [← Host.Outcome.next.inj e]
    refine Keeps.set_pwr (sub fm) (Keeps.eta ?_)
    split
    · exact State.powerOff_keeps (sub fm) ‹_›
    · assumption
  · rw [← Host.Outcome.next.inj e]
    assumption

theorem execThermalSample_keeps {F a} {x1} {s2 : State} (fm : 136348177 &&& F = 136348177) (h2 : Keeps F a s2) {r} (e : @execThermalSample x1 s2 = .next r) : Keeps F a r := by
  unfold execThermalSample at e
  dsimp only at e
  split at e
  · rw [← Host.Outcome.next.inj e]
    assumption
  · rw [← Host.Outcome.next.inj e]
    split
    · split
      · split
        · refine State.crit_keeps (sub fm) (State.bput_keeps (sub fm) (State.bput_keeps (sub fm) (State.bput_keeps (sub fm) (State.event_keeps ?_))))
          refine Keeps.fold ?_ ?_
          · exact State.event_keeps (State.fput_keeps (sub fm) (State.fput_keeps (sub fm) (State.put_keeps (sub fm) (State.setPwr_keeps (sub fm) (State.setPwr_keeps (sub fm) (State.fput_keeps (sub fm) (State.fput_keeps (sub fm) (State.fput_keeps (sub fm) ‹_›))))))))
          · intro t6 t7 k8
            exact State.pfEvent_keeps (sub fm) ‹_›
        · refine State.bput_keeps (sub fm) (State.bput_keeps (sub fm) (State.bput_keeps (sub fm) (State.event_keeps ?_)))
          refine Keeps.fold ?_ ?_
          · exact State.event_keeps (State.fput_keeps (sub fm) (State.fput_keeps (sub fm) (State.put_keeps (sub fm) (State.setPwr_keeps (sub fm) (State.setPwr_keeps (sub fm) (State.fput_keeps (sub fm) (State.fput_keeps (sub fm) (State.fput_keeps (sub fm) ‹_›))))))))
          · intro t10 t11 k12
            exact State.pfEvent_keeps (sub fm) ‹_›
      · split
        · refine State.crit_keeps (sub fm) (State.bput_keeps (sub fm) (State.bput_keeps (sub fm) (State.bput_keeps (sub fm) ?_)))
          refine Keeps.fold ?_ ?_
          · exact State.event_keeps (State.fput_keeps (sub fm) (State.fput_keeps (sub fm) (State.put_keeps (sub fm) (State.setPwr_keeps (sub fm) (State.setPwr_keeps (sub fm) (State.fput_keeps (sub fm) (State.fput_keeps (sub fm) (State.fput_keeps (sub fm) ‹_›))))))))
          · intro t15 t16 k17
            exact State.pfEvent_keeps (sub fm) ‹_›
        · refine State.bput_keeps (sub fm) (State.bput_keeps (sub fm) (State.bput_keeps (sub fm) ?_))
          refine Keeps.fold ?_ ?_
          · exact State.event_keeps (State.fput_keeps (sub fm) (State.fput_keeps (sub fm) (State.put_keeps (sub fm) (State.setPwr_keeps (sub fm) (State.setPwr_keeps (sub fm) (State.fput_keeps (sub fm) (State.fput_keeps (sub fm) (State.fput_keeps (sub fm) ‹_›))))))))
          · intro t19 t20 k21
            exact State.pfEvent_keeps (sub fm) ‹_›
    · split
      · split
        · exact State.crit_keeps (sub fm) (State.bput_keeps (sub fm) (State.bput_keeps (sub fm) (State.bput_keeps (sub fm) (State.event_keeps (State.fput_keeps (sub fm) (State.fput_keeps (sub fm) (State.put_keeps (sub fm) (State.setPwr_keeps (sub fm) (State.setPwr_keeps (sub fm) (State.fput_keeps (sub fm) (State.fput_keeps (sub fm) (State.fput_keeps (sub fm) ‹_›))))))))))))
        · exact State.bput_keeps (sub fm) (State.bput_keeps (sub fm) (State.bput_keeps (sub fm) (State.event_keeps (State.fput_keeps (sub fm) (State.fput_keeps (sub fm) (State.put_keeps (sub fm) (State.setPwr_keeps (sub fm) (State.setPwr_keeps (sub fm) (State.fput_keeps (sub fm) (State.fput_keeps (sub fm) (State.fput_keeps (sub fm) ‹_›)))))))))))
      · split
        · exact State.crit_keeps (sub fm) (State.bput_keeps (sub fm) (State.bput_keeps (sub fm) (State.bput_keeps (sub fm) (State.fput_keeps (sub fm) (State.fput_keeps (sub fm) (State.put_keeps (sub fm) (State.setPwr_keeps (sub fm) (State.setPwr_keeps (sub fm) (State.fput_keeps (sub fm) (State.fput_keeps (sub fm) (State.fput_keeps (sub fm) ‹_›)))))))))))
        · exact State.bput_keeps (sub fm) (State.bput_keeps (sub fm) (State.bput_keeps (sub fm) (State.fput_keeps (sub fm) (State.fput_keeps (sub fm) (State.put_keeps (sub fm) (State.setPwr_keeps (sub fm) (State.setPwr_keeps (sub fm) (State.fput_keeps (sub fm) (State.fput_keeps (sub fm) (State.fput_keeps (sub fm) ‹_›))))))))))

theorem execCritPowerOff_keeps {F a} {s1 : State} (fm : 17179869183 &&& F = 17179869183) (h1 : Keeps F a s1) {r} (e : @execCritPowerOff s1 = .next r) : Keeps F a r := by
  unfold execCritPowerOff at e
  split at e
  · rw [← Host.Outcome.next.inj e]
    exact State.powerOff_keeps (sub fm) ‹_›
  · rw [← Host.Outcome.next.inj e]
    assumption

theorem execPresenceLoss_keeps {F a} {x1} {s2 : State} (fm : 17179869183 &&& F = 17179869183) (h2 : Keeps F a s2) {r} (e : @execPresenceLoss x1 s2 = .next r) : Keeps F a r := by
  unfold execPresenceLoss at e
  dsimp only at e
  split at e
  · split at e
    · rw [← Host.Outcome.next.inj e]
      exact Keeps.set_pwr (sub fm) (Keeps.eta ‹_›)
    · split at e
      · split at e
        · rw [← Host.Outcome.next.inj e]
          exact Keeps.set_psto (sub fm) (Keeps.eta (State.powerOff_keeps (sub fm) (State.setPwr_keeps (sub fm) (Keeps.set_pwr (sub fm) (Keeps.eta ‹_›)))))
        · rw [← Host.Outcome.next.inj e]
          exact State.setPwr_keeps (sub fm) (Keeps.set_pwr (sub fm) (Keeps.eta ‹_›))
      · split at e
        · rw [← Host.Outcome.next.inj e]
          exact Keeps.set_psto (sub fm) (Keeps.eta (State.powerOff_keeps (sub fm) (State.setPwr_keeps (sub fm) (State.setPwr_keeps (sub fm) (Keeps.set_pwr (sub fm) (Keeps.eta ‹_›))))))
        · rw [← Host.Outcome.next.inj e]
          exact State.setPwr_keeps (sub fm) (State.setPwr_keeps (sub fm) (Keeps.set_pwr (sub fm) (Keeps.eta ‹_›)))
  · split at e
    · rw [← Host.Outcome.next.inj e]
      exact Keeps.set_pwr (sub fm) (Keeps.eta ‹_›)
    · split at e
      · split at e
        · rw [← Host.Outcome.next.inj e]
          exact Keeps.set_psto (sub fm) (Keeps.eta (State.powerOff_keeps (sub fm) (State.setPwr_keeps (sub fm) (Keeps.set_pwr (sub fm) (Keeps.eta ‹_›)))))
        · rw [← Host.Outcome.next.inj e]
          exact State.setPwr_keeps (sub fm) (Keeps.set_pwr (sub fm) (Keeps.eta ‹_›))
      · split at e
        · rw [← Host.Outcome.next.inj e]
          exact Keeps.set_psto (sub fm) (Keeps.eta (State.powerOff_keeps (sub fm) (State.setPwr_keeps (sub fm) (State.setPwr_keeps (sub fm) (Keeps.set_pwr (sub fm) (Keeps.eta ‹_›))))))
        · rw [← Host.Outcome.next.inj e]
          exact State.setPwr_keeps (sub fm) (State.setPwr_keeps (sub fm) (Keeps.set_pwr (sub fm) (Keeps.eta ‹_›)))

theorem execMainEnAssert_keeps {F a} {x1} {s2 : State} (fm : 17 &&& F = 17) (h2 : Keeps F a s2) {r} (e : @execMainEnAssert x1 s2 = .next r) : Keeps F a r := by
  unfold execMainEnAssert at e
  dsimp only at e
  split at e
  · rw [← Host.Outcome.next.inj e]
    exact Keeps.set_pwr (sub fm) (Keeps.eta (State.setPwr_keeps (sub fm) ‹_›))
  · rw [← Host.Outcome.next.inj e]
    assumption

theorem execPrsntSkewTimeout_keeps {F a} {s1 : State} (fm : 1 &&& F = 1) (h1 : Keeps F a s1) {r} (e : @execPrsntSkewTimeout s1 = .next r) : Keeps F a r := by
  unfold execPrsntSkewTimeout at e
  split at e
  · rw [← Host.Outcome.next.inj e]
    exact State.setPwr_keeps (sub fm) ‹_›
  · rw [← Host.Outcome.next.inj e]
    assumption

theorem execLeak_keeps {F a} {x1} {s2 : State} (fm : 136348177 &&& F = 136348177) (h2 : Keeps F a s2) {r} (e : @execLeak x1 s2 = .next r) : Keeps F a r := by
  unfold execLeak at e
  dsimp only at e
  split at e
  · rw [← Host.Outcome.next.inj e]
    assumption
  · rw [← Host.Outcome.next.inj e]
    split
    · exact State.crit_keeps (sub fm) (State.bput_keeps (sub fm) ‹_›)
    · exact State.bput_keeps (sub fm) ‹_›

theorem execPostComplete_keeps {F a} {x1} {s2 : State} (fm : 136560417 &&& F = 136560417) (h2 : Keeps F a s2) {r} (e : @execPostComplete x1 s2 = .next r) : Keeps F a r := by
  unfold execPostComplete at e
  dsimp only at e
  split at e
  · rw [← Host.Outcome.next.inj e]
    split
    · refine State.enterFatal_keeps (sub fm) (State.enterDock_keeps (sub fm) (State.endTransition_keeps (sub fm) (State.setVerdict_keeps (sub fm) (State.bput_keeps (sub fm) ?_))))
      refine Keeps.fold ?_ ?_
      · assumption
      · intro t3 t4 k5
        exact State.postOne_keeps (sub fm) ‹_›
    · refine State.enterDock_keeps (sub fm) (State.endTransition_keeps (sub fm) (State.setVerdict_keeps (sub fm) (State.bput_keeps (sub fm) ?_)))
      refine Keeps.fold ?_ ?_
      · assumption
      · intro t7 t8 k9
        exact State.postOne_keeps (sub fm) ‹_›
  · rw [← Host.Outcome.next.inj e]
    assumption

theorem execPresenceMate_keeps {F a} {x1} {s2 : State} (fm : 16 &&& F = 16) (h2 : Keeps F a s2) {r} (e : @execPresenceMate x1 s2 = .next r) : Keeps F a r := by
  unfold execPresenceMate at e
  dsimp only at e
  rw [← Host.Outcome.next.inj e]
  exact Keeps.set_pwr (sub fm) (Keeps.eta ‹_›)

theorem execPowerOnStep_keeps {F a} {s1 : State} (fm : 244561 &&& F = 244561) (h1 : Keeps F a s1) {r} (e : @execPowerOnStep s1 = .next r) : Keeps F a r := by
  unfold execPowerOnStep at e
  dsimp only at e
  split at e
  · split at e
    · rw [← Host.Outcome.next.inj e]
      exact State.pllEval_keeps (sub fm) ‹_›
    · split at e
      · rw [← Host.Outcome.next.inj e]
        refine State.postStart_keeps (sub fm) (Keeps.set_pwr (sub fm) (Keeps.eta ?_))
        split
        · refine Keeps.fold ?_ ?_
          · exact State.fput_keeps (sub fm) (State.pllEval_keeps (sub fm) ‹_›)
          · intro t6 t7 k8
            exact State.lightEngine_keeps (sub fm) ‹_›
        · exact State.fput_keeps (sub fm) (State.pllEval_keeps (sub fm) ‹_›)
      · rw [← Host.Outcome.next.inj e]
        split
        · refine Keeps.fold ?_ ?_
          · exact State.fput_keeps (sub fm) (State.pllEval_keeps (sub fm) ‹_›)
          · intro t12 t13 k14
            exact State.lightEngine_keeps (sub fm) ‹_›
        · exact State.fput_keeps (sub fm) (State.pllEval_keeps (sub fm) ‹_›)
  · rw [← Host.Outcome.next.inj e]
    assumption

theorem execMainEnDeassert_keeps {F a} {s1 : State} (fm : 17179869183 &&& F = 17179869183) (h1 : Keeps F a s1) {r} (e : @execMainEnDeassert s1 = .next r) : Keeps F a r := by
  unfold execMainEnDeassert at e
  dsimp only at e
  split at e
  · rw [← Host.Outcome.next.inj e]
    split
    · exact State.powerOff_keeps (sub fm) (State.setPwr_keeps (sub fm) ‹_›)
    · exact State.setPwr_keeps (sub fm) ‹_›
  · rw [← Host.Outcome.next.inj e]
    assumption

theorem execPllLockTimeout_keeps {F a} {s1 : State} (fm : 17179869183 &&& F = 17179869183) (h1 : Keeps F a s1) {r} (e : @execPllLockTimeout s1 = .next r) : Keeps F a r := by
  unfold execPllLockTimeout at e
  split at e
  · rw [← Host.Outcome.next.inj e]
    exact State.powerOff_keeps (sub fm) ‹_›
  · rw [← Host.Outcome.next.inj e]
    assumption

theorem execUnderVoltage_keeps {F a} {s1 : State} (fm : 17179869183 &&& F = 17179869183) (h1 : Keeps F a s1) {r} (e : @execUnderVoltage s1 = .next r) : Keeps F a r := by
  unfold execUnderVoltage at e
  rw [← Host.Outcome.next.inj e]
  exact State.railOff_keeps (sub fm) ‹_›

theorem execMainGood_keeps {F a} {s1 : State} (fm : 65 &&& F = 65) (h1 : Keeps F a s1) {r} (e : @execMainGood s1 = .next r) : Keeps F a r := by
  unfold execMainGood at e
  dsimp only at e
  split at e
  · rw [← Host.Outcome.next.inj e]
    exact Keeps.set_tick (sub fm) (Keeps.eta (State.fput_keeps (sub fm) (State.setPwr_keeps (sub fm) ‹_›)))
  · rw [← Host.Outcome.next.inj e]
    assumption

theorem execAttnReq_keeps {F a} {x1} {s2 : State} (fm : 1 &&& F = 1) (h2 : Keeps F a s2) {r} (e : @execAttnReq x1 s2 = .next r) : Keeps F a r := by
  unfold execAttnReq at e
  split at e
  · rw [← Host.Outcome.next.inj e]
    exact State.event_keeps (State.setPwr_keeps (sub fm) ‹_›)
  · rw [← Host.Outcome.next.inj e]
    assumption

theorem execPresenceDebounced_keeps {F a} {x1} {s2 : State} (fm : 1 &&& F = 1) (h2 : Keeps F a s2) {r} (e : @execPresenceDebounced x1 s2 = .next r) : Keeps F a r := by
  unfold execPresenceDebounced at e
  split at e
  · split at e
    · rw [← Host.Outcome.next.inj e]
      exact State.setPwr_keeps (sub fm) ‹_›
    · rw [← Host.Outcome.next.inj e]
      assumption
  · split at e
    · rw [← Host.Outcome.next.inj e]
      exact State.setPwr_keeps (sub fm) ‹_›
    · rw [← Host.Outcome.next.inj e]
      assumption

theorem State.doorbell_keeps {F a} {s1 : State} {x2 x3 x4} (fm : 1 &&& F = 1) (h1 : Keeps F a s1) (h4 : ∀ t1, Keeps F a t1 → Keeps F a ((x4 t1))) : Keeps F a (@State.doorbell s1 x2 x3 x4) := by
  unfold State.doorbell
  dsimp only
  split
  · assumption
  · split
    · exact State.bump_keeps (sub fm) ‹_›
    · exact h4 _ (State.bump_keeps (sub fm) ‹_›)

theorem State.cmdError_keeps {F a} {s1 : State} {x2 x3 x4} (fm : 2097153 &&& F = 2097153) (h1 : Keeps F a s1) : Keeps F a (@State.cmdError s1 x2 x3 x4) := by
  unfold State.cmdError
  exact State.raise_keeps (sub fm) (State.updCmq_keeps (sub fm) ‹_›)

theorem State.takeDesc_keeps {F a} {s1 : State} {x2 x3 x4} (fm : 136314881 &&& F = 136314881) (h1 : Keeps F a s1) : Keeps F a (@State.takeDesc s1 x2 x3 x4) := by
  unfold State.takeDesc
  dsimp only
  split
  · exact State.cmdError_keeps (sub fm) ‹_›
  · split
    · exact State.postCompletion_keeps (sub fm) ‹_›
    · exact State.updVi_keeps (sub fm) (State.fresh_keeps ‹_›)

theorem State.fetchFrom_keeps {F a} {s1 : State} {x2 x3 x4 x5} (fm : 136314881 &&& F = 136314881) (h1 : Keeps F a s1) : Keeps F a (@State.fetchFrom s1 x2 x3 x4 x5) := by
  unfold State.fetchFrom
  dsimp only
  split
  · exact State.cmdError_keeps (sub fm) (State.updVi_keeps (sub fm) ‹_›)
  · rename_i v4 v5 v6
    refine State.takeDesc_keeps (sub fm) (State.bumpVf_keeps (sub fm) (State.bump_keeps (sub fm) (State.updCmq_keeps (sub fm) ?_)))
    refine (State.viRead_keeps (sub fm) ?_ v6 : _)
    exact State.updVi_keeps (sub fm) ‹_›

theorem execDescriptorFetch_keeps {F a} {x1 x2} {s3 : State} (fm : 144703489 &&& F = 144703489) (h3 : Keeps F a s3) {r} (e : @execDescriptorFetch x1 x2 s3 = .next r) : Keeps F a r := by
  unfold execDescriptorFetch at e
  dsimp only at e
  split at e
  · rw [← Host.Outcome.next.inj e]
    assumption
  · split at e
    · rw [← Host.Outcome.next.inj e]
      assumption
    · split at e
      · rw [← Host.Outcome.next.inj e]
        assumption
      · rw [← Host.Outcome.next.inj e]
        exact State.fetchFrom_keeps (sub fm) (Keeps.set_hostRr (sub fm) (Keeps.eta ‹_›))

theorem execDbArm_keeps {F a} {x1 x2 x3} {s4 : State} (fm : 2097153 &&& F = 2097153) (h4 : Keeps F a s4) {r} (e : @execDbArm x1 x2 x3 s4 = .next r) : Keeps F a r := by
  unfold execDbArm at e
  dsimp only at e
  rw [← Host.Outcome.next.inj e]
  refine State.doorbell_keeps (sub fm) ?_ ?_
  · assumption
  · intro t1 k2
    split
    · assumption
    · split
      · exact State.emit_keeps (State.updCq_keeps (sub fm) ‹_›)
      · exact State.updCq_keeps (sub fm) ‹_›

theorem execDbTail_keeps {F a} {x1 x2 x3} {s4 : State} (fm : 2097153 &&& F = 2097153) (h4 : Keeps F a s4) {r} (e : @execDbTail x1 x2 x3 s4 = .next r) : Keeps F a r := by
  unfold execDbTail at e
  dsimp only at e
  rw [← Host.Outcome.next.inj e]
  refine State.doorbell_keeps (sub fm) ?_ ?_
  · assumption
  · intro t1 k2
    split
    · assumption
    · split
      · split
        · exact State.cmdError_keeps (sub fm) ‹_›
        · assumption
      · exact State.updCmq_keeps (sub fm) ‹_›

theorem execCompletionWrite_keeps {F a} {x1} {s2 : State} (fm : 136314881 &&& F = 136314881) (h2 : Keeps F a s2) {r} (e : @execCompletionWrite x1 s2 = .next r) : Keeps F a r := by
  unfold execCompletionWrite at e
  dsimp only at e
  split at e
  · rw [← Host.Outcome.next.inj e]
    assumption
  · split at e
    · split at e
      · rw [← Host.Outcome.next.inj e]
        exact State.putCompletion_keeps (sub fm) (State.updVi_keeps (sub fm) ‹_›)
      · rw [← Host.Outcome.next.inj e]
        exact State.bump_keeps (sub fm) (State.updVi_keeps (sub fm) ‹_›)
    · rw [← Host.Outcome.next.inj e]
      assumption

theorem State.cplError_keeps {F a} {s1 : State} {x2 x3} (fm : 2097153 &&& F = 2097153) (h1 : Keeps F a s1) : Keeps F a (@State.cplError s1 x2 x3) := by
  unfold State.cplError
  exact State.raise_keeps (sub fm) (State.updCq_keeps (sub fm) ‹_›)

theorem execDbHead_keeps {F a} {x1 x2 x3} {s4 : State} (fm : 2097153 &&& F = 2097153) (h4 : Keeps F a s4) {r} (e : @execDbHead x1 x2 x3 s4 = .next r) : Keeps F a r := by
  unfold execDbHead at e
  dsimp only at e
  rw [← Host.Outcome.next.inj e]
  refine State.doorbell_keeps (sub fm) ?_ ?_
  · assumption
  · intro t1 k2
    split
    · assumption
    · split
      · split
        · assumption
        · exact State.cplError_keeps (sub fm) ‹_›
      · exact State.updCq_keeps (sub fm) ‹_›

theorem State.startOnlySignal_keeps {F a} {s1 : State} {x2 x3} (fm : 136675329 &&& F = 136675329) (h1 : Keeps F a s1) : Keeps F a (@State.startOnlySignal s1 x2 x3) := by
  unfold State.startOnlySignal
  dsimp only
  refine State.launch_keeps (sub fm) ?_ ?_
  · assumption
  · intro t1 k2
    exact State.startSignal_keeps (sub fm) ‹_›

theorem State.startPut_keeps {F a} {s1 : State} {x2 x3 x4} (fm : 136675329 &&& F = 136675329) (h1 : Keeps F a s1) : Keeps F a (@State.startPut s1 x2 x3 x4) := by
  unfold State.startPut
  dsimp only
  refine State.launch_keeps (sub fm) ?_ ?_
  · assumption
  · intro t1 k2
    exact State.startData_keeps (sub fm) ‹_›

theorem execPutSignal_keeps {F a} {x1 x2} {s3 : State} (fm : 136675329 &&& F = 136675329) (h3 : Keeps F a s3) {r} (e : @execPutSignal x1 x2 s3 = .next r) : Keeps F a r := by
  unfold execPutSignal at e
  split at e
  · rw [← Host.Outcome.next.inj e]
    assumption
  · split at e
    · rw [← Host.Outcome.next.inj e]
      exact State.startOnlySignal_keeps (sub fm) ‹_›
    · rw [← Host.Outcome.next.inj e]
      exact State.startPut_keeps (sub fm) ‹_›

theorem State.startAtomic_keeps {F a} {s1 : State} {x2 x3 x4} (fm : 8726609921 &&& F = 8726609921) (h1 : Keeps F a s1) : Keeps F a (@State.startAtomic s1 x2 x3 x4) := by
  unfold State.startAtomic
  dsimp only
  refine State.launch_keeps (sub fm) ?_ ?_
  · assumption
  · intro t1 k2
    split
    · exact State.complete_keeps (sub fm) ‹_›
    · rename_i v6 v7 v8 v9
      refine State.pushReq_keeps (sub fm) (State.newMsg_keeps (sub fm) ?_)
      split at v9
      · split at v9
        · rename_i v11 v12 v13
          cases v9
          refine State.hostTxn_keeps (sub fm) ?_
          refine (State.viRead_keeps (sub fm) ?_ v13 : _)
          assumption
        · cases v9
      · cases v9
        assumption

theorem State.startGet_keeps {F a} {s1 : State} {x2 x3} (fm : 136675329 &&& F = 136675329) (h1 : Keeps F a s1) : Keeps F a (@State.startGet s1 x2 x3) := by
  unfold State.startGet
  dsimp only
  refine State.launch_keeps (sub fm) ?_ ?_
  · assumption
  · intro t1 k2
    exact State.pushReq_keeps (sub fm) (State.newMsg_keeps (sub fm) ‹_›)

theorem execNop_keeps {F a} {x1 x2} {s3 : State} (fm : 136314881 &&& F = 136314881) (h3 : Keeps F a s3) {r} (e : @execNop x1 x2 s3 = .next r) : Keeps F a r := by
  unfold execNop at e
  split at e
  · rw [← Host.Outcome.next.inj e]
    assumption
  · rw [← Host.Outcome.next.inj e]
    refine State.runDesc_keeps (sub fm) ?_ ?_
    · assumption
    · intro t6 k7
      dsimp only
      assumption

theorem execAtomic_keeps {F a} {x1 x2 x3} {s4 : State} (fm : 8726609921 &&& F = 8726609921) (h4 : Keeps F a s4) {r} (e : @execAtomic x1 x2 x3 s4 = .next r) : Keeps F a r := by
  unfold execAtomic at e
  split at e
  · rw [← Host.Outcome.next.inj e]
    assumption
  · rw [← Host.Outcome.next.inj e]
    exact State.startAtomic_keeps (sub fm) ‹_›

theorem execPut_keeps {F a} {x1 x2} {s3 : State} (fm : 136675329 &&& F = 136675329) (h3 : Keeps F a s3) {r} (e : @execPut x1 x2 s3 = .next r) : Keeps F a r := by
  unfold execPut at e
  split at e
  · rw [← Host.Outcome.next.inj e]
    assumption
  · split at e
    · rw [← Host.Outcome.next.inj e]
      refine State.runDesc_keeps (sub fm) ?_ ?_
      · assumption
      · intro t7 k8
        dsimp only
        assumption
    · rw [← Host.Outcome.next.inj e]
      exact State.startPut_keeps (sub fm) ‹_›

theorem execGet_keeps {F a} {x1 x2} {s3 : State} (fm : 136675329 &&& F = 136675329) (h3 : Keeps F a s3) {r} (e : @execGet x1 x2 s3 = .next r) : Keeps F a r := by
  unfold execGet at e
  split at e
  · rw [← Host.Outcome.next.inj e]
    assumption
  · split at e
    · rw [← Host.Outcome.next.inj e]
      refine State.runDesc_keeps (sub fm) ?_ ?_
      · assumption
      · intro t7 k8
        dsimp only
        assumption
    · rw [← Host.Outcome.next.inj e]
      exact State.startGet_keeps (sub fm) ‹_›

end Sys2Proof.Machine
end

