-- ==== Sys2Proof/Laws/KeepsTick.lean ====
section
/-! SUPPORT. Service, the work of a tick, the triggers and injected errors keep what `Keeps` says: one lemma per operation, named after it. -/

-- one declaration after another: the threads of parallel elaboration would take the stack of each
set_option Elab.async false

namespace Sys2Proof.Machine

theorem State.fenceAll_keeps {F a} {s1 : State} (fm : 2305 &&& F = 2305) (h1 : Keeps F a s1) : Keeps F a (@State.fenceAll s1) := by
  unfold State.fenceAll
  refine Keeps.fold ?_ ?_
  · assumption
  · intro t1 t2 k3
    split
    · assumption
    · exact State.setFenced_keeps (sub fm) ‹_›

theorem execGlbDrainEnd_keeps {F a} {s1 : State} (fm : 17179869183 &&& F = 17179869183) (h1 : Keeps F a s1) {r} (e : @execGlbDrainEnd s1 = .next r) : Keeps F a r := by
  unfold execGlbDrainEnd at e
  dsimp only at e
  split at e
  · rw [← Host.Outcome.next.inj e]
    exact State.record3_keeps (sub fm) (State.powerOff_keeps (sub fm) (State.fenceAll_keeps (sub fm) ‹_›))
  · rw [← Host.Outcome.next.inj e]
    assumption

theorem execMcWatchdog_keeps {F a} {s1 : State} (fm : 10201597071 &&& F = 10201597071) (h1 : Keeps F a s1) {r} (e : @execMcWatchdog s1 = .next r) : Keeps F a r := by
  unfold execMcWatchdog at e
  split at e
  · rw [← Host.Outcome.next.inj e]
    exact State.mcResetNow_keeps (sub fm) ‹_›
  · rw [← Host.Outcome.next.inj e]
    assumption

theorem execServiceDrainComplete_keeps {F a} {x1} {s2 : State} (fm : 260865 &&& F = 260865) (h2 : Keeps F a s2) {r} (e : @execServiceDrainComplete x1 s2 = .next r) : Keeps F a r := by
  unfold execServiceDrainComplete at e
  split at e
  · rw [← Host.Outcome.next.inj e]
    assumption
  · rw [← Host.Outcome.next.inj e]
    split
    · exact State.drainComplete_keeps (sub fm) ‹_›
    · assumption

theorem execMcReset_keeps {F a} {s1 : State} (fm : 10201597071 &&& F = 10201597071) (h1 : Keeps F a s1) {r} (e : @execMcReset s1 = .next r) : Keeps F a r := by
  unfold execMcReset at e
  split at e
  · rw [← Host.Outcome.next.inj e]
    exact State.mcResetNow_keeps (sub fm) ‹_›
  · rw [← Host.Outcome.next.inj e]
    assumption

theorem execMcResetComplete_keeps {F a} {s1 : State} (fm : 129 &&& F = 129) (h1 : Keeps F a s1) {r} (e : @execMcResetComplete s1 = .next r) : Keeps F a r := by
  unfold execMcResetComplete at e
  dsimp only at e
  split at e
  · rw [← Host.Outcome.next.inj e]
    exact State.mcBoot_keeps (sub fm) (Keeps.set_zyn (sub fm) (Keeps.eta ‹_›))
  · rw [← Host.Outcome.next.inj e]
    assumption

theorem execDrainLimit_keeps {F a} {x1} {s2 : State} (fm : 2049 &&& F = 2049) (h2 : Keeps F a s2) {r} (e : @execDrainLimit x1 s2 = .next r) : Keeps F a r := by
  unfold execDrainLimit at e
  dsimp only at e
  split at e
  · rw [← Host.Outcome.next.inj e]
    assumption
  · split at e
    · rw [← Host.Outcome.next.inj e]
      exact State.event_keeps (State.raise_keeps (sub fm) (Keeps.set_svc (sub fm) (Keeps.eta ‹_›)))
    · rw [← Host.Outcome.next.inj e]
      assumption

theorem State.auditFail_keeps {F a} {s1 : State} {x2} (fm : 136348161 &&& F = 136348161) (h1 : Keeps F a s1) : Keeps F a (@State.auditFail s1 x2) := by
  unfold State.auditFail
  dsimp only
  exact State.enterFatal_keeps (sub fm) (State.put64_keeps (sub fm) (State.put_keeps (sub fm) (State.put_keeps (sub fm) (State.put_keeps (sub fm) ‹_›))))

theorem State.auditSkip_keeps {F a} {s1 : State} (fm : 136348161 &&& F = 136348161) (h1 : Keeps F a s1) : Keeps F a (@State.auditSkip s1) := by
  unfold State.auditSkip
  dsimp only
  split
  · refine State.enterFatal_keeps (sub fm) (Keeps.set_relia (sub fm) (Keeps.eta ?_))
    refine Keeps.fold ?_ ?_
    · assumption
    · intro t2 t3 k4
      exact State.bump_keeps (sub fm) ‹_›
  · refine Keeps.set_relia (sub fm) (Keeps.eta ?_)
    refine Keeps.fold ?_ ?_
    · assumption
    · intro t6 t7 k8
      exact State.bump_keeps (sub fm) ‹_›

theorem State.applyWithdrawals_keeps {F a} {s1 : State} (fm : 513 &&& F = 513) (h1 : Keeps F a s1) : Keeps F a (@State.applyWithdrawals s1) := by
  unfold State.applyWithdrawals
  dsimp only
  refine Keeps.set_relia (sub fm) (Keeps.eta ?_)
  refine Keeps.fold ?_ ?_
  · assumption
  · intro t1 t2 k3
    refine Keeps.fold ?_ ?_
    · assumption
    · intro t4 t5 k6
      exact State.put_keeps (sub fm) ‹_›

theorem State.snapWrite_keeps {F a} {s1 : State} {x2} (fm : 1 &&& F = 1) (h1 : Keeps F a s1) : Keeps F a (@State.snapWrite s1 x2) := by
  unfold State.snapWrite
  dsimp only
  split
  · exact State.bump_keeps (sub fm) (State.satAdd_keeps (sub fm) (State.put64_keeps (sub fm) ‹_›))
  · exact State.bump_keeps (sub fm) (State.bump_keeps (sub fm) (State.bump_keeps (sub fm) (State.hostWrite_keeps (sub fm) (State.put64_keeps (sub fm) ‹_›))))

theorem State.snapJob_keeps {F a} {s1 : State} {x2} (fm : 1 &&& F = 1) (h1 : Keeps F a s1) : Keeps F a (@State.snapJob s1 x2) := by
  unfold State.snapJob
  split
  · exact State.snapWrite_keeps (sub fm) ‹_›
  · assumption

theorem State.auditJob_keeps {F a} {s1 : State} {x2} (fm : 136348161 &&& F = 136348161) (h1 : Keeps F a s1) : Keeps F a (@State.auditJob s1 x2) := by
  unfold State.auditJob
  dsimp only
  split
  · refine State.enterFatal_keeps (sub fm) ?_
    split
    · refine State.auditFail_keeps (sub fm) ?_
      split
      · refine State.put_keeps (sub fm) (Keeps.set_relia (sub fm) (Keeps.eta ?_))
        refine Keeps.fold ?_ ?_
        · assumption
        · intro t6 t7 k8
          exact State.bump_keeps (sub fm) (State.bump_keeps (sub fm) ‹_›)
      · refine Keeps.set_relia (sub fm) (Keeps.eta ?_)
        refine Keeps.fold ?_ ?_
        · assumption
        · intro t10 t11 k12
          exact State.bump_keeps (sub fm) (State.bump_keeps (sub fm) ‹_›)
    · split
      · refine State.put_keeps (sub fm) (Keeps.set_relia (sub fm) (Keeps.eta ?_))
        refine Keeps.fold ?_ ?_
        · assumption
        · intro t16 t17 k18
          exact State.bump_keeps (sub fm) (State.bump_keeps (sub fm) ‹_›)
      · refine Keeps.set_relia (sub fm) (Keeps.eta ?_)
        refine Keeps.fold ?_ ?_
        · assumption
        · intro t20 t21 k22
          exact State.bump_keeps (sub fm) (State.bump_keeps (sub fm) ‹_›)
  · split
    · refine State.auditFail_keeps (sub fm) ?_
      split
      · refine State.put_keeps (sub fm) (Keeps.set_relia (sub fm) (Keeps.eta ?_))
        refine Keeps.fold ?_ ?_
        · assumption
        · intro t28 t29 k30
          exact State.bump_keeps (sub fm) (State.bump_keeps (sub fm) ‹_›)
      · refine Keeps.set_relia (sub fm) (Keeps.eta ?_)
        refine Keeps.fold ?_ ?_
        · assumption
        · intro t32 t33 k34
          exact State.bump_keeps (sub fm) (State.bump_keeps (sub fm) ‹_›)
    · split
      · refine State.put_keeps (sub fm) (Keeps.set_relia (sub fm) (Keeps.eta ?_))
        refine Keeps.fold ?_ ?_
        · assumption
        · intro t38 t39 k40
          exact State.bump_keeps (sub fm) (State.bump_keeps (sub fm) ‹_›)
      · refine Keeps.set_relia (sub fm) (Keeps.eta ?_)
        refine Keeps.fold ?_ ?_
        · assumption
        · intro t42 t43 k44
          exact State.bump_keeps (sub fm) (State.bump_keeps (sub fm) ‹_›)

theorem State.openTick_keeps {F a} {s1 : State} {x2} (fm : 65 &&& F = 65) (h1 : Keeps F a s1) : Keeps F a (@State.openTick s1 x2) := by
  unfold State.openTick
  dsimp only
  refine Keeps.set_tick (sub fm) (Keeps.eta (State.put64_keeps (sub fm) ?_))
  refine Keeps.fold ?_ ?_
  · assumption
  · intro t1 t2 k3
    split
    · exact State.jobEnd_keeps (sub fm) ‹_›
    · assumption

theorem State.boundaryAcks_keeps {F a} {s1 : State} (fm : 360449 &&& F = 360449) (h1 : Keeps F a s1) : Keeps F a (@State.boundaryAcks s1) := by
  unfold State.boundaryAcks
  dsimp only
  refine Keeps.fold ?_ ?_
  · assumption
  · intro t1 t2 k3
    exact State.sendAck_keeps (sub fm) ‹_›

theorem State.persistMarks_keeps {F a} {s1 : State} (fm : 160 &&& F = 160) (h1 : Keeps F a s1) : Keeps F a (@State.persistMarks s1) := by
  unfold State.persistMarks
  refine Keeps.fold ?_ ?_
  · assumption
  · intro t1 t2 k3
    exact State.persistHwm_keeps (sub fm) ‹_›

theorem State.countEnds_keeps {F a} {s1 : State} (fm : 1 &&& F = 1) (h1 : Keeps F a s1) : Keeps F a (@State.countEnds s1) := by
  unfold State.countEnds
  dsimp only
  refine Keeps.fold ?_ ?_
  · refine Keeps.fold ?_ ?_
    · exact State.bump_keeps (sub fm) (State.bump_keeps (sub fm) ‹_›)
    · intro t1 t2 k3
      exact State.bump_keeps (sub fm) ‹_›
  · intro t4 t5 k6
    exact State.bump_keeps (sub fm) ‹_›

theorem State.countFabric_keeps {F a} {s1 : State} (fm : 1 &&& F = 1) (h1 : Keeps F a s1) : Keeps F a (@State.countFabric s1) := by
  unfold State.countFabric
  dsimp only
  refine State.bump_keeps (sub fm) (State.bump_keeps (sub fm) ?_)
  refine Keeps.fold ?_ ?_
  · refine Keeps.fold ?_ ?_
    · assumption
    · intro t1 t2 k3
      exact State.bump_keeps (sub fm) ‹_›
  · intro t4 t5 k6
    refine Keeps.fold ?_ ?_
    · assumption
    · intro t7 t8 k9
      exact State.bump_keeps (sub fm) ‹_›

theorem State.closeClearances_keeps {F a} {s1 : State} {x2} (fm : 1 &&& F = 1) (h1 : Keeps F a s1) : Keeps F a (@State.closeClearances s1 x2) := by
  unfold State.closeClearances
  dsimp only
  exact State.fput_keeps (sub fm) (State.bump_keeps (sub fm) ‹_›)

theorem State.newAllowances_keeps {F a} {s1 : State} (fm : 1310721 &&& F = 1310721) (h1 : Keeps F a s1) : Keeps F a (@State.newAllowances s1) := by
  unfold State.newAllowances
  dsimp only
  refine Keeps.set_xpts (sub fm) (Keeps.set_mwus (sub fm) (Keeps.eta ?_))
  refine Keeps.fold ?_ ?_
  · assumption
  · intro t1 t2 k3
    exact State.closeClearances_keeps (sub fm) ‹_›

theorem State.holdTicks_keeps {F a} {s1 : State} (fm : 262144 &&& F = 262144) (h1 : Keeps F a s1) : Keeps F a (@State.holdTicks s1) := by
  unfold State.holdTicks
  dsimp only
  split
  · assumption
  · exact Keeps.set_xpts (sub fm) (Keeps.eta ‹_›)

theorem State.endTick_keeps {F a} {s1 : State} (fm : 12754878459 &&& F = 12754878459) (h1 : Keeps F a s1) : Keeps F a (@State.endTick s1) := by
  unfold State.endTick
  dsimp only
  refine State.zAfterPersist_keeps (sub fm) (State.persistMarks_keeps (sub fm) (State.countEnds_keeps (sub fm) (State.countFabric_keeps (sub fm) (State.newAllowances_keeps (sub fm) (State.holdTicks_keeps (sub fm) ?_)))))
  split
  · assumption
  · exact State.boundaryAcks_keeps (sub fm) ‹_›

theorem State.portEnd_keeps {F a} {s1 : State} {x2} (fm : 32769 &&& F = 32769) (h1 : Keeps F a s1) : Keeps F a (@State.portEnd s1 x2) := by
  unfold State.portEnd
  dsimp only
  refine State.updLink_keeps (sub fm) ?_
  split
  · split
    · split
      · split
        · exact State.bput_keeps (sub fm) (State.fput_keeps (sub fm) (State.satAdd_keeps (sub fm) ‹_›))
        · exact State.fput_keeps (sub fm) (State.satAdd_keeps (sub fm) ‹_›)
      · split
        · exact State.bput_keeps (sub fm) (State.satAdd_keeps (sub fm) ‹_›)
        · exact State.satAdd_keeps (sub fm) ‹_›
    · split
      · split
        · exact State.bput_keeps (sub fm) (State.fput_keeps (sub fm) ‹_›)
        · exact State.fput_keeps (sub fm) ‹_›
      · split
        · exact State.bput_keeps (sub fm) ‹_›
        · assumption
  · split
    · split
      · split
        · exact State.bput_keeps (sub fm) (State.fput_keeps (sub fm) (State.satAdd_keeps (sub fm) ‹_›))
        · exact State.fput_keeps (sub fm) (State.satAdd_keeps (sub fm) ‹_›)
      · split
        · exact State.bput_keeps (sub fm) (State.satAdd_keeps (sub fm) ‹_›)
        · exact State.satAdd_keeps (sub fm) ‹_›
    · split
      · split
        · exact State.bput_keeps (sub fm) (State.fput_keeps (sub fm) ‹_›)
        · exact State.fput_keeps (sub fm) ‹_›
      · split
        · exact State.bput_keeps (sub fm) ‹_›
        · assumption

theorem State.firstJobs_keeps {F a} {s1 : State} {x2} (fm : 136348225 &&& F = 136348225) (h1 : Keeps F a s1) : Keeps F a (@State.firstJobs s1 x2) := by
  unfold State.firstJobs
  dsimp only
  split
  · exact State.snapJob_keeps (sub fm) (State.jobStart_keeps (sub fm) (State.applyWithdrawals_keeps (sub fm) ‹_›))
  · split
    · rename_i v3 v4 v5
      refine State.auditJob_keeps (sub fm) ?_
      refine Keeps.fst ?_ v5
      exact State.jobStart_keeps (sub fm) (State.snapJob_keeps (sub fm) (State.jobStart_keeps (sub fm) (State.applyWithdrawals_keeps (sub fm) ‹_›)))
    · rename_i v6 v7 v8
      refine State.auditSkip_keeps (sub fm) ?_
      refine Keeps.fst ?_ v8
      exact State.jobStart_keeps (sub fm) (State.snapJob_keeps (sub fm) (State.jobStart_keeps (sub fm) (State.applyWithdrawals_keeps (sub fm) ‹_›)))

theorem State.tileCount_keeps {F a} {s1 : State} {x2} (fm : 1 &&& F = 1) (h1 : Keeps F a s1) : Keeps F a (@State.tileCount s1 x2) := by
  unfold State.tileCount
  dsimp only
  exact State.bump_keeps (sub fm) ‹_›

theorem State.sendMarkers_keeps {F a} {s1 : State} (fm : 32768 &&& F = 32768) (h1 : Keeps F a s1) : Keeps F a (@State.sendMarkers s1) := by
  unfold State.sendMarkers
  dsimp only
  refine Keeps.fold ?_ ?_
  · assumption
  · intro t1 t2 k3
    split
    · exact State.updLink_keeps (sub fm) ‹_›
    · assumption

theorem State.sendTelltales_keeps {F a} {s1 : State} (fm : 32768 &&& F = 32768) (h1 : Keeps F a s1) : Keeps F a (@State.sendTelltales s1) := by
  unfold State.sendTelltales
  dsimp only
  split
  · refine Keeps.fold ?_ ?_
    · assumption
    · intro t2 t3 k4
      split
      · exact State.updLink_keeps (sub fm) ‹_›
      · assumption
  · assumption

theorem State.countLags_keeps {F a} {s1 : State} (fm : 1 &&& F = 1) (h1 : Keeps F a s1) : Keeps F a (@State.countLags s1) := by
  unfold State.countLags
  split
  · refine Keeps.fold ?_ ?_
    · assumption
    · intro t2 t3 k4
      exact State.satAdd_keeps (sub fm) ‹_›
  · assumption

theorem State.midJobs_keeps {F a} {s1 : State} (fm : 164961 &&& F = 164961) (h1 : Keeps F a s1) : Keeps F a (@State.midJobs s1) := by
  unfold State.midJobs
  dsimp only
  refine State.beginFw_keeps (sub fm) (State.countLags_keeps (sub fm) (State.moveShares_keeps (sub fm) ?_))
  split
  · split
    · split
      · refine State.refillJob_keeps (sub fm) (State.jobStart_keeps (sub fm) (State.sendTelltales_keeps (sub fm) (State.jobStart_keeps (sub fm) (State.sendMarkers_keeps (sub fm) (State.commitStage_keeps (sub fm) (State.jobStart_keeps (sub fm) (State.trackPhase_keeps (sub fm) (State.selectParent_keeps (sub fm) ?_))))))))
        refine Keeps.fold ?_ ?_
        · assumption
        · intro t4 t5 k6
          exact State.tileCount_keeps (sub fm) ‹_›
      · refine Keeps.set_tick (sub fm) (Keeps.eta (State.jobStart_keeps (sub fm) (State.sendTelltales_keeps (sub fm) (State.jobStart_keeps (sub fm) (State.sendMarkers_keeps (sub fm) (State.commitStage_keeps (sub fm) (State.jobStart_keeps (sub fm) (State.trackPhase_keeps (sub fm) (State.selectParent_keeps (sub fm) ?_)))))))))
        refine Keeps.fold ?_ ?_
        · assumption
        · intro t8 t9 k10
          exact State.tileCount_keeps (sub fm) ‹_›
    · split
      · refine State.refillJob_keeps (sub fm) (State.jobStart_keeps (sub fm) (State.jobStart_keeps (sub fm) (State.sendMarkers_keeps (sub fm) (State.commitStage_keeps (sub fm) (State.jobStart_keeps (sub fm) (State.trackPhase_keeps (sub fm) (State.selectParent_keeps (sub fm) ?_)))))))
        refine Keeps.fold ?_ ?_
        · assumption
        · intro t13 t14 k15
          exact State.tileCount_keeps (sub fm) ‹_›
      · refine Keeps.set_tick (sub fm) (Keeps.eta (State.jobStart_keeps (sub fm) (State.jobStart_keeps (sub fm) (State.sendMarkers_keeps (sub fm) (State.commitStage_keeps (sub fm) (State.jobStart_keeps (sub fm) (State.trackPhase_keeps (sub fm) (State.selectParent_keeps (sub fm) ?_))))))))
        refine Keeps.fold ?_ ?_
        · assumption
        · intro t17 t18 k19
          exact State.tileCount_keeps (sub fm) ‹_›
  · split
    · split
      · refine State.refillJob_keeps (sub fm) (State.jobStart_keeps (sub fm) (State.sendTelltales_keeps (sub fm) (State.jobStart_keeps (sub fm) (State.sendMarkers_keeps (sub fm) (State.jobStart_keeps (sub fm) (State.trackPhase_keeps (sub fm) (State.selectParent_keeps (sub fm) ?_)))))))
        refine Keeps.fold ?_ ?_
        · assumption
        · intro t23 t24 k25
          exact State.tileCount_keeps (sub fm) ‹_›
      · refine Keeps.set_tick (sub fm) (Keeps.eta (State.jobStart_keeps (sub fm) (State.sendTelltales_keeps (sub fm) (State.jobStart_keeps (sub fm) (State.sendMarkers_keeps (sub fm) (State.jobStart_keeps (sub fm) (State.trackPhase_keeps (sub fm) (State.selectParent_keeps (sub fm) ?_))))))))
        refine Keeps.fold ?_ ?_
        · assumption
        · intro t27 t28 k29
          exact State.tileCount_keeps (sub fm) ‹_›
    · split
      · refine State.refillJob_keeps (sub fm) (State.jobStart_keeps (sub fm) (State.jobStart_keeps (sub fm) (State.sendMarkers_keeps (sub fm) (State.jobStart_keeps (sub fm) (State.trackPhase_keeps (sub fm) (State.selectParent_keeps (sub fm) ?_))))))
        refine Keeps.fold ?_ ?_
        · assumption
        · intro t32 t33 k34
          exact State.tileCount_keeps (sub fm) ‹_›
      · refine Keeps.set_tick (sub fm) (Keeps.eta (State.jobStart_keeps (sub fm) (State.jobStart_keeps (sub fm) (State.sendMarkers_keeps (sub fm) (State.jobStart_keeps (sub fm) (State.trackPhase_keeps (sub fm) (State.selectParent_keeps (sub fm) ?_)))))))
        refine Keeps.fold ?_ ?_
        · assumption
        · intro t36 t37 k38
          exact State.tileCount_keeps (sub fm) ‹_›

theorem State.laneJobs_keeps {F a} {s1 : State} (fm : 260865 &&& F = 260865) (h1 : Keeps F a s1) : Keeps F a (@State.laneJobs s1) := by
  unfold State.laneJobs
  dsimp only
  refine Keeps.fold ?_ ?_
  · refine Keeps.fold ?_ ?_
    · assumption
    · intro t1 t2 k3
      exact State.nextSpare_keeps (sub fm) ‹_›
  · intro t4 t5 k6
    refine State.syncLink_keeps (sub fm) ?_ ?_
    · assumption
    · exact State.laneTick_keeps (sub fm) ‹_›

theorem execTickBoundary_keeps {F a} {x1} {s2 : State} (fm : 12754878459 &&& F = 12754878459) (h2 : Keeps F a s2) {r} (e : @execTickBoundary x1 s2 = .next r) : Keeps F a r := by
  unfold execTickBoundary at e
  dsimp only at e
  split at e
  · rw [← Host.Outcome.next.inj e]
    assumption
  · rw [← Host.Outcome.next.inj e]
    split
    · split
      · split
        · refine State.zWindow_keeps (sub fm) (State.jobStart_keeps (sub fm) ?_)
          refine Keeps.fold ?_ ?_
          · refine State.firstJobs_keeps (sub fm) ?_
            refine Keeps.fold ?_ ?_
            · exact State.keysDue_keeps (sub fm) (State.openTick_keeps (sub fm) (State.endTick_keeps (sub fm) (State.refillTo_keeps (sub fm) (State.zFlush_keeps (sub fm) ‹_›))))
            · intro t6 t7 k8
              exact State.portEnd_keeps (sub fm) ‹_›
          · intro t9 t10 k11
            exact State.fomUpdate_keeps (sub fm) ‹_›
        · refine State.jobStart_keeps (sub fm) ?_
          refine Keeps.fold ?_ ?_
          · refine State.firstJobs_keeps (sub fm) ?_
            refine Keeps.fold ?_ ?_
            · exact State.keysDue_keeps (sub fm) (State.openTick_keeps (sub fm) (State.endTick_keeps (sub fm) (State.refillTo_keeps (sub fm) (State.zFlush_keeps (sub fm) ‹_›))))
            · intro t13 t14 k15
              exact State.portEnd_keeps (sub fm) ‹_›
          · intro t16 t17 k18
            exact State.fomUpdate_keeps (sub fm) ‹_›
      · split
        · refine State.zWindow_keeps (sub fm) (State.jobStart_keeps (sub fm) (State.laneJobs_keeps (sub fm) ?_))
          refine Keeps.fold ?_ ?_
          · refine State.firstJobs_keeps (sub fm) ?_
            refine Keeps.fold ?_ ?_
            · exact State.keysDue_keeps (sub fm) (State.openTick_keeps (sub fm) (State.endTick_keeps (sub fm) (State.refillTo_keeps (sub fm) (State.zFlush_keeps (sub fm) ‹_›))))
            · intro t21 t22 k23
              exact State.portEnd_keeps (sub fm) ‹_›
          · intro t24 t25 k26
            exact State.fomUpdate_keeps (sub fm) ‹_›
        · refine State.jobStart_keeps (sub fm) (State.laneJobs_keeps (sub fm) ?_)
          refine Keeps.fold ?_ ?_
          · refine State.firstJobs_keeps (sub fm) ?_
            refine Keeps.fold ?_ ?_
            · exact State.keysDue_keeps (sub fm) (State.openTick_keeps (sub fm) (State.endTick_keeps (sub fm) (State.refillTo_keeps (sub fm) (State.zFlush_keeps (sub fm) ‹_›))))
            · intro t28 t29 k30
              exact State.portEnd_keeps (sub fm) ‹_›
          · intro t31 t32 k33
            exact State.fomUpdate_keeps (sub fm) ‹_›
    · split
      · split
        · refine State.zWindow_keeps (sub fm) (State.jobStart_keeps (sub fm) ?_)
          refine Keeps.fold ?_ ?_
          · refine State.midJobs_keeps (sub fm) (State.firstJobs_keeps (sub fm) ?_)
            refine Keeps.fold ?_ ?_
            · exact State.keysDue_keeps (sub fm) (State.openTick_keeps (sub fm) (State.endTick_keeps (sub fm) (State.refillTo_keeps (sub fm) (State.zFlush_keeps (sub fm) ‹_›))))
            · intro t37 t38 k39
              exact State.portEnd_keeps (sub fm) ‹_›
          · intro t40 t41 k42
            exact State.fomUpdate_keeps (sub fm) ‹_›
        · refine State.jobStart_keeps (sub fm) ?_
          refine Keeps.fold ?_ ?_
          · refine State.midJobs_keeps (sub fm) (State.firstJobs_keeps (sub fm) ?_)
            refine Keeps.fold ?_ ?_
            · exact State.keysDue_keeps (sub fm) (State.openTick_keeps (sub fm) (State.endTick_keeps (sub fm) (State.refillTo_keeps (sub fm) (State.zFlush_keeps (sub fm) ‹_›))))
            · intro t44 t45 k46
              exact State.portEnd_keeps (sub fm) ‹_›
          · intro t47 t48 k49
            exact State.fomUpdate_keeps (sub fm) ‹_›
      · split
        · refine State.zWindow_keeps (sub fm) (State.jobStart_keeps (sub fm) (State.laneJobs_keeps (sub fm) ?_))
          refine Keeps.fold ?_ ?_
          · refine State.midJobs_keeps (sub fm) (State.firstJobs_keeps (sub fm) ?_)
            refine Keeps.fold ?_ ?_
            · exact State.keysDue_keeps (sub fm) (State.openTick_keeps (sub fm) (State.endTick_keeps (sub fm) (State.refillTo_keeps (sub fm) (State.zFlush_keeps (sub fm) ‹_›))))
            · intro t52 t53 k54
              exact State.portEnd_keeps (sub fm) ‹_›
          · intro t55 t56 k57
            exact State.fomUpdate_keeps (sub fm) ‹_›
        · refine State.jobStart_keeps (sub fm) (State.laneJobs_keeps (sub fm) ?_)
          refine Keeps.fold ?_ ?_
          · refine State.midJobs_keeps (sub fm) (State.firstJobs_keeps (sub fm) ?_)
            refine Keeps.fold ?_ ?_
            · exact State.keysDue_keeps (sub fm) (State.openTick_keeps (sub fm) (State.endTick_keeps (sub fm) (State.refillTo_keeps (sub fm) (State.zFlush_keeps (sub fm) ‹_›))))
            · intro t59 t60 k61
              exact State.portEnd_keeps (sub fm) ‹_›
          · intro t62 t63 k64
            exact State.fomUpdate_keeps (sub fm) ‹_›

theorem execAdaptiveWeightUpdate_keeps {F a} {x1} {s2 : State} (fm : 12754878459 &&& F = 12754878459) (h2 : Keeps F a s2) {r} (e : @execAdaptiveWeightUpdate x1 s2 = .next r) : Keeps F a r := by
  unfold execAdaptiveWeightUpdate at e
  dsimp only at e
  split at e
  · split at e
    · rw [← Host.Outcome.next.inj e]
      exact Keeps.set_route (sub fm) (Keeps.eta (State.jobEnd_keeps (sub fm) (State.jobStart_keeps (sub fm) (State.zFlush_keeps (sub fm) ‹_›))))
    · rw [← Host.Outcome.next.inj e]
      exact State.jobEnd_keeps (sub fm) (State.jobStart_keeps (sub fm) (State.zFlush_keeps (sub fm) ‹_›))
  · rw [← Host.Outcome.next.inj e]
    exact State.jobStart_keeps (sub fm) (State.zFlush_keeps (sub fm) ‹_›)

theorem execWeightsInForce_keeps {F a} {s1 : State} (fm : 12754878459 &&& F = 12754878459) (h1 : Keeps F a s1) {r} (e : @execWeightsInForce s1 = .next r) : Keeps F a r := by
  unfold execWeightsInForce at e
  dsimp only at e
  split at e
  · split at e
    · rw [← Host.Outcome.next.inj e]
      exact State.zFlush_keeps (sub fm) ‹_›
    · rw [← Host.Outcome.next.inj e]
      exact Keeps.set_route (sub fm) (Keeps.eta (State.zFlush_keeps (sub fm) ‹_›))
  · rw [← Host.Outcome.next.inj e]
    exact State.zFlush_keeps (sub fm) ‹_›

theorem execClearanceScheduling_keeps {F a} {x1 x2 x3} {s4 : State} (fm : 12754878459 &&& F = 12754878459) (h4 : Keeps F a s4) {r} (e : @execClearanceScheduling x1 x2 x3 s4 = .next r) : Keeps F a r := by
  unfold execClearanceScheduling at e
  dsimp only at e
  split at e
  · rw [← Host.Outcome.next.inj e]
    exact State.zFlush_keeps (sub fm) ‹_›
  · split at e
    · rw [← Host.Outcome.next.inj e]
      exact State.jobStart_keeps (sub fm) (State.zFlush_keeps (sub fm) ‹_›)
    · rw [← Host.Outcome.next.inj e]
      refine State.jobEnd_keeps (sub fm) (State.updXpt_keeps (sub fm) ?_)
      refine Keeps.fold ?_ ?_
      · exact State.jobStart_keeps (sub fm) (State.zFlush_keeps (sub fm) ‹_›)
      · intro t5 t6 k7
        exact State.serveAnn_keeps (sub fm) ‹_›

theorem execTriggerCounterChange_keeps {F a} {x1} {s2 : State} (fm : 4297064449 &&& F = 4297064449) (h2 : Keeps F a s2) {r} (e : @execTriggerCounterChange x1 s2 = .next r) : Keeps F a r := by
  unfold execTriggerCounterChange at e
  split at e
  · rw [← Host.Outcome.next.inj e]
    assumption
  · split at e
    · rw [← Host.Outcome.next.inj e]
      assumption
    · rw [← Host.Outcome.next.inj e]
      exact State.applyTrig_keeps (sub fm) (Keeps.set_trig (sub fm) (Keeps.eta ‹_›))

theorem State.stage1_keeps {F a} {s1 : State} {x2} (fm : 4297064449 &&& F = 4297064449) (h1 : Keeps F a s1) : Keeps F a (@State.stage1 s1 x2) := by
  unfold State.stage1
  exact State.drainTrig_keeps (sub fm) ‹_›

theorem execCtrAdd_keeps {F a} {x1 x2} {s3 : State} (fm : 4431282177 &&& F = 4431282177) (h3 : Keeps F a s3) {r} (e : @execCtrAdd x1 x2 s3 = .next r) : Keeps F a r := by
  unfold execCtrAdd at e
  split at e
  · rw [← Host.Outcome.next.inj e]
    assumption
  · rw [← Host.Outcome.next.inj e]
    refine State.runDesc_keeps (sub fm) ?_ ?_
    · assumption
    · intro t6 k7
      dsimp only
      exact State.stage1_keeps (sub fm) (State.pushTrig_keeps (sub fm) ‹_›)

theorem State.arm_keeps {F a} {s1 : State} {x2 x3 x4} (fm : 8726249473 &&& F = 8726249473) (h1 : Keeps F a s1) : Keeps F a (@State.arm s1 x2 x3 x4).2 := by
  unfold State.arm
  dsimp only
  split
  · split
    · dsimp only
      assumption
    · split
      · dsimp only
        assumption
      · split
        · dsimp only
          assumption
        · rename_i v11 v12 v13
          dsimp only
          refine State.testSlot_keeps (sub fm) (State.bump_keeps (sub fm) (State.updChain_keeps (sub fm) (State.hostTxn_keeps (sub fm) ?_)))
          refine (State.viRead_keeps (sub fm) ?_ v13 : _)
          assumption
  · split
    · dsimp only
      assumption
    · split
      · dsimp only
        assumption
      · split
        · dsimp only
          assumption
        · rename_i v24 v25 v26
          dsimp only
          refine State.testSlot_keeps (sub fm) (State.bump_keeps (sub fm) (State.updChain_keeps (sub fm) (State.hostTxn_keeps (sub fm) ?_)))
          refine (State.viRead_keeps (sub fm) ?_ v26 : _)
          assumption

theorem execChainFiringComplete_keeps {F a} {x1 x2} {s3 : State} (fm : 4297064448 &&& F = 4297064448) (h3 : Keeps F a s3) {r} (e : @execChainFiringComplete x1 x2 s3 = .next r) : Keeps F a r := by
  unfold execChainFiringComplete at e
  dsimp only at e
  split at e
  · rw [← Host.Outcome.next.inj e]
    assumption
  · split at e
    · rw [← Host.Outcome.next.inj e]
      exact State.pushTrig_keeps (sub fm) (State.updVi_keeps (sub fm) ‹_›)
    · rw [← Host.Outcome.next.inj e]
      exact State.updVi_keeps (sub fm) ‹_›

theorem State.skipShare_keeps {F a} {s1 : State} {x2} (fm : 65 &&& F = 65) (h1 : Keeps F a s1) : Keeps F a (@State.skipShare s1 x2) := by
  unfold State.skipShare
  dsimp only
  split
  · split
    · assumption
    · exact State.bump_keeps (sub fm) (Keeps.set_tick (sub fm) (Keeps.eta ‹_›))
  · split
    · exact State.bump_keeps (sub fm) ‹_›
    · exact State.bump_keeps (sub fm) (Keeps.set_tick (sub fm) (Keeps.eta (State.bump_keeps (sub fm) ‹_›)))

theorem State.watchdogStop_keeps {F a} {s1 : State} {x2} (fm : 10201596609 &&& F = 10201596609) (h1 : Keeps F a s1) : Keeps F a (@State.watchdogStop s1 x2) := by
  unfold State.watchdogStop
  dsimp only
  refine State.cleatAbandonOrigin_keeps (sub fm) (State.detect_keeps (sub fm) (State.bump_keeps (sub fm) (State.fput_keeps (sub fm) ?_)))
  refine Keeps.fold ?_ ?_
  · assumption
  · intro t1 t2 k3
    exact State.skipShare_keeps (sub fm) (Keeps.set_tick (sub fm) (Keeps.eta ‹_›))

theorem execChainArm_keeps {F a} {x1 x2 x3} {s4 : State} (fm : 13021216769 &&& F = 13021216769) (h4 : Keeps F a s4) {r} (e : @execChainArm x1 x2 x3 s4 = .next r) : Keeps F a r := by
  unfold execChainArm at e
  dsimp only at e
  split at e
  · rw [← Host.Outcome.next.inj e]
    assumption
  · rw [← Host.Outcome.next.inj e]
    refine State.runDesc_keeps (sub fm) ?_ ?_
    · assumption
    · intro t6 k7
      dsimp only
      exact State.arm_keeps (sub fm) (State.stage1_keeps (sub fm) ‹_›)

theorem execEngineWatchdog_keeps {F a} {x1} {s2 : State} (fm : 10201596609 &&& F = 10201596609) (h2 : Keeps F a s2) {r} (e : @execEngineWatchdog x1 s2 = .next r) : Keeps F a r := by
  unfold execEngineWatchdog at e
  split at e
  · rw [← Host.Outcome.next.inj e]
    assumption
  · rw [← Host.Outcome.next.inj e]
    exact State.watchdogStop_keeps (sub fm) ‹_›

theorem execChainEntryBegin_keeps {F a} {x1 x2 x3} {s4 : State} (fm : 136314881 &&& F = 136314881) (h4 : Keeps F a s4) {r} (e : @execChainEntryBegin x1 x2 x3 s4 = .next r) : Keeps F a r := by
  unfold execChainEntryBegin at e
  dsimp only at e
  split at e
  · rw [← Host.Outcome.next.inj e]
    assumption
  · split at e
    · rw [← Host.Outcome.next.inj e]
      assumption
    · split at e
      · rw [← Host.Outcome.next.inj e]
        assumption
      · split at e
        · split at e
          · rw [← Host.Outcome.next.inj e]
            exact State.updVi_keeps (sub fm) (State.fresh_keeps (State.bump_keeps (sub fm) (State.bump_keeps (sub fm) (State.updChain_keeps (sub fm) ‹_›))))
          · rw [← Host.Outcome.next.inj e]
            exact State.complete_keeps (sub fm) (State.chainBegun_keeps (sub fm) (State.bump_keeps (sub fm) (State.updVi_keeps (sub fm) (State.fresh_keeps (State.bump_keeps (sub fm) (State.bump_keeps (sub fm) (State.updChain_keeps (sub fm) ‹_›)))))))
        · rw [← Host.Outcome.next.inj e]
          exact State.chainBegun_keeps (sub fm) (State.firingEntryDone_keeps (sub fm) (State.bump_keeps (sub fm) (State.bump_keeps (sub fm) (State.updChain_keeps (sub fm) ‹_›))))

theorem execCtrSet_keeps {F a} {x1 x2} {s3 : State} (fm : 4431282177 &&& F = 4431282177) (h3 : Keeps F a s3) {r} (e : @execCtrSet x1 x2 s3 = .next r) : Keeps F a r := by
  unfold execCtrSet at e
  split at e
  · rw [← Host.Outcome.next.inj e]
    assumption
  · rw [← Host.Outcome.next.inj e]
    refine State.runDesc_keeps (sub fm) ?_ ?_
    · assumption
    · intro t6 k7
      dsimp only
      exact State.stage1_keeps (sub fm) (State.pushTrig_keeps (sub fm) ‹_›)

theorem execChainDisarm_keeps {F a} {x1 x2} {s3 : State} (fm : 13021216769 &&& F = 13021216769) (h3 : Keeps F a s3) {r} (e : @execChainDisarm x1 x2 s3 = .next r) : Keeps F a r := by
  unfold execChainDisarm at e
  dsimp only at e
  split at e
  · rw [← Host.Outcome.next.inj e]
    assumption
  · rw [← Host.Outcome.next.inj e]
    refine State.runDesc_keeps (sub fm) ?_ ?_
    · assumption
    · intro t6 k7
      dsimp only
      split
      · split
        · exact State.updVi_keeps (sub fm) (State.bump_keeps (sub fm) (State.disarm_keeps (sub fm) (State.stage1_keeps (sub fm) ‹_›)))
        · exact State.bump_keeps (sub fm) (State.disarm_keeps (sub fm) (State.stage1_keeps (sub fm) ‹_›))
      · split
        · rename_i v12 v13 v14
          refine State.hostTxn_keeps (sub fm) ?_
          refine (State.viWrite_keeps (sub fm) ?_ v14 : _)
          split
          · exact State.updVi_keeps (sub fm) (State.bump_keeps (sub fm) (State.disarm_keeps (sub fm) (State.stage1_keeps (sub fm) ‹_›)))
          · exact State.bump_keeps (sub fm) (State.disarm_keeps (sub fm) (State.stage1_keeps (sub fm) ‹_›))
        · split
          · exact State.updVi_keeps (sub fm) (State.bump_keeps (sub fm) (State.disarm_keeps (sub fm) (State.stage1_keeps (sub fm) ‹_›)))
          · exact State.bump_keeps (sub fm) (State.disarm_keeps (sub fm) (State.stage1_keeps (sub fm) ‹_›))

theorem execCtrRead_keeps {F a} {x1 x2} {s3 : State} (fm : 13021216769 &&& F = 13021216769) (h3 : Keeps F a s3) {r} (e : @execCtrRead x1 x2 s3 = .next r) : Keeps F a r := by
  unfold execCtrRead at e
  dsimp only at e
  split at e
  · rw [← Host.Outcome.next.inj e]
    assumption
  · rw [← Host.Outcome.next.inj e]
    refine State.runDesc_keeps (sub fm) ?_ ?_
    · assumption
    · intro t6 k7
      split
      · rename_i v8 v9 v10
        dsimp only
        refine State.hostTxn_keeps (sub fm) ?_
        refine (State.viWrite_keeps (sub fm) ?_ v10 : _)
        exact State.stage1_keeps (sub fm) ‹_›
      · dsimp only
        exact State.stage1_keeps (sub fm) ‹_›

theorem execPairedJournalling_keeps {F a} {x1 x2} {s3 : State} (fm : 12754878459 &&& F = 12754878459) (h3 : Keeps F a s3) {r} (e : @execPairedJournalling x1 x2 s3 = .next r) : Keeps F a r := by
  unfold execPairedJournalling at e
  dsimp only at e
  split at e
  · rw [← Host.Outcome.next.inj e]
    exact State.zFlush_keeps (sub fm) ‹_›
  · split at e
    · rw [← Host.Outcome.next.inj e]
      exact State.skipShare_keeps (sub fm) (State.zFlush_keeps (sub fm) ‹_›)
    · rw [← Host.Outcome.next.inj e]
      refine State.jobEnd_keeps (sub fm) (State.bump_keeps (sub fm) ?_)
      split
      · exact State.journalRun_keeps (sub fm) (State.zFlush_keeps (sub fm) ‹_›)
      · exact State.zFlush_keeps (sub fm) ‹_›

theorem execSyncDoneReceive_keeps {F a} {x1} {s2 : State} (fm : 2147516417 &&& F = 2147516417) (h2 : Keeps F a s2) {r} (e : @execSyncDoneReceive x1 s2 = .next r) : Keeps F a r := by
  unfold execSyncDoneReceive at e
  dsimp only at e
  split at e
  · rw [← Host.Outcome.next.inj e]
    assumption
  · rename_i v3 v4 v5 v6
    split at e
    · rw [← Host.Outcome.next.inj e]
      refine State.trySync_keeps (sub fm) (Keeps.set_lany (sub fm) (Keeps.eta ?_))
      refine (State.takeLany_keeps (sub fm) ?_ v6 : _)
      assumption
    · rw [← Host.Outcome.next.inj e]
      refine (State.takeLany_keeps (sub fm) ?_ v6 : _)
      assumption

theorem execJournalFrameReceive_keeps {F a} {x1} {s2 : State} (fm : 2147516417 &&& F = 2147516417) (h2 : Keeps F a s2) {r} (e : @execJournalFrameReceive x1 s2 = .next r) : Keeps F a r := by
  unfold execJournalFrameReceive at e
  split at e
  · rw [← Host.Outcome.next.inj e]
    assumption
  · rename_i v3 v4 v5 v6
    rw [← Host.Outcome.next.inj e]
    split
    · refine State.takeJournal_keeps (sub fm) ?_
      refine (State.takeLany_keeps (sub fm) ?_ v6 : _)
      assumption
    · refine (State.takeLany_keeps (sub fm) ?_ v6 : _)
      assumption

theorem execContextAdoption_keeps {F a} {x1 x2} {s3 : State} (fm : 2284158977 &&& F = 2284158977) (h3 : Keeps F a s3) {r} (e : @execContextAdoption x1 x2 s3 = .next r) : Keeps F a r := by
  unfold execContextAdoption at e
  dsimp only at e
  split at e
  · rw [← Host.Outcome.next.inj e]
    assumption
  · rw [← Host.Outcome.next.inj e]
    exact Keeps.set_lany (sub fm) (Keeps.eta (State.adoptAll_keeps (sub fm) ‹_›))

theorem execTwinLost_keeps {F a} {s1 : State} (fm : 1 &&& F = 1) (h1 : Keeps F a s1) {r} (e : @execTwinLost s1 = .next r) : Keeps F a r := by
  unfold execTwinLost at e
  split at e
  · rw [← Host.Outcome.next.inj e]
    exact State.event_keeps (State.raise_keeps (sub fm) (State.fput_keeps (sub fm) ‹_›))
  · rw [← Host.Outcome.next.inj e]
    assumption

theorem execTakeoverReceive_keeps {F a} {x1} {s2 : State} (fm : 136348161 &&& F = 136348161) (h2 : Keeps F a s2) {r} (e : @execTakeoverReceive x1 s2 = .next r) : Keeps F a r := by
  unfold execTakeoverReceive at e
  dsimp only at e
  split at e
  · rw [← Host.Outcome.next.inj e]
    assumption
  · rename_i v3 v4 v5 v6
    split at e
    · rw [← Host.Outcome.next.inj e]
      refine (State.takeLany_keeps (sub fm) ?_ v6 : _)
      assumption
    · split at e
      · rw [← Host.Outcome.next.inj e]
        refine State.raise_keeps (sub fm) ?_
        refine (State.takeLany_keeps (sub fm) ?_ v6 : _)
        assumption
      · rw [← Host.Outcome.next.inj e]
        refine State.enterFatal_keeps (sub fm) (State.raise_keeps (sub fm) ?_)
        refine (State.takeLany_keeps (sub fm) ?_ v6 : _)
        assumption

theorem execShareUncovered_keeps {F a} {x1} {s2 : State} (fm : 1 &&& F = 1) (h2 : Keeps F a s2) {r} (e : @execShareUncovered x1 s2 = .next r) : Keeps F a r := by
  unfold execShareUncovered at e
  dsimp only at e
  split at e
  · rw [← Host.Outcome.next.inj e]
    exact State.event_keeps (State.raise_keeps (sub fm) (State.bput_keeps (sub fm) (State.bput_keeps (sub fm) ‹_›)))
  · rw [← Host.Outcome.next.inj e]
    assumption

theorem State.injectOpte_keeps {F a} {s1 : State} {x2 x3} (fm : 16897 &&& F = 16897) (h1 : Keeps F a s1) : Keeps F a (@State.injectOpte s1 x2 x3) := by
  unfold State.injectOpte
  dsimp only
  split
  · exact State.updSpare_keeps (sub fm) (State.bput_keeps (sub fm) (State.bput_keeps (sub fm) (State.raise_keeps (sub fm) ‹_›)))
  · split
    · exact State.bump_keeps (sub fm) (State.logErr_keeps (sub fm) (State.raise_keeps (sub fm) ‹_›))
    · exact State.raise_keeps (sub fm) ‹_›

theorem State.injectHost_keeps {F a} {s1 : State} {x2 x3} (fm : 10069737857 &&& F = 10069737857) (h1 : Keeps F a s1) : Keeps F a (@State.injectHost s1 x2 x3) := by
  unfold State.injectHost
  dsimp only
  split
  · exact State.pfEvent_keeps (sub fm) (State.bump_keeps (sub fm) (State.raise_keeps (sub fm) ‹_›))
  · split
    · split
      · exact State.portDown_keeps (sub fm) (State.portReset_keeps (sub fm) ‹_›)
      · exact State.pfEvent_keeps (sub fm) (State.bump_keeps (sub fm) (State.raise_keeps (sub fm) ‹_›))
    · split
      · exact State.pfEvent_keeps (sub fm) (State.raise_keeps (sub fm) ‹_›)
      · exact State.raise_keeps (sub fm) ‹_›

theorem State.injectLane_keeps {F a} {s1 : State} {x2 x3} (fm : 244481 &&& F = 244481) (h1 : Keeps F a s1) : Keeps F a (@State.injectLane s1 x2 x3) := by
  unfold State.injectLane
  dsimp only
  split
  · exact State.losOn_keeps (sub fm) ‹_›
  · split
    · exact State.lolOn_keeps (sub fm) ‹_›
    · split
      · split
        · refine State.syncLink_keeps (sub fm) ?_ ?_
          · exact State.raise_keeps (sub fm) ‹_›
          · refine Keeps.fold ?_ ?_
            · exact State.setBond_keeps (sub fm) (State.raise_keeps (sub fm) ‹_›)
            · intro t7 t8 k9
              split
              · exact State.toSignal_keeps (sub fm) ‹_›
              · assumption
        · exact State.raise_keeps (sub fm) ‹_›
      · split
        · exact State.burst_keeps (sub fm) ‹_›
        · split
          · exact State.fallback_keeps (sub fm) ‹_›
          · exact State.bump_keeps (sub fm) (State.raise_keeps (sub fm) ‹_›)

theorem State.injectLink_keeps {F a} {s1 : State} {x2 x3} (fm : 244481 &&& F = 244481) (h1 : Keeps F a s1) : Keeps F a (@State.injectLink s1 x2 x3) := by
  unfold State.injectLink
  dsimp only
  split
  · split
    · exact State.bump_keeps (sub fm) (State.raise_keeps (sub fm) ‹_›)
    · exact State.linkDown_keeps (sub fm) ‹_›
  · split
    · split
      · exact State.reExchange_keeps (sub fm) (State.endSession_keeps (sub fm) ‹_›)
      · exact State.bump_keeps (sub fm) (State.raise_keeps (sub fm) ‹_›)
    · split
      · split
        · exact State.fput_keeps (sub fm) (State.bump_keeps (sub fm) (State.raise_keeps (sub fm) ‹_›))
        · exact State.bump_keeps (sub fm) (State.raise_keeps (sub fm) ‹_›)
      · split
        · split
          · exact State.retrainNow_keeps (sub fm) ‹_›
          · exact State.bump_keeps (sub fm) (State.raise_keeps (sub fm) ‹_›)
        · split
          · split
            · exact State.testLanes_keeps (sub fm) (State.raise_keeps (sub fm) ‹_›)
            · exact State.windowExceeded_keeps (sub fm) ‹_›
          · split
            · split
              · exact State.linkRetrain_keeps (sub fm) (State.testLanes_keeps (sub fm) (State.raise_keeps (sub fm) ‹_›))
              · exact State.testLanes_keeps (sub fm) (State.raise_keeps (sub fm) ‹_›)
            · split
              · exact State.creditOverrun_keeps (sub fm) ‹_›
              · exact State.raise_keeps (sub fm) ‹_›

theorem State.injectRoute_keeps {F a} {s1 : State} {x2} (fm : 136559393 &&& F = 136559393) (h1 : Keeps F a s1) : Keeps F a (@State.injectRoute s1 x2) := by
  unfold State.injectRoute
  dsimp only
  split
  · exact State.bump_keeps (sub fm) (State.raise_keeps (sub fm) ‹_›)
  · split
    · exact State.bump_keeps (sub fm) (State.raise_keeps (sub fm) ‹_›)
    · split
      · exact State.bump_keeps (sub fm) (State.raise_keeps (sub fm) ‹_›)
      · split
        · split
          · exact State.deadlineCommit_keeps (sub fm) ‹_›
          · exact State.bump_keeps (sub fm) (State.raise_keeps (sub fm) ‹_›)
        · split
          · split
            · exact State.deadlineCommit_keeps (sub fm) ‹_›
            · exact State.raise_keeps (sub fm) ‹_›
          · split
            · exact State.rowError_keeps (sub fm) ‹_›
            · split
              · exact State.enterFatal_keeps (sub fm) (State.rowError_keeps (sub fm) ‹_›)
              · exact State.raise_keeps (sub fm) ‹_›

theorem State.injectXpt_keeps {F a} {s1 : State} {x2 x3} (fm : 136675329 &&& F = 136675329) (h1 : Keeps F a s1) : Keeps F a (@State.injectXpt s1 x2 x3) := by
  unfold State.injectXpt
  dsimp only
  split
  · exact State.bump_keeps (sub fm) (State.raise_keeps (sub fm) ‹_›)
  · split
    · exact State.bump_keeps (sub fm) (State.raise_keeps (sub fm) ‹_›)
    · split
      · exact State.bump_keeps (sub fm) (State.raise_keeps (sub fm) ‹_›)
      · split
        · exact State.bump_keeps (sub fm) (State.closeLru_keeps (sub fm) (State.raise_keeps (sub fm) ‹_›))
        · split
          · exact State.bump_keeps (sub fm) (State.raise_keeps (sub fm) ‹_›)
          · split
            · exact State.bump_keeps (sub fm) (State.raise_keeps (sub fm) ‹_›)
            · exact State.raise_keeps (sub fm) ‹_›

theorem State.injectLany_keeps {F a} {s1 : State} {x2} (fm : 136348161 &&& F = 136348161) (h1 : Keeps F a s1) : Keeps F a (@State.injectLany s1 x2) := by
  unfold State.injectLany
  dsimp only
  split
  · split
    · exact State.event_keeps (State.fput_keeps (sub fm) (State.raise_keeps (sub fm) ‹_›))
    · exact State.raise_keeps (sub fm) ‹_›
  · split
    · exact State.event_keeps (State.raise_keeps (sub fm) ‹_›)
    · split
      · exact State.event_keeps (State.raise_keeps (sub fm) ‹_›)
      · split
        · exact State.enterFatal_keeps (sub fm) (State.raise_keeps (sub fm) ‹_›)
        · exact State.raise_keeps (sub fm) ‹_›

theorem State.injectBlock_keeps {F a} {s1 : State} {x2 x3} (fm : 10606869473 &&& F = 10606869473) (h1 : Keeps F a s1) : Keeps F a (@State.injectBlock s1 x2 x3) := by
  unfold State.injectBlock
  dsimp only
  split
  · split
    · exact State.rowError_keeps (sub fm) (State.bump_keeps (sub fm) ‹_›)
    · split
      · exact State.detect_keeps (sub fm) ‹_›
      · split
        · exact State.withdrawRow_keeps (sub fm) ‹_›
        · exact State.raise_keeps (sub fm) ‹_›
  · split
    · exact State.injectLane_keeps (sub fm) ‹_›
    · exact State.injectLink_keeps (sub fm) ‹_›
  · exact State.injectOpte_keeps (sub fm) ‹_›
  · exact State.injectRoute_keeps (sub fm) ‹_›
  · exact State.injectXpt_keeps (sub fm) ‹_›
  · split
    · exact State.detect_keeps (sub fm) ‹_›
    · exact State.bump_keeps (sub fm) (State.raise_keeps (sub fm) ‹_›)
  · split
    · exact State.detect_keeps (sub fm) ‹_›
    · exact State.bump_keeps (sub fm) (State.raise_keeps (sub fm) ‹_›)
  · split
    · exact State.detect_keeps (sub fm) ‹_›
    · exact State.bump_keeps (sub fm) (State.bump_keeps (sub fm) (State.raise_keeps (sub fm) ‹_›))
  · split
    · exact State.engineCheck_keeps (sub fm) (State.bump_keeps (sub fm) ‹_›)
    · split
      · exact State.watchdogStop_keeps (sub fm) ‹_›
      · exact State.raise_keeps (sub fm) ‹_›
  · split
    · exact State.bump_keeps (sub fm) (State.bput_keeps (sub fm) (State.raise_keeps (sub fm) ‹_›))
    · split
      · exact State.bump_keeps (sub fm) (State.bput_keeps (sub fm) (State.raise_keeps (sub fm) ‹_›))
      · exact State.raise_keeps (sub fm) ‹_›
  · split
    · exact State.detect_keeps (sub fm) ‹_›
    · split
      · exact State.raise_keeps (sub fm) (State.satAdd_keeps (sub fm) ‹_›)
      · split
        · exact State.enterFatal_keeps (sub fm) (State.raise_keeps (sub fm) ‹_›)
        · exact State.raise_keeps (sub fm) ‹_›
  · split
    · exact State.detect_keeps (sub fm) (State.bump_keeps (sub fm) ‹_›)
    · exact State.bump_keeps (sub fm) (State.raise_keeps (sub fm) ‹_›)
  · exact State.injectHost_keeps (sub fm) ‹_›
  · split
    · exact State.bump_keeps (sub fm) (State.raise_keeps (sub fm) ‹_›)
    · split
      · exact State.bump_keeps (sub fm) (State.bump_keeps (sub fm) (State.raise_keeps (sub fm) ‹_›))
      · exact State.raise_keeps (sub fm) ‹_›
  · exact State.injectLany_keeps (sub fm) ‹_›
  · split
    · exact State.bumpVf_keeps (sub fm) (State.bump_keeps (sub fm) (State.raise_keeps (sub fm) ‹_›))
    · exact State.raise_keeps (sub fm) ‹_›
  · split
    · exact State.event_keeps (State.raise_keeps (sub fm) ‹_›)
    · exact State.raise_keeps (sub fm) ‹_›
  · exact State.raise_keeps (sub fm) ‹_›

theorem State.injectOne_keeps {F a} {s1 : State} {x2 x3} (fm : 10606869473 &&& F = 10606869473) (h1 : Keeps F a s1) : Keeps F a (@State.injectOne s1 x2 x3) := by
  unfold State.injectOne
  dsimp only
  split
  · exact State.raise_keeps (sub fm) (State.bput_keeps (sub fm) ‹_›)
  · split
    · exact State.detect_keeps (sub fm) (State.raise_keeps (sub fm) (State.bput_keeps (sub fm) ‹_›))
    · split
      · exact State.raise_keeps (sub fm) (State.raise_keeps (sub fm) (State.bput_keeps (sub fm) ‹_›))
      · split
        · exact State.injectBlock_keeps (sub fm) (State.raise_keeps (sub fm) (State.bput_keeps (sub fm) ‹_›))
        · split
          · exact Keeps.set_mem (sub fm) (Keeps.etaMem (State.bput_keeps (sub fm) (State.raise_keeps (sub fm) (State.raise_keeps (sub fm) (State.bput_keeps (sub fm) ‹_›)))))
          · exact State.raise_keeps (sub fm) (State.raise_keeps (sub fm) (State.bput_keeps (sub fm) ‹_›))

theorem execErrorInjectionRaise_keeps {F a} {x1} {s2 : State} (fm : 10606869473 &&& F = 10606869473) (h2 : Keeps F a s2) {r} (e : @execErrorInjectionRaise x1 s2 = .next r) : Keeps F a r := by
  unfold execErrorInjectionRaise at e
  dsimp only at e
  split at e
  · rw [← Host.Outcome.next.inj e]
    assumption
  · split at e
    · rw [← Host.Outcome.next.inj e]
      refine Keeps.fold ?_ ?_
      · assumption
      · intro t7 t8 k9
        split
        · exact State.injectOne_keeps (sub fm) ‹_›
        · assumption
    · rw [← Host.Outcome.next.inj e]
      assumption

end Sys2Proof.Machine
end

