-- ==== Sys2Proof/Laws/KeepsExec.lean ====
section
/-! SUPPORT. No command breaks what `Keeps` says, with the mask of what it touches: one case per command, by the lemma of its meaning. -/

-- one declaration after another: the threads of parallel elaboration would take the stack of each
set_option Elab.async false

namespace Sys2Proof.Machine

theorem exec_keeps {F : Nat} {a s u : State} {c : Instr} (fm : maskOf (touches c) &&& F = maskOf (touches c)) (h : Keeps F a s)
    (e : exec c s = .next u) : Keeps F a u := by
  cases c with
  | stage2Mate filterLow => exact execStage2Mate_keeps fm h (id e : execStage2Mate filterLow s = .next u)
  | presenceMate contactB => exact execPresenceMate_keeps fm h (id e : execPresenceMate contactB s = .next u)
  | presenceDebounced contactB => exact execPresenceDebounced_keeps fm h (id e : execPresenceDebounced contactB s = .next u)
  | prsntSkewTimeout => exact execPrsntSkewTimeout_keeps fm h (id e : execPrsntSkewTimeout s = .next u)
  | mainEnAssert lowMs => exact execMainEnAssert_keeps fm h (id e : execMainEnAssert lowMs s = .next u)
  | hotSwapClose => exact execHotSwapClose_keeps fm h (id e : execHotSwapClose s = .next u)
  | mainGood => exact execMainGood_keeps fm h (id e : execMainGood s = .next u)
  | powerOnStep => exact execPowerOnStep_keeps fm h (id e : execPowerOnStep s = .next u)
  | pllLockTimeout => exact execPllLockTimeout_keeps fm h (id e : execPllLockTimeout s = .next u)
  | postComplete failed => exact execPostComplete_keeps fm h (id e : execPostComplete failed s = .next u)
  | presenceLoss contactB => exact execPresenceLoss_keeps fm h (id e : execPresenceLoss contactB s = .next u)
  | mainEnDeassert => exact execMainEnDeassert_keeps fm h (id e : execMainEnDeassert s = .next u)
  | underVoltage => exact execUnderVoltage_keeps fm h (id e : execUnderVoltage s = .next u)
  | overVoltage => exact execOverVoltage_keeps fm h (id e : execOverVoltage s = .next u)
  | auxRailLoss => exact execAuxRailLoss_keeps fm h (id e : execAuxRailLoss s = .next u)
  | auxiliaryPowerUp => exact execAuxiliaryPowerUp_keeps fm h (id e : execAuxiliaryPowerUp s = .next u)
  | thermalSample t => exact execThermalSample_keeps fm h (id e : execThermalSample t s = .next u)
  | temperatureTrip => exact execTemperatureTrip_keeps fm h (id e : execTemperatureTrip s = .next u)
  | critPowerOff => exact execCritPowerOff_keeps fm h (id e : execCritPowerOff s = .next u)
  | leak asserted => exact execLeak_keeps fm h (id e : execLeak asserted s = .next u)
  | attnReq asserted => exact execAttnReq_keeps fm h (id e : execAttnReq asserted s = .next u)
  | refInputGood inputB => exact execRefInputGood_keeps fm h (id e : execRefInputGood inputB s = .next u)
  | refInputLoss inputB => exact execRefInputLoss_keeps fm h (id e : execRefInputLoss inputB s = .next u)
  | holdoverTimeout => exact execHoldoverTimeout_keeps fm h (id e : execHoldoverTimeout s = .next u)
  | refselWrite w => exact execRefselWrite_keeps fm h (id e : execRefselWrite w s = .next u)
  | tickBoundary o => exact execTickBoundary_keeps fm h (id e : execTickBoundary o s = .next u)
  | tickMarkerReceive port frame arrival => exact execTickMarkerReceive_keeps fm h (id e : execTickMarkerReceive port frame arrival s = .next u)
  | clearanceScheduling unit reach endCc => exact execClearanceScheduling_keeps fm h (id e : execClearanceScheduling unit reach endCc s = .next u)
  | adaptiveWeightUpdate endCc => exact execAdaptiveWeightUpdate_keeps fm h (id e : execAdaptiveWeightUpdate endCc s = .next u)
  | weightsInForce => exact execWeightsInForce_keeps fm h (id e : execWeightsInForce s = .next u)
  | pairedJournalling share endCc => exact execPairedJournalling_keeps fm h (id e : execPairedJournalling share endCc s = .next u)
  | registerWrite ws => exact execRegisterWrite_keeps fm h (id e : execRegisterWrite ws s = .next u)
  | narrowAccess access addr => exact execNarrowAccess_keeps fm h (id e : execNarrowAccess access addr s = .next u)
  | pairLoRead path addr => exact execPairLoRead_keeps fm h (id e : execPairLoRead path addr s = .next u)
  | pairLoWrite w => exact execPairLoWrite_keeps fm h (id e : execPairLoWrite w s = .next u)
  | pairHiCommit ws => exact execPairHiCommit_keeps fm h (id e : execPairHiCommit ws s = .next u)
  | readClear path addr => exact execReadClear_keeps fm h (id e : execReadClear path addr s = .next u)
  | blkEnableWrite w => exact execBlkEnableWrite_keeps fm h (id e : execBlkEnableWrite w s = .next u)
  | softReset w => exact execSoftReset_keeps fm h (id e : execSoftReset w s = .next u)
  | fenceRequest w => exact execFenceRequest_keeps fm h (id e : execFenceRequest w s = .next u)
  | fenceComplete page => exact execFenceComplete_keeps fm h (id e : execFenceComplete page s = .next u)
  | fenceRelease w => exact execFenceRelease_keeps fm h (id e : execFenceRelease w s = .next u)
  | fenceTimeout page => exact execFenceTimeout_keeps fm h (id e : execFenceTimeout page s = .next u)
  | blkErrinjWrite w => exact execBlkErrinjWrite_keeps fm h (id e : execBlkErrinjWrite w s = .next u)
  | errorInjectionRaise page => exact execErrorInjectionRaise_keeps fm h (id e : execErrorInjectionRaise page s = .next u)
  | selfTestStart w => exact execSelfTestStart_keeps fm h (id e : execSelfTestStart w s = .next u)
  | selfTestVerdict page verdict fails => exact execSelfTestVerdict_keeps fm h (id e : execSelfTestVerdict page verdict fails s = .next u)
  | journalRecordWrite => exact execJournalRecordWrite_keeps fm h (id e : execJournalRecordWrite s = .next u)
  | journalSizeWrite w => exact execJournalSizeWrite_keeps fm h (id e : execJournalSizeWrite w s = .next u)
  | journalRecordRead path word => exact execJournalRecordRead_keeps fm h (id e : execJournalRecordRead path word s = .next u)
  | mirrorRecordWrite port => exact execMirrorRecordWrite_keeps fm h (id e : execMirrorRecordWrite port s = .next u)
  | routeCommit path frame => exact execRouteCommit_keeps fm h (id e : execRouteCommit path frame s = .next u)
  | svcState path frame => exact execSvcState_keeps fm h (id e : execSvcState path frame s = .next u)
  | viCreate path frame => exact execViCreate_keeps fm h (id e : execViCreate path frame s = .next u)
  | viDestroy path frame => exact execViDestroy_keeps fm h (id e : execViDestroy path frame s = .next u)
  | keyUpdate path frame => exact execKeyUpdate_keeps fm h (id e : execKeyUpdate path frame s = .next u)
  | keyPendingEffect slot => exact execKeyPendingEffect_keeps fm h (id e : execKeyPendingEffect slot s = .next u)
  | keyLoadInitial path frame => exact execKeyLoadInitial_keeps fm h (id e : execKeyLoadInitial path frame s = .next u)
  | fwActivate path frame => exact execFwActivate_keeps fm h (id e : execFwActivate path frame s = .next u)
  | fwImageCheckEnd kind => exact execFwImageCheckEnd_keeps fm h (id e : execFwImageCheckEnd kind s = .next u)
  | cleatRelease path frame => exact execCleatRelease_keeps fm h (id e : execCleatRelease path frame s = .next u)
  | tickElect path frame => exact execTickElect_keeps fm h (id e : execTickElect path frame s = .next u)
  | pairFailover path frame => exact execPairFailover_keeps fm h (id e : execPairFailover path frame s = .next u)
  | dumpTrigger path frame => exact execDumpTrigger_keeps fm h (id e : execDumpTrigger path frame s = .next u)
  | ownerChange path frame => exact execOwnerChange_keeps fm h (id e : execOwnerChange path frame s = .next u)
  | regWriteKeyed path frame => exact execRegWriteKeyed_keeps fm h (id e : execRegWriteKeyed path frame s = .next u)
  | sessionOpen path frame => exact execSessionOpen_keeps fm h (id e : execSessionOpen path frame s = .next u)
  | sessionClose path frame => exact execSessionClose_keeps fm h (id e : execSessionClose path frame s = .next u)
  | regRead path frame => exact execRegRead_keeps fm h (id e : execRegRead path frame s = .next u)
  | regWrite path frame => exact execRegWrite_keeps fm h (id e : execRegWrite path frame s = .next u)
  | sessionIdleTimeout => exact execSessionIdleTimeout_keeps fm h (id e : execSessionIdleTimeout s = .next u)
  | mgmtLinkLoss => exact execMgmtLinkLoss_keeps fm h (id e : execMgmtLinkLoss s = .next u)
  | hwmPersisted origin => exact execHwmPersisted_keeps fm h (id e : execHwmPersisted origin s = .next u)
  | zcmdGo w frame => exact execZcmdGo_keeps fm h (id e : execZcmdGo w frame s = .next u)
  | retrain w => exact execRetrain_keeps fm h (id e : execRetrain w s = .next u)
  | ltfReceive port lane ltf => exact execLtfReceive_keeps fm h (id e : execLtfReceive port lane ltf s = .next u)
  | stepChange port => exact execStepChange_keeps fm h (id e : execStepChange port s = .next u)
  | bondFormed port skewNs => exact execBondFormed_keeps fm h (id e : execBondFormed port skewNs s = .next u)
  | laneQualified port lane => exact execLaneQualified_keeps fm h (id e : execLaneQualified port lane s = .next u)
  | trainTimeout port lane => exact execTrainTimeout_keeps fm h (id e : execTrainTimeout port lane s = .next u)
  | stepTimeout port lane => exact execStepTimeout_keeps fm h (id e : execStepTimeout port lane s = .next u)
  | laneErrorBurst port lane => exact execLaneErrorBurst_keeps fm h (id e : execLaneErrorBurst port lane s = .next u)
  | laneTestEnd port lane errors bits => exact execLaneTestEnd_keeps fm h (id e : execLaneTestEnd port lane errors bits s = .next u)
  | laneTestTimeout port lane => exact execLaneTestTimeout_keeps fm h (id e : execLaneTestTimeout port lane s = .next u)
  | losAssert port lane => exact execLosAssert_keeps fm h (id e : execLosAssert port lane s = .next u)
  | losClear port lane => exact execLosClear_keeps fm h (id e : execLosClear port lane s = .next u)
  | lolAssert port lane => exact execLolAssert_keeps fm h (id e : execLolAssert port lane s = .next u)
  | lolClear port lane => exact execLolClear_keeps fm h (id e : execLolClear port lane s = .next u)
  | automaticPowerControl opte diode set reached pout => exact execAutomaticPowerControl_keeps fm h (id e : execAutomaticPowerControl opte diode set reached pout s = .next u)
  | shortfallLasting opte wave => exact execShortfallLasting_keeps fm h (id e : execShortfallLasting opte wave s = .next u)
  | forceSpare w => exact execForceSpare_keeps fm h (id e : execForceSpare w s = .next u)
  | spareSelectorMove opte wave pout => exact execSpareSelectorMove_keeps fm h (id e : execSpareSelectorMove opte wave pout s = .next u)
  | portUp port => exact execPortUp_keeps fm h (id e : execPortUp port s = .next u)
  | dataFrameReceive port frame => exact execDataFrameReceive_keeps fm h (id e : execDataFrameReceive port frame s = .next u)
  | ackFrameReceive port frame => exact execAckFrameReceive_keeps fm h (id e : execAckFrameReceive port frame s = .next u)
  | identFrameReceive port frame => exact execIdentFrameReceive_keeps fm h (id e : execIdentFrameReceive port frame s = .next u)
  | identResendTimer port => exact execIdentResendTimer_keeps fm h (id e : execIdentResendTimer port s = .next u)
  | frameBoundary port underrun => exact execFrameBoundary_keeps fm h (id e : execFrameBoundary port underrun s = .next u)
  | replayTimerExpiry port => exact execReplayTimerExpiry_keeps fm h (id e : execReplayTimerExpiry port s = .next u)
  | emptyAckTimer port => exact execEmptyAckTimer_keeps fm h (id e : execEmptyAckTimer port s = .next u)
  | errorWindowExceeded port => exact execErrorWindowExceeded_keeps fm h (id e : execErrorWindowExceeded port s = .next u)
  | holdExpiry port => exact execHoldExpiry_keeps fm h (id e : execHoldExpiry port s = .next u)
  | routeDecision tile input vc => exact execRouteDecision_keeps fm h (id e : execRouteDecision tile input vc s = .next u)
  | crossingRound => exact execCrossingRound_keeps fm h (id e : execCrossingRound s = .next u)
  | packetBufferEccError tile row corrected victim => exact execPacketBufferEccError_keeps fm h (id e : execPacketBufferEccError tile row corrected victim s = .next u)
  | allotmentWrite w => exact execAllotmentWrite_keeps fm h (id e : execAllotmentWrite w s = .next u)
  | reefWrite w => exact execReefWrite_keeps fm h (id e : execReefWrite w s = .next u)
  | routeTableWindowWrite path offset value => exact execRouteTableWindowWrite_keeps fm h (id e : execRouteTableWindowWrite path offset value s = .next u)
  | routeCopy w => exact execRouteCopy_keeps fm h (id e : execRouteCopy w s = .next u)
  | copyComplete => exact execCopyComplete_keeps fm h (id e : execCopyComplete s = .next u)
  | commitDeadline => exact execCommitDeadline_keeps fm h (id e : execCommitDeadline s = .next u)
  | telltaleReceive port frame => exact execTelltaleReceive_keeps fm h (id e : execTelltaleReceive port frame s = .next u)
  | routeReplicaReload tile done => exact execRouteReplicaReload_keeps fm h (id e : execRouteReplicaReload tile done s = .next u)
  | packetAdmit unit data => exact execPacketAdmit_keeps fm h (id e : execPacketAdmit unit data s = .next u)
  | wiluthDataReceive pkt => exact execWiluthDataReceive_keeps fm h (id e : execWiluthDataReceive pkt s = .next u)
  | intentReceive unit => exact execIntentReceive_keeps fm h (id e : execIntentReceive unit s = .next u)
  | grantReceive unit => exact execGrantReceive_keeps fm h (id e : execGrantReceive unit s = .next u)
  | wiluthAckReceive pkt => exact execWiluthAckReceive_keeps fm h (id e : execWiluthAckReceive pkt s = .next u)
  | resetReceive pkt => exact execResetReceive_keeps fm h (id e : execResetReceive pkt s = .next u)
  | noticeReceive unit => exact execNoticeReceive_keeps fm h (id e : execNoticeReceive unit s = .next u)
  | closeReceive pkt => exact execCloseReceive_keeps fm h (id e : execCloseReceive pkt s = .next u)
  | gapFillReceive pkt => exact execGapFillReceive_keeps fm h (id e : execGapFillReceive pkt s = .next u)
  | retransmitTimerExpiry loc rem seq => exact execRetransmitTimerExpiry_keeps fm h (id e : execRetransmitTimerExpiry loc rem seq s = .next u)
  | giveupExpiry loc rem seq => exact execGiveupExpiry_keeps fm h (id e : execGiveupExpiry loc rem seq s = .next u)
  | contextIdleClose loc rem => exact execContextIdleClose_keeps fm h (id e : execContextIdleClose loc rem s = .next u)
  | tombstoneExpiry loc rem => exact execTombstoneExpiry_keeps fm h (id e : execTombstoneExpiry loc rem s = .next u)
  | reopenDelayEnd loc rem => exact execReopenDelayEnd_keeps fm h (id e : execReopenDelayEnd loc rem s = .next u)
  | nop vi queue => exact execNop_keeps fm h (id e : execNop vi queue s = .next u)
  | put vi queue => exact execPut_keeps fm h (id e : execPut vi queue s = .next u)
  | putSignal vi queue => exact execPutSignal_keeps fm h (id e : execPutSignal vi queue s = .next u)
  | get vi queue => exact execGet_keeps fm h (id e : execGet vi queue s = .next u)
  | atomic vi queue operand => exact execAtomic_keeps fm h (id e : execAtomic vi queue operand s = .next u)
  | winRegister vi queue => exact execWinRegister_keeps fm h (id e : execWinRegister vi queue s = .next u)
  | winRevoke vi queue => exact execWinRevoke_keeps fm h (id e : execWinRevoke vi queue s = .next u)
  | putPacketReceive unit => exact execPutPacketReceive_keeps fm h (id e : execPutPacketReceive unit s = .next u)
  | getReqReceive unit => exact execGetReqReceive_keeps fm h (id e : execGetReqReceive unit s = .next u)
  | getRspReceive unit => exact execGetRspReceive_keeps fm h (id e : execGetRspReceive unit s = .next u)
  | signalReceive unit => exact execSignalReceive_keeps fm h (id e : execSignalReceive unit s = .next u)
  | atomicReceive unit => exact execAtomicReceive_keeps fm h (id e : execAtomicReceive unit s = .next u)
  | atomicRspReceive unit => exact execAtomicRspReceive_keeps fm h (id e : execAtomicRspReceive unit s = .next u)
  | atomicopErrorCompletion access => exact execAtomicopErrorCompletion_keeps fm h (id e : execAtomicopErrorCompletion access s = .next u)
  | accessDisposed access data => exact execAccessDisposed_keeps fm h (id e : execAccessDisposed access data s = .next u)
  | fenceDeadline window => exact execFenceDeadline_keeps fm h (id e : execFenceDeadline window s = .next u)
  | descriptorEccError window corrected row => exact execDescriptorEccError_keeps fm h (id e : execDescriptorEccError window corrected row s = .next u)
  | msend vi queue => exact execMsend_keeps fm h (id e : execMsend vi queue s = .next u)
  | mrecv vi queue => exact execMrecv_keeps fm h (id e : execMrecv vi queue s = .next u)
  | probe vi queue => exact execProbe_keeps fm h (id e : execProbe vi queue s = .next u)
  | recvClaimed vi queue => exact execRecvClaimed_keeps fm h (id e : execRecvClaimed vi queue s = .next u)
  | cancel vi queue => exact execCancel_keeps fm h (id e : execCancel vi queue s = .next u)
  | matchResume vi queue => exact execMatchResume_keeps fm h (id e : execMatchResume vi queue s = .next u)
  | msendArrival unit => exact execMsendArrival_keeps fm h (id e : execMsendArrival unit s = .next u)
  | mdataArrival unit => exact execMdataArrival_keeps fm h (id e : execMdataArrival unit s = .next u)
  | bounceCopyDone vi copy => exact execBounceCopyDone_keeps fm h (id e : execBounceCopyDone vi copy s = .next u)
  | matchEccError vi corrected row => exact execMatchEccError_keeps fm h (id e : execMatchEccError vi corrected row s = .next u)
  | groupCreate vi queue table tree => exact execGroupCreate_keeps fm h (id e : execGroupCreate vi queue table tree s = .next u)
  | groupLeave vi queue => exact execGroupLeave_keeps fm h (id e : execGroupLeave vi queue s = .next u)
  | groupClose vi queue => exact execGroupClose_keeps fm h (id e : execGroupClose vi queue s = .next u)
  | collStep vi queue => exact execCollStep_keeps fm h (id e : execCollStep vi queue s = .next u)
  | join unit index => exact execJoin_keeps fm h (id e : execJoin unit index s = .next u)
  | joined unit => exact execJoined_keeps fm h (id e : execJoined unit s = .next u)
  | gctlCommit unit root places => exact execGctlCommit_keeps fm h (id e : execGctlCommit unit root places s = .next u)
  | abort unit => exact execAbort_keeps fm h (id e : execAbort unit s = .next u)
  | repair unit => exact execRepair_keeps fm h (id e : execRepair unit s = .next u)
  | repaired unit => exact execRepaired_keeps fm h (id e : execRepaired unit s = .next u)
  | gctlClose unit => exact execGctlClose_keeps fm h (id e : execGctlClose unit s = .next u)
  | stepOpenReceive unit => exact execStepOpenReceive_keeps fm h (id e : execStepOpenReceive unit s = .next u)
  | localSegmentRead group slot data => exact execLocalSegmentRead_keeps fm h (id e : execLocalSegmentRead group slot data s = .next u)
  | upReceive unit => exact execUpReceive_keeps fm h (id e : execUpReceive unit s = .next u)
  | downReceive unit => exact execDownReceive_keeps fm h (id e : execDownReceive unit s = .next u)
  | directReceive unit => exact execDirectReceive_keeps fm h (id e : execDirectReceive unit s = .next u)
  | creditReceive unit => exact execCreditReceive_keeps fm h (id e : execCreditReceive unit s = .next u)
  | doneReceive unit => exact execDoneReceive_keeps fm h (id e : execDoneReceive unit s = .next u)
  | departReceive unit orphaned repairs => exact execDepartReceive_keeps fm h (id e : execDepartReceive unit orphaned repairs s = .next u)
  | epochReceive unit => exact execEpochReceive_keeps fm h (id e : execEpochReceive unit s = .next u)
  | collHeartbeat group slot => exact execCollHeartbeat_keeps fm h (id e : execCollHeartbeat group slot s = .next u)
  | repairTimeout group => exact execRepairTimeout_keeps fm h (id e : execRepairTimeout group s = .next u)
  | quarantineExpiry group => exact execQuarantineExpiry_keeps fm h (id e : execQuarantineExpiry group s = .next u)
  | collEccError group corrected row => exact execCollEccError_keeps fm h (id e : execCollEccError group corrected row s = .next u)
  | perst port => exact execPerst_keeps fm h (id e : execPerst port s = .next u)
  | pfFlr port => exact execPfFlr_keeps fm h (id e : execPfFlr port s = .next u)
  | vfFlr vi => exact execVfFlr_keeps fm h (id e : execVfFlr vi s = .next u)
  | vfBusMasterClear vi => exact execVfBusMasterClear_keeps fm h (id e : execVfBusMasterClear vi s = .next u)
  | vfEnableClear port => exact execVfEnableClear_keeps fm h (id e : execVfEnableClear port s = .next u)
  | hostLinkDown port => exact execHostLinkDown_keeps fm h (id e : execHostLinkDown port s = .next u)
  | hostLinkUp port cfg => exact execHostLinkUp_keeps fm h (id e : execHostLinkUp port cfg s = .next u)
  | viEnableWrite w => exact execViEnableWrite_keeps fm h (id e : execViEnableWrite w s = .next u)
  | enablingEnd vi => exact execEnablingEnd_keeps fm h (id e : execEnablingEnd vi s = .next u)
  | viStopEnd vi => exact execViStopEnd_keeps fm h (id e : execViStopEnd vi s = .next u)
  | xlateCommit w => exact execXlateCommit_keeps fm h (id e : execXlateCommit w s = .next u)
  | cmdqEnable w => exact execCmdqEnable_keeps fm h (id e : execCmdqEnable w s = .next u)
  | cplqEnable w => exact execCplqEnable_keeps fm h (id e : execCplqEnable w s = .next u)
  | dbTail vi queue value => exact execDbTail_keeps fm h (id e : execDbTail vi queue value s = .next u)
  | dbHead vi queue value => exact execDbHead_keeps fm h (id e : execDbHead vi queue value s = .next u)
  | dbArm vi queue value => exact execDbArm_keeps fm h (id e : execDbArm vi queue value s = .next u)
  | descriptorFetch port data => exact execDescriptorFetch_keeps fm h (id e : execDescriptorFetch port data s = .next u)
  | completionWrite vi => exact execCompletionWrite_keeps fm h (id e : execCompletionWrite vi s = .next u)
  | completionTimeout port => exact execCompletionTimeout_keeps fm h (id e : execCompletionTimeout port s = .next u)
  | atsInvalidate port fn base len => exact execAtsInvalidate_keeps fm h (id e : execAtsInvalidate port fn base len s = .next u)
  | partitionCommit w => exact execPartitionCommit_keeps fm h (id e : execPartitionCommit w s = .next u)
  | cxlMemRequest port kind dpa data => exact execCxlMemRequest_keeps fm h (id e : execCxlMemRequest port kind dpa data s = .next u)
  | birsp line port data => exact execBirsp_keeps fm h (id e : execBirsp line port data s = .next u)
  | birspTimeout line port => exact execBirspTimeout_keeps fm h (id e : execBirspTimeout line port s = .next u)
  | clusterReload cluster => exact execClusterReload_keeps fm h (id e : execClusterReload cluster s = .next u)
  | clusterReloadComplete cluster failed => exact execClusterReloadComplete_keeps fm h (id e : execClusterReloadComplete cluster failed s = .next u)
  | reloadTimeout cluster => exact execReloadTimeout_keeps fm h (id e : execReloadTimeout cluster s = .next u)
  | triggerCounterChange cluster => exact execTriggerCounterChange_keeps fm h (id e : execTriggerCounterChange cluster s = .next u)
  | chainEntryBegin vi slot engine => exact execChainEntryBegin_keeps fm h (id e : execChainEntryBegin vi slot engine s = .next u)
  | chainFiringComplete vi slot => exact execChainFiringComplete_keeps fm h (id e : execChainFiringComplete vi slot s = .next u)
  | chainArm vi queue list => exact execChainArm_keeps fm h (id e : execChainArm vi queue list s = .next u)
  | chainDisarm vi queue => exact execChainDisarm_keeps fm h (id e : execChainDisarm vi queue s = .next u)
  | ctrSet vi queue => exact execCtrSet_keeps fm h (id e : execCtrSet vi queue s = .next u)
  | ctrAdd vi queue => exact execCtrAdd_keeps fm h (id e : execCtrAdd vi queue s = .next u)
  | ctrRead vi queue => exact execCtrRead_keeps fm h (id e : execCtrRead vi queue s = .next u)
  | engineWatchdog engine => exact execEngineWatchdog_keeps fm h (id e : execEngineWatchdog engine s = .next u)
  | cleatRead path addr => exact execCleatRead_keeps fm h (id e : execCleatRead path addr s = .next u)
  | cleatWrite path addr value => exact execCleatWrite_keeps fm h (id e : execCleatWrite path addr value s = .next u)
  | cleatStallEnd stall => exact execCleatStallEnd_keeps fm h (id e : execCleatStallEnd stall s = .next u)
  | dumpComplete holes => exact execDumpComplete_keeps fm h (id e : execDumpComplete holes s = .next u)
  | dumpLimitExpiry => exact execDumpLimitExpiry_keeps fm h (id e : execDumpLimitExpiry s = .next u)
  | dumpHostCopyEnd gap => exact execDumpHostCopyEnd_keeps fm h (id e : execDumpHostCopyEnd gap s = .next u)
  | pairingEnable w => exact execPairingEnable_keeps fm h (id e : execPairingEnable w s = .next u)
  | journalFrameReceive port => exact execJournalFrameReceive_keeps fm h (id e : execJournalFrameReceive port s = .next u)
  | syncDoneReceive port => exact execSyncDoneReceive_keeps fm h (id e : execSyncDoneReceive port s = .next u)
  | takeoverReceive port => exact execTakeoverReceive_keeps fm h (id e : execTakeoverReceive port s = .next u)
  | twinLost => exact execTwinLost_keeps fm h (id e : execTwinLost s = .next u)
  | shareUncovered share => exact execShareUncovered_keeps fm h (id e : execShareUncovered share s = .next u)
  | contextAdoption share payloads => exact execContextAdoption_keeps fm h (id e : execContextAdoption share payloads s = .next u)
  | ctrClear w => exact execCtrClear_keeps fm h (id e : execCtrClear w s = .next u)
  | snapEnable w => exact execSnapEnable_keeps fm h (id e : execSnapEnable w s = .next u)
  | mcReset => exact execMcReset_keeps fm h (id e : execMcReset s = .next u)
  | mcWatchdog => exact execMcWatchdog_keeps fm h (id e : execMcWatchdog s = .next u)
  | mcResetComplete => exact execMcResetComplete_keeps fm h (id e : execMcResetComplete s = .next u)
  | serviceDrainComplete page => exact execServiceDrainComplete_keeps fm h (id e : execServiceDrainComplete page s = .next u)
  | glbDrainEnd => exact execGlbDrainEnd_keeps fm h (id e : execGlbDrainEnd s = .next u)
  | drainLimit page => exact execDrainLimit_keeps fm h (id e : execDrainLimit page s = .next u)
  | fwStage w => exact execFwStage_keeps fm h (id e : execFwStage w s = .next u)
  | stageData w => exact execStageData_keeps fm h (id e : execStageData w s = .next u)
  | stagingEnd image => exact execStagingEnd_keeps fm h (id e : execStagingEnd image s = .next u)
  | cfgParityError page => exact execCfgParityError_keeps fm h (id e : execCfgParityError page s = .next u)
  | engineMemoryEccError engine corrected => exact execEngineMemoryEccError_keeps fm h (id e : execEngineMemoryEccError engine corrected s = .next u)
  | busLaneParityError tile element => exact execBusLaneParityError_keeps fm h (id e : execBusLaneParityError tile element s = .next u)
  | ringHopParityError stop element => exact execRingHopParityError_keeps fm h (id e : execRingHopParityError stop element s = .next u)
  | hbmEccError stack row corrected => exact execHbmEccError_keeps fm h (id e : execHbmEccError stack row corrected s = .next u)
  | routingUnitEccError row corrected => exact execRoutingUnitEccError_keeps fm h (id e : execRoutingUnitEccError row corrected s = .next u)
  | contextCacheEccError row corrected => exact execContextCacheEccError_keeps fm h (id e : execContextCacheEccError row corrected s = .next u)
  | replayBufferEccError port row corrected seq => exact execReplayBufferEccError_keeps fm h (id e : execReplayBufferEccError port row corrected seq s = .next u)
  | railOutOfLimits rail12 => exact execRailOutOfLimits_keeps fm h (id e : execRailOutOfLimits rail12 s = .next u)
  | pcieErrorDetected port kind => exact execPcieErrorDetected_keeps fm h (id e : execPcieErrorDetected port kind s = .next u)

end Sys2Proof.Machine
end

