-- ==== Sys2Proof/Laws/State.lean ====
section
/-! SUPPORT. The shared operations over the state: what each leaves, field by field, and what a register reads after a write. -/

-- one declaration after another: the threads of parallel elaboration would take the stack of each
set_option Elab.async false

namespace Sys2Proof.Machine

/-! What a table reads after a write. -/

theorem tab_find_del_ne {α : Type} {j k : Nat} (h : j ≠ k) : ∀ t : Tab α, Tab.find (Tab.del t j) k = Tab.find t k
  | [] => rfl
  | (i, v) :: t => by
    simp only [Tab.del]
    split
    · rename_i e
      subst e
      simp [Tab.find, h]
    · simp only [Tab.find, tab_find_del_ne h t]

theorem tab_find_ins_ne {α : Type} {j k : Nat} (h : j ≠ k) (v : α) : ∀ t : Tab α, Tab.find (Tab.ins t j v) k = Tab.find t k
  | [] => by simp [Tab.ins, Tab.find, h]
  | (i, w) :: t => by
    simp only [Tab.ins]
    split
    · simp [Tab.find, h]
    · split
      · rename_i e
        subst e
        simp [Tab.find, h]
      · simp only [Tab.find, tab_find_ins_ne h v t]

theorem tab_find_ins {α : Type} (j : Nat) (v : α) : ∀ t : Tab α, Tab.find (Tab.ins t j v) j = some v
  | [] => by simp [Tab.ins, Tab.find]
  | (i, w) :: t => by
    simp only [Tab.ins]
    split
    · simp [Tab.find]
    · split
      · simp [Tab.find]
      · rename_i h
        simp only [Tab.find, h, if_false, tab_find_ins j v t]

theorem tab_find_above {α : Type} [DecidableEq α] {d : Nat → α} {j l : Nat} (h : j ≤ l) :
    ∀ (t : Tab α), Tab.wfFrom d (some l) t = true → Tab.find t j = none
  | [], _ => rfl
  | (i, w) :: t, hw => by
    simp only [Tab.wfFrom, Bool.and_eq_true, decide_eq_true_eq] at hw
    have : i ≠ j := by omega
    simp only [Tab.find, this, if_false]
    exact tab_find_above (by omega) t hw.2

theorem tab_find_del {α : Type} [DecidableEq α] {d : Nat → α} {j : Nat} :
    ∀ (t : Tab α) (lo : Option Nat), Tab.wfFrom d lo t = true → Tab.find (Tab.del t j) j = none
  | [], _, _ => rfl
  | (i, w) :: t, lo, hw => by
    simp only [Tab.wfFrom, Bool.and_eq_true] at hw
    simp only [Tab.del]
    split
    · rename_i e
      subst e
      exact tab_find_above (Nat.le_refl _) t hw.2
    · rename_i e
      simp only [Tab.find, e, if_false]
      exact tab_find_del t (some i) hw.2

/-- Another key reads as before. -/
theorem tab_get_set_ne {α : Type} [DecidableEq α] {d : Nat → α} {t : Tab α} {j k : Nat} (h : j ≠ k) (v : α) :
    Tab.get d (Tab.set d t j v) k = Tab.get d t k := by
  unfold Tab.get Tab.set
  split
  · rw [tab_find_del_ne h]
  · rw [tab_find_ins_ne h]

/-- The key written reads the value. -/
theorem tab_get_set {α : Type} [DecidableEq α] {d : Nat → α} {t : Tab α} (hw : Tab.wf d t = true) (j : Nat) (v : α) :
    Tab.get d (Tab.set d t j v) j = v := by
  unfold Tab.get Tab.set
  split
  · rename_i e
    rw [tab_find_del t none hw, e]
    rfl
  · rw [tab_find_ins]
    rfl

/-! What a register reads after a write. -/

theorem State.get_put {s : State} (hw : Registers.wf s.regs = true) (p : PageRef) (off v : Nat) :
    (s.put p off v).get p off = v % 2 ^ 32 := by
  simp only [State.get, State.put, State.reg, State.setReg, tab_get_set hw, BitVec.toNat_ofNat]

theorem State.get_put_ne {s : State} {p q : PageRef} {off o : Nat} (h : p.addr + off ≠ q.addr + o) (v : Nat) :
    (s.put p off v).get q o = s.get q o := by
  simp only [State.get, State.put, State.reg, State.setReg, tab_get_set_ne h]

theorem State.put_wf {s : State} (hw : Registers.wf s.regs = true) (p : PageRef) (off v : Nat) :
    Registers.wf (s.put p off v).regs = true := Tab.wf_set hw _ _

theorem State.fput_wf {s : State} (hw : Registers.wf s.regs = true) (p : PageRef) (off hi lo v : Nat) :
    Registers.wf (s.fput p off hi lo v).regs = true := Tab.wf_set hw _ _

theorem State.bput_wf {s : State} (hw : Registers.wf s.regs = true) (p : PageRef) (off b : Nat) (v : Bool) :
    Registers.wf (s.bput p off b v).regs = true := Tab.wf_set hw _ _

theorem State.get_lt (s : State) (p : PageRef) (off : Nat) : s.get p off < 2 ^ 32 := BitVec.isLt _

/-! Fields. -/

theorem setFld_lt {n hi lo : Nat} (v : Nat) (hn : n < 2 ^ 32) (hl : lo ≤ hi) (hh : hi < 32) : setFld n hi lo v < 2 ^ 32 := by
  unfold setFld
  have h1 : v % 2 ^ (hi + 1 - lo) * 2 ^ lo + n % 2 ^ lo < 2 ^ (hi + 1) := by
    have ha : v % 2 ^ (hi + 1 - lo) < 2 ^ (hi + 1 - lo) := Nat.mod_lt _ (by positivity)
    have hb : n % 2 ^ lo < 2 ^ lo := Nat.mod_lt _ (by positivity)
    have hc : 2 ^ (hi + 1) = 2 ^ (hi + 1 - lo) * 2 ^ lo := by rw [← Nat.pow_add]; congr 1; omega
    rw [hc]
    have := Nat.mul_le_mul_right (2 ^ lo) (Nat.succ_le_of_lt ha)
    rw [Nat.succ_mul] at this
    omega
  have h2 : 2 ^ 32 = 2 ^ (31 - hi) * 2 ^ (hi + 1) := by rw [← Nat.pow_add]; congr 1; omega
  have h3 : n / 2 ^ (hi + 1) < 2 ^ (31 - hi) := by
    rw [Nat.div_lt_iff_lt_mul (by positivity), ← h2]
    exact hn
  have := Nat.mul_le_mul_right (2 ^ (hi + 1)) (Nat.succ_le_of_lt h3)
  rw [Nat.succ_mul] at this
  omega

theorem setFld_testBit {n hi lo v : Nat} (hl : lo ≤ hi) (i : Nat) :
    (setFld n hi lo v).testBit i = if i < lo then n.testBit i else if i ≤ hi then v.testBit (i - lo) else n.testBit i := by
  unfold setFld
  have hb : n % 2 ^ lo < 2 ^ lo := Nat.mod_lt _ (by positivity)
  have hc : 2 ^ (hi + 1) = 2 ^ lo * 2 ^ (hi + 1 - lo) := by rw [← Nat.pow_add]; congr 1; omega
  have h0 : n / 2 ^ (hi + 1) * 2 ^ (hi + 1) + v % 2 ^ (hi + 1 - lo) * 2 ^ lo + n % 2 ^ lo
      = 2 ^ lo * (2 ^ (hi + 1 - lo) * (n / 2 ^ (hi + 1)) + v % 2 ^ (hi + 1 - lo)) + n % 2 ^ lo := by
    rw [hc]; ring
  rw [h0, Nat.testBit_two_pow_mul_add _ hb]
  split
  · rw [Nat.testBit_mod_two_pow]
    simp [*]
  · rename_i h
    rw [Nat.testBit_two_pow_mul_add _ (Nat.mod_lt _ (by positivity))]
    by_cases hi' : i ≤ hi
    · have : i - lo < hi + 1 - lo := by omega
      simp [this, hi', Nat.testBit_mod_two_pow]
    · have h1 : ¬ i - lo < hi + 1 - lo := by omega
      rw [if_neg h1, if_neg hi', Nat.testBit_div_two_pow]
      congr 1
      omega

theorem fld_testBit (n hi lo i : Nat) : (fld n hi lo).testBit i = (decide (i < hi + 1 - lo) && n.testBit (lo + i)) := by
  unfold fld
  rw [Nat.testBit_mod_two_pow, Nat.testBit_div_two_pow, Nat.add_comm lo i]

/-- The field written reads the value, cut to its width. -/
theorem fld_setFld {n hi lo : Nat} (v : Nat) (hl : lo ≤ hi) : fld (setFld n hi lo v) hi lo = v % 2 ^ (hi + 1 - lo) := by
  apply Nat.eq_of_testBit_eq
  intro i
  rw [fld_testBit, setFld_testBit hl, Nat.testBit_mod_two_pow]
  by_cases h : i < hi + 1 - lo
  · simp [h, show ¬ lo + i < lo by omega, show lo + i ≤ hi by omega]
  · simp [h]

/-- A field that does not meet the one written reads as before. -/
theorem fld_setFld_ne {n hi lo h l : Nat} (v : Nat) (hl : lo ≤ hi) (d : hi < l ∨ h < lo) :
    fld (setFld n hi lo v) h l = fld n h l := by
  apply Nat.eq_of_testBit_eq
  intro i
  rw [fld_testBit, fld_testBit, setFld_testBit hl]
  by_cases hi' : i < h + 1 - l
  · rcases d with d | d
    · simp [hi', show ¬ l + i < lo by omega, show ¬ l + i ≤ hi by omega]
    · simp [hi', show l + i < lo by omega]
  · simp [hi']

theorem bit_fld (n b : Nat) : bit n b = (fld n b b == 1) := by
  simp [bit, fld]
  rfl

theorem State.get_fput {s : State} (hw : Registers.wf s.regs = true) {hi lo : Nat} (hl : lo ≤ hi) (hh : hi < 32) (p : PageRef)
    (off v : Nat) : (s.fput p off hi lo v).get p off = setFld (s.get p off) hi lo v := by
  rw [State.fput, State.get_put hw, Nat.mod_eq_of_lt (setFld_lt v (s.get_lt p off) hl hh)]

theorem State.fget_fput {s : State} (hw : Registers.wf s.regs = true) {hi lo : Nat} (hl : lo ≤ hi) (hh : hi < 32) (p : PageRef)
    (off v : Nat) : (s.fput p off hi lo v).fget p off hi lo = v % 2 ^ (hi + 1 - lo) := by
  rw [State.fget, State.get_fput hw hl hh, fld_setFld v hl]

theorem State.fget_fput_ne {s : State} (hw : Registers.wf s.regs = true) {hi lo h l : Nat} (hl : lo ≤ hi) (hh : hi < 32)
    (d : hi < l ∨ h < lo) (p : PageRef) (off v : Nat) : (s.fput p off hi lo v).fget p off h l = s.fget p off h l := by
  rw [State.fget, State.get_fput hw hl hh, fld_setFld_ne v hl d, State.fget]

theorem State.get_fput_ne {s : State} {p q : PageRef} {off o : Nat} (h : p.addr + off ≠ q.addr + o) (hi lo v : Nat) :
    (s.fput p off hi lo v).get q o = s.get q o := State.get_put_ne h _

theorem State.get_bput_ne {s : State} {p q : PageRef} {off o : Nat} (h : p.addr + off ≠ q.addr + o) (b : Nat) (v : Bool) :
    (s.bput p off b v).get q o = s.get q o := State.get_put_ne h _

theorem State.bget_bput {s : State} (hw : Registers.wf s.regs = true) {b : Nat} (hb : b < 32) (p : PageRef) (off : Nat) (v : Bool) :
    (s.bput p off b v).bget p off b = v := by
  have h := State.fget_fput hw (Nat.le_refl b) hb p off (b2n v)
  rw [State.bget, State.bput, bit_fld]
  rw [State.fget] at h
  rw [h]
  cases v <;> simp [b2n]

theorem State.bget_bput_ne {s : State} (hw : Registers.wf s.regs = true) {b c : Nat} (hb : b < 32) (h : b ≠ c) (p : PageRef) (off : Nat)
    (v : Bool) : (s.bput p off b v).bget p off c = s.bget p off c := by
  have := State.fget_fput_ne hw (Nat.le_refl b) hb (h := c) (l := c) (by omega) p off (b2n v)
  rw [State.bget, State.bput, bit_fld, State.bget, bit_fld]
  rw [State.fget, State.fget] at this
  rw [this]

section Frames

variable (s : State)

/-! `setReg` changes regs alone. -/

@[simp] theorem State.setReg_orig (a : Nat) (w : Word) : (s.setReg a w).orig = s.orig := rfl
@[simp] theorem State.setReg_latches (a : Nat) (w : Word) : (s.setReg a w).latches = s.latches := rfl
@[simp] theorem State.setReg_heldLo (a : Nat) (w : Word) : (s.setReg a w).heldLo = s.heldLo := rfl
@[simp] theorem State.setReg_pwr (a : Nat) (w : Word) : (s.setReg a w).pwr = s.pwr := rfl
@[simp] theorem State.setReg_psto (a : Nat) (w : Word) : (s.setReg a w).psto = s.psto := rfl
@[simp] theorem State.setReg_tick (a : Nat) (w : Word) : (s.setReg a w).tick = s.tick := rfl
@[simp] theorem State.setReg_zyn (a : Nat) (w : Word) : (s.setReg a w).zyn = s.zyn := rfl
@[simp] theorem State.setReg_jrnl (a : Nat) (w : Word) : (s.setReg a w).jrnl = s.jrnl := rfl
@[simp] theorem State.setReg_relia (a : Nat) (w : Word) : (s.setReg a w).relia = s.relia := rfl
@[simp] theorem State.setReg_fw (a : Nat) (w : Word) : (s.setReg a w).fw = s.fw := rfl
@[simp] theorem State.setReg_svc (a : Nat) (w : Word) : (s.setReg a w).svc = s.svc := rfl
@[simp] theorem State.setReg_lanes (a : Nat) (w : Word) : (s.setReg a w).lanes = s.lanes := rfl
@[simp] theorem State.setReg_lports (a : Nat) (w : Word) : (s.setReg a w).lports = s.lports := rfl
@[simp] theorem State.setReg_spares (a : Nat) (w : Word) : (s.setReg a w).spares = s.spares := rfl
@[simp] theorem State.setReg_links (a : Nat) (w : Word) : (s.setReg a w).links = s.links := rfl
@[simp] theorem State.setReg_tiles (a : Nat) (w : Word) : (s.setReg a w).tiles = s.tiles := rfl
@[simp] theorem State.setReg_route (a : Nat) (w : Word) : (s.setReg a w).route = s.route := rfl
@[simp] theorem State.setReg_xpts (a : Nat) (w : Word) : (s.setReg a w).xpts = s.xpts := rfl
@[simp] theorem State.setReg_wins (a : Nat) (w : Word) : (s.setReg a w).wins = s.wins := rfl
@[simp] theorem State.setReg_mwus (a : Nat) (w : Word) : (s.setReg a w).mwus = s.mwus := rfl
@[simp] theorem State.setReg_vis (a : Nat) (w : Word) : (s.setReg a w).vis = s.vis := rfl
@[simp] theorem State.setReg_hostCfg (a : Nat) (w : Word) : (s.setReg a w).hostCfg = s.hostCfg := rfl
@[simp] theorem State.setReg_hostRr (a : Nat) (w : Word) : (s.setReg a w).hostRr = s.hostRr := rfl
@[simp] theorem State.setReg_hostAts (a : Nat) (w : Word) : (s.setReg a w).hostAts = s.hostAts := rfl
@[simp] theorem State.setReg_groups (a : Nat) (w : Word) : (s.setReg a w).groups = s.groups := rfl
@[simp] theorem State.setReg_creations (a : Nat) (w : Word) : (s.setReg a w).creations = s.creations := rfl
@[simp] theorem State.setReg_mem (a : Nat) (w : Word) : (s.setReg a w).mem = s.mem := rfl
@[simp] theorem State.setReg_noc (a : Nat) (w : Word) : (s.setReg a w).noc = s.noc := rfl
@[simp] theorem State.setReg_cleats (a : Nat) (w : Word) : (s.setReg a w).cleats = s.cleats := rfl
@[simp] theorem State.setReg_stalls (a : Nat) (w : Word) : (s.setReg a w).stalls = s.stalls := rfl
@[simp] theorem State.setReg_lany (a : Nat) (w : Word) : (s.setReg a w).lany = s.lany := rfl
@[simp] theorem State.setReg_trig (a : Nat) (w : Word) : (s.setReg a w).trig = s.trig := rfl
@[simp] theorem State.setReg_nextId (a : Nat) (w : Word) : (s.setReg a w).nextId = s.nextId := rfl
@[simp] theorem State.setReg_freeCtr (a : Nat) (w : Word) : (s.setReg a w).freeCtr = s.freeCtr := rfl
@[simp] theorem State.setReg_out (a : Nat) (w : Word) : (s.setReg a w).out = s.out := rfl
@[simp] theorem State.setReg_pending (a : Nat) (w : Word) : (s.setReg a w).pending = s.pending := rfl

/-! `put` changes regs alone. -/

@[simp] theorem State.put_orig (p : PageRef) (off v : Nat) : (s.put p off v).orig = s.orig := rfl
@[simp] theorem State.put_latches (p : PageRef) (off v : Nat) : (s.put p off v).latches = s.latches := rfl
@[simp] theorem State.put_heldLo (p : PageRef) (off v : Nat) : (s.put p off v).heldLo = s.heldLo := rfl
@[simp] theorem State.put_pwr (p : PageRef) (off v : Nat) : (s.put p off v).pwr = s.pwr := rfl
@[simp] theorem State.put_psto (p : PageRef) (off v : Nat) : (s.put p off v).psto = s.psto := rfl
@[simp] theorem State.put_tick (p : PageRef) (off v : Nat) : (s.put p off v).tick = s.tick := rfl
@[simp] theorem State.put_zyn (p : PageRef) (off v : Nat) : (s.put p off v).zyn = s.zyn := rfl
@[simp] theorem State.put_jrnl (p : PageRef) (off v : Nat) : (s.put p off v).jrnl = s.jrnl := rfl
@[simp] theorem State.put_relia (p : PageRef) (off v : Nat) : (s.put p off v).relia = s.relia := rfl
@[simp] theorem State.put_fw (p : PageRef) (off v : Nat) : (s.put p off v).fw = s.fw := rfl
@[simp] theorem State.put_svc (p : PageRef) (off v : Nat) : (s.put p off v).svc = s.svc := rfl
@[simp] theorem State.put_lanes (p : PageRef) (off v : Nat) : (s.put p off v).lanes = s.lanes := rfl
@[simp] theorem State.put_lports (p : PageRef) (off v : Nat) : (s.put p off v).lports = s.lports := rfl
@[simp] theorem State.put_spares (p : PageRef) (off v : Nat) : (s.put p off v).spares = s.spares := rfl
@[simp] theorem State.put_links (p : PageRef) (off v : Nat) : (s.put p off v).links = s.links := rfl
@[simp] theorem State.put_tiles (p : PageRef) (off v : Nat) : (s.put p off v).tiles = s.tiles := rfl
@[simp] theorem State.put_route (p : PageRef) (off v : Nat) : (s.put p off v).route = s.route := rfl
@[simp] theorem State.put_xpts (p : PageRef) (off v : Nat) : (s.put p off v).xpts = s.xpts := rfl
@[simp] theorem State.put_wins (p : PageRef) (off v : Nat) : (s.put p off v).wins = s.wins := rfl
@[simp] theorem State.put_mwus (p : PageRef) (off v : Nat) : (s.put p off v).mwus = s.mwus := rfl
@[simp] theorem State.put_vis (p : PageRef) (off v : Nat) : (s.put p off v).vis = s.vis := rfl
@[simp] theorem State.put_hostCfg (p : PageRef) (off v : Nat) : (s.put p off v).hostCfg = s.hostCfg := rfl
@[simp] theorem State.put_hostRr (p : PageRef) (off v : Nat) : (s.put p off v).hostRr = s.hostRr := rfl
@[simp] theorem State.put_hostAts (p : PageRef) (off v : Nat) : (s.put p off v).hostAts = s.hostAts := rfl
@[simp] theorem State.put_groups (p : PageRef) (off v : Nat) : (s.put p off v).groups = s.groups := rfl
@[simp] theorem State.put_creations (p : PageRef) (off v : Nat) : (s.put p off v).creations = s.creations := rfl
@[simp] theorem State.put_mem (p : PageRef) (off v : Nat) : (s.put p off v).mem = s.mem := rfl
@[simp] theorem State.put_noc (p : PageRef) (off v : Nat) : (s.put p off v).noc = s.noc := rfl
@[simp] theorem State.put_cleats (p : PageRef) (off v : Nat) : (s.put p off v).cleats = s.cleats := rfl
@[simp] theorem State.put_stalls (p : PageRef) (off v : Nat) : (s.put p off v).stalls = s.stalls := rfl
@[simp] theorem State.put_lany (p : PageRef) (off v : Nat) : (s.put p off v).lany = s.lany := rfl
@[simp] theorem State.put_trig (p : PageRef) (off v : Nat) : (s.put p off v).trig = s.trig := rfl
@[simp] theorem State.put_nextId (p : PageRef) (off v : Nat) : (s.put p off v).nextId = s.nextId := rfl
@[simp] theorem State.put_freeCtr (p : PageRef) (off v : Nat) : (s.put p off v).freeCtr = s.freeCtr := rfl
@[simp] theorem State.put_out (p : PageRef) (off v : Nat) : (s.put p off v).out = s.out := rfl
@[simp] theorem State.put_pending (p : PageRef) (off v : Nat) : (s.put p off v).pending = s.pending := rfl

/-! `fput` changes regs alone. -/

@[simp] theorem State.fput_orig (p : PageRef) (off hi lo v : Nat) : (s.fput p off hi lo v).orig = s.orig := rfl
@[simp] theorem State.fput_latches (p : PageRef) (off hi lo v : Nat) : (s.fput p off hi lo v).latches = s.latches := rfl
@[simp] theorem State.fput_heldLo (p : PageRef) (off hi lo v : Nat) : (s.fput p off hi lo v).heldLo = s.heldLo := rfl
@[simp] theorem State.fput_pwr (p : PageRef) (off hi lo v : Nat) : (s.fput p off hi lo v).pwr = s.pwr := rfl
@[simp] theorem State.fput_psto (p : PageRef) (off hi lo v : Nat) : (s.fput p off hi lo v).psto = s.psto := rfl
@[simp] theorem State.fput_tick (p : PageRef) (off hi lo v : Nat) : (s.fput p off hi lo v).tick = s.tick := rfl
@[simp] theorem State.fput_zyn (p : PageRef) (off hi lo v : Nat) : (s.fput p off hi lo v).zyn = s.zyn := rfl
@[simp] theorem State.fput_jrnl (p : PageRef) (off hi lo v : Nat) : (s.fput p off hi lo v).jrnl = s.jrnl := rfl
@[simp] theorem State.fput_relia (p : PageRef) (off hi lo v : Nat) : (s.fput p off hi lo v).relia = s.relia := rfl
@[simp] theorem State.fput_fw (p : PageRef) (off hi lo v : Nat) : (s.fput p off hi lo v).fw = s.fw := rfl
@[simp] theorem State.fput_svc (p : PageRef) (off hi lo v : Nat) : (s.fput p off hi lo v).svc = s.svc := rfl
@[simp] theorem State.fput_lanes (p : PageRef) (off hi lo v : Nat) : (s.fput p off hi lo v).lanes = s.lanes := rfl
@[simp] theorem State.fput_lports (p : PageRef) (off hi lo v : Nat) : (s.fput p off hi lo v).lports = s.lports := rfl
@[simp] theorem State.fput_spares (p : PageRef) (off hi lo v : Nat) : (s.fput p off hi lo v).spares = s.spares := rfl
@[simp] theorem State.fput_links (p : PageRef) (off hi lo v : Nat) : (s.fput p off hi lo v).links = s.links := rfl
@[simp] theorem State.fput_tiles (p : PageRef) (off hi lo v : Nat) : (s.fput p off hi lo v).tiles = s.tiles := rfl
@[simp] theorem State.fput_route (p : PageRef) (off hi lo v : Nat) : (s.fput p off hi lo v).route = s.route := rfl
@[simp] theorem State.fput_xpts (p : PageRef) (off hi lo v : Nat) : (s.fput p off hi lo v).xpts = s.xpts := rfl
@[simp] theorem State.fput_wins (p : PageRef) (off hi lo v : Nat) : (s.fput p off hi lo v).wins = s.wins := rfl
@[simp] theorem State.fput_mwus (p : PageRef) (off hi lo v : Nat) : (s.fput p off hi lo v).mwus = s.mwus := rfl
@[simp] theorem State.fput_vis (p : PageRef) (off hi lo v : Nat) : (s.fput p off hi lo v).vis = s.vis := rfl
@[simp] theorem State.fput_hostCfg (p : PageRef) (off hi lo v : Nat) : (s.fput p off hi lo v).hostCfg = s.hostCfg := rfl
@[simp] theorem State.fput_hostRr (p : PageRef) (off hi lo v : Nat) : (s.fput p off hi lo v).hostRr = s.hostRr := rfl
@[simp] theorem State.fput_hostAts (p : PageRef) (off hi lo v : Nat) : (s.fput p off hi lo v).hostAts = s.hostAts := rfl
@[simp] theorem State.fput_groups (p : PageRef) (off hi lo v : Nat) : (s.fput p off hi lo v).groups = s.groups := rfl
@[simp] theorem State.fput_creations (p : PageRef) (off hi lo v : Nat) : (s.fput p off hi lo v).creations = s.creations := rfl
@[simp] theorem State.fput_mem (p : PageRef) (off hi lo v : Nat) : (s.fput p off hi lo v).mem = s.mem := rfl
@[simp] theorem State.fput_noc (p : PageRef) (off hi lo v : Nat) : (s.fput p off hi lo v).noc = s.noc := rfl
@[simp] theorem State.fput_cleats (p : PageRef) (off hi lo v : Nat) : (s.fput p off hi lo v).cleats = s.cleats := rfl
@[simp] theorem State.fput_stalls (p : PageRef) (off hi lo v : Nat) : (s.fput p off hi lo v).stalls = s.stalls := rfl
@[simp] theorem State.fput_lany (p : PageRef) (off hi lo v : Nat) : (s.fput p off hi lo v).lany = s.lany := rfl
@[simp] theorem State.fput_trig (p : PageRef) (off hi lo v : Nat) : (s.fput p off hi lo v).trig = s.trig := rfl
@[simp] theorem State.fput_nextId (p : PageRef) (off hi lo v : Nat) : (s.fput p off hi lo v).nextId = s.nextId := rfl
@[simp] theorem State.fput_freeCtr (p : PageRef) (off hi lo v : Nat) : (s.fput p off hi lo v).freeCtr = s.freeCtr := rfl
@[simp] theorem State.fput_out (p : PageRef) (off hi lo v : Nat) : (s.fput p off hi lo v).out = s.out := rfl
@[simp] theorem State.fput_pending (p : PageRef) (off hi lo v : Nat) : (s.fput p off hi lo v).pending = s.pending := rfl

/-! `bput` changes regs alone. -/

@[simp] theorem State.bput_orig (p : PageRef) (off b : Nat) (v : Bool) : (s.bput p off b v).orig = s.orig := rfl
@[simp] theorem State.bput_latches (p : PageRef) (off b : Nat) (v : Bool) : (s.bput p off b v).latches = s.latches := rfl
@[simp] theorem State.bput_heldLo (p : PageRef) (off b : Nat) (v : Bool) : (s.bput p off b v).heldLo = s.heldLo := rfl
@[simp] theorem State.bput_pwr (p : PageRef) (off b : Nat) (v : Bool) : (s.bput p off b v).pwr = s.pwr := rfl
@[simp] theorem State.bput_psto (p : PageRef) (off b : Nat) (v : Bool) : (s.bput p off b v).psto = s.psto := rfl
@[simp] theorem State.bput_tick (p : PageRef) (off b : Nat) (v : Bool) : (s.bput p off b v).tick = s.tick := rfl
@[simp] theorem State.bput_zyn (p : PageRef) (off b : Nat) (v : Bool) : (s.bput p off b v).zyn = s.zyn := rfl
@[simp] theorem State.bput_jrnl (p : PageRef) (off b : Nat) (v : Bool) : (s.bput p off b v).jrnl = s.jrnl := rfl
@[simp] theorem State.bput_relia (p : PageRef) (off b : Nat) (v : Bool) : (s.bput p off b v).relia = s.relia := rfl
@[simp] theorem State.bput_fw (p : PageRef) (off b : Nat) (v : Bool) : (s.bput p off b v).fw = s.fw := rfl
@[simp] theorem State.bput_svc (p : PageRef) (off b : Nat) (v : Bool) : (s.bput p off b v).svc = s.svc := rfl
@[simp] theorem State.bput_lanes (p : PageRef) (off b : Nat) (v : Bool) : (s.bput p off b v).lanes = s.lanes := rfl
@[simp] theorem State.bput_lports (p : PageRef) (off b : Nat) (v : Bool) : (s.bput p off b v).lports = s.lports := rfl
@[simp] theorem State.bput_spares (p : PageRef) (off b : Nat) (v : Bool) : (s.bput p off b v).spares = s.spares := rfl
@[simp] theorem State.bput_links (p : PageRef) (off b : Nat) (v : Bool) : (s.bput p off b v).links = s.links := rfl
@[simp] theorem State.bput_tiles (p : PageRef) (off b : Nat) (v : Bool) : (s.bput p off b v).tiles = s.tiles := rfl
@[simp] theorem State.bput_route (p : PageRef) (off b : Nat) (v : Bool) : (s.bput p off b v).route = s.route := rfl
@[simp] theorem State.bput_xpts (p : PageRef) (off b : Nat) (v : Bool) : (s.bput p off b v).xpts = s.xpts := rfl
@[simp] theorem State.bput_wins (p : PageRef) (off b : Nat) (v : Bool) : (s.bput p off b v).wins = s.wins := rfl
@[simp] theorem State.bput_mwus (p : PageRef) (off b : Nat) (v : Bool) : (s.bput p off b v).mwus = s.mwus := rfl
@[simp] theorem State.bput_vis (p : PageRef) (off b : Nat) (v : Bool) : (s.bput p off b v).vis = s.vis := rfl
@[simp] theorem State.bput_hostCfg (p : PageRef) (off b : Nat) (v : Bool) : (s.bput p off b v).hostCfg = s.hostCfg := rfl
@[simp] theorem State.bput_hostRr (p : PageRef) (off b : Nat) (v : Bool) : (s.bput p off b v).hostRr = s.hostRr := rfl
@[simp] theorem State.bput_hostAts (p : PageRef) (off b : Nat) (v : Bool) : (s.bput p off b v).hostAts = s.hostAts := rfl
@[simp] theorem State.bput_groups (p : PageRef) (off b : Nat) (v : Bool) : (s.bput p off b v).groups = s.groups := rfl
@[simp] theorem State.bput_creations (p : PageRef) (off b : Nat) (v : Bool) : (s.bput p off b v).creations = s.creations := rfl
@[simp] theorem State.bput_mem (p : PageRef) (off b : Nat) (v : Bool) : (s.bput p off b v).mem = s.mem := rfl
@[simp] theorem State.bput_noc (p : PageRef) (off b : Nat) (v : Bool) : (s.bput p off b v).noc = s.noc := rfl
@[simp] theorem State.bput_cleats (p : PageRef) (off b : Nat) (v : Bool) : (s.bput p off b v).cleats = s.cleats := rfl
@[simp] theorem State.bput_stalls (p : PageRef) (off b : Nat) (v : Bool) : (s.bput p off b v).stalls = s.stalls := rfl
@[simp] theorem State.bput_lany (p : PageRef) (off b : Nat) (v : Bool) : (s.bput p off b v).lany = s.lany := rfl
@[simp] theorem State.bput_trig (p : PageRef) (off b : Nat) (v : Bool) : (s.bput p off b v).trig = s.trig := rfl
@[simp] theorem State.bput_nextId (p : PageRef) (off b : Nat) (v : Bool) : (s.bput p off b v).nextId = s.nextId := rfl
@[simp] theorem State.bput_freeCtr (p : PageRef) (off b : Nat) (v : Bool) : (s.bput p off b v).freeCtr = s.freeCtr := rfl
@[simp] theorem State.bput_out (p : PageRef) (off b : Nat) (v : Bool) : (s.bput p off b v).out = s.out := rfl
@[simp] theorem State.bput_pending (p : PageRef) (off b : Nat) (v : Bool) : (s.bput p off b v).pending = s.pending := rfl

/-! `put64` changes regs alone. -/

@[simp] theorem State.put64_orig (p : PageRef) (off v : Nat) : (s.put64 p off v).orig = s.orig := rfl
@[simp] theorem State.put64_latches (p : PageRef) (off v : Nat) : (s.put64 p off v).latches = s.latches := rfl
@[simp] theorem State.put64_heldLo (p : PageRef) (off v : Nat) : (s.put64 p off v).heldLo = s.heldLo := rfl
@[simp] theorem State.put64_pwr (p : PageRef) (off v : Nat) : (s.put64 p off v).pwr = s.pwr := rfl
@[simp] theorem State.put64_psto (p : PageRef) (off v : Nat) : (s.put64 p off v).psto = s.psto := rfl
@[simp] theorem State.put64_tick (p : PageRef) (off v : Nat) : (s.put64 p off v).tick = s.tick := rfl
@[simp] theorem State.put64_zyn (p : PageRef) (off v : Nat) : (s.put64 p off v).zyn = s.zyn := rfl
@[simp] theorem State.put64_jrnl (p : PageRef) (off v : Nat) : (s.put64 p off v).jrnl = s.jrnl := rfl
@[simp] theorem State.put64_relia (p : PageRef) (off v : Nat) : (s.put64 p off v).relia = s.relia := rfl
@[simp] theorem State.put64_fw (p : PageRef) (off v : Nat) : (s.put64 p off v).fw = s.fw := rfl
@[simp] theorem State.put64_svc (p : PageRef) (off v : Nat) : (s.put64 p off v).svc = s.svc := rfl
@[simp] theorem State.put64_lanes (p : PageRef) (off v : Nat) : (s.put64 p off v).lanes = s.lanes := rfl
@[simp] theorem State.put64_lports (p : PageRef) (off v : Nat) : (s.put64 p off v).lports = s.lports := rfl
@[simp] theorem State.put64_spares (p : PageRef) (off v : Nat) : (s.put64 p off v).spares = s.spares := rfl
@[simp] theorem State.put64_links (p : PageRef) (off v : Nat) : (s.put64 p off v).links = s.links := rfl
@[simp] theorem State.put64_tiles (p : PageRef) (off v : Nat) : (s.put64 p off v).tiles = s.tiles := rfl
@[simp] theorem State.put64_route (p : PageRef) (off v : Nat) : (s.put64 p off v).route = s.route := rfl
@[simp] theorem State.put64_xpts (p : PageRef) (off v : Nat) : (s.put64 p off v).xpts = s.xpts := rfl
@[simp] theorem State.put64_wins (p : PageRef) (off v : Nat) : (s.put64 p off v).wins = s.wins := rfl
@[simp] theorem State.put64_mwus (p : PageRef) (off v : Nat) : (s.put64 p off v).mwus = s.mwus := rfl
@[simp] theorem State.put64_vis (p : PageRef) (off v : Nat) : (s.put64 p off v).vis = s.vis := rfl
@[simp] theorem State.put64_hostCfg (p : PageRef) (off v : Nat) : (s.put64 p off v).hostCfg = s.hostCfg := rfl
@[simp] theorem State.put64_hostRr (p : PageRef) (off v : Nat) : (s.put64 p off v).hostRr = s.hostRr := rfl
@[simp] theorem State.put64_hostAts (p : PageRef) (off v : Nat) : (s.put64 p off v).hostAts = s.hostAts := rfl
@[simp] theorem State.put64_groups (p : PageRef) (off v : Nat) : (s.put64 p off v).groups = s.groups := rfl
@[simp] theorem State.put64_creations (p : PageRef) (off v : Nat) : (s.put64 p off v).creations = s.creations := rfl
@[simp] theorem State.put64_mem (p : PageRef) (off v : Nat) : (s.put64 p off v).mem = s.mem := rfl
@[simp] theorem State.put64_noc (p : PageRef) (off v : Nat) : (s.put64 p off v).noc = s.noc := rfl
@[simp] theorem State.put64_cleats (p : PageRef) (off v : Nat) : (s.put64 p off v).cleats = s.cleats := rfl
@[simp] theorem State.put64_stalls (p : PageRef) (off v : Nat) : (s.put64 p off v).stalls = s.stalls := rfl
@[simp] theorem State.put64_lany (p : PageRef) (off v : Nat) : (s.put64 p off v).lany = s.lany := rfl
@[simp] theorem State.put64_trig (p : PageRef) (off v : Nat) : (s.put64 p off v).trig = s.trig := rfl
@[simp] theorem State.put64_nextId (p : PageRef) (off v : Nat) : (s.put64 p off v).nextId = s.nextId := rfl
@[simp] theorem State.put64_freeCtr (p : PageRef) (off v : Nat) : (s.put64 p off v).freeCtr = s.freeCtr := rfl
@[simp] theorem State.put64_out (p : PageRef) (off v : Nat) : (s.put64 p off v).out = s.out := rfl
@[simp] theorem State.put64_pending (p : PageRef) (off v : Nat) : (s.put64 p off v).pending = s.pending := rfl

/-! `putCtr` changes regs alone. -/

@[simp] theorem State.putCtr_orig (p : PageRef) (n v : Nat) : (s.putCtr p n v).orig = s.orig := rfl
@[simp] theorem State.putCtr_latches (p : PageRef) (n v : Nat) : (s.putCtr p n v).latches = s.latches := rfl
@[simp] theorem State.putCtr_heldLo (p : PageRef) (n v : Nat) : (s.putCtr p n v).heldLo = s.heldLo := rfl
@[simp] theorem State.putCtr_pwr (p : PageRef) (n v : Nat) : (s.putCtr p n v).pwr = s.pwr := rfl
@[simp] theorem State.putCtr_psto (p : PageRef) (n v : Nat) : (s.putCtr p n v).psto = s.psto := rfl
@[simp] theorem State.putCtr_tick (p : PageRef) (n v : Nat) : (s.putCtr p n v).tick = s.tick := rfl
@[simp] theorem State.putCtr_zyn (p : PageRef) (n v : Nat) : (s.putCtr p n v).zyn = s.zyn := rfl
@[simp] theorem State.putCtr_jrnl (p : PageRef) (n v : Nat) : (s.putCtr p n v).jrnl = s.jrnl := rfl
@[simp] theorem State.putCtr_relia (p : PageRef) (n v : Nat) : (s.putCtr p n v).relia = s.relia := rfl
@[simp] theorem State.putCtr_fw (p : PageRef) (n v : Nat) : (s.putCtr p n v).fw = s.fw := rfl
@[simp] theorem State.putCtr_svc (p : PageRef) (n v : Nat) : (s.putCtr p n v).svc = s.svc := rfl
@[simp] theorem State.putCtr_lanes (p : PageRef) (n v : Nat) : (s.putCtr p n v).lanes = s.lanes := rfl
@[simp] theorem State.putCtr_lports (p : PageRef) (n v : Nat) : (s.putCtr p n v).lports = s.lports := rfl
@[simp] theorem State.putCtr_spares (p : PageRef) (n v : Nat) : (s.putCtr p n v).spares = s.spares := rfl
@[simp] theorem State.putCtr_links (p : PageRef) (n v : Nat) : (s.putCtr p n v).links = s.links := rfl
@[simp] theorem State.putCtr_tiles (p : PageRef) (n v : Nat) : (s.putCtr p n v).tiles = s.tiles := rfl
@[simp] theorem State.putCtr_route (p : PageRef) (n v : Nat) : (s.putCtr p n v).route = s.route := rfl
@[simp] theorem State.putCtr_xpts (p : PageRef) (n v : Nat) : (s.putCtr p n v).xpts = s.xpts := rfl
@[simp] theorem State.putCtr_wins (p : PageRef) (n v : Nat) : (s.putCtr p n v).wins = s.wins := rfl
@[simp] theorem State.putCtr_mwus (p : PageRef) (n v : Nat) : (s.putCtr p n v).mwus = s.mwus := rfl
@[simp] theorem State.putCtr_vis (p : PageRef) (n v : Nat) : (s.putCtr p n v).vis = s.vis := rfl
@[simp] theorem State.putCtr_hostCfg (p : PageRef) (n v : Nat) : (s.putCtr p n v).hostCfg = s.hostCfg := rfl
@[simp] theorem State.putCtr_hostRr (p : PageRef) (n v : Nat) : (s.putCtr p n v).hostRr = s.hostRr := rfl
@[simp] theorem State.putCtr_hostAts (p : PageRef) (n v : Nat) : (s.putCtr p n v).hostAts = s.hostAts := rfl
@[simp] theorem State.putCtr_groups (p : PageRef) (n v : Nat) : (s.putCtr p n v).groups = s.groups := rfl
@[simp] theorem State.putCtr_creations (p : PageRef) (n v : Nat) : (s.putCtr p n v).creations = s.creations := rfl
@[simp] theorem State.putCtr_mem (p : PageRef) (n v : Nat) : (s.putCtr p n v).mem = s.mem := rfl
@[simp] theorem State.putCtr_noc (p : PageRef) (n v : Nat) : (s.putCtr p n v).noc = s.noc := rfl
@[simp] theorem State.putCtr_cleats (p : PageRef) (n v : Nat) : (s.putCtr p n v).cleats = s.cleats := rfl
@[simp] theorem State.putCtr_stalls (p : PageRef) (n v : Nat) : (s.putCtr p n v).stalls = s.stalls := rfl
@[simp] theorem State.putCtr_lany (p : PageRef) (n v : Nat) : (s.putCtr p n v).lany = s.lany := rfl
@[simp] theorem State.putCtr_trig (p : PageRef) (n v : Nat) : (s.putCtr p n v).trig = s.trig := rfl
@[simp] theorem State.putCtr_nextId (p : PageRef) (n v : Nat) : (s.putCtr p n v).nextId = s.nextId := rfl
@[simp] theorem State.putCtr_freeCtr (p : PageRef) (n v : Nat) : (s.putCtr p n v).freeCtr = s.freeCtr := rfl
@[simp] theorem State.putCtr_out (p : PageRef) (n v : Nat) : (s.putCtr p n v).out = s.out := rfl
@[simp] theorem State.putCtr_pending (p : PageRef) (n v : Nat) : (s.putCtr p n v).pending = s.pending := rfl

/-! `satAdd` changes regs alone. -/

@[simp] theorem State.satAdd_orig (p : PageRef) (off hi lo k : Nat) : (s.satAdd p off hi lo k).orig = s.orig := rfl
@[simp] theorem State.satAdd_latches (p : PageRef) (off hi lo k : Nat) : (s.satAdd p off hi lo k).latches = s.latches := rfl
@[simp] theorem State.satAdd_heldLo (p : PageRef) (off hi lo k : Nat) : (s.satAdd p off hi lo k).heldLo = s.heldLo := rfl
@[simp] theorem State.satAdd_pwr (p : PageRef) (off hi lo k : Nat) : (s.satAdd p off hi lo k).pwr = s.pwr := rfl
@[simp] theorem State.satAdd_psto (p : PageRef) (off hi lo k : Nat) : (s.satAdd p off hi lo k).psto = s.psto := rfl
@[simp] theorem State.satAdd_tick (p : PageRef) (off hi lo k : Nat) : (s.satAdd p off hi lo k).tick = s.tick := rfl
@[simp] theorem State.satAdd_zyn (p : PageRef) (off hi lo k : Nat) : (s.satAdd p off hi lo k).zyn = s.zyn := rfl
@[simp] theorem State.satAdd_jrnl (p : PageRef) (off hi lo k : Nat) : (s.satAdd p off hi lo k).jrnl = s.jrnl := rfl
@[simp] theorem State.satAdd_relia (p : PageRef) (off hi lo k : Nat) : (s.satAdd p off hi lo k).relia = s.relia := rfl
@[simp] theorem State.satAdd_fw (p : PageRef) (off hi lo k : Nat) : (s.satAdd p off hi lo k).fw = s.fw := rfl
@[simp] theorem State.satAdd_svc (p : PageRef) (off hi lo k : Nat) : (s.satAdd p off hi lo k).svc = s.svc := rfl
@[simp] theorem State.satAdd_lanes (p : PageRef) (off hi lo k : Nat) : (s.satAdd p off hi lo k).lanes = s.lanes := rfl
@[simp] theorem State.satAdd_lports (p : PageRef) (off hi lo k : Nat) : (s.satAdd p off hi lo k).lports = s.lports := rfl
@[simp] theorem State.satAdd_spares (p : PageRef) (off hi lo k : Nat) : (s.satAdd p off hi lo k).spares = s.spares := rfl
@[simp] theorem State.satAdd_links (p : PageRef) (off hi lo k : Nat) : (s.satAdd p off hi lo k).links = s.links := rfl
@[simp] theorem State.satAdd_tiles (p : PageRef) (off hi lo k : Nat) : (s.satAdd p off hi lo k).tiles = s.tiles := rfl
@[simp] theorem State.satAdd_route (p : PageRef) (off hi lo k : Nat) : (s.satAdd p off hi lo k).route = s.route := rfl
@[simp] theorem State.satAdd_xpts (p : PageRef) (off hi lo k : Nat) : (s.satAdd p off hi lo k).xpts = s.xpts := rfl
@[simp] theorem State.satAdd_wins (p : PageRef) (off hi lo k : Nat) : (s.satAdd p off hi lo k).wins = s.wins := rfl
@[simp] theorem State.satAdd_mwus (p : PageRef) (off hi lo k : Nat) : (s.satAdd p off hi lo k).mwus = s.mwus := rfl
@[simp] theorem State.satAdd_vis (p : PageRef) (off hi lo k : Nat) : (s.satAdd p off hi lo k).vis = s.vis := rfl
@[simp] theorem State.satAdd_hostCfg (p : PageRef) (off hi lo k : Nat) : (s.satAdd p off hi lo k).hostCfg = s.hostCfg := rfl
@[simp] theorem State.satAdd_hostRr (p : PageRef) (off hi lo k : Nat) : (s.satAdd p off hi lo k).hostRr = s.hostRr := rfl
@[simp] theorem State.satAdd_hostAts (p : PageRef) (off hi lo k : Nat) : (s.satAdd p off hi lo k).hostAts = s.hostAts := rfl
@[simp] theorem State.satAdd_groups (p : PageRef) (off hi lo k : Nat) : (s.satAdd p off hi lo k).groups = s.groups := rfl
@[simp] theorem State.satAdd_creations (p : PageRef) (off hi lo k : Nat) : (s.satAdd p off hi lo k).creations = s.creations := rfl
@[simp] theorem State.satAdd_mem (p : PageRef) (off hi lo k : Nat) : (s.satAdd p off hi lo k).mem = s.mem := rfl
@[simp] theorem State.satAdd_noc (p : PageRef) (off hi lo k : Nat) : (s.satAdd p off hi lo k).noc = s.noc := rfl
@[simp] theorem State.satAdd_cleats (p : PageRef) (off hi lo k : Nat) : (s.satAdd p off hi lo k).cleats = s.cleats := rfl
@[simp] theorem State.satAdd_stalls (p : PageRef) (off hi lo k : Nat) : (s.satAdd p off hi lo k).stalls = s.stalls := rfl
@[simp] theorem State.satAdd_lany (p : PageRef) (off hi lo k : Nat) : (s.satAdd p off hi lo k).lany = s.lany := rfl
@[simp] theorem State.satAdd_trig (p : PageRef) (off hi lo k : Nat) : (s.satAdd p off hi lo k).trig = s.trig := rfl
@[simp] theorem State.satAdd_nextId (p : PageRef) (off hi lo k : Nat) : (s.satAdd p off hi lo k).nextId = s.nextId := rfl
@[simp] theorem State.satAdd_freeCtr (p : PageRef) (off hi lo k : Nat) : (s.satAdd p off hi lo k).freeCtr = s.freeCtr := rfl
@[simp] theorem State.satAdd_out (p : PageRef) (off hi lo k : Nat) : (s.satAdd p off hi lo k).out = s.out := rfl
@[simp] theorem State.satAdd_pending (p : PageRef) (off hi lo k : Nat) : (s.satAdd p off hi lo k).pending = s.pending := rfl

/-! `chg` changes regs alone. -/

@[simp] theorem State.chg_orig (p : PageRef) : (s.chg p).orig = s.orig := rfl
@[simp] theorem State.chg_latches (p : PageRef) : (s.chg p).latches = s.latches := rfl
@[simp] theorem State.chg_heldLo (p : PageRef) : (s.chg p).heldLo = s.heldLo := rfl
@[simp] theorem State.chg_pwr (p : PageRef) : (s.chg p).pwr = s.pwr := rfl
@[simp] theorem State.chg_psto (p : PageRef) : (s.chg p).psto = s.psto := rfl
@[simp] theorem State.chg_tick (p : PageRef) : (s.chg p).tick = s.tick := rfl
@[simp] theorem State.chg_zyn (p : PageRef) : (s.chg p).zyn = s.zyn := rfl
@[simp] theorem State.chg_jrnl (p : PageRef) : (s.chg p).jrnl = s.jrnl := rfl
@[simp] theorem State.chg_relia (p : PageRef) : (s.chg p).relia = s.relia := rfl
@[simp] theorem State.chg_fw (p : PageRef) : (s.chg p).fw = s.fw := rfl
@[simp] theorem State.chg_svc (p : PageRef) : (s.chg p).svc = s.svc := rfl
@[simp] theorem State.chg_lanes (p : PageRef) : (s.chg p).lanes = s.lanes := rfl
@[simp] theorem State.chg_lports (p : PageRef) : (s.chg p).lports = s.lports := rfl
@[simp] theorem State.chg_spares (p : PageRef) : (s.chg p).spares = s.spares := rfl
@[simp] theorem State.chg_links (p : PageRef) : (s.chg p).links = s.links := rfl
@[simp] theorem State.chg_tiles (p : PageRef) : (s.chg p).tiles = s.tiles := rfl
@[simp] theorem State.chg_route (p : PageRef) : (s.chg p).route = s.route := rfl
@[simp] theorem State.chg_xpts (p : PageRef) : (s.chg p).xpts = s.xpts := rfl
@[simp] theorem State.chg_wins (p : PageRef) : (s.chg p).wins = s.wins := rfl
@[simp] theorem State.chg_mwus (p : PageRef) : (s.chg p).mwus = s.mwus := rfl
@[simp] theorem State.chg_vis (p : PageRef) : (s.chg p).vis = s.vis := rfl
@[simp] theorem State.chg_hostCfg (p : PageRef) : (s.chg p).hostCfg = s.hostCfg := rfl
@[simp] theorem State.chg_hostRr (p : PageRef) : (s.chg p).hostRr = s.hostRr := rfl
@[simp] theorem State.chg_hostAts (p : PageRef) : (s.chg p).hostAts = s.hostAts := rfl
@[simp] theorem State.chg_groups (p : PageRef) : (s.chg p).groups = s.groups := rfl
@[simp] theorem State.chg_creations (p : PageRef) : (s.chg p).creations = s.creations := rfl
@[simp] theorem State.chg_mem (p : PageRef) : (s.chg p).mem = s.mem := rfl
@[simp] theorem State.chg_noc (p : PageRef) : (s.chg p).noc = s.noc := rfl
@[simp] theorem State.chg_cleats (p : PageRef) : (s.chg p).cleats = s.cleats := rfl
@[simp] theorem State.chg_stalls (p : PageRef) : (s.chg p).stalls = s.stalls := rfl
@[simp] theorem State.chg_lany (p : PageRef) : (s.chg p).lany = s.lany := rfl
@[simp] theorem State.chg_trig (p : PageRef) : (s.chg p).trig = s.trig := rfl
@[simp] theorem State.chg_nextId (p : PageRef) : (s.chg p).nextId = s.nextId := rfl
@[simp] theorem State.chg_freeCtr (p : PageRef) : (s.chg p).freeCtr = s.freeCtr := rfl
@[simp] theorem State.chg_out (p : PageRef) : (s.chg p).out = s.out := rfl
@[simp] theorem State.chg_pending (p : PageRef) : (s.chg p).pending = s.pending := rfl

/-! `resetRegs` changes regs alone. -/

@[simp] theorem State.resetRegs_orig (sel : PageRef → Nat → Bool) : (s.resetRegs sel).orig = s.orig := rfl
@[simp] theorem State.resetRegs_latches (sel : PageRef → Nat → Bool) : (s.resetRegs sel).latches = s.latches := rfl
@[simp] theorem State.resetRegs_heldLo (sel : PageRef → Nat → Bool) : (s.resetRegs sel).heldLo = s.heldLo := rfl
@[simp] theorem State.resetRegs_pwr (sel : PageRef → Nat → Bool) : (s.resetRegs sel).pwr = s.pwr := rfl
@[simp] theorem State.resetRegs_psto (sel : PageRef → Nat → Bool) : (s.resetRegs sel).psto = s.psto := rfl
@[simp] theorem State.resetRegs_tick (sel : PageRef → Nat → Bool) : (s.resetRegs sel).tick = s.tick := rfl
@[simp] theorem State.resetRegs_zyn (sel : PageRef → Nat → Bool) : (s.resetRegs sel).zyn = s.zyn := rfl
@[simp] theorem State.resetRegs_jrnl (sel : PageRef → Nat → Bool) : (s.resetRegs sel).jrnl = s.jrnl := rfl
@[simp] theorem State.resetRegs_relia (sel : PageRef → Nat → Bool) : (s.resetRegs sel).relia = s.relia := rfl
@[simp] theorem State.resetRegs_fw (sel : PageRef → Nat → Bool) : (s.resetRegs sel).fw = s.fw := rfl
@[simp] theorem State.resetRegs_svc (sel : PageRef → Nat → Bool) : (s.resetRegs sel).svc = s.svc := rfl
@[simp] theorem State.resetRegs_lanes (sel : PageRef → Nat → Bool) : (s.resetRegs sel).lanes = s.lanes := rfl
@[simp] theorem State.resetRegs_lports (sel : PageRef → Nat → Bool) : (s.resetRegs sel).lports = s.lports := rfl
@[simp] theorem State.resetRegs_spares (sel : PageRef → Nat → Bool) : (s.resetRegs sel).spares = s.spares := rfl
@[simp] theorem State.resetRegs_links (sel : PageRef → Nat → Bool) : (s.resetRegs sel).links = s.links := rfl
@[simp] theorem State.resetRegs_tiles (sel : PageRef → Nat → Bool) : (s.resetRegs sel).tiles = s.tiles := rfl
@[simp] theorem State.resetRegs_route (sel : PageRef → Nat → Bool) : (s.resetRegs sel).route = s.route := rfl
@[simp] theorem State.resetRegs_xpts (sel : PageRef → Nat → Bool) : (s.resetRegs sel).xpts = s.xpts := rfl
@[simp] theorem State.resetRegs_wins (sel : PageRef → Nat → Bool) : (s.resetRegs sel).wins = s.wins := rfl
@[simp] theorem State.resetRegs_mwus (sel : PageRef → Nat → Bool) : (s.resetRegs sel).mwus = s.mwus := rfl
@[simp] theorem State.resetRegs_vis (sel : PageRef → Nat → Bool) : (s.resetRegs sel).vis = s.vis := rfl
@[simp] theorem State.resetRegs_hostCfg (sel : PageRef → Nat → Bool) : (s.resetRegs sel).hostCfg = s.hostCfg := rfl
@[simp] theorem State.resetRegs_hostRr (sel : PageRef → Nat → Bool) : (s.resetRegs sel).hostRr = s.hostRr := rfl
@[simp] theorem State.resetRegs_hostAts (sel : PageRef → Nat → Bool) : (s.resetRegs sel).hostAts = s.hostAts := rfl
@[simp] theorem State.resetRegs_groups (sel : PageRef → Nat → Bool) : (s.resetRegs sel).groups = s.groups := rfl
@[simp] theorem State.resetRegs_creations (sel : PageRef → Nat → Bool) : (s.resetRegs sel).creations = s.creations := rfl
@[simp] theorem State.resetRegs_mem (sel : PageRef → Nat → Bool) : (s.resetRegs sel).mem = s.mem := rfl
@[simp] theorem State.resetRegs_noc (sel : PageRef → Nat → Bool) : (s.resetRegs sel).noc = s.noc := rfl
@[simp] theorem State.resetRegs_cleats (sel : PageRef → Nat → Bool) : (s.resetRegs sel).cleats = s.cleats := rfl
@[simp] theorem State.resetRegs_stalls (sel : PageRef → Nat → Bool) : (s.resetRegs sel).stalls = s.stalls := rfl
@[simp] theorem State.resetRegs_lany (sel : PageRef → Nat → Bool) : (s.resetRegs sel).lany = s.lany := rfl
@[simp] theorem State.resetRegs_trig (sel : PageRef → Nat → Bool) : (s.resetRegs sel).trig = s.trig := rfl
@[simp] theorem State.resetRegs_nextId (sel : PageRef → Nat → Bool) : (s.resetRegs sel).nextId = s.nextId := rfl
@[simp] theorem State.resetRegs_freeCtr (sel : PageRef → Nat → Bool) : (s.resetRegs sel).freeCtr = s.freeCtr := rfl
@[simp] theorem State.resetRegs_out (sel : PageRef → Nat → Bool) : (s.resetRegs sel).out = s.out := rfl
@[simp] theorem State.resetRegs_pending (sel : PageRef → Nat → Bool) : (s.resetRegs sel).pending = s.pending := rfl

/-! `emit` changes out alone. -/

@[simp] theorem State.emit_regs (o : Out) : (s.emit o).regs = s.regs := rfl
@[simp] theorem State.emit_orig (o : Out) : (s.emit o).orig = s.orig := rfl
@[simp] theorem State.emit_latches (o : Out) : (s.emit o).latches = s.latches := rfl
@[simp] theorem State.emit_heldLo (o : Out) : (s.emit o).heldLo = s.heldLo := rfl
@[simp] theorem State.emit_pwr (o : Out) : (s.emit o).pwr = s.pwr := rfl
@[simp] theorem State.emit_psto (o : Out) : (s.emit o).psto = s.psto := rfl
@[simp] theorem State.emit_tick (o : Out) : (s.emit o).tick = s.tick := rfl
@[simp] theorem State.emit_zyn (o : Out) : (s.emit o).zyn = s.zyn := rfl
@[simp] theorem State.emit_jrnl (o : Out) : (s.emit o).jrnl = s.jrnl := rfl
@[simp] theorem State.emit_relia (o : Out) : (s.emit o).relia = s.relia := rfl
@[simp] theorem State.emit_fw (o : Out) : (s.emit o).fw = s.fw := rfl
@[simp] theorem State.emit_svc (o : Out) : (s.emit o).svc = s.svc := rfl
@[simp] theorem State.emit_lanes (o : Out) : (s.emit o).lanes = s.lanes := rfl
@[simp] theorem State.emit_lports (o : Out) : (s.emit o).lports = s.lports := rfl
@[simp] theorem State.emit_spares (o : Out) : (s.emit o).spares = s.spares := rfl
@[simp] theorem State.emit_links (o : Out) : (s.emit o).links = s.links := rfl
@[simp] theorem State.emit_tiles (o : Out) : (s.emit o).tiles = s.tiles := rfl
@[simp] theorem State.emit_route (o : Out) : (s.emit o).route = s.route := rfl
@[simp] theorem State.emit_xpts (o : Out) : (s.emit o).xpts = s.xpts := rfl
@[simp] theorem State.emit_wins (o : Out) : (s.emit o).wins = s.wins := rfl
@[simp] theorem State.emit_mwus (o : Out) : (s.emit o).mwus = s.mwus := rfl
@[simp] theorem State.emit_vis (o : Out) : (s.emit o).vis = s.vis := rfl
@[simp] theorem State.emit_hostCfg (o : Out) : (s.emit o).hostCfg = s.hostCfg := rfl
@[simp] theorem State.emit_hostRr (o : Out) : (s.emit o).hostRr = s.hostRr := rfl
@[simp] theorem State.emit_hostAts (o : Out) : (s.emit o).hostAts = s.hostAts := rfl
@[simp] theorem State.emit_groups (o : Out) : (s.emit o).groups = s.groups := rfl
@[simp] theorem State.emit_creations (o : Out) : (s.emit o).creations = s.creations := rfl
@[simp] theorem State.emit_mem (o : Out) : (s.emit o).mem = s.mem := rfl
@[simp] theorem State.emit_noc (o : Out) : (s.emit o).noc = s.noc := rfl
@[simp] theorem State.emit_cleats (o : Out) : (s.emit o).cleats = s.cleats := rfl
@[simp] theorem State.emit_stalls (o : Out) : (s.emit o).stalls = s.stalls := rfl
@[simp] theorem State.emit_lany (o : Out) : (s.emit o).lany = s.lany := rfl
@[simp] theorem State.emit_trig (o : Out) : (s.emit o).trig = s.trig := rfl
@[simp] theorem State.emit_nextId (o : Out) : (s.emit o).nextId = s.nextId := rfl
@[simp] theorem State.emit_freeCtr (o : Out) : (s.emit o).freeCtr = s.freeCtr := rfl
@[simp] theorem State.emit_pending (o : Out) : (s.emit o).pending = s.pending := rfl

/-! `event` changes out alone. -/

@[simp] theorem State.event_regs (target : Nat) (e : Ev) : (s.event target e).regs = s.regs := rfl
@[simp] theorem State.event_orig (target : Nat) (e : Ev) : (s.event target e).orig = s.orig := rfl
@[simp] theorem State.event_latches (target : Nat) (e : Ev) : (s.event target e).latches = s.latches := rfl
@[simp] theorem State.event_heldLo (target : Nat) (e : Ev) : (s.event target e).heldLo = s.heldLo := rfl
@[simp] theorem State.event_pwr (target : Nat) (e : Ev) : (s.event target e).pwr = s.pwr := rfl
@[simp] theorem State.event_psto (target : Nat) (e : Ev) : (s.event target e).psto = s.psto := rfl
@[simp] theorem State.event_tick (target : Nat) (e : Ev) : (s.event target e).tick = s.tick := rfl
@[simp] theorem State.event_zyn (target : Nat) (e : Ev) : (s.event target e).zyn = s.zyn := rfl
@[simp] theorem State.event_jrnl (target : Nat) (e : Ev) : (s.event target e).jrnl = s.jrnl := rfl
@[simp] theorem State.event_relia (target : Nat) (e : Ev) : (s.event target e).relia = s.relia := rfl
@[simp] theorem State.event_fw (target : Nat) (e : Ev) : (s.event target e).fw = s.fw := rfl
@[simp] theorem State.event_svc (target : Nat) (e : Ev) : (s.event target e).svc = s.svc := rfl
@[simp] theorem State.event_lanes (target : Nat) (e : Ev) : (s.event target e).lanes = s.lanes := rfl
@[simp] theorem State.event_lports (target : Nat) (e : Ev) : (s.event target e).lports = s.lports := rfl
@[simp] theorem State.event_spares (target : Nat) (e : Ev) : (s.event target e).spares = s.spares := rfl
@[simp] theorem State.event_links (target : Nat) (e : Ev) : (s.event target e).links = s.links := rfl
@[simp] theorem State.event_tiles (target : Nat) (e : Ev) : (s.event target e).tiles = s.tiles := rfl
@[simp] theorem State.event_route (target : Nat) (e : Ev) : (s.event target e).route = s.route := rfl
@[simp] theorem State.event_xpts (target : Nat) (e : Ev) : (s.event target e).xpts = s.xpts := rfl
@[simp] theorem State.event_wins (target : Nat) (e : Ev) : (s.event target e).wins = s.wins := rfl
@[simp] theorem State.event_mwus (target : Nat) (e : Ev) : (s.event target e).mwus = s.mwus := rfl
@[simp] theorem State.event_vis (target : Nat) (e : Ev) : (s.event target e).vis = s.vis := rfl
@[simp] theorem State.event_hostCfg (target : Nat) (e : Ev) : (s.event target e).hostCfg = s.hostCfg := rfl
@[simp] theorem State.event_hostRr (target : Nat) (e : Ev) : (s.event target e).hostRr = s.hostRr := rfl
@[simp] theorem State.event_hostAts (target : Nat) (e : Ev) : (s.event target e).hostAts = s.hostAts := rfl
@[simp] theorem State.event_groups (target : Nat) (e : Ev) : (s.event target e).groups = s.groups := rfl
@[simp] theorem State.event_creations (target : Nat) (e : Ev) : (s.event target e).creations = s.creations := rfl
@[simp] theorem State.event_mem (target : Nat) (e : Ev) : (s.event target e).mem = s.mem := rfl
@[simp] theorem State.event_noc (target : Nat) (e : Ev) : (s.event target e).noc = s.noc := rfl
@[simp] theorem State.event_cleats (target : Nat) (e : Ev) : (s.event target e).cleats = s.cleats := rfl
@[simp] theorem State.event_stalls (target : Nat) (e : Ev) : (s.event target e).stalls = s.stalls := rfl
@[simp] theorem State.event_lany (target : Nat) (e : Ev) : (s.event target e).lany = s.lany := rfl
@[simp] theorem State.event_trig (target : Nat) (e : Ev) : (s.event target e).trig = s.trig := rfl
@[simp] theorem State.event_nextId (target : Nat) (e : Ev) : (s.event target e).nextId = s.nextId := rfl
@[simp] theorem State.event_freeCtr (target : Nat) (e : Ev) : (s.event target e).freeCtr = s.freeCtr := rfl
@[simp] theorem State.event_pending (target : Nat) (e : Ev) : (s.event target e).pending = s.pending := rfl

/-! `record` changes jrnl alone. -/


/-! `record3` changes jrnl alone. -/


/-! `free` changes freeCtr alone. -/

@[simp] theorem State.free_regs : (s.free.2).regs = s.regs := rfl
@[simp] theorem State.free_orig : (s.free.2).orig = s.orig := rfl
@[simp] theorem State.free_latches : (s.free.2).latches = s.latches := rfl
@[simp] theorem State.free_heldLo : (s.free.2).heldLo = s.heldLo := rfl
@[simp] theorem State.free_pwr : (s.free.2).pwr = s.pwr := rfl
@[simp] theorem State.free_psto : (s.free.2).psto = s.psto := rfl
@[simp] theorem State.free_tick : (s.free.2).tick = s.tick := rfl
@[simp] theorem State.free_zyn : (s.free.2).zyn = s.zyn := rfl
@[simp] theorem State.free_jrnl : (s.free.2).jrnl = s.jrnl := rfl
@[simp] theorem State.free_relia : (s.free.2).relia = s.relia := rfl
@[simp] theorem State.free_fw : (s.free.2).fw = s.fw := rfl
@[simp] theorem State.free_svc : (s.free.2).svc = s.svc := rfl
@[simp] theorem State.free_lanes : (s.free.2).lanes = s.lanes := rfl
@[simp] theorem State.free_lports : (s.free.2).lports = s.lports := rfl
@[simp] theorem State.free_spares : (s.free.2).spares = s.spares := rfl
@[simp] theorem State.free_links : (s.free.2).links = s.links := rfl
@[simp] theorem State.free_tiles : (s.free.2).tiles = s.tiles := rfl
@[simp] theorem State.free_route : (s.free.2).route = s.route := rfl
@[simp] theorem State.free_xpts : (s.free.2).xpts = s.xpts := rfl
@[simp] theorem State.free_wins : (s.free.2).wins = s.wins := rfl
@[simp] theorem State.free_mwus : (s.free.2).mwus = s.mwus := rfl
@[simp] theorem State.free_vis : (s.free.2).vis = s.vis := rfl
@[simp] theorem State.free_hostCfg : (s.free.2).hostCfg = s.hostCfg := rfl
@[simp] theorem State.free_hostRr : (s.free.2).hostRr = s.hostRr := rfl
@[simp] theorem State.free_hostAts : (s.free.2).hostAts = s.hostAts := rfl
@[simp] theorem State.free_groups : (s.free.2).groups = s.groups := rfl
@[simp] theorem State.free_creations : (s.free.2).creations = s.creations := rfl
@[simp] theorem State.free_mem : (s.free.2).mem = s.mem := rfl
@[simp] theorem State.free_noc : (s.free.2).noc = s.noc := rfl
@[simp] theorem State.free_cleats : (s.free.2).cleats = s.cleats := rfl
@[simp] theorem State.free_stalls : (s.free.2).stalls = s.stalls := rfl
@[simp] theorem State.free_lany : (s.free.2).lany = s.lany := rfl
@[simp] theorem State.free_trig : (s.free.2).trig = s.trig := rfl
@[simp] theorem State.free_nextId : (s.free.2).nextId = s.nextId := rfl
@[simp] theorem State.free_out : (s.free.2).out = s.out := rfl
@[simp] theorem State.free_pending : (s.free.2).pending = s.pending := rfl

/-! `fresh` changes nextId alone. -/

@[simp] theorem State.fresh_regs : (s.fresh.2).regs = s.regs := rfl
@[simp] theorem State.fresh_orig : (s.fresh.2).orig = s.orig := rfl
@[simp] theorem State.fresh_latches : (s.fresh.2).latches = s.latches := rfl
@[simp] theorem State.fresh_heldLo : (s.fresh.2).heldLo = s.heldLo := rfl
@[simp] theorem State.fresh_pwr : (s.fresh.2).pwr = s.pwr := rfl
@[simp] theorem State.fresh_psto : (s.fresh.2).psto = s.psto := rfl
@[simp] theorem State.fresh_tick : (s.fresh.2).tick = s.tick := rfl
@[simp] theorem State.fresh_zyn : (s.fresh.2).zyn = s.zyn := rfl
@[simp] theorem State.fresh_jrnl : (s.fresh.2).jrnl = s.jrnl := rfl
@[simp] theorem State.fresh_relia : (s.fresh.2).relia = s.relia := rfl
@[simp] theorem State.fresh_fw : (s.fresh.2).fw = s.fw := rfl
@[simp] theorem State.fresh_svc : (s.fresh.2).svc = s.svc := rfl
@[simp] theorem State.fresh_lanes : (s.fresh.2).lanes = s.lanes := rfl
@[simp] theorem State.fresh_lports : (s.fresh.2).lports = s.lports := rfl
@[simp] theorem State.fresh_spares : (s.fresh.2).spares = s.spares := rfl
@[simp] theorem State.fresh_links : (s.fresh.2).links = s.links := rfl
@[simp] theorem State.fresh_tiles : (s.fresh.2).tiles = s.tiles := rfl
@[simp] theorem State.fresh_route : (s.fresh.2).route = s.route := rfl
@[simp] theorem State.fresh_xpts : (s.fresh.2).xpts = s.xpts := rfl
@[simp] theorem State.fresh_wins : (s.fresh.2).wins = s.wins := rfl
@[simp] theorem State.fresh_mwus : (s.fresh.2).mwus = s.mwus := rfl
@[simp] theorem State.fresh_vis : (s.fresh.2).vis = s.vis := rfl
@[simp] theorem State.fresh_hostCfg : (s.fresh.2).hostCfg = s.hostCfg := rfl
@[simp] theorem State.fresh_hostRr : (s.fresh.2).hostRr = s.hostRr := rfl
@[simp] theorem State.fresh_hostAts : (s.fresh.2).hostAts = s.hostAts := rfl
@[simp] theorem State.fresh_groups : (s.fresh.2).groups = s.groups := rfl
@[simp] theorem State.fresh_creations : (s.fresh.2).creations = s.creations := rfl
@[simp] theorem State.fresh_mem : (s.fresh.2).mem = s.mem := rfl
@[simp] theorem State.fresh_noc : (s.fresh.2).noc = s.noc := rfl
@[simp] theorem State.fresh_cleats : (s.fresh.2).cleats = s.cleats := rfl
@[simp] theorem State.fresh_stalls : (s.fresh.2).stalls = s.stalls := rfl
@[simp] theorem State.fresh_lany : (s.fresh.2).lany = s.lany := rfl
@[simp] theorem State.fresh_trig : (s.fresh.2).trig = s.trig := rfl
@[simp] theorem State.fresh_freeCtr : (s.fresh.2).freeCtr = s.freeCtr := rfl
@[simp] theorem State.fresh_out : (s.fresh.2).out = s.out := rfl
@[simp] theorem State.fresh_pending : (s.fresh.2).pending = s.pending := rfl

/-! A counter changes regs alone. -/

theorem State.bput_only (p : PageRef) (o b : Nat) (v : Bool) : s.bput p o b v = { s with regs := (s.bput p o b v).regs } := rfl

theorem State.addCtr_regs (p : PageRef) (m : Nat) : ∀ (f n k : Nat) (s : State),
    State.addCtr p m f n k s = { s with regs := (State.addCtr p m f n k s).regs }
  | 0, _, _, _ => rfl
  | f + 1, n, k, s => by
    simp only [State.addCtr]
    split
    · rfl
    · generalize hu : s.putCtr p n ((s.ctr p n + k) % 2 ^ 48) = u
      have h : u = { s with regs := u.regs } := by rw [← hu]; rfl
      split
      · rw [State.addCtr_regs p m f, h]
      · generalize 0xC88 = o
        rw [State.bput_only, h]

theorem State.bump_regs (p : PageRef) (n k : Nat) : s.bump p n k = { s with regs := (s.bump p n k).regs } := by
  unfold State.bump
  split
  · rfl
  · split
    · rfl
    · rename_i m _ _; generalize 16 = f; exact State.addCtr_regs p m f n k s

@[simp] theorem State.bump_orig (p : PageRef) (n k : Nat) : (s.bump p n k).orig = s.orig := by rw [State.bump_regs]
@[simp] theorem State.bump_latches (p : PageRef) (n k : Nat) : (s.bump p n k).latches = s.latches := by rw [State.bump_regs]
@[simp] theorem State.bump_heldLo (p : PageRef) (n k : Nat) : (s.bump p n k).heldLo = s.heldLo := by rw [State.bump_regs]
@[simp] theorem State.bump_pwr (p : PageRef) (n k : Nat) : (s.bump p n k).pwr = s.pwr := by rw [State.bump_regs]
@[simp] theorem State.bump_psto (p : PageRef) (n k : Nat) : (s.bump p n k).psto = s.psto := by rw [State.bump_regs]
@[simp] theorem State.bump_tick (p : PageRef) (n k : Nat) : (s.bump p n k).tick = s.tick := by rw [State.bump_regs]
@[simp] theorem State.bump_zyn (p : PageRef) (n k : Nat) : (s.bump p n k).zyn = s.zyn := by rw [State.bump_regs]
@[simp] theorem State.bump_jrnl (p : PageRef) (n k : Nat) : (s.bump p n k).jrnl = s.jrnl := by rw [State.bump_regs]
@[simp] theorem State.bump_relia (p : PageRef) (n k : Nat) : (s.bump p n k).relia = s.relia := by rw [State.bump_regs]
@[simp] theorem State.bump_fw (p : PageRef) (n k : Nat) : (s.bump p n k).fw = s.fw := by rw [State.bump_regs]
@[simp] theorem State.bump_svc (p : PageRef) (n k : Nat) : (s.bump p n k).svc = s.svc := by rw [State.bump_regs]
@[simp] theorem State.bump_lanes (p : PageRef) (n k : Nat) : (s.bump p n k).lanes = s.lanes := by rw [State.bump_regs]
@[simp] theorem State.bump_lports (p : PageRef) (n k : Nat) : (s.bump p n k).lports = s.lports := by rw [State.bump_regs]
@[simp] theorem State.bump_spares (p : PageRef) (n k : Nat) : (s.bump p n k).spares = s.spares := by rw [State.bump_regs]
@[simp] theorem State.bump_links (p : PageRef) (n k : Nat) : (s.bump p n k).links = s.links := by rw [State.bump_regs]
@[simp] theorem State.bump_tiles (p : PageRef) (n k : Nat) : (s.bump p n k).tiles = s.tiles := by rw [State.bump_regs]
@[simp] theorem State.bump_route (p : PageRef) (n k : Nat) : (s.bump p n k).route = s.route := by rw [State.bump_regs]
@[simp] theorem State.bump_xpts (p : PageRef) (n k : Nat) : (s.bump p n k).xpts = s.xpts := by rw [State.bump_regs]
@[simp] theorem State.bump_wins (p : PageRef) (n k : Nat) : (s.bump p n k).wins = s.wins := by rw [State.bump_regs]
@[simp] theorem State.bump_mwus (p : PageRef) (n k : Nat) : (s.bump p n k).mwus = s.mwus := by rw [State.bump_regs]
@[simp] theorem State.bump_vis (p : PageRef) (n k : Nat) : (s.bump p n k).vis = s.vis := by rw [State.bump_regs]
@[simp] theorem State.bump_hostCfg (p : PageRef) (n k : Nat) : (s.bump p n k).hostCfg = s.hostCfg := by rw [State.bump_regs]
@[simp] theorem State.bump_hostRr (p : PageRef) (n k : Nat) : (s.bump p n k).hostRr = s.hostRr := by rw [State.bump_regs]
@[simp] theorem State.bump_hostAts (p : PageRef) (n k : Nat) : (s.bump p n k).hostAts = s.hostAts := by rw [State.bump_regs]
@[simp] theorem State.bump_groups (p : PageRef) (n k : Nat) : (s.bump p n k).groups = s.groups := by rw [State.bump_regs]
@[simp] theorem State.bump_creations (p : PageRef) (n k : Nat) : (s.bump p n k).creations = s.creations := by rw [State.bump_regs]
@[simp] theorem State.bump_mem (p : PageRef) (n k : Nat) : (s.bump p n k).mem = s.mem := by rw [State.bump_regs]
@[simp] theorem State.bump_noc (p : PageRef) (n k : Nat) : (s.bump p n k).noc = s.noc := by rw [State.bump_regs]
@[simp] theorem State.bump_cleats (p : PageRef) (n k : Nat) : (s.bump p n k).cleats = s.cleats := by rw [State.bump_regs]
@[simp] theorem State.bump_stalls (p : PageRef) (n k : Nat) : (s.bump p n k).stalls = s.stalls := by rw [State.bump_regs]
@[simp] theorem State.bump_lany (p : PageRef) (n k : Nat) : (s.bump p n k).lany = s.lany := by rw [State.bump_regs]
@[simp] theorem State.bump_trig (p : PageRef) (n k : Nat) : (s.bump p n k).trig = s.trig := by rw [State.bump_regs]
@[simp] theorem State.bump_nextId (p : PageRef) (n k : Nat) : (s.bump p n k).nextId = s.nextId := by rw [State.bump_regs]
@[simp] theorem State.bump_freeCtr (p : PageRef) (n k : Nat) : (s.bump p n k).freeCtr = s.freeCtr := by rw [State.bump_regs]
@[simp] theorem State.bump_out (p : PageRef) (n k : Nat) : (s.bump p n k).out = s.out := by rw [State.bump_regs]
@[simp] theorem State.bump_pending (p : PageRef) (n k : Nat) : (s.bump p n k).pending = s.pending := by rw [State.bump_regs]

end Frames

end Sys2Proof.Machine
end

