-- ==== Sys2Proof/WellFormed.lean ====
section
/-! DEFINITION. Commands whose operands name something the module has: ports, lanes, units and instances within their
counts (01, 06-18), addresses on a register, and values that fit their field. The meanings answer on every operand; an
ill-formed command names nothing and changes nothing of it. -/

namespace Sys2Proof

/-- Fabric ports, host ports, VIs, queues, engines and clusters, tiles, XPT units and local groups of the module. -/
def isPort (p : Nat) : Bool := decide (p < 512)
def isHost (h : Nat) : Bool := decide (h < 16)
def isVi (v : Nat) : Bool := decide (v < 4096)
def isQueue (q : Nat) : Bool := decide (q < 64)
def isEngine (e : Nat) : Bool := decide (e < 128)
def isCluster (c : Nat) : Bool := decide (c < 16)
def isTile (t : Nat) : Bool := decide (t < 64)
def isXpt (u : Nat) : Bool := decide (u < 8)
def isOpte (k : Nat) : Bool := decide (k < 16)
def isLane (l : Nat) : Bool := decide (l < 2)
def isOrigin (o : Nat) : Bool := decide (o < 65536)
def isCc (c : Nat) : Bool := decide (c < 2048)

/-- A path by which accesses arrive, from something the module has (R15 R90). -/
def APath.wf : APath → Bool
  | .bar0 h => isHost h
  | .vfBar v => isVi v
  | .engine e => isEngine e
  | .session | .firmware | .lanyard => true
  | .command _ => false

/-- A register write by a path, to an aligned address of the BAR (R8 R90). -/
def RegWrite.wf (w : RegWrite) : Bool := w.path.wf && decide (w.addr % 4 = 0 ∧ w.addr < 0x20000000)

/-- A path that exists (R111 R112). -/
def ZPath.wf : ZPath → Bool
  | .mgmt => true
  | .host h => isHost h
  | .engine e => isEngine e
  | .lanyard => true

/-- A sensor reading within its registers' fields (R38 R42). -/
def ThermalReading.wf (t : ThermalReading) : Bool :=
  decide (t.v48 < 65536 ∧ t.v12 < 65536 ∧ t.i48 < 65536 ∧ t.watts < 65536 ∧ t.outlet < 65536 ∧ t.inlet < 65536 ∧ t.flow < 65536 ∧
    t.opteMax < 65536 ∧ t.dieMax < 65536)

/-- An observed lane of the module with no more codewords lost than received. -/
def LaneObs.wf (o : LaneObs) : Bool :=
  isPort o.port && isLane o.lane && decide (o.uncorrectable ≤ o.codewords ∧ o.eye < 256 ∧ o.power < 65536)

/-- What a boundary observes. -/
def TickObs.wf (o : TickObs) : Bool :=
  o.lanes.all LaneObs.wf && o.late.all (fun j => decide (j < 9 ∨ (16 ≤ j ∧ j < 32))) &&
    o.ends.all (fun e => decide (e.1 < 9) && isCc e.2) && o.unread.all (fun u => decide (u < 2 ^ 31))

/-- Lanes, rate and VF counts that R425-R430 allow. -/
def HostCfg.wf (c : HostCfg) : Bool := decide (c.lanes ≤ 16 ∧ c.rate ≤ 6 ∧ c.numVfs ≤ 256)

/-- Well-formed commands. -/
def Instr.wf : Instr → Bool
  | .stage2Mate _ | .presenceMate _ | .presenceDebounced _ | .prsntSkewTimeout | .mainEnAssert _ | .hotSwapClose | .mainGood
  | .powerOnStep | .pllLockTimeout | .presenceLoss _ | .mainEnDeassert | .underVoltage | .overVoltage | .auxRailLoss
  | .auxiliaryPowerUp | .temperatureTrip | .critPowerOff | .leak _ | .attnReq _ | .refInputGood _ | .refInputLoss _
  | .holdoverTimeout | .weightsInForce | .journalRecordWrite | .sessionIdleTimeout | .mgmtLinkLoss | .crossingRound
  | .copyComplete | .commitDeadline | .dumpComplete _ | .dumpLimitExpiry | .dumpHostCopyEnd _ | .twinLost | .mcReset
  | .mcWatchdog | .mcResetComplete | .glbDrainEnd | .stagingEnd _ | .railOutOfLimits _ => true
  | .postComplete failed => failed.all isOrigin
  | .thermalSample t => t.wf
  | .tickBoundary o => o.wf
  | .refselWrite w | .pairLoWrite w | .blkEnableWrite w | .softReset w | .fenceRequest w | .fenceRelease w | .blkErrinjWrite w
  | .selfTestStart w | .journalSizeWrite w | .retrain w | .forceSpare w | .allotmentWrite w | .reefWrite w | .routeCopy w
  | .viEnableWrite w | .xlateCommit w | .cmdqEnable w | .cplqEnable w | .partitionCommit w | .pairingEnable w | .ctrClear w
  | .snapEnable w | .fwStage w | .stageData w | .zcmdGo w _ => w.wf
  | .registerWrite ws | .pairHiCommit ws => ws.all RegWrite.wf
  | .routeCommit p _ | .svcState p _ | .viCreate p _ | .viDestroy p _ | .keyUpdate p _ | .keyLoadInitial p _ | .fwActivate p _
  | .cleatRelease p _ | .tickElect p _ | .pairFailover p _ | .dumpTrigger p _ | .ownerChange p _ | .regWriteKeyed p _
  | .sessionOpen p _ | .sessionClose p _ | .regRead p _ | .regWrite p _ => p.wf
  | .narrowAccess access _ => access.path.wf
  | .pairLoRead path _ | .readClear path _ | .cleatRead path _ | .cleatWrite path _ _ => path.wf
  | .hwmPersisted origin => isOrigin origin
  | .journalRecordRead path word => path.wf && decide (word < 8)
  | .routeTableWindowWrite path offset _ => path.wf && decide (offset < 131072 ∧ offset % 4 = 0)
  | .fenceComplete page | .fenceTimeout page | .errorInjectionRaise page | .serviceDrainComplete page | .drainLimit page
  | .cfgParityError page => isOrigin page
  | .selfTestVerdict page verdict _ => isOrigin page && decide (1 ≤ verdict ∧ verdict ≤ 3)
  | .keyPendingEffect slot => decide (slot < 8)
  | .fwImageCheckEnd kind => decide (kind = 1 ∨ kind = 2)
  | .tickMarkerReceive port _ _ | .stepChange port | .bondFormed port _ | .portUp port | .dataFrameReceive port _
  | .ackFrameReceive port _ | .identFrameReceive port _ | .identResendTimer port | .frameBoundary port _
  | .replayTimerExpiry port | .emptyAckTimer port | .errorWindowExceeded port | .holdExpiry port | .telltaleReceive port _
  | .journalFrameReceive port | .syncDoneReceive port | .takeoverReceive port | .replayBufferEccError port _ _ _ => isPort port
  | .ltfReceive port lane _ | .laneQualified port lane | .trainTimeout port lane | .stepTimeout port lane
  | .laneErrorBurst port lane | .laneTestEnd port lane _ _ | .laneTestTimeout port lane | .losAssert port lane
  | .losClear port lane | .lolAssert port lane | .lolClear port lane => isPort port && isLane lane
  | .automaticPowerControl opte diode _ _ _ => isOpte opte && decide (diode < 8)
  | .shortfallLasting opte wave | .spareSelectorMove opte wave _ => isOpte opte && decide (wave < 4)
  | .routeDecision tile input vc => isTile tile && decide (input < 9 ∧ vc < 16)
  | .packetBufferEccError tile row _ _ => isTile tile && decide (row < 1024)
  | .routeReplicaReload tile _ | .busLaneParityError tile _ => isTile tile
  | .clearanceScheduling unit _ endCc => isXpt unit && isCc endCc
  | .adaptiveWeightUpdate endCc => isCc endCc
  | .pairedJournalling share endCc => isCluster share && isCc endCc
  | .shareUncovered share | .contextAdoption share _ => isCluster share
  | .packetAdmit unit _ | .intentReceive unit | .grantReceive unit | .noticeReceive unit | .putPacketReceive unit
  | .getReqReceive unit | .getRspReceive unit | .signalReceive unit | .atomicReceive unit | .atomicRspReceive unit
  | .msendArrival unit | .mdataArrival unit | .join unit _ | .joined unit | .gctlCommit unit _ _ | .abort unit | .repair unit
  | .repaired unit | .gctlClose unit | .stepOpenReceive unit | .upReceive unit | .downReceive unit | .directReceive unit
  | .creditReceive unit | .doneReceive unit | .departReceive unit _ _ | .epochReceive unit => isXpt unit
  | .wiluthDataReceive pkt | .wiluthAckReceive pkt | .resetReceive pkt | .closeReceive pkt | .gapFillReceive pkt =>
    decide (64 ≤ pkt.length)
  | .retransmitTimerExpiry loc rem seq | .giveupExpiry loc rem seq => decide (loc < 2 ^ 29 ∧ rem < 2 ^ 29 ∧ seq < 2 ^ 24)
  | .contextIdleClose loc rem | .tombstoneExpiry loc rem | .reopenDelayEnd loc rem => decide (loc < 2 ^ 29 ∧ rem < 2 ^ 29)
  | .nop vi queue | .put vi queue | .putSignal vi queue | .get vi queue | .atomic vi queue _ | .winRegister vi queue
  | .winRevoke vi queue | .msend vi queue | .mrecv vi queue | .probe vi queue | .recvClaimed vi queue | .cancel vi queue
  | .matchResume vi queue | .groupCreate vi queue _ _ | .groupLeave vi queue | .groupClose vi queue | .collStep vi queue
  | .chainArm vi queue _ | .chainDisarm vi queue | .ctrSet vi queue | .ctrAdd vi queue | .ctrRead vi queue
  | .dbTail vi queue _ | .dbHead vi queue _ | .dbArm vi queue _ => isVi vi && isQueue queue
  | .atomicopErrorCompletion _ | .accessDisposed _ _ | .cleatStallEnd _ => true
  | .fenceDeadline window | .descriptorEccError window _ _ => decide (window < 2 ^ 22)
  | .bounceCopyDone vi _ | .matchEccError vi _ _ | .vfFlr vi | .vfBusMasterClear vi | .enablingEnd vi | .viStopEnd vi
  | .completionWrite vi => isVi vi
  | .chainEntryBegin vi slot engine => isVi vi && decide (slot < 64) && isEngine engine
  | .chainFiringComplete vi slot => isVi vi && decide (slot < 64)
  | .localSegmentRead group slot _ | .collHeartbeat group slot => decide (group < 4096 ∧ slot < 64)
  | .repairTimeout group | .quarantineExpiry group | .collEccError group _ _ => decide (group < 4096)
  | .perst port | .pfFlr port | .vfEnableClear port | .hostLinkDown port | .descriptorFetch port _ | .completionTimeout port
  | .mirrorRecordWrite port | .pcieErrorDetected port _ => isHost port
  | .hostLinkUp port cfg => isHost port && cfg.wf
  | .atsInvalidate port fn _ _ => isHost port && decide (fn ≤ 256)
  | .cxlMemRequest port _ _ data => isHost port && decide (data.length ≤ 64)
  | .birsp line port _ | .birspTimeout line port => isHost port && decide (line < 2 ^ 33)
  | .clusterReload cluster | .reloadTimeout cluster | .triggerCounterChange cluster => isCluster cluster
  | .clusterReloadComplete cluster failed => isCluster cluster && failed.all isEngine
  | .engineWatchdog engine | .engineMemoryEccError engine _ => isEngine engine
  | .ringHopParityError stop _ => decide (stop < 64)
  | .hbmEccError stack _ _ => decide (stack < 6)
  | .routingUnitEccError row _ | .contextCacheEccError row _ => isOrigin row

end Sys2Proof
end

