-- ==== Sys2Proof/Tests/Slice0.lean ====
section
/-! SUPPORT. The model's own tests: the checks of WellFormed on ill-formed terms, decoded words, a witness for the
hypotheses of each obligation that has some, and worked examples of the spec. -/

set_option maxRecDepth 100000
-- one declaration after another: the threads of parallel elaboration would take the stack of each
set_option Elab.async false

namespace Sys2Proof.Machine.Checks

/-- A module whose main domain is on and whose TICK runs. -/
def up : State :=
  { State.reset with
    pwr := { State.reset.pwr with main := true, matedA := true, matedB := true },
    tick := { State.reset.tick with running := true, monitors := true, locked := true, count := 5 } }

/-- A page's instance enabled and ACTIVE. -/
def act (p : PageRef) (s : State) : State := (s.put p.zero 0x08 1).put p.zero 0x0C 0x20

/-- Registers put one after another. -/
def regs (l : List (PageRef × Nat × Nat)) (s : State) : State := l.foldl (fun s e => s.put e.1 e.2.1 e.2.2) s

/-- A step answers a next state. -/
def goes (o : Host.Outcome State Fault Refusal) : Bool := match o with | .next _ => true | _ => false

theorem witness_StepRunsFrontCommand : ({ up with pending := [.mainGood, .leak true] }).pending = .mainGood :: [.leak true] := rfl

theorem witness_EmptyQueueStepsOneCycle :
    up.pending = [] ∧ up.tick.running = true ∧ ({ up with tick := { up.tick with cc := 1533 } }).tick.cc < 1534 ∧
      1534 ≤ ({ up with tick := { up.tick with cc := 1534 } }).tick.cc ∧ State.reset.tick.running = false ∧
      up.noc.msgs = [] ∧ up.noc.waits = [] ∧ up.zyn.queue = [] ∧ up.tick.refill = none := by decide +kernel

theorem witness_StepKeepsCanonicalForms :
    let s := { act routePg up with pending := [.losClear 511 1] }
    Registers.wf s.regs = true ∧ Memory.wf s.mem = true ∧ goes (step s) = true := by decide +kernel

theorem witness_StepTakesOneCommandAndAddsOutputs :
    let s := { act routePg up with pending := [.attnReq true] }
    Registers.wf s.regs = true ∧ Memory.wf s.mem = true ∧ goes (step s) = true := by decide +kernel

theorem witness_CommandLeavesUntouchedComponents :
    Registers.wf up.regs = true ∧ Memory.wf up.mem = true ∧ goes (exec (.losClear 0 0) up) = true ∧
      Component.pool ∉ touches (.losClear 0 0) := by decide +kernel

/-! Power. -/

/-- The input qualified to close the switch. -/
def ready : State :=
  regs [(mgmtPg 3, 0x40, 0x1B), (mgmtPg 3, 0x44, 4800), (mgmtPg 3, 0x50, 0x1E1901F4)]
    { State.reset with pwr := { State.reset.pwr with matedA := true, matedB := true } }

theorem witness_PresenceAndPinsComplete :
    State.reset.pwr.aux = true ∧ ({ State.reset with pwr := { State.reset.pwr with aux := false } }).pwr.aux = false ∧
    ready.pwr.matedA = true ∧ ready.pwr.matedB = true ∧
    ({ ready with pwr := { ready.pwr with matedB := false } }).pwr.matedA ≠ ({ ready with pwr := { ready.pwr with matedB := false } }).pwr.matedB ∧
    up.pwrBit 4 = false ∧ 99 < 100 ∧ up.pwrBit 13 ≠ true ∧ up.pwr.aux = true ∧ up.zyn.mcReset = false ∧
    (let r : ThermalReading := ⟨4800, 1200, 100, 500, 30, 40, 350, 69, 94⟩
     r.dieMax < 95 ∧ r.opteMax < 70 ∧ 350 ≤ r.flow ∧ r.inlet ≤ 40) := by decide +kernel

/-- The power-on sequence at step n. -/
def atStep (n : Nat) : State := regs [(mgmtPg 3, 0x40, 0x40), (glbPg 0, 0x48, n * 256)] up

theorem witness_PowerUpSequenceCompletes :
    ready.canClose = true ∧ (up.pwr.main = true ∧ up.pwrBit 6 = false) ∧
    (∀ n ∈ [1, 5, 6], (atStep n).fget (glbPg 0) 0x48 11 8 = n ∧ (atStep n).pwr.main = true ∧ (atStep n).pwrBit 6 = true ∧
      (atStep n).pllEval.tick.locked = true) ∧
    ((atStep 7).pwr.main = true ∧ (atStep 7).fget (glbPg 0) 0x48 11 8 = 7 ∧ (atStep 7).bget (glbPg 0) 0x48 31 = false ∧
      ([] : List Nat).all (fun c => (pageOfCode c).all fun p => !inPlace p) = true) ∧
    ({ State.reset with pwr := { State.reset.pwr with aux := false } }).pwr.aux = false := by decide +kernel

theorem witness_PowerDownCommandsComplete :
    let s := regs [(mgmtPg 3, 0x40, 0x50), (glbPg 0, 0x48, 0x100), (glbPg 0, 0x0C, 0x30)]
      { up with pwr := { up.pwr with critPending := true, ramp := true }, tick := { up.tick with locked := false, count := 2 ^ 40 } }
    s.pwr.aux = true ∧ s.pwr.main = true ∧ s.pwr.matedA = true ∧ s.pwr.matedB = true ∧ s.pwrBit 4 = true ∧
      s.pwr.critPending = true ∧ s.fget (glbPg 0) 0x48 11 8 = 1 ∧ s.tick.locked = false ∧ s.pwr.ramp = true ∧
      s.svcState (glbPg 0) = svcDraining ∧ s.overdue (glbPg 0) = true ∧ s.zyn.mcReset = false := by decide +kernel

theorem witness_OpenSwitchTurnsMainDomainOff : Registers.wf ready.regs = true ∧ Memory.wf ready.mem = true := by decide +kernel

theorem witness_SupervisionReadingsAreStored :
    Registers.wf ready.regs = true ∧ Memory.wf ready.mem = true ∧ ready.pwr.aux = true ∧ ready.zyn.mcReset = false ∧
      (⟨4800, 1200, 100, 500, 30, 25, 500, 77, 104⟩ : ThermalReading).dieMax < 105 ∧
      (⟨4800, 1200, 100, 500, 30, 25, 500, 77, 104⟩ : ThermalReading).opteMax < 78 ∧
      78 ≤ (⟨4800, 1200, 100, 500, 30, 25, 500, 78, 0⟩ : ThermalReading).opteMax ∧
      up.pwr.main = true ∧ up.pwr.critPending = false ∧ up.pwr.aux = true ∧ up.zyn.mcReset = false := by decide +kernel


/-! TICK. -/

/-- A link frame as it arrives, with its check codes (R164-R166). -/
def frame (typ vc seq epoch : Nat) (cells : Bytes) : Bytes :=
  let h := beBytes 1 (typ * 16 + vc) ++ beBytes 1 (cells.length / 64) ++ beBytes 2 seq ++ beBytes 3 0 ++ beBytes 1 epoch ++ beBytes 6 0
  let h := h ++ beBytes 2 (crc16 h)
  if cells = [] then h else h ++ cells ++ beBytes 4 (crc32 (h ++ cells))

/-- Port p is UP in an open session of epoch 7. -/
def linked (p : Nat) (s : State) : State :=
  (((act (portPg p) s).put (lanePg p) 0x48 1).put (portPg p) 0x4C 0x07000002).updLink p (fun l => { l with session := true })

theorem witness_ClockAndTickCommandsComplete :
    let f := frame frTick 0 0 7 (zeros 64)
    let s := linked 3 ((regs [(tickPg 0, 0x4C, 0x100)] up))
    s.pwr.main = true ∧ s.tick.monitors = true ∧ s.bget (tickPg 0) 0x4C 8 = true ∧
      ({ s with tick := { s.tick with count := 8 } }).tick.holdStart + 8 ≤ ({ s with tick := { s.tick with count := 8 } }).nowTick ∧
      s.tick.running = true ∧ s.frameUp 3 f = true ∧ frType f = frTick ∧ ((s.takeHeader 3 f).link 3).session = true := by
  decide +kernel

theorem witness_TickJobCommandsComplete :
    let s := ({ act (xptPg 7 0) up with route := { up.route with detourNext := some [] } }).zFlush
    s.tick.running = true ∧ s.fatal = false ∧ s.works (xptPg 7 0) = true ∧ (s.xpt 7).ran = false ∧
      (∀ j ∈ [5, 7, 16, 31], Tab.get (fun _ => false) s.tick.busy j = false) ∧ 511 < 512 ∧
      s.route.detourNext = some [] ∧ s.bget (cluPg 15) 0x44 8 = false := by decide +kernel

theorem witness_TickStartsAndAdvances :
    let s := { (regs [(tickPg 0, 0x4C, 0xC)] up) with tick := { up.tick with locked := false } }
    let t := { (regs [(tickPg 0, 0x4C, 0x8)] up) with tick := { up.tick with locked := false } }
    Registers.wf s.regs = true ∧ Registers.wf t.regs = true ∧ s.tick.monitors = true ∧ s.tick.locked = false ∧
      s.refUsable false = true ∧ t.refUsable true = true ∧ t.refUsable false = false ∧ s.tick.count < 2 ^ 64 ∧
      ({ s with tick := { s.tick with count := 2 ^ 64 - 1 } }).tick.count < 2 ^ 64 ∧
      glbPg 0 ≠ tickPg 0 ∧ glbPg 0 ≠ tickPg 1 ∧ locate ((glbPg 0).addr + 0x48) = some (glbPg 0, 0x48) := by decide +kernel

/-! Register access. -/

/-- A write of the management controller's firmware. -/
def wr (p : PageRef) (off v : Nat) : RegWrite := ⟨.firmware, p.addr + off, BitVec.ofNat 32 v⟩

/-- A write that its checks let take effect at page p and offset off. -/
def fits (s : State) (p : PageRef) (off v : Nat) : Bool :=
  decide (locate (wr p off v).addr = some (p, off)) && decide ((s.judge (wr p off v, none)).fate = .ok)

theorem witness_RegisterAccessCommandsComplete :
    (up.zNow = none ∧ pathReaches (.bar0 15) ((glbPg 0).addr + 3) = true ∧ pathReaches (.vfBar 4095) ((vfPg 4095 2).addr) = true ∧
      pathReaches (.engine 127) ((tickPg 0).addr + 0x40) = true ∧ pathReaches .session ((jrnlPg 1).addr + 0x7C) = true) ∧
    (({ up with zyn := { up.zyn with queue := [⟨.mgmt, [], 0, false, none, [], some 0⟩] } }).zNow =
      some ⟨.mgmt, [], 0, false, none, [], some 0⟩) ∧
    fits up (glbPg 0) 0x14 5 = true ∧ (accessPage ((glbPg 0).addr + 3) = some (glbPg 0) ∧ up.pageOn (glbPg 0) = true) ∧
    (locate ((tickPg 0).addr + 0x40) = some (tickPg 0, 0x40) ∧ isLo (tickPg 0) 0x40 = true ∧
      (regRow (tickPg 0) 0x40).map RegRow.rc = some 0 ∧ up.pageOn (tickPg 0) = true ∧ up.readBarred (tickPg 0) 0x17F = false ∧
      tickPg 0 ≠ jrnlPg 1 ∧ Tab.get noLatch up.latches (65536 * pageCode (tickPg 0) + 0x17F) = none) ∧
    (isLo (lanyPg 0) 0x48 = true ∧ (up.judge (wr (lanyPg 0) 0x48 9, none)).fate = .held) ∧
    (isHi (lanyPg 0) 0x4C = true ∧ (up.judge (wr (lanyPg 0) 0x4C 9, none)).fate = .ok ∧
      locate (wr (lanyPg 0) 0x4C 9).addr = some (lanyPg 0, 0x4C)) ∧
    (∃ r, regRow (glbPg 0) 0x14 = some r ∧ isLo (glbPg 0) 0x14 = false) ∧
    (up.pageOn (jrnlPg 1) = true ∧ Tab.get noLatch up.latches (65536 * pageCode (jrnlPg 1) + 1) = none ∧ up.rdStat 0 ≠ 0 ∧
      ({ up with jrnl := { up.jrnl with wr := 1, ring := [(0, zeros 32)] } }).rdStat 0 = 0) ∧
    (fits (act (portPg 0) up) (portPg 0) 0xC84 3 = true ∧ (ctrMask (portPg 0)).isSome = true) ∧
    (fits up pmonPg 0x40 (2 ^ 31) = true) := by
  refine ⟨?_, ?_, ?_, ?_, ?_, ?_, ?_, ⟨_, rfl, ?_⟩, ?_, ?_, ?_⟩ <;> decide +kernel

theorem witness_ControlWriteCommandsComplete :
    up.zNow = none ∧
    fits up (portPg 0) 0x08 1 = true ∧ fits (up.put (portPg 0) 0x0C 4) (portPg 0) 0x08 2 = true ∧
    fits up (portPg 0) 0x08 8 = true ∧ fits up (portPg 0) 0x08 0 = true ∧ fits up (portPg 0) 0x18 1 = true ∧
    fits (up.put (portPg 0) 0x0C 0x50) (portPg 0) 0x2C (2 ^ 31) = true ∧ fits up (tickPg 0) 0x48 2 = true ∧
    fits up (jrnlPg 0) 0x40 12 = true ∧ fits up (lanePg 511) 0x40 2 = true ∧ fits up (optePg 0 1) 0x40 3 = true ∧
    fits (up.put (tilePg 63) 8 4) (tilePg 63) 0x80 40 = true ∧ fits (up.put (tilePg 63) 8 4) (tilePg 63) 0x44 40 = true ∧
    fits up (tilePg 63) 0x08 4 = true ∧ fits up routePg 0x40 4 = true := by decide +kernel

theorem witness_BlockWriteCommandsComplete :
    up.zNow = none ∧
    fits (up.put (viPg 4095) 0x44 1) (viPg 4095) 0x40 1 = true ∧ fits up (viPg 0) 0x4C 1 = true ∧
    fits (up.put (viPg 9) 0x44 3) (vfPg 9 2) (0x108 + 16 * 63) (2 ^ 31) = true ∧
    fits (up.put (viPg 9) 0x44 3) (vfPg 9 3) 0x108 (2 ^ 31) = true ∧ fits up (hbmcPg 0 1) 0x40 1 = true ∧
    fits up (lanyPg 0) 0x40 (2 ^ 31) = true ∧ fits up (pstoPg 1) 0x40 (2 ^ 31 + 0x21) = true ∧
    fits up (pstoPg 1) 0x58 0xFFFFFFFF = true := by decide +kernel

theorem witness_AcceptedWriteStoresAndCounts :
    Registers.wf up.regs = true ∧ fits up (glbPg 0) 0x14 5 = true ∧ (up.judge (wr (glbPg 0) 0x14 5, none)).pair = false ∧
    (∃ r, regRow (glbPg 0) 0x14 = some r ∧ r.perOrigin = false) := by
  refine ⟨?_, ?_, ?_, ⟨_, rfl, ?_⟩⟩ <;> decide +kernel

theorem witness_OutrankedWriteIsSuperseded :
    let v := wr (glbPg 0) 0x14 5
    let w := { wr (glbPg 0) 0x14 9 with path := .session }
    let s := up.put (glbPg 0) 0x20 0xFFFF0001
    v.addr = w.addr ∧ rankKey v.origin < rankKey w.origin ∧ (s.judge (v, none)).fate = .ok ∧ (s.judge (w, none)).fate = .ok ∧
      (s.judge (v, none)).competes = true := by decide +kernel

theorem witness_OnlyPermittedWritersWriteAPage :
    let w := { wr (glbPg 0) 0x14 5 with path := .engine 127 }
    up.zNow = none ∧ pathReaches w.path w.addr = true ∧ w.addr % 4 = 0 ∧ locate w.addr = some (glbPg 0, 0x14) ∧ up.pageOn (glbPg 0) = true ∧ up.mayWrite (glbPg 0) w.origin = false ∧
    (∃ r, regRow (glbPg 0) 0x14 = some r ∧ r.writable ≠ 0) := by
  refine ⟨?_, ?_, ?_, ?_, ?_, ?_, ⟨_, rfl, ?_⟩⟩ <;> decide +kernel

/-! The collar and the journal. -/

def injection : Test := ⟨0, 0, 0, 24, 5, false⟩

theorem witness_CollarAndJournalCommandsComplete :
    let p := portPg 2
    let s := up.put p 8 8
    let n := hostPg 0 0
    let f := { up with svc := { up.svc with fenceStart := [(pageCode n, 1)] }, tick := { up.tick with count := 1024 } }
    let full := { up.put p 0x0C 0x50 with relia := { up.relia with running := [(pageCode p, some injection)] } }
    let some3 := { up.put p 0x0C 0x50 with relia := { up.relia with running := [(pageCode p, some { injection with kind := 3 })] } }
    let ring := { regs [(jrnlPg 0, 8, 1), (hbmcPg 0 1, 0x44, 1)] up with jrnl := { up.jrnl with pendingRec := [zeros 32] } }
    let mir := { up.put (hostPg 15 0) 0x44 (2 ^ 31) with jrnl := { up.jrnl with mirror := [(15, [zeros 32])] } }
    pageOfCode (pageCode p) = some p ∧ pageOfCode (pageCode n) = some n ∧
    (s.powered p = true ∧ p.page = 0 ∧ s.bget p 8 3 = true ∧ s.bget p 0xC 2 = false ∧ stopless p.cls = true ∧ s.drained p = true) ∧
    ((stopOf n).isSome = true ∧ f.powered n = true ∧ f.bget n 0xC 2 = false ∧
      Tab.get (fun _ => 0) f.svc.fenceStart (pageCode n) = 0 + 1) ∧
    up.pageOn p = true ∧
    ((full.testOf p).isSome = true ∧ full.powered p = true ∧ full.svcState p = svcSelftest ∧ (some3.testOf p).map Test.kind = some 3 ∧
      p.cls ≠ .eng) ∧
    (ring.ringOn = true ∧ ring.jrnl.pendingRec = zeros 32 :: [] ∧ zeros 32 ≠ []) ∧
    (Tab.get (fun _ => ([] : List Bytes)) mir.jrnl.mirror 15 = zeros 32 :: [] ∧ mir.bget (hostPg 15 0) 0x44 31 = true ∧
      mir.fatal = false) := by decide +kernel

theorem witness_RecordsReachRingBufferAndMirrors :
    let ring := regs [(jrnlPg 0, 8, 1), (hbmcPg 0 1, 0x44, 1)] up
    let held := { up with jrnl := { up.jrnl with held := List.replicate 4095 [] } }
    let fullBuf := { up with jrnl := { up.jrnl with held := List.replicate 4096 [] } }
    let mir := up.put (hostPg 15 3) 0x808 (2 ^ 31)
    mir.mirrors 15 ⟨0, 0, 0x1FFF, 0, 0, 0, 0, 0, 0, 0, 0⟩ = true ∧ mir.mirrors 14 ⟨0, 0, 0x1FFF, 0, 0, 0, 0, 0, 0, 0, 0⟩ = false ∧
      ring.ringOn = true ∧ up.ringOn = false ∧ held.jrnl.held.length < 4096 ∧ fullBuf.jrnl.held.length = 4096 := by decide +kernel

/-- A shadow bank that passes the check of a commit: one dimension of two routers, a trunk by port 8. -/
def banked : State :=
  let w (l : List (Nat × Nat)) : Tab Word := l.foldl (fun t e => Tab.set (fun _ => 0) t e.1 (BitVec.ofNat 32 e.2)) []
  { up with route := { up.route with
      bank1 := w [(0, 0xB00C), (4, 0), (8, 1), (0xC, 0x01010102), 
        (0x1000, 2 ^ 31), (0x1004, 2 ^ 31 + 2 ^ 30 + 2 ^ 29 + 2 ^ 16 + 1), (0x2020, 8)] } }


/-! Zynken. The MACs were computed outside the model, by HMAC-SHA-256 of each frame under the key (R114). -/

def key0 : Bytes := (List.range 32).map (fun i => BitVec.ofNat 8 (i + 1))

/-- A frame of the management controller on slot 0 (R113), with its MAC. -/
def zframe (op ctr obj : Nat) (payload : Bytes) (mac : Nat) : Bytes :=
  beBytes 1 1 ++ zeros 1 ++ beBytes 2 op ++ zeros 4 ++ beBytes 8 ctr ++ zeros 16 ++ beBytes 4 obj ++ beBytes 2 payload.length ++
    beBytes 2 7 ++ zeros 24 ++ payload ++ beBytes 16 mac

/-- Slot 0 loaded, and a session of the management controller open on it. -/
def keyed : State :=
  let s := up.setSlot 0 1 0 1 1 key0
  { s with zyn := { s.zyn with session := some (0, 0) } }

/-- The frame passes every check, and carries the opcode. -/
def passes (op : Nat) (f : Bytes) : Bool := decide (zOp f = op) && keyed.zPasses .mgmt f && keyed.zCheck5 f

def fRoute : Bytes := zframe 0x1 (2 ^ 20 + 1) 0x13000000 (beBytes 4 0xB00C ++ beBytes 2 1 ++ zeros 6)
  0x1670e5128446e0ac933eda99242d198b
def fSvc : Bytes := zframe 0x2 (2 ^ 20 + 1) 0x10000000 (beBytes 4 1)
  0xb8a2e0384c2b2e9d9d2e9570afbba27a
def fVi : Bytes := zframe 0x3 (2 ^ 20 + 1) 0x80005000 (beBytes 4 0 ++ beBytes 4 2 ++ zeros 32)
  0x9d080949627bb3db218dddb2aa331dad
def fViEnd : Bytes := zframe 0x4 (2 ^ 20 + 1) 0x80005000 []
  0x13fa7dd2a568ad1b96485f9e3798a05f
def fKey : Bytes := zframe 0x5 (2 ^ 20 + 1) 0x02001000 (beBytes 4 9 ++ beBytes 2 1 ++ zeros 42)
  0x24581cc723e993eba3e81cce9578a4e5
def fLoad : Bytes := zframe 0x6 (2 ^ 20 + 1) 0x02000000 key0
  0xe6a90c6dcec48f148ad4feca852b0949
def fFw : Bytes := zframe 0x7 (2 ^ 20 + 1) 0x31000000 (beBytes 1 1 ++ zeros 15)
  0xcf2e3d2c46fa6820d0f6a6cc06ac03aa
def fCleat : Bytes := zframe 0x8 (2 ^ 20 + 1) 0x60000FFF []
  0xbb4de7530a2bd684f61635cbada711f2
def fElect : Bytes := zframe 0x9 (2 ^ 20 + 1) 0x03000000 (beBytes 4 (2 ^ 31 + 5))
  0x2cf3679e2987cc51744423e0b1fa36fa
def fPair : Bytes := zframe 0xA (2 ^ 20 + 1) 0x71000000 (zeros 8)
  0xcfd4f0671a7b9924cfb1abf2eba92caa
def fDump : Bytes := zframe 0xB (2 ^ 20 + 1) 0x01000000 (beBytes 4 1)
  0xe3e607501eee0ae5f98637395a609453
def fOwner : Bytes := zframe 0xC (2 ^ 20 + 1) 0x10000000 (beBytes 4 0xFFFF0001)
  0x9407cb8c86e2eb6485f26b955922cafb
def fWrite : Bytes := zframe 0xD (2 ^ 20 + 1) 0x10000000 (beBytes 4 0x14 ++ beBytes 4 5 ++ beBytes 4 0xFFFFFFFF)
  0x9eb2fac8f4d7d61b11a65bfcbcbc3494
def fOpen : Bytes := zframe 0xF00 (2 ^ 20 + 1) 0x02000000 []
  0x992b8ec82001780d566e26140f0ab152
def fClose : Bytes := zframe 0xF01 (2 ^ 20 + 1) 0x02000000 []
  0xe4cc52bc485bd4f059bb88f768df59c6
def fRead : Bytes := zframe 0xF02 (2 ^ 20 + 1) 0x10000000 (beBytes 4 0x14)
  0xb613592dd3f3a2e3dc96cb870243bdc1
def fSet : Bytes := zframe 0xF03 (2 ^ 20 + 1) 0x10000000 (beBytes 4 0x14 ++ beBytes 4 3)
  0x5bdaf8b7fe25f0360b74d0175e1bb39a
def fBad : Bytes := zframe 0x2 (2 ^ 20 + 1) 0x10000000 (beBytes 4 16)
  0xc6b1fe99123594fb20b256ef387a2c3d
def fOld : Bytes := zframe 2 (2 ^ 20) 0x10000000 (beBytes 4 1)
  0x96d6783237aa9ed0330cdd8e98958e9

theorem witness_CriticalCommandsAreQueued_1 :
    passes 1 fRoute = true ∧ passes 2 fSvc = true ∧ passes 3 fVi = true ∧ passes 4 fViEnd = true ∧ passes 5 fKey = true := by
  decide +kernel
theorem witness_CriticalCommandsAreQueued_2 :
    zOp fLoad = 6 ∧ up.zPasses .mgmt fLoad = true ∧ up.zCheck5 fLoad = true ∧ passes 7 fFw = true ∧ passes 8 fCleat = true ∧
      passes 9 fElect = true := by decide +kernel
theorem witness_CriticalCommandsAreQueued_3 :
    passes 0xA fPair = true ∧ passes 0xB fDump = true ∧ passes 0xC fOwner = true ∧ passes 0xD fWrite = true := by decide +kernel

theorem witness_SessionAndUnitCommandsComplete :
    keyed.zPasses .mgmt fOpen = true ∧ keyed.zPasses .mgmt fClose = true ∧
    (keyed.zPasses .mgmt fRead = true ∧ objPage false (zObj fRead) = some (portPg 0)) ∧
    (keyed.zPasses .mgmt fSet = true ∧ objPage false (zObj fSet) = some (portPg 0)) ∧
    (let c : KeyPend := ⟨true, [], 0, 0, 0, 5⟩
     let s := { up with psto := { up.psto with keyPend := [(3, some c)] } }
     Tab.get (fun _ => none) s.psto.keyPend 3 = some c ∧ s.pwr.aux = true ∧ s.tick.running = true ∧ c.boundary ≤ s.nowTick) ∧
    State.reset.tick.running = false ∧
    (let s := { up with tick := { up.tick with count := 2 ^ 26 } }
     s.zyn.sessOff = true ∨ s.idleTicks ≤ s.zyn.sessSpent + (s.nowTick - s.zyn.sessTick)) ∧
    (hwmIdx 0x17F = some 145 ∧ hwmIdx 0x200 = some 146) ∧
    (let w : RegWrite := wr (hostPg 15 2) 0x50 (2 ^ 31 + 80)
     let s := up.put (hostPg 15 0) 0x44 (2 ^ 31)
     let u := s.cycleWrites [w]
     locate w.addr = some (hostPg 15 2, 0x50) ∧ bit w.value.toNat 31 = true ∧ s.bget (hostPg 15 2) 0x54 31 = false ∧
       Tab.get (fun _ => ZBox.idle) u.zyn.mailbox 15 = .reading ∧ u.zReach (.host 15) = true ∧ u.bget (hostPg 15 0) 0x44 31 = true) := by
  decide +kernel

theorem witness_CriticalCommandsTakeEffect :
    (banked.bget routePg 0x44 4 = false ∧ banked.bget routePg 0x44 7 = false ∧ zp fRoute 4 2 ≠ 0 ∧ bit (zp fRoute 6 1) 6 = false ∧
      banked.checkShadow (zp fRoute 0 4) false = 0) ∧
    (objInst (zObj fSvc) = some (portPg 0) ∧ svcNamed (portPg 0).cls = true ∧ (portPg 0).cls ≠ .clu ∧
      (up.svcCommand (portPg 0) (zp fSvc 0 4)).2.1 = stOk) ∧
    (up.viState 5 = viNone ∧ oInst (zObj fVi) = 5 ∧ up.badWindows 5 (zp fVi 0 4) (zp fVi 4 4) = false ∧ up.badQuota 5 fVi = false ∧
      Tab.wf viD up.vis = true) ∧
    ((up.put (viPg 5) 0x44 1).viState (oInst (zObj fVi)) ≠ viNone ∧ (up.vi (oInst (zObj fVi))).destroy = false) ∧
    (let f := zframe 7 0 0x01000000 (beBytes 1 2 ++ beBytes 1 1 ++ zeros 14) 0
     zp f 0 1 = 2 ∧ zp f 1 1 ≤ 1 ∧ oClass (zObj f) = 1 ∧ Tab.get (fun _ => none) up.fw.act 2 = none) ∧
    (let s := { up with cleats := [(4095, ⟨some (.origin 0), 3, 0, false⟩)] }
     (s.cleat (oPage 0x60000FFF)).holder = some (.origin 0) ∧ (s.cleat (oPage 0x60000FFF)).seq = 3) ∧
    (let s := up.put (lanyPg 0) 0x44 laPaired
     zp fPair 0 8 = s.get64 (lanyPg 0) 0x48 ∧ s.lanyState = laPaired) ∧
    (oInst (zObj fKey) = 1 ∧ Tab.get (fun _ => none) keyed.psto.keyPend 1 = none ∧ keyed.tick.running = true ∧ zp fKey 7 1 ≠ 1 ∧
      zp fKey 6 1 ≤ 12) ∧
    up.slotState 0 = 0 ∧ keyed.slotState 0 ≠ 0 ∧ zPages fOwner = [portPg 0] ∧ objPage false (zObj fWrite) = some (portPg 0) ∧
    (up.bget (glbPg 5) 0x5C 31 = false ∧ up.relia.dump = none) := by decide +kernel

theorem witness_FrameChecksDecideInOrder :
    let auth (s : State) (f : Bytes) := s.zCheck1 f && (if zOp f = 6 then s.zCheckLoad .mgmt f else s.zCheck2 .mgmt f)
    let full := { keyed with zyn := { keyed.zyn with queue := List.replicate 64 ⟨.mgmt, [], 0, false, none, [], none⟩ } }
    auth up fSvc = false ∧ (auth keyed fOld = true ∧ zCtr fOld ≤ keyed.hwm (zOrigin fOld)) ∧
    (auth keyed fBad = true ∧ keyed.hwm (zOrigin fBad) < zCtr fBad ∧ zForm fBad = false) ∧
    (auth full fSvc = true ∧ full.hwm (zOrigin fSvc) < zCtr fSvc ∧ zForm fSvc = true ∧ zSession (zOp fSvc) = false ∧
      full.zCheck5 fSvc = false) := by decide +kernel

theorem witness_AcceptedCounterIsNeverReused :
    let t := keyed.zAccepted .mgmt fSvc
    Tab.wf hwmD keyed.zyn.hwm = true ∧ zOrigin fSvc = zOrigin fOwner ∧ zCtr fOwner ≤ zCtr fSvc ∧ (hwmIdx (zOrigin fSvc)).isSome = true ∧
      (t.zCheck1 fOwner && t.zCheck2 .mgmt fOwner) = true := by decide +kernel

theorem witness_ConflictingCommandsYieldToRank :
    let c (f : Bytes) : ZCmd := ⟨.mgmt, f, 0, false, none, [], none⟩
    let g := patch fSvc 4 (beBytes 2 1)
    let h := patch (patch fSvc 4 (beBytes 2 1)) 0x20 (beBytes 4 0x10001000)
    ((c fSvc).path, (c fSvc).frame) ≠ ((c g).path, (c g).frame) ∧ zSame fSvc g = true ∧ zSame g fSvc = true ∧
      rankKey (zOrigin fSvc) < rankKey (zOrigin g) ∧ zSame fSvc h = false ∧ zSame h fSvc = false ∧
      ((c fSvc).path, (c fSvc).frame) ≠ ((c h).path, (c h).frame) := by decide +kernel


/-! Lanes, optics and links. -/

/-- Both lanes of port p in a state. -/
def laned (p st : Nat) (s : State) : State := (s.fput (lanePg p) (laneOff 0) 3 0 st).fput (lanePg p) (laneOff 1) 3 0 st

theorem witness_LaneCommandsComplete :
    let p := 511
    let late := { up with tick := { up.tick with count := 2 ^ 13 } }
    let lp (c prop : Nat) (s : State) : State := s.updLport p (fun x => { x with zeroSent := decide (c = 0), prop := prop })
    let b := beBytes 8 ltfMarker ++ beBytes 1 1 ++ zeros 21
    let ltf := b ++ beBytes 2 (crc16 (slice b 8 0x16))
    let s := laned p lnTrain up
    (ltfOk ltf = true ∧ s.laneState p 1 ≠ lnOff ∧ s.laneState p 1 ≠ lnFailed ∧
      (State.syncLink s (s.takeLtf p 1 ltf) p).fatal = false) ∧
    (((lp 0 0 s).lport p).zeroSent = true ∧ ((lp 0 0 s).lport p).prop = 0 ∧ (lp 0 0 s).portStep p < 3 ∧
      ((lp 0 0 s).setPortStep p 2).portStep p < 3) ∧
    (((lp 0 3 s).lport p).zeroSent = true ∧ ((lp 0 3 s).lport p).prop = 3 ∧ (lp 0 3 s).bget (lanePg p) 0x48 0 = false ∧ 64 < 65) ∧
    (let t := ((lp 0 3 s).updLane p 0 (fun x => { x with peerProp := 3 })).updLane p 1 (fun x => { x with peerProp := 3 })
     (t.lport p).zeroSent = true ∧ 64 ≤ 64 ∧ (t.lport p).prop = 3 ∧ t.bget (lanePg p) 0x48 0 = false ∧ (t.lane p 0).peerProp = 3 ∧
       (t.lane p 1).peerProp = 3) ∧
    (s.laneState p 1 = lnTrain ∧ 64 ≤ ((s.updLane p 1 (fun x => { x with qualRun := 64 })).lane p 1).qualRun) ∧
    ((laned p lnTrain late).laneState p 0 = lnTrain ∧ (late.lane p 0).rxReady = false ∧ late.switching p = false ∧
      (late.lane p 0).since + 4096 ≤ late.nowTick) ∧
    ((laned p lnStep late).laneState p 0 = lnStep ∧ (late.lane p 0).since + 64 ≤ late.nowTick) ∧
    ((laned p lnReady up).laneState p 0 = lnReady ∧
      max 4 (s.fget (lanePg p) 0x40 15 12) ≤ ((up.updLane p 0 (fun x => { x with badRun := 8 })).lane p 0).badRun) ∧
    ((laned p lnTest late).laneState p 1 = lnTest ∧ (late.lane p 1).since + 2048 ≤ late.nowTick ∧
      (late.lane p 1).since + 512 ≤ late.nowTick) ∧
    (let t := up.updLane p 1 (fun x => { x with lowRun := 8, highRun := 64, unlockRun := 8 })
     t.powered (portPg p) = true ∧ t.bget (lanePg p) (laneOff 1) 4 = false ∧ t.bget (lanePg p) (laneOff 1) 5 = false ∧
       t.losDeb p ≤ (t.lane p 1).lowRun ∧ 64 ≤ (t.lane p 1).highRun ∧ t.losDeb p ≤ (t.lane p 1).unlockRun) := by
  decide +kernel

/-- A signed 16-bit code reads back as the number it stands for. -/
theorem signed_code (c : BitVec 16) : signed 16 (c.toNat % 2 ^ 16) = c.toInt := by
  have := c.isLt
  unfold signed BitVec.toInt
  split <;> split <;> omega

theorem witness_OpticsCommandsComplete_output (k d : Nat) :
    ∃ near far : Nat, (signed 16 (near % 2 ^ 16) - Config.laserTarget k d).natAbs ≤ 100 ∧
      100 < (signed 16 (far % 2 ^ 16) - Config.laserTarget k d).natAbs := by
  refine ⟨(Config.laserTargetCode k d).toNat, if 0 ≤ (Config.laserTargetCode k d).toInt then 0x8000 else 0x7FFF, ?_, ?_⟩
  · rw [signed_code]; simp [Config.laserTarget]
  · unfold Config.laserTarget; split <;> simp [signed] <;> omega

theorem witness_OpticsCommandsComplete_current :
    ∃ s : State, (s.fput (optePg 15 1) (biasOff 6) 23 16 (min 255 (s.biasSet 15 6))).biasSet 15 6 ≤ min 255 (s.biasSet 15 6) := by
  refine ⟨up, ?_⟩
  unfold State.biasSet
  rw [State.fget_fput_ne (by decide +kernel) (by omega) (by omega) (by omega)]
  omega

theorem witness_OpticsCommandsComplete :
    let k := 15
    let s := act (optePg k 1) up
    let t := { regs [(optePg k 1, 0x40, 0x800), (optePg k 1, 0x44, 8)] up with tick := { up.tick with count := 2 ^ 16 } }
    let u := { up.updSpare k (fun x => { x with active := some (3, 0) }) with tick := { up.tick with count := 256 } }
    (s.bget (optePg k 1) 0x44 (8 + 3) = false ∧ s.works (optePg k 1) = true ∧ s.zyn.mcReset = false ∧
      Tab.get (fun _ => none) (s.spare k).apc 6 = none) ∧
    ((s.put (optePg k 1) 0x44 0x800).bget (optePg k 1) 0x44 (8 + 3) = true) ∧
    (t.bget (optePg k 1) 0x40 (8 + 3) = true ∧ t.bget (optePg k 1) 0x44 3 = true ∧ t.spareFree k 3 = true ∧
      Tab.get (fun _ => 0) (t.spare k).since 3 + 2 ^ max 8 (min 16 (t.fget (optePg k 1) 0x40 19 16)) ≤ t.nowTick) ∧
    ((u.spare k).active = some (3, 0) ∧ 0 + 256 ≤ u.nowTick) := by decide +kernel

theorem witness_LinkCommandsComplete :
    let p := 3
    let s := linked p up
    let l (f : Link → Link) : State := s.updLink p f
    let data := frame frData 0 0 7 (zeros 64)
    let ident := frame frIdent 0 0 7 (s.identCells p)
    let lany := (regs [(lanyPg 0, 0x40, 2 ^ 31 + p), (lanyPg 0, 0x44, 0)] s)
    (let t := { s with regs := ((act (portPg p) up).put (lanePg p) 0x48 1).regs }
     t.carries p = true ∧ (t.link p).exch = false ∧ t.linkState p ≠ lkUp) ∧
    (rxPartial (data.take 16) = true ∧ rxPartial data = false) ∧
    (s.frameUp p data = true ∧ ((s.takeHeader p data).link p).session = true ∧ frType data = frData ∧
      wrapSub 12 (frSeq data) ((s.takeHeader p data).link p).rxNext = 0) ∧
    (let f := frame frLany 0 0 7 (beBytes 1 1 ++ zeros 63)
     lany.frameUp p f = true ∧ ((lany.takeHeader p f).link p).session = true ∧ frType f = frLany ∧ beAt (frBody f) 0 1 ≠ 2 ∧
       wrapSub 12 (frSeq f) ((lany.takeHeader p f).link p).rxNext = 0 ∧ (lany.takeHeader p f).isLany p = true ∧
       Tab.wf linkD (lany.takeHeader p f).links = true) ∧
    (let f := frame frAck 0 0 7 (zeros 64); s.frameUp p f = true ∧ frType f = frAck ∧ ((s.takeHeader p f).link p).session = true) ∧
    (s.carries p = true ∧ frCheck ident = .good ∧ frType ident = frIdent) ∧
    ((l (fun x => { x with exch := true })).link p).exch = true ∧
    (s.endBegun p false).isSome = true ∧
    (s.linkState p = lkUp ∧ ((l (fun x => { x with replay := [⟨0, 0, 0, zeros 64, false, 0⟩] })).link p).replay ≠ []) ∧
    ((l (fun x => { x with unreported := true })).link p).unreported = true ∧
    ((s.put (portPg p) 0x40 0).failMode p ≠ 1 ∧ max 1 (s.fget (portPg p) 0x44 31 24) ≤ ((l (fun x => { x with errors := 256 })).link p).errors) ∧
    (let h := (s.put (portPg p) 0x4C 0x07000003).put (portPg p) 0x48 0
     p < 512 ∧ (h.link p).session = true ∧ h.linkState p ≠ lkUp ∧ h.fget (portPg p) 0x48 25 16 = 0) := by decide +kernel

/-! Routing. -/

/-- The bank of `banked` in force. -/
def routed : State :=
  (regs [(routePg, 0x44, 0x300)] { up with route := banked.route })

def inPkt : InPkt := ⟨1, 8, 12, zeros 64, 1, 0, true, none, 0, 0, 0, false⟩

theorem witness_RoutingCommandsComplete :
    let s := up.updTile 63 (fun x => { x with ins := [inPkt] })
    let c : Commit := ⟨true, [], false, 5, []⟩
    let a := act routePg up
    let k := { up.put routePg 0x44 0x20 with route := { up.route with commit := some c } }
    let tt := frame frTelltale 0 0 7 (beBytes 4 1 ++ zeros 156 ++ zeros 32)
    let r := linked 8 routed
    ((s.tile 63).ins.find? (fun e => decide (e.input = 8 ∧ e.vc = 12 ∧ e.hop = none ∧ e.noCand = 0)) = some inPkt ∧
      (s.tile 63).reloading = false) ∧
    s.powered (tilePg 63) = true ∧
    (a.powered routePg = true ∧ 0x1FFFC % 4 = 0 ∧ a.mayWrite routePg APath.firmware.origin = true ∧
      pathReaches .firmware (0xE00000 + 0x1FFFC) = true ∧ a.bget routePg 0x44 7 = false ∧
      a.bget routePg 0x44 4 = false ∧ bankMask 0x1FFFC ≠ 0) ∧
    ((up.put routePg 0x44 0x280).bget routePg 0x44 7 = true ∧ (up.put routePg 0x44 0x280).bget routePg 0x44 9 = true ∧
      (up.put routePg 0x44 0x80).bget routePg 0x44 7 = true ∧ (up.put routePg 0x44 0x80).bget routePg 0x44 9 = false) ∧
    (k.route.commit = some c ∧ c.deadline ≤ k.nowTick ∧ c.immediate = false ∧ k.bget routePg 0x44 5 = true ∧
      (k.put routePg 0x44 0).bget routePg 0x44 5 = false) ∧
    (r.frameUp 8 tt = true ∧ frType tt = frTelltale ∧
      (List.range 4).filter (fun d => decide (coord (fld (beAt (frBody tt) 0 4) 19 0) d ≠
        coord ((r.takeHeader 8 tt).rtSelf true) d)) = [0]) := by decide +kernel

theorem witness_WindowWritesLeaveActiveBank :
    goes (exec (.routeTableWindowWrite .firmware 0x1000 5) (act routePg up)) = true ∧ Registers.wf (act routePg up).regs = true := by
  decide +kernel


/-! Wiluth. -/

/-- A packet from router 1 to endpoint `dest` of this module. -/
def pkt (typ flags op dest : Nat) : Bytes :=
  fabricHdr 1 0 0 dest 0 16 0 ++ wiluthHdr typ flags 0 0 1 0 (beBytes 1 op)

/-- A collective packet of router 1's unit 0 to this module's unit 0. -/
def cpkt (op grp step seg contrib first : Nat) (data : Bytes) : Bytes :=
  withPayload (fabricHdr 2 1 0 0 0 16 1 ++ wiluthHdr 1 0 0 0 1 0
    (beBytes 1 op ++ beBytes 2 grp ++ beBytes 1 step ++ beBytes 3 seg ++ beBytes 3 contrib ++ beBytes 2 first)) data

/-- Packets presented to upper-layer units by XPT unit u. -/
def presented (u : Nat) (ps : List Bytes) (s : State) : State :=
  (act (xptPg u 0) s).updXpt u (fun x => { x with presented := ps })

theorem witness_TransportReceiveCommandsComplete :
    let s := act (xptPg 7 0) routed
    (∀ p ∈ [pkt 1 0 0x10 15, pkt 4 0 0 15, pkt 5 0 0 15, pkt 7 0 0 15, pkt 1 2 0 15], s.works (xptPg (s.xptOf p) 0) = true) ∧
    (pkType (pkt 1 0 0x10 15) = 1 ∧ pkGap (pkt 1 0 0x10 15) = false ∧ pkType (pkt 4 0 0 15) = 4 ∧ pkType (pkt 5 0 0 15) = 5 ∧
      pkType (pkt 7 0 0 15) = 7 ∧ pkGap (pkt 1 2 0 15) = true) ∧
    (∀ op ∈ [0x10, 0x1F, 0x20, 0x21, 0x2F], (presented 7 [pkt 2 0 op 15] s).intentTurn 7 = some (pkt 2 0 op 15) ∧
      pkOpcode (pkt 2 0 op 15) = op) ∧
    (∀ typ ∈ [3, 6], ((presented 7 [pkt typ 0 0 15] s).takePresented 7 (fun p => decide (pkType p = typ))).isSome = true) := by
  decide +kernel

/-- A context between endpoint 0 and endpoint 0 of router 1. -/
def half : TxHalf :=
  { state := .opened, cgen := 1, txNext := 0, unacked := [], srtt8 := 64, rttvar4 := 0, msgs := [], nextMsg := 0, acks := [],
    idleSince := 0, ceil := none }
def peer : Nat := 256
def withCtx (h : Option TxHalf) (tomb : Option (Nat × Nat)) (s : State) : State :=
  (act (xptPg 0 0) s).updXpt 0 (fun x =>
    { x with ctxs := [{ loc := 0, rem := peer, tx := h, rx := none, tomb := tomb, adopted := false, crossed := false,
                        touched := 0 }] })

theorem witness_TransportTimerCommandsComplete :
    let late := { routed with tick := { routed.tick with count := 2 ^ 30 } }
    let p : UPkt := { pkt := pkt 1 0 0x10 16, seq := 3, first := 0, last := 0, copies := 70, interval := 8, heldTicks := 0, stalled := 0 }
    let s := withCtx (some { half with unacked := [p] }) none late
    let i := withCtx (some half) none late
    let req : TxReq := { vi := 0, cls := 0, loc := 0, rem := peer, msg := 0, pkt := pkt 1 0 0x10 16, read := none, data := [], last := true,
                         waited := false, windowed := false, ceiled := false }
    let w := (withCtx (some half) none routed).updXpt 0 (fun x => { x with waiting := [req] })
    (s.unackedOf 0 peer 3 = some p ∧ s.works (xptPg (s.unitOf 0 peer) 0) = true ∧ p.expired s.nowTick = true ∧
      p.first + p.heldTicks + s.giveupTicks (s.unitOf 0 peer) ≤ s.nowTick ∧ s.heldBy (pkClass p.pkt) peer = false ∧
      s.retryMax (s.unitOf 0 peer) ≤ p.copies) ∧
    (i.txOf 0 peer = some half ∧ i.works (xptPg (i.unitOf 0 peer) 0) = true ∧ i.txIdle 0 peer = true ∧ i.mayFlush 0 peer 3 = true ∧
      half.idleSince + i.ctxIdle (i.unitOf 0 peer) ≤ i.nowTick) ∧
    (let t := withCtx none (some (1, 5)) routed; (t.ctx 0 peer).map Ctx.tomb = some (some (1, 5)) ∧ 5 ≤ t.nowTick) ∧
    (let t := late.updXpt 0 (fun x => { x with closed := [(0, peer, 0)] })
     (0, peer, 0) ∈ (t.xpt (t.unitOf 0 peer)).closed ∧ 0 + 256 ≤ t.nowTick) ∧
    (w.works (xptPg 0 0) = true ∧
      (((w.retryOwn 0).countWaits 0 ((w.retryOwn 0).headReqs 0)).nextReq 0).isSome = true ∧
      ((w.retryOwn 0).countWaits 0 ((w.retryOwn 0).headReqs 0)).noRoute 0 peer = false) ∧
    (let v := w.put routePg 0x44 0x200
     let t := (v.retryOwn 0).countWaits 0 ((v.retryOwn 0).headReqs 0)
     v.works (xptPg 0 0) = true ∧ (t.nextReq 0).isSome = true ∧ t.noRoute 0 peer = true) := by decide +kernel

/-! Remote memory access. -/

/-- A descriptor: its opcode, and fields by offset, bytes and value. -/
def dsc (op : Nat) (fs : List (Nat × Nat × Nat)) : Bytes :=
  (fs.foldl (fun b f => patch b f.1 (leBytes f.2.1 f.2.2)) (patch (zeros 64) 0 (leBytes 1 op)))

def desc (b : Bytes) : Desc := { num := 0, queue := 0, bytes := b, keys := 0, begun := false, firing := none, held := false }

/-- VI v is ON and its queue 0 holds one descriptor. -/
def holding (v : Nat) (d : Desc) (s : State) : State :=
  (s.put (viPg v) 0x44 3).updVi v (fun x => { x with descs := [d] })

/-- The descriptor is at the front of queue 0 of VI 0 for its opcode, and its message may start toward router 1. -/
def starts (op eager : Nat) (announced : Bool) (b : Bytes) : Bool :=
  let s := holding 0 (desc b) routed
  decide (s.headDesc 0 0 op = some (desc b)) && decide (s.canStart 0 (s.dLoc 0) (dRem b) eager announced = .go) &&
    (s.openTx (s.dLoc 0) (dRem b)).isSome

theorem witness_RmaDescriptorsComplete :
    let ds (n : Nat) : List (Nat × Nat × Nat) := [(0x18, 4, n), (0x1C, 3, 16)]
    (∀ op ∈ [0x00, 0x01, 0x02, 0x03], (holding 4095 (desc (dsc op [])) routed).headDesc 4095 0 op = some (desc (dsc op []))) ∧
    starts 0x01 (eagerPkts 1) false (dsc 0x01 (ds 1)) = true ∧ starts 0x01 (eagerPkts 8193) true (dsc 0x01 (ds 8193)) = true ∧
    starts 0x02 (eagerPkts 8192) false (dsc 0x02 (ds 8192)) = true ∧ starts 0x02 1 false (dsc 0x02 (ds 0)) = true ∧
    starts 0x03 0 false (dsc 0x03 (ds 4096)) = true ∧
    (starts 0x04 1 false (dsc 0x04 (ds 0)) = true ∧ dRflags (dsc 0x04 (ds 0)) = 0) ∧
    (let b := dsc 0x04 ([(0x2A, 1, 0x10), (0x30, 8, 0x1000)] ++ ds 0)
     let s := holding 0 (desc b) routed
     starts 0x04 1 false b = true ∧ bit (dRflags b) 4 = true ∧
       (match s.openTx (s.dLoc 0) (dRem b) with
        | some t => (match (t.beginDesc 0 (desc b)).viRead 0 (leAt b 0x30 8) (operandLen (dRflags b)) (some 0) with
                     | .ok _ => true | .error _ => false)
        | none => false) = true) ∧
    (let b := dsc 0x08 [(0x10, 8, 0x1000), (0x18, 8, 4096), (0x20, 1, 3)]
     let d := desc b
     let s := (((holding 0 d routed).put (mwuPg 0 0) 0x50 64)).updVi 0 (fun x => { x with winFirst := 0, winCount := 2 })
     s.headDesc 0 0 0x08 = some d ∧ s.winTurn 0 d = true ∧
       (match (s.beginDesc 0 d).checkRegister 0 (winOfDesc (s.beginDesc 0 d) 0 b winInit) with
        | .ok _ => true | .error _ => false) = true) ∧
    (let b := dsc 0x09 [(0x20, 4, 1024)]
     let d := desc b
     let s := ((holding 0 d routed).updVi 0 (fun x => { x with winFirst := 0, winCount := 2 })).updWin 1 (fun w => { w with state := wValid })
     s.headDesc 0 0 0x09 = some d ∧ s.winTurn 0 d = true ∧
       ((s.put (mwuPg 0 0) 0x4C 0).beginDesc 0 d).checkRevoke 0 (leAt b 0x20 4) = stOk) := by decide +kernel


/-- The state in which a unit handles the packet that XPT unit u hands it. -/
def handed (s : State) (u : Nat) (sel : Bytes → Bool) (tgt : Nat) (p : Bytes) : Option State :=
  if (s.xpt u).presented.find? sel = some p ∧ (s.nocSlot (xptStop u) tgt 0).1 = true then
    some ((s.nocHand (xptStop u) tgt 0 true (pkPayload p).length (pktHold p)).2.updXpt u
      (fun x => { x with presented := delFirst (fun q => decide (q = p)) x.presented }))
  else none

theorem handed_hands {s t : State} {u tgt : Nat} {sel : Bytes → Bool} {p : Bytes} (h : handed s u sel tgt p = some t) :
    s.hands u sel tgt p t := by
  unfold handed at h
  split at h
  · rename_i c
    refine ⟨c.1, _, ?_, (Option.some.inj h).symm⟩
    unfold State.nocHand
    rcases hs : s.nocSlot (xptStop u) tgt 0 with ⟨ok, s'⟩
    have : ok = true := by simpa [hs] using c.2
    subst this; rfl
  · cases h

def access (id w : Nat) (place : Place) (p : Bytes) (d : Option (Nat × Nat)) : Access :=
  { id := id, window := w, vi := 0, win := { winInit with state := wValid, len := 4096, rights := 15 }, pkt := p, place := place,
    deadline := d, waits := [], reply := none }

def accessing (a : Access) (s : State) : State :=
  (act (mwuPg (mwuOfWin a.window) 0) s).updMwu (mwuOfWin a.window) (fun m => { m with accesses := [a] })

theorem witness_MemoryWindowCommandsComplete :
    let one (op : Nat) : Bool :=
      ((presented 7 [pkt 1 0 op 15] up).takePresented 7 (fun p => decide (pkType p = 1 ∧ agKind (pkLoc p) = 0) && decide (pkOpcode p = op))).isSome
    let a := access 9 0 (.host [⟨0, 0, 0x1000, 8⟩]) (pkt 1 0 opPut 0) none
    let s := accessing a (up.put (viPg 0) 0x44 3)
    let b := { access 9 0 (.host [⟨0, 0, 0x1000, 8⟩]) (pkt 1 0 opAtomic 0) none with
      win := { winInit with state := wValid, len := 4096, rights := 15, attr := 2 } }
    let r := accessing b (up.put (viPg 0) 0x44 3)
    (∀ op ∈ [opPut, 0x1F, opGetReq, opSignal, opAtomic],
      let s := presented 7 [pkt 1 0 op 15] up
      s.works (xptPg 7 0) = true ∧
        (handed s 7 (fun p => decide (pkType p = 1 ∧ agKind (pkLoc p) = 0) && decide (pkOpcode p = op))
          (mwuStop (mwuOfVi (pkVi (pkt 1 0 op 15)))) (pkt 1 0 op 15)).isSome = true) ∧
    (one opGetRsp && one opAtomicRsp) = true ∧
    (s.findAccess 9 = some (0, a) ∧ s.works (mwuPg 0 0) = true ∧
      ((s.wakeCleat 0 a).mwu 0).accesses.find? (fun a => decide (a.id = 9)) = some a ∧ (s.wakeCleat 0 a).accessReady a = true ∧
      (s.wakeCleat 0 a).slotFree (mwuStop 0) ((s.wakeCleat 0 a).accessStop a) 1 = true ∧ (s.wakeCleat 0 a).accessHole a = none) ∧
    (r.findAccess 9 = some (0, b) ∧ r.accessReady b = true ∧ r.byAtomicOp b = true) ∧
    (let c := access 9 (2 ^ 22 - 1) (.pool 0) (pkt 1 0 opPut 0) (some (0, 1))
     let t := accessing c { up with tick := { up.tick with count := 2 ^ 20 } }
     (t.mwu (mwuOfWin (2 ^ 22 - 1))).accesses = [c] ∧ c.window = 2 ^ 22 - 1 ∧ 0 ≤ t.nowAbs) ∧
    (let m := { (act (mwuPg 3 0) up) with mem := { up.mem with part := some ⟨63, 0, 0, 0, 0, 0⟩ } }
     m.mem.part = some ⟨63, 0, 0, 0, 0, 0⟩ ∧ m.works (mwuPg (mwuOfWin (2 ^ 22 - 1)) 0) = true ∧
       ((m.detect (mwuPg 3 0) 17 (hbmElement 70000) (hbmExt 5 70000) 4).win (2 ^ 22 - 1)).state ≠ wPoisoned ∧
       ((m.detect (mwuPg 3 0) 17 (hbmElement 70000) (hbmExt 5 70000) 4).updWin (2 ^ 22 - 1)
         (fun w => { w with state := wPoisoned })).winOwner (2 ^ 22 - 1) = none) := by decide +kernel

/-! Matching. -/

theorem witness_MatchDescriptorsComplete :
    let d (op : Nat) (fs : List (Nat × Nat × Nat)) : Desc := desc (dsc op fs)
    let un : Unexp := { stamp := 5, index := 1, msgLen := 8, comm := 0, srcRank := 0, tag := 0, claimed := false, complete := true,
                        announced := false, src := 16, srcVi := 0, msgId := 1, cgen := 1, slots := 1, data := zeros 8, arrTick := 0 }
    let r : Posted := postedOf up (d 0x11 [(8, 8, 77)])
    let s (op : Nat) (fs : List (Nat × Nat × Nat)) (m : Match → Match) : State := (holding 0 (d op fs) up).updMtch 0 m
    starts 0x10 2 false (dsc 0x10 [(0x18, 4, 8192), (0x1C, 3, 16)]) = true ∧
    starts 0x10 0 true (dsc 0x10 [(0x18, 4, 8193), (0x1C, 3, 16)]) = true ∧
    (let t := s 0x11 [] (fun m => { m with unexp := [un] })
     t.headDesc 0 0 0x11 = some (d 0x11 []) ∧ t.poisoned 0 = false ∧ (t.mtch 0).search (postedOf t (d 0x11 [])) = some un) ∧
    (let t := ((s 0x11 [] id).updVi 0 (fun x => { x with postMax := 1 }))
     t.headDesc 0 0 0x11 = some (d 0x11 []) ∧ t.poisoned 0 = false ∧ (t.mtch 0).search (postedOf t (d 0x11 [])) = none ∧
       (t.mtch 0).posted.length < (t.vi 0).postMax ∧ t.mtchSum (mtchOf 0) (fun m => m.posted.length) < mtchEntries) ∧
    (s 0x12 [] id).headDesc 0 0 0x12 = some (d 0x12 []) ∧
    (let fs := [(0x2C, 4, 8192 + 5)]
     let t := s 0x13 fs (fun m => { m with unexp := [{ un with claimed := true }] })
     t.headDesc 0 0 0x13 = some (d 0x13 fs) ∧ (t.beginDesc 0 (d 0x13 fs)).poisoned 0 = false ∧
       (((t.beginDesc 0 (d 0x13 fs)).mtch 0).unexp.find? (fun e => e.claimed && decide (e.index = (8192 + 5) / 8192 ∧
         e.stamp % 8192 = (8192 + 5) % 8192))).isSome = true ∧ leAt (dsc 0x13 fs) 0x2C 4 = 8192 + 5) ∧
    (let fs := [(0x30, 8, 77)]
     let t := s 0x14 fs (fun m => { m with posted := [r] })
     t.headDesc 0 0 0x14 = some (d 0x14 fs) ∧ (t.beginDesc 0 (d 0x14 fs)).poisoned 0 = false ∧
       ((t.beginDesc 0 (d 0x14 fs)).mtch 0).posted.find? (fun r => decide (r.cookie = leAt (dsc 0x14 fs) 0x30 8)) = some r) ∧
    (let t := s 0x14 [] id
     t.headDesc 0 0 0x14 = some (d 0x14 []) ∧
       ((t.beginDesc 0 (d 0x14 [])).mtch 0).posted.find? (fun r => decide (r.cookie = leAt (dsc 0x14 []) 0x30 8)) = none) ∧
    (let t := s 0x14 [] (fun m => { m with stopCause := 5 })
     t.headDesc 0 0 0x14 = some (d 0x14 []) ∧ (t.beginDesc 0 (d 0x14 [])).poisoned 0 = true) ∧
    (let t := s 0x15 [] (fun m => { m with stopCause := 2 })
     t.headDesc 0 0 0x15 = some (d 0x15 []) ∧ ((t.beginDesc 0 (d 0x15 [])).bump (mtPg 0 1) 8 1).poisoned 0 = false) := by
  decide +kernel

theorem witness_MatchArrivalCommandsComplete :
    let one (op : Nat) (f : Nat → Bool) : Bool := (handed (presented 7 [pkt 1 0 op 15] up) 7
      (fun p => decide ((pkType p = 1 ∨ pkType p = 2) ∧ agKind (pkLoc p) = 0) && f (pkOpcode p))
      (mtchStop (agPort (pkLoc (pkt 1 0 op 15)) / 4)) (pkt 1 0 op 15)).isSome
    let r : Posted := { (postedOf up (desc (dsc 0x11 [(0x18, 4, 64)]))) with buf := 0x1000 }
    let x (wait : Bool) : Placing := {
      id := 4, posted := r, src := 16, srcVi := 0,
      msgId := 1, cgen := 1, srcRank := 0, tag := 0, msgLen := 8, placed := 0, status := 0, announced := false, copySlots := 1,
      copyData := zeros 8, copyOfs := 0, awaitSecond := wait, claimed := false }
    let s (wait : Bool) : State := ((up.put (viPg 0) 0x44 3).updMtch 0 (fun m => { m with placing := [x wait] }))
    (one 0x20 (fun o => decide (o = 0x20)) && one 0x21 (fun o => decide (0x21 ≤ o ∧ o < 0x30)) &&
      one 0x2F (fun o => decide (0x21 ≤ o ∧ o < 0x30))) = true ∧
    (∀ wait ∈ [true, false], ((s wait).mtch 0).placing.find? (fun x => decide (x.id = 4)) = some (x wait) ∧ (x wait).copySlots ≠ 0 ∧
      (x wait).copyData ≠ [] ∧ (s wait).poisoned 0 = false ∧ (s wait).viMayWrite 0 = true ∧
      (match ((s wait).countBounce 0 0 8 false).place 0 0 (x wait) 0 (zeros 8) with | .ok _ => true | .error _ => false) = true) ∧
    (act (mtPg 4095 0) up).works (mtPg 4095 0) = true := by decide +kernel


/-! Groups. -/

/-- A LIVE group of two: VI 0 in slot 0, router 1 in slot 1. -/
def live : Group :=
  { groupInit with state := gLive, n := 2, members := 2, slots :=
      [⟨1, 0, 0, 0, none, 0, 0, 0, 0, 0⟩, ⟨2, 1, 0, 0, none, 0, 0, 0, 0, 0⟩] }
def grouped (x : Group) (s : State) : State := (act (collPg 0 0) s).updGroup 0 (fun _ => x)

/-- Engine 0 alone takes service tasks. -/
def served (s : State) : State := (act (engPg 0) s).put (engPg 0) 0x40 4

theorem svcTask_one {s : State} {e : Nat} (h : s.svcEngines = [e]) : s.svcTask = s.free.2.bump (engPg e) 3 1 := by
  simp [State.svcTask, h, Nat.mod_one]

theorem svcTask_group (s : State) (g : Nat) : s.svcTask.group g = s.group g := by
  simp only [State.svcTask, State.free]; split <;> simp [State.group]

theorem svcTask_creations (s : State) : s.svcTask.creations = s.creations := by
  simp only [State.svcTask, State.free]; split <;> simp

theorem witness_GroupDescriptorsComplete_create :
    let c := desc (dsc 0x21 [(0x20, 3, 1), (0x34, 3, 0xFFFFFF)])
    let s := served (holding 0 c routed)
    let e := decodeElems 4 1 (padTo (zeros 4) 4)
    let tree : List TreeNode := [⟨0, none, [0]⟩]
    s.svcEngines.isEmpty = false ∧ s.headDesc 0 0 0x21 = some c ∧ leAt c.bytes 0x20 3 = 1 ∧
      (match (s.svcTask.beginDesc 0 c).viRead 0 (dLaddr c.bytes) 4 (some c.keys) with
        | .ok t => t.tableOk 0 e | .error _ => false) = true ∧
      treeOk e tree = true ∧ rootOk e tree (leAt c.bytes 0x34 3) = true ∧
      (∀ i, i < tree.length → (treeSlots e tree i (fun _ => 0)).length ≤ 64) := by
  intro c s e tree
  have h : s.svcEngines = [0] := by decide +kernel
  rw [svcTask_one h]
  refine ⟨?_, ?_, ?_, ?_, ?_, ?_, ?_⟩ <;> decide +kernel

theorem witness_GroupDescriptorsComplete :
    let d (op : Nat) (fs : List (Nat × Nat × Nat)) : Desc := desc (dsc op fs)
    let mem (op : Nat) (fs : List (Nat × Nat × Nat)) : Bool :=
      let s := grouped live (holding 0 (d op fs) routed)
      decide (s.headDesc 0 0 op = some (d op fs)) && decide ((s.beginDesc 0 (d op fs)).memberGroup 0 (d op fs) = some (0, 0))
    mem 0x22 [] = true ∧ mem 0x23 [] = true ∧
    (mem 0x20 [(0x20, 4, 4)] = true ∧ (stepOfDesc (dsc 0x20 [(0x20, 4, 4)])).valid 2 = true ∧
      (live.msteps.filter (fun m => decide (m.vi = 0))).length < 8) ∧
    ((grouped { live with state := gRepairWait, deadline := 5 } up).group 0).deadline ≤ up.nowTick ∧
    (let t := grouped { live with state := gQuarantine, deadline := 5 } up
     (t.group 0).state = gQuarantine ∧ (t.group 0).deadline ≤ t.nowTick) ∧
    (act (coPg 4095 0) up).works (coPg 4095 0) = true := by
  refine ⟨?_, ?_, ?_, ?_, ?_, ?_⟩ <;> decide +kernel

/-- XPT unit 0 holds a packet for collective unit 0. -/
def told (p : Bytes) (s : State) : State := presented 0 [p] s

/-- The state in which a collective unit handles the packet that XPT unit 0 hands it. -/
def takes (s : State) (op : Bytes → Bool) (p : Bytes) : Option State :=
  if s.works (xptPg 0 0) = true then
    handed s 0 (fun p => decide (pkType p = 1 ∧ agKind (pkLoc p) = 1) && op p && s.ordered 0 p &&
      (if pkOpcode p = 0x38 then !s.svcEngines.isEmpty else !(s.group (pkGroup p)).awaits (pkRouter p)) &&
      s.works (collPg (agAddr (pkLoc p) % 2) 0)) (collStop (agAddr (pkLoc p) % 2)) p
  else none

theorem takes_collTakes {s t : State} {op : Bytes → Bool} {p : Bytes} (h : takes s op p = some t) : s.collTakes 0 op p t := by
  unfold takes at h
  split at h
  · exact ⟨by assumption, handed_hands h⟩
  · cases h

def ctl (sub status loc : Nat) (slots : List GSlot) : Gctl :=
  { sub := sub, status := status, epoch := 0, ctag := 0, creator := 0, loc := loc, peer := 0, parent := 0, parentLocal := 0, firstStep := 0,
    members := 2, slots := slots }
def ctlPkt (grp : Nat) (c : Gctl) : Bytes := cpkt 0x38 grp 0 0 0 0 c.bytes

/-- A GCTL packet of a SUB, from router 1, to group 0, a JOIN to 0xFFF. -/
def ctlOf (sub : Nat) (slots : List GSlot) : Bytes := ctlPkt (if sub = 1 then 0xFFF else 0) (ctl sub 0 0 slots)

/-- The GCTL packet is taken, well formed, in a state that meets q. -/
def takesCtl (s : State) (sub : Nat) (slots : List GSlot) (q : State → Bool) : Bool :=
  gctlFormed (ctlOf sub slots) && decide (pkRouter (ctlOf sub slots) = 1) &&
    (takes (served (told (ctlOf sub slots) s)) (isGctl sub) (ctlOf sub slots)).any q

/-- The record of group 0 is in use under CTAG 0 of CREATOR 0. -/
def known (t : State) : Bool :=
  decide ((t.group 0).state ≠ gFree ∧ (t.group 0).state ≠ gQuarantine ∧ (t.group 0).ctag = 0 ∧ (t.group 0).creator = 0)

theorem witness_GroupControlCommandsComplete_join :
    (let s := { grouped groupInit routed with mem := { up.mem with part := some ⟨63, 0, 0, 0, 64, 0⟩ } }
     takesCtl s 1 [] (fun t => decide (t.joinStatus (ctl 1 0 0 []) = stOk) && t.indexFits 0 4095) = true) ∧
    takesCtl (grouped live routed) 1 [⟨1, 0, 0, 0⟩] (fun t => decide (t.joinStatus (ctl 1 0 0 [⟨1, 0, 0, 0⟩]) ≠ stOk)) = true ∧
    pkGroup (ctlOf 1 []) = 0xFFF := by decide +kernel

theorem witness_GroupControlCommandsComplete :
    (let e : Creation := ⟨0, 0, 0, [0, 4096], [⟨0, none, [0]⟩, ⟨1, some 0, [1]⟩], 0, []⟩
     takesCtl { grouped live routed with creations := [e] } 2 [] (fun t => known t &&
       decide (t.creations.find? (fun e => decide (e.ctag = (ctl 2 0 0 []).ctag)) = some e) &&
       e.answers.all (fun a => decide (a.1 ≠ 1)) && e.tree.any (fun n => decide (n.router = 1))) = true) ∧
    takesCtl (grouped { live with state := gJoining } routed) 3 [] (fun t => known t && decide ((t.group 0).state = gJoining)) = true ∧
    (∀ sub ∈ [4, 5, 6, 7], takesCtl (grouped live routed) sub [] known = true) ∧
    takesCtl (grouped live routed) 5 [⟨2, 1, 0, 0⟩] known = true := by decide +kernel

def par : StepPar := ⟨0, 0, 0, 0, 4, 0⟩
/-- Step 0 open at the group. -/
def stepping (x : Group) : Group := { x with steps := [{ (stepInit 0 0) with par := some par, isOpen := true }] }
/-- The group's parent is router 1, and it has no child. -/
def leaf : Group := { live with parent := some (1, 0), root := 1, slots := [⟨1, 0, 0, 0, none, 0, 0, 0, 0, 0⟩] }

/-- A packet of an opcode is taken at group 0 in record x, LIVE, in a state in which the record meets q. -/
def takesStep (x : Group) (op : Bytes → Bool) (p : Bytes) (q : Group → Bool) : Bool :=
  (takes (served (grouped x (told p routed))) op p).any (fun t => decide ((t.group 0).state = gLive) && q (t.group 0))

def opIs (a : Nat) : Bytes → Bool := fun p => decide (pkOpcode p = a)

/-- The selection of DEPART packets, at a state with an engine for service tasks. -/
def departs (x : Group) (p : Bytes) : Bytes → Bool :=
  let s := served (grouped x (told p routed))
  fun p => decide (pkOpcode p = 0x36) && !(s.forRepair p && s.svcEngines.isEmpty)

theorem witness_CollectiveReceiveCommandsComplete_up :
    (let p := cpkt 0x30 0 0 0 0 0 (beBytes 4 0 ++ beBytes 4 4 ++ beBytes 4 0 ++ zeros 4)
     takesStep live (opIs 0x30) p (fun x => decide (x.childOf (pkRouter p) = some 1) && par.valid x.n) = true ∧ pkLen p = 16) ∧
    (let p := cpkt 0x31 0 0 0 1 0 (zeros 16)
     takesStep live (fun p => decide (pkOpcode p = 0x31) || collReserved p) p (fun x =>
       decide (x.childOf (pkRouter p) = some 1 ∧ x.doneNext ≤ nearest 8 x.doneNext (pkStep p)) && (x.step 0).isNone) = true ∧
       pkOpcode p = 0x31 ∧ false ≠ decide (pkFirstElem p = 0)) ∧
    (let p := cpkt 0x34 0 0 0 0 0 (beBytes 4 3 ++ beBytes 1 1 ++ zeros 3)
     takesStep live (opIs 0x34) p (fun x => decide (x.childOf (pkRouter p) = some 1)) = true ∧ pkLen p = 8 ∧
       beAt (pkPayload p) 4 1 = 1) := by decide +kernel

theorem witness_CollectiveReceiveCommandsComplete_down :
    (let p := cpkt 0x32 0 0 0 1 0 (zeros (par.eb * par.elems 2 0))
     takesStep (stepping leaf) (opIs 0x32) p (fun x => decide (x.parent = some (pkRouter p, 0) ∧
       (x.step 0).bind CStep.par = some par ∧ nearest 8 x.doneNext (pkStep p) = 0 ∧ pkLen p = par.eb * par.elems x.n (pkSeg p) ∧
       x.doneNext ≤ 0)) = true) ∧
    (let p := cpkt 0x33 0 0 0 0 0 (zeros 4)
     takesStep (stepping leaf) (opIs 0x33) p (fun x => decide (pkRouter p = x.root ∧
       (x.step (nearest 8 x.doneNext (pkStep p))).bind CStep.par = some par)) = true ∧ pkLen p % par.eb = 0) ∧
    (let p := cpkt 0x34 0 0 0 0 0 (beBytes 4 3 ++ zeros 4)
     takesStep leaf (opIs 0x34) p (fun x => decide (x.parent = some (pkRouter p, 0))) = true ∧ pkLen p = 8 ∧
       beAt (pkPayload p) 4 1 = 0) ∧
    (let p := cpkt 0x35 0 0 0 0 0 (zeros 16)
     takesStep leaf (opIs 0x35) p (fun x => decide (x.parent = some (pkRouter p, 0) ∧
       x.doneNext ≤ nearest 16 x.doneNext (beAt (pkPayload p) 10 2))) = true ∧ pkLen p = 16 ∧ beAt (pkPayload p) 1 1 % 2 = 0) ∧
    (let p := cpkt 0x37 0 0 0 0 0 (beBytes 2 1 ++ beBytes 3 1 ++ beBytes 3 1)
     takesStep leaf (opIs 0x37) p (fun x => decide (x.parent = some (pkRouter p, 0))) = true ∧ pkLen p = 8) := by decide +kernel

theorem witness_CollectiveReceiveCommandsComplete_depart :
    (let p := cpkt 0x36 0 0 0 0 0 (beBytes 3 1 ++ beBytes 1 3 ++ zeros 4)
     let mid := { live with parent := some (2, 0) }
     takesStep mid (departs mid p) p (fun x => (x.childOf (pkRouter p)).isSome && decide (x.parent = some (2, 0))) = true ∧
       pkLen p = 8 ∧ beAt (pkPayload p) 3 1 ≤ 3) ∧
    (∀ cause ∈ [2, 3],
     let p := cpkt 0x36 0 0 0 0 0 (beBytes 3 1 ++ beBytes 1 cause ++ zeros 4)
     takesStep live (departs live p) p (fun x => (x.childOf (pkRouter p)).isSome && x.parent.isNone) = true ∧
       pkLen p = 8 ∧ beAt (pkPayload p) 3 1 = cause) := by decide +kernel

theorem witness_CollectiveLocalCommandsComplete :
    let m : MStep := { vi := 0, slot := 0, queue := 0, desc := 0, k := 0, inAddr := 0, outAddr := 0, read := 0, directDone := 0, waited := false }
    let x := { stepping live with msteps := [m] }
    let s := grouped x up
    let late (x : Group) : State := { grouped x up with tick := { up.tick with count := 2 ^ 20 } }
    (s.group 0).state = gLive ∧
    ((s.group 0).readTurn 0 = some (m, par) ∧ m.read < (((s.group 0).step m.k).map CStep.next).getD 0 + 4 ∧
      ((s.group 0).slot 0).excused = none ∧ s.shaperAdmits 0 2 = true ∧
      (match s.viRead 0 0 (par.eb * par.elems 2 0) (some (s.get (vfPg 0 2) 0x10C)) with | .ok _ => true | .error _ => false) = true) ∧
    (let t := late (stepping live)
     ((t.group 0).slot 1).kind = 2 ∧ ((t.group 0).slot 1).takes 0 = true ∧ max ((t.group 0).slot 1).heard 0 + t.hbTicks 0 ≤ t.nowTick ∧
       (t.group 0).steps.all (fun st => st.isOpen && st.done.isNone && decide (st.k = 0 ∧ st.started = 0)) = true ∧
       (t.group 0).steps.length = 1) ∧
    (let t := late (stepping leaf)
     64 ≤ 64 ∧ (t.group 0).parent = some (1, 0) ∧ max (t.group 0).heard 0 + t.hbTicks 0 ≤ t.nowTick) := by
  refine ⟨?_, ⟨?_, ?_, ?_, ?_, ?_⟩, ⟨?_, ?_, ?_, ?_, ?_⟩, ?_⟩ <;> decide +kernel


/-! Host ports, VIs, queues and fabric memory. -/

/-- Host port h works with its link up, its VFs enabled. -/
def hosted (h : Nat) (s : State) : State :=
  ((act (hostPg h 0) s).put (hostPg h 0) 0x44 (2 ^ 31)).put (hostPg h 0) 0x48 (256 * 2 ^ 16 + 2 ^ 15)

theorem witness_HostPortCommandsComplete :
    let s := hosted 15 up
    s.portWorks 15 = true ∧ s.bget (hostPg 15 0) 0x44 31 = true ∧ s.active (hostPg 15 0) = true ∧
      (act (hostPg 0 0) up).portWorks 0 = true ∧ (act (hostPg 0 0) up).bget (hostPg 0 0) 0x44 31 = false := by decide +kernel

theorem witness_ViCommandsComplete :
    let v := 4095
    let s (st : Nat) : State := (hosted 15 up).put (viPg v) 0x44 st
    (s 3).portWorks (viPort v) = true ∧ (s 3).viState v ≠ viNone ∧
      ((s 2).works (hostPg (viPort v) 0) = true ∧ (s 2).viState v = viEnabling ∧ (s 2).bget (hostPg (viPort v) 0) 0x44 31 = true ∧
        (s 2).bget (hostPg (viPort v) 0) 0x48 15 = true ∧ viFn v ≤ (s 2).fget (hostPg (viPort v) 0) 0x48 24 16) ∧
      (s 2).viEn v = false ∧ ((s 2).put (viPg v) 0x40 1).viEn v = true ∧
      (s 4).works (hostPg (viPort v) 0) = true ∧ (s 4).viState v = viStopping := by decide +kernel

/-- VI v is ON with queue q of each kind enabled. -/
def queued (v q : Nat) (s : State) : State :=
  (((hosted (viPort v) s).put (viPg v) 0x44 3).put (vfPg v 2) (0x108 + 16 * q) (2 ^ 31 + 4 * 2 ^ 16)).put (vfPg v 3) (0x108 + 16 * q) (2 ^ 31 + 4 * 2 ^ 16)

theorem witness_QueueCommandsComplete :
    let v := 4095
    let q := 63
    let s := queued v q up
    let t := s.bump (hostPg (viPort v) 0) 4 1
    let armed := s.put (vfPg v 3) (0x108 + 16 * q) (2 ^ 31 + 4 * 2 ^ 16 + 2 ^ 15)
    let due := armed.updCq v q (fun c => { c with tail := 1 })
    let head := s.updCmq v q (fun c => { c with tail := 1 })
    let wait := s.updVi v (fun x => { x with waiting := [(q, zeros 64)] })
    (s.works (hostPg (viPort v) 0) = true ∧ t.viState v = viOn ∧ t.fatal = false) ∧
    (bit (t.cmdCtl v q) 31 = true ∧ wrapSub 32 16 (t.cmq v q).tail < 2 ^ 31 ∧ wrapSub 32 16 (t.cmq v q).head ≤ 2 ^ qSize (t.cmdCtl v q)) ∧
    ((t.cmq v q).error = 0 ∧ 2 ^ 31 ≤ wrapSub 32 (2 ^ 32 - 1) (t.cmq v q).tail ∧
      2 ^ qSize (t.cmdCtl v q) < wrapSub 32 17 (t.cmq v q).head) ∧
    (bit (t.cplCtl v q) 31 = true ∧ wrapSub 32 0 (t.cq v q).head ≤ wrapSub 32 (t.cq v q).tail (t.cq v q).head) ∧
    (bit (due.cplCtl v q) 31 = true ∧ bit (due.cplCtl v q) 15 = true ∧ (due.cq v q).head ≠ (due.cq v q).tail) ∧
    bit (t.cplCtl v q) 15 = false ∧
    (head.portWorks 15 = true ∧ head.fatal = false ∧
      argMin (fun v => wrapSub 8 (v % 256) (Tab.get (fun _ => 0) head.hostRr 15 + 1))
        ((head.vis.map Prod.fst).filter (fun v => decide (viPort v = 15) && head.viFetches v)) = some v ∧
      (head.wrrNext v).isSome = true) ∧
    ((wait.vi v).waiting.find? (fun w => !wait.cqLive v w.1 || !wait.cqFull v w.1) = some (q, zeros 64) ∧
      wait.works (hostPg (viPort v) 0) = true ∧ wait.viMayWrite v = true ∧
      (wait.updVi v (fun x => { x with waiting := delFirst (fun y => decide (y = (q, zeros 64))) x.waiting })).cqLive v q = true) := by
  refine ⟨?_, ?_, ?_, ?_, ?_, ?_, ?_, ?_⟩ <;> decide +kernel

/-- A pool of six stacks; host port h is a CXL port with a window of one unit of 2^28 bytes at its start. -/
def pooled (h : Nat) (s : State) : State :=
  ((hosted h { s with mem := { s.mem with part := some ⟨63, 0, 0, 0, 0, 0⟩ } }).put (hostPg h 0) 0x44 (2 ^ 31 + 2 ^ 30)).put (hostPg h 1) 0x44 1

theorem witness_FabricMemoryCommandsComplete :
    let s := pooled 3 up
    let x : Snoop := { line := 7, owed := [3], start := 0, waiting := [], unsent := [(4, false)] }
    let t := { s with mem := { s.mem with snoops := [x] }, tick := { s.tick with count := 2 ^ 31 } }
    s.works (hostPg 3 0) = true ∧ s.bget (hostPg 3 0) 0x44 30 = true ∧
      2 ^ 28 - 1 < s.fget (hostPg 3 1) 0x44 17 0 * 2 ^ 28 ∧ 3 ∉ s.mem.poisoned ∧
      s.fget (hostPg 3 1) 0x40 17 0 * 2 ^ 28 + (2 ^ 28 - 1) / 64 * 64 + 64 ≤ s.poolSize ∧
      s.fget (hostPg 3 1) 0x44 17 0 * 2 ^ 28 ≤ 2 ^ 28 ∧
      t.snoopOf 7 = some x ∧ 3 ∈ x.owed ∧ x.unsent.all (fun e => decide (e.1 ≠ 3)) = true ∧ x.start + 2 ^ max 4 (t.fget (hbmcPg (t.lineStack 7) 0) 0x40 4 0) ≤ t.nowTick := by
  decide +kernel

theorem witness_PoolReadsWhatWasWritten :
    Memory.wf (pooled 3 up).mem = true ∧ Memory.wf ((pooled 3 up).poolPut 60 (padTo [1, 2, 3] 8)).mem = true ∧
      ((pooled 3 up).poolPut 60 (padTo [1, 2, 3] 8)).poolGet 61 2 = [2, 3] ∧
      (60 + 8 ≤ 68 ∧ ((pooled 3 up).poolPut 60 (padTo [1, 2, 3] 8)).poolGet 68 4 = (pooled 3 up).poolGet 68 4) := by decide +kernel


/-! Firmware, triggers, cleats, dumps and the Lanyard. -/

/-- An image of the engines' KIND with 64 bytes of code (R492); its signature field is zero. -/
def image : Bytes :=
  leBytes 4 0x4C485846 ++ [1, 1] ++ leBytes 2 0x300 ++ leBytes 4 0 ++ leBytes 4 64 ++ zeros 16 ++ sha384 (zeros 64) ++ zeros 240

/-- An activation of bank 1 for a KIND, whose frame names the image's VERSION and the start of its digest. -/
def fwAct (begun : Bool) (todo : List Nat) : FwAct :=
  { bank := 1, raiseSvn := false, checked := begun, begun := begun, todo := todo, path := .mgmt, tick := 5,
    frame := patch (zeros 64) 0x24 (beBytes 2 16) ++ beBytes 4 0x00010100 ++ beBytes 2 0x300 ++ zeros 2 ++ (sha384 (zeros 64)).take 8 }

def activating (kind : Nat) (a : FwAct) (s : State) : State := s.setFwAct kind (some a)

theorem witness_FirmwareCommandsComplete :
    let s (kind : Nat) := activating kind (fwAct false []) up
    let r (todo : List Nat) := activating 1 (fwAct true todo) up
    let both := (act (cluPg 4) (act (cluPg 5) (r [5, 4, 3])))
    let odd := (act (cluPg 4) (act (cluPg 5) (r [5, 3])))
    let run := ((act (engPg 8) up).setReload 1 (some (5, 1, false)))
    (∀ kind ∈ [1, 2], (s kind).fwActOf kind = some (fwAct false []) ∧ (fwAct false []).checked = false ∧ (s kind).pwr.aux = true ∧
      (s kind).zyn.mcReset = false ∧ (s kind).activationCheck kind (fwAct false []) ≠ 0) ∧
    ((r [5]).fwActOf 1 = some (fwAct true [5]) ∧ (r [5]).fatal = false ∧ (fwAct true [5]).begun = true ∧ 5 ∈ (fwAct true [5]).todo ∧
      (r [5]).reloadOf 5 = none ∧ (r [5]).svcState (cluPg 5) ≠ svcActive) ∧
    (both.fwActOf 1 = some (fwAct true [5, 4, 3]) ∧ 4 ∈ (fwAct true [5, 4, 3]).todo ∧ both.reloadOf 4 = none ∧
      both.svcState (cluPg 4) = svcActive ∧ both.svcState (cluPg (Nat.xor 4 1)) = svcActive ∧ ¬ 4 % 2 = 1) ∧
    (5 ∈ (fwAct true [5, 3]).todo ∧ odd.svcState (cluPg 5) = svcActive ∧ odd.svcState (cluPg (Nat.xor 5 1)) = svcActive ∧
      (fwAct true [5, 3]).todo.all (fun d => decide (d % 2 ≠ 0)) = true) ∧
    (let tested := ((List.range 8).map (fun n => 8 * 1 + n)).filter (fun e => run.works (engPg e))
     run.reloadOf 1 = some (5, 1, false) ∧ run.fatal = false ∧
       (tested.filter (fun e => decide (e ∈ ([] : List Nat)))).length ≠ tested.length ∧
       (tested.filter (fun e => decide (e ∈ (List.range 128)))).length = tested.length) ∧
    (let t := { run with tick := { run.tick with count := 1029 } }
     t.reloadOf 1 = some (5, 1, false) ∧ 5 + 1024 ≤ t.nowTick) ∧
    (let t := up.put (pstoPg 1) 0x5C (2 ^ 31); t.pwr.aux = true ∧ t.bget (pstoPg 1) 0x5C 31 = true) := by
  refine ⟨?_, ?_, ?_, ?_, ?_, ?_, ?_⟩ <;> decide +kernel

/-- An image whose signature its key verifies passes the check of its activation, for either KIND. -/
theorem witness_FirmwareActivationPasses (kind : Nat) (hk : kind = 1 ∨ kind = 2) :
    let b := patch image 5 (leBytes 1 kind)
    let s := activating kind (fwAct false []) { up with psto := { up.psto with fwBank := Tab.set (fun _ => ([] : Bytes)) up.psto.fwBank (fwIdx kind 1) b } }
    Config.sigOk 0 (slice b 0 128) (slice b 0x80 96) = true → s.activationCheck kind (fwAct false []) = 0 := by
  intro b s h
  have hc : s.imageCheck kind 1 = 0 := by
    have h0 : imKey b = 0 := by rcases hk with rfl | rfl <;> decide +kernel
    have hb : s.fwImage kind 1 = b := by rcases hk with rfl | rfl <;> decide +kernel
    unfold State.imageCheck
    simp only [hb, h0, h]
    rcases hk with rfl | rfl <;> decide +kernel
  unfold State.activationCheck
  show (if s.imageCheck kind 1 ≠ 0 then _ else _) = _
  rw [hc]
  rcases hk with rfl | rfl <;> decide +kernel

theorem witness_TriggerCommandsComplete :
    let d (op : Nat) (fs : List (Nat × Nat × Nat)) : Desc := desc (dsc op fs)
    let s (d : Desc) : State := holding 5 d routed
    let b := dsc 0 []
    let firing : Chain := { chainD 0 with state := 2, entries := [b], next := 0, firing := 4 }
    let f (ok : Bool) (c : Option Nat) : Firing := { id := 4, slot := 63, left := 0, ok := ok, doneCtr := c }
    (∀ op ∈ [0x30, 0x31, 0x32, 0x33, 0x34], (s (d op [])).headDesc 5 0 op = some (d op [])) ∧
    (let e := d 0x34 []
     (match (((s e).beginDesc 5 e).stage1 5).viWrite 5 (dLaddr e.bytes) (some e.keys)
          (leBytes 8 ((((s e).beginDesc 5 e).stage1 5).trigCtr 5 (dCtr e.bytes))) with | .ok _ => true | .error _ => false) = true) ∧
    (let e := d 0x30 [(0x18, 1, 1), (0x19, 1, 63)]
     (s e).headDesc 5 0 0x30 = some e ∧ ((((s e).beginDesc 5 e).stage1 5).arm 5 e b).1 = stOk) ∧
    (let e := d 0x31 [(0x19, 1, 63)]
     (s e).headDesc 5 0 0x31 = some e ∧ ((((s e).beginDesc 5 e).stage1 5).chain 5 (dSlot e.bytes)).state ≠ 2 ∧ dLaddr e.bytes = 0) ∧
    (let s := (((queued 5 0 up).updVi 5 (fun x => { x with chains := [(63, firing)] }))).put (engPg 7) 0x40 2
     let s := act (engPg 7) s
     s.viState 5 = viOn ∧ s.fatal = false ∧ (s.chain 5 63).state = 2 ∧ s.servesChains 7 (viPort 5) = true ∧
       (s.vi 5).descs.all (fun d => decide (d.firing ≠ some (s.chain 5 63).firing) || (!(s.chain 5 63).orderAll && d.begun)) = true ∧
       (s.chain 5 63).entries[(s.chain 5 63).next]? = some b ∧ bit (s.cplCtl 5 (dCplq b)) 31 = true ∧ descOk b = true) ∧
    (∀ x ∈ [f true (some 9), f true none, f false (some 9)],
      ((up.updVi 5 (fun v => { v with firings := [x] })).vi 5).firings.find? (fun f => decide (f.slot = 63 ∧ f.left = 0)) = some x) ∧
    (let s := { act (cluPg 15) up with trig := [(15, [⟨5, 1, true, 9⟩])] }
     s.powered (cluPg 15) = true ∧ Tab.get (fun _ => ([] : List TrigChange)) s.trig 15 = [⟨5, 1, true, 9⟩]) ∧
    (let s := act (engPg 127) up; s.works (engPg 127) = true ∧ s.sharesRun 127 = []) := by
  refine ⟨?_, ?_, ?_, ?_, ?_, ?_, ?_, ?_⟩ <;> decide +kernel

theorem witness_CleatAndDumpCommandsComplete :
    let a := 0xC00400
    let held := up.updCleat 0 (fun c => { c with holder := some (.origin 0x11) })
    let x : Stall := { id := 2, cleat := 0, agent := .origin 0x10, addr := a, start := 0, limit := 1024, access := none }
    let d (done live : Bool) : DumpRun := { live := live, origin := 0, host := done, start := 5, cycle := 0, done := done }
    let s (r : DumpRun) : State := { up with relia := { up.relia with dump := some r } }
    (up.cleatWord 0x10 a = .cleat 0 ∧ up.cleatWord 0x10 0xC07BFC = .cleat 4095 ∧ (APath.bar0 0).origin = 0x10 ∧
      pathReaches (.bar0 0) a = true ∧ pathReaches (.bar0 0) 0xC07BFC = true ∧ up.slotFree (pathStop (.bar0 0)) cleatStop 0 = true ∧
      ({ up with noc := { up.noc with taken := [(reqKey cleatStop (pathStop (.bar0 0)) 0, 4)] } }).slotFree (pathStop (.bar0 0))
        cleatStop 0 = false ∧ (a + 3) % 4 ≠ 0) ∧
    (up.cleatReadBy 0 (.origin 0x10) a none).2.isSome = true ∧ (held.cleatReadBy 0 (.origin 0x10) a none).2 = none ∧
    ({ up with stalls := [x] }.stalls.find? (fun x => decide (x.id = 2)) = some x ∧ x.start + x.limit ≤ up.nowAbs) ∧
    ((s (d false false)).relia.dump = some (d false false) ∧ (d false false).done = false) ∧
    (let t := { s (d false false) with tick := { up.tick with count := 2 ^ 40 } }
     t.relia.dump = some (d false false) ∧ (d false false).start + t.dumpLimit ≤ t.nowTick) ∧
    (let t := (s (d true false)).put (hostPg ((s (d true false)).fget (glbPg 5) 0x4C 23 20) 0) 0x44 (2 ^ 31)
     t.relia.dump = some (d true false) ∧ (d true false).done = true ∧ t.bget (hostPg (t.fget (glbPg 5) 0x4C 23 20) 0) 0x44 31 = true ∧
       (s (d true false)).bget (hostPg ((s (d true false)).fget (glbPg 5) 0x4C 23 20) 0) 0x44 31 = false ∧
       (d true false).live = false ∧ Registers.wf t.regs = true) := by
  refine ⟨?_, ?_, ?_, ?_, ?_, ?_, ?_⟩ <;> decide +kernel

/-- A LANY frame of the twin with serial number 9, and a module paired with it in a state of LANY.STAT. -/
def fromNine (sub : Nat) : Bytes := beBytes 1 sub ++ zeros 3 ++ beBytes 8 9 ++ zeros 52
def paired (st : Nat) (f : Bytes) : State :=
  (regs [(lanyPg 0, 0x40, 2 ^ 31), (lanyPg 0, 0x44, st), (lanyPg 0, 0x48, 9), (lanyPg 0, 0x4C, 0)] up).updLink 3 (fun l => { l with lanyIn := [f] })

theorem witness_LanyardCommandsComplete :
    (∀ sub ∈ [1, 3, 4], (match (paired laPaired (fromNine sub)).takeLany 3 sub with
      | some (f, t) => decide (f = fromNine sub) && t.fromTwin f && !t.lany.frozen && !(t.raise (lanyPg 0) 19).fatal &&
          decide ((t.raise (lanyPg 0) 19).lanyState ≠ laTaken)
      | none => false) = true) ∧
    (∀ st ∈ [laSyncing, laPaired],
      let s := { paired st (fromNine 1) with tick := { up.tick with count := 2 ^ 40 } }
      s.lanyState = st ∧ s.lany.lostSince + s.lostTicks ≤ s.nowTick ∧ s.bget (lanyPg 1) (0x40 + 4 * 15) 31 = false ∧
        Tab.get (fun _ => 0) s.lany.committed 15 + s.lostTicks ≤ s.nowTick) ∧
    (let m : List Bytes := [beBytes 1 1 ++ zeros 47]
     let s := paired laTaken (fromNine 1)
     let s := { s with lany := { s.lany with mirror := [(3, m)], lostSince := 1 } }
     s.lanyState = laTaken ∧ s.fatal = false ∧ Tab.get (fun _ => ([] : List Bytes)) s.lany.mirror 3 = m ∧ m ≠ [] ∧
       s.lany.mirror.all (fun e => decide (3 ≤ e.1) || e.2.isEmpty) = true ∧ s.lany.lostSince < s.nowTick ∧
       ([] : List Bytes).length = (s.mirrorCtxs 3).foldl (fun n r => n + ((ofCtx r 2 m).filter needsPayload).length) 0) := by
  refine ⟨?_, ?_, ?_⟩ <;> decide +kernel


/-! Service, errors, and the rules of the whole register map. -/

theorem witness_ServiceAndErrorCommandsComplete :
    (let s := { up with zyn := { up.zyn with mcResetDue := true } }; s.pwr.aux = true ∧ s.zyn.mcResetDue = true) ∧
    up.zyn.mcReset = false ∧ { up with zyn := { up.zyn with mcReset := true } }.zyn.mcReset = true ∧
    (pageOfCode (pageCode (collPg 1 0)) = some (collPg 1 0) ∧ up.powered (collPg 1 0) = true) ∧
    (let s := up.put (glbPg 0) 0xC (svcDraining * 16)
     s.svcState (glbPg 0) = svcDraining ∧ (instPages .tile ++ instPages .xpt).all s.drained = true) ∧
    (let s := { up.put (glbPg 0) 0xC (svcDraining * 16) with tick := { up.tick with count := 2 ^ 40 } }
     s.powered (glbPg 0) = true ∧ s.overdue (glbPg 0) = true ∧ Tab.get (fun _ => false) s.svc.drainTold (pageCode (glbPg 0)) = false) ∧
    (act (engPg 127) up).works (engPg 127) = true ∧ (act (tilePg 63) up).works (tilePg 63) = true ∧
    (act (nocPg 63) up).works (nocPg 63) = true ∧ (act (hbmcPg 5 0) up).works (hbmcPg 5 0) = true ∧
    (up.powered routePg = true ∧ (up.rowError routePg 25 1).fatal = false) ∧
    (act (portPg 511) up).works (portPg 511) = true ∧ (act (hostPg 15 0) up).works (hostPg 15 0) = true := by
  refine ⟨?_, ?_, ?_, ?_, ?_, ?_, ?_, ?_, ?_, ?_, ?_, ?_, ?_⟩ <;> decide +kernel

theorem witness_UndefinedOffsetsReadZero :
    (locate ((glbPg 0).addr + 0xFFC) = some (glbPg 0, 0xFFC) ∧ regRow (glbPg 0) 0xFFC = none ∧ ((glbPg 0).addr + 0xFFC) % 4 = 0 ∧
      up.pageOn (glbPg 0) = true ∧ up.zNow = none ∧ pathReaches (.engine 127) ((glbPg 0).addr + 0xFFF) = true ∧
      accessPage ((glbPg 0).addr + 0xFFF) = some (glbPg 0)) ∧
    (locate (vfBase - 4) = none ∧ 0xF00000 ≤ vfBase - 4 ∧ vfBase - 4 < vfBase) ∧
    (locate 0xDFFFFC = none ∧ 0xDFFFFC < 0xE00000) := by decide +kernel

theorem witness_BarredReadsReturnZero :
    ((APath.bar0 2).origin = 0x12 ∧ (APath.engine 0).origin = 0x100 ∧ up.readBarred (hostPg 3 0) 0x12 = true ∧ locate ((hostPg 3 0).addr + 0x44) = some (hostPg 3 0, 0x44)) ∧
    (up.readBarred (viPg 256) 0x10 = true ∧ up.readBarred (viPg 255) 0x10 = false) ∧
    (up.readBarred (jrnlPg 1) 0x100 = true ∧ up.readBarred (jrnlPg 1) 1 = false) ∧
    (let s := act (hostPg 2 0) up
     s.readBarred (hostPg 2 0) 0x12 = false ∧ pathReaches (.bar0 2) ((hostPg 2 0).addr + 0x44) = true ∧ s.pageOn (hostPg 2 0) = true ∧ (regRow (hostPg 2 0) 0x44).isSome = true ∧
       locate ((hostPg 2 0).addr + 0x44) = some (hostPg 2 0, 0x44) ∧
       Tab.get noLatch s.latches (65536 * pageCode (hostPg 2 0) + 0x12) = none) := by decide +kernel

theorem witness_PassedCounterBecomesHighWaterMark :
    let auth (f : Bytes) : Bool := keyed.zCheck1 f && (if zOp f = 6 then keyed.zCheckLoad .mgmt f else keyed.zCheck2 .mgmt f)
    Tab.wf hwmD keyed.zyn.hwm = true ∧
      (auth fSvc = true ∧ keyed.hwm (zOrigin fSvc) < zCtr fSvc ∧ (hwmIdx (zOrigin fSvc)).isSome = true ∧ hwmIdx 1 ≠ hwmIdx (zOrigin fSvc)) ∧
      auth (fSvc.dropLast ++ [0]) = false := by
  refine ⟨?_, ⟨?_, ?_, ?_, ?_⟩, ?_⟩ <;> decide +kernel

theorem witness_ChainedCountersCountWraps :
    let p := portPg 0
    let s (last : Nat) : State := (((up.put p 0xC80 1).putCtr p 0 (2 ^ 48 - 1)).putCtr p 1 last)
    let two := (((up.put p 0xC80 0x3).putCtr p 0 (2 ^ 48 - 1)).putCtr p 1 (2 ^ 48 - 1)).putCtr p 2 5
    ctrMask p = some 0xFFFF ∧
      (∀ last ∈ [0, 2 ^ 48 - 1], Registers.wf (s last).regs = true ∧ (s last).bget p 0xC80 0 = true ∧ (s last).ctr p 0 < 2 ^ 48 ∧
        (s last).ctr p 1 = last ∧ (s last).bget p 0xC80 1 = false ∧ 2 ^ 48 ≤ (s last).ctr p 0 + 1) ∧
      (two.bget p 0xC80 0 = true ∧ two.bget p 0xC80 1 = true ∧ two.ctr p 1 + 1 = 2 ^ 48 ∧ two.ctr p 2 = 5 ∧
        (two.bump p 0 1).ctr p 2 = 6) ∧
      (ctrMask (glbPg 4) = some 0x1fff ∧ bit 0x1fff 13 = false ∧
        (let t := ((act (glbPg 4) up).put (glbPg 4) 0xC80 (2 ^ 12)).putCtr (glbPg 4) 12 (2 ^ 48 - 1)
         t.bget (glbPg 4) 0xC80 12 = true ∧ t.bget (glbPg 4) 0xC80 11 = false ∧ 2 ^ 48 ≤ t.ctr (glbPg 4) 12 + 1 ∧
           t.ctr (glbPg 4) 13 < 2 ^ 48)) := by
  decide +kernel

theorem witness_PinCommandsTouchNamedRegisters :
    (∀ b : Bool, goes (exec (.stage2Mate b) up) = true ∧ goes (exec (.presenceDebounced b) up) = true ∧ goes (exec (.attnReq b) up) = true ∧
      goes (exec (.presenceMate b) up) = true) ∧ goes (exec (.routeReplicaReload 1 true) up) = true ∧
    goes (exec .prsntSkewTimeout up) = true ∧ goes (exec (.mainEnAssert 1) up) = true ∧ goes (exec .weightsInForce up) = true ∧
    goes (exec (.identResendTimer 1) up) = true ∧ goes (exec (.emptyAckTimer 1) up) = true ∧ goes (exec .mainGood up) = true ∧
    goes (exec (.losClear 1 0) up) = true ∧ goes (exec (.lolClear 1 1) up) = true ∧ goes (exec .copyComplete up) = true ∧
    goes (exec (.routeTableWindowWrite .firmware 0x10 5) up) = true ∧
    (glbPg 0).addr + 0x48 ≠ (mgmtPg 3).addr + 0x40 ∧ (glbPg 0).addr + 0x4C ≠ (glbPg 0).addr + 0x48 := by
  refine ⟨?_, ?_, ?_, ?_, ?_, ?_, ?_, ?_, ?_, ?_, ?_, ?_, ?_, ?_⟩ <;> decide +kernel


theorem witness_OriginsRankInOrder : 14 < 16 ∧ 126 < 128 ∧ 4094 < 4096 ∧ rankKey 0x1E < rankKey 0x1F := by decide

/-! Ill-formed commands, one for each check. -/

theorem test_wf_operands_within_counts :
    ([.portUp 512, .bondFormed 512 0, .losClear 0 2, .stepChange 512, .perst 16, .vfFlr 4096, .put 0 64, .put 4096 0, .engineWatchdog 128,
      .clusterReload 16, .packetBufferEccError 64 0 true 0, .packetBufferEccError 0 1024 true 0, .routeDecision 0 9 0, .routeDecision 0 0 16,
      .packetAdmit 8 [], .spareSelectorMove 16 0 0, .spareSelectorMove 0 4 0, .clearanceScheduling 0 0 2048, .descriptorEccError (2 ^ 22) true 0,
      .chainFiringComplete 0 64, .repairTimeout 4096, .hbmEccError 6 0 true, .ringHopParityError 64 0, .fwImageCheckEnd 3,
      .keyPendingEffect 8, .journalRecordRead .session 8, .routeTableWindowWrite .firmware 131072 0, .routeTableWindowWrite (.bar0 16) 4 0,
      .selfTestVerdict 0 0 0, .selfTestVerdict 0 4 0, .birspTimeout (2 ^ 33) 0, .atsInvalidate 0 257 0 0] : List Instr).all
        (fun c => !c.wf) = true := by decide +kernel

theorem test_wf_plain_data :
    (RegWrite.wf ⟨.vfBar 4096, 0, 0⟩ = false ∧ RegWrite.wf ⟨.command 0, 0, 0⟩ = false ∧ RegWrite.wf ⟨.firmware, 0x20000000, 0⟩ = false ∧
      RegWrite.wf ⟨.firmware, 0x1FFFFFFC, 0⟩ = true) ∧
    ((ZPath.host 16).wf = false ∧ (ZPath.engine 128).wf = false ∧ ZPath.mgmt.wf = true) ∧
    ((LaneObs.mk 512 0 0 0 0 0 0 false).wf = false ∧ (LaneObs.mk 0 0 1 0 2 0 0 false).wf = false ∧ (LaneObs.mk 0 0 1 0 1 256 0 false).wf = false) ∧
    ((TickObs.mk [] [9] [] []).wf = false ∧ (TickObs.mk [] [31] [(8, 2047)] [5]).wf = true ∧ (TickObs.mk [] [] [(9, 0)] []).wf = false) ∧
    ((HostCfg.mk false 17 0 0 false false false false false false 0 0).wf = false ∧
      (HostCfg.mk false 16 7 0 false false false false false false 0 0).wf = false ∧
      (HostCfg.mk false 16 6 257 false false false false false false 0 0).wf = false) ∧
    (ThermalReading.mk 65536 0 0 0 0 0 0 0 0).wf = false := by decide

theorem test_wf_commands_with_data :
    Instr.wf (.wiluthDataReceive (zeros 63)) = false ∧ Instr.wf (.wiluthDataReceive (zeros 64)) = true ∧
    Instr.wf (.retransmitTimerExpiry 0 0 (2 ^ 24)) = false ∧ Instr.wf (.contextIdleClose (2 ^ 29) 0) = false ∧
    Instr.wf (.cxlMemRequest 0 .write 0 (zeros 65)) = false ∧ Instr.wf (.postComplete [65536]) = false ∧
    Instr.wf (.clusterReloadComplete 0 [128]) = false := by decide +kernel

/-! Worked examples and published check values. -/

/-- 04_register_model.md, after R80. -/
theorem test_page_addresses :
    (lanePg 100).addr = 0x1C9000 ∧ (mgmtPg 3).addr = 0x53000 ∧ (viPg 1000).addr = 0x13E8000 ∧
      locate 0x1C9004 = some (lanePg 100, 4) := by decide +kernel

/-- 05_zynken_commands.md, the worked example's OBJECT and journal PAGE. -/
theorem test_zynken_object : clsOfCode (oClass 0x10064000) = some .port ∧ oInst 0x10064000 = 100 ∧ oPage 0x10064000 = 0 ∧
    pageCode (portPg 100) = 0x1C8 := by decide +kernel

/-- 09_routing.md, the table after R228, on the reference machine's 20 by 20 by 24 routers (00_scope.md). -/
theorem test_router_index :
    let w (l : List (Nat × Nat)) : Tab Word := l.foldl (fun t e => Tab.set (fun _ => 0) t e.1 (BitVec.ofNat 32 e.2)) []
    let s := regs [(routePg, 0x44, 0x300)] { up with route := { up.route with bank1 := w [(8, 3), (0xC, 20 + 20 * 2 ^ 8 + 24 * 2 ^ 16)] } }
    s.rIndex true 0x05A23 = 9143 ∧ s.rIndex true 0x0122B = 1951 ∧ s.routers true = 9600 ∧ coord 0x05A23 0 = 3 ∧ coord 0x05A23 1 = 17 ∧
      coord 0x05A23 2 = 22 ∧ s.inFabric true 0x05A23 = true ∧ s.inFabric true (24 * 2 ^ 10) = false := by decide +kernel

/-- 11_remote_memory.md, after R310, and the generation that continues at 1. -/
theorem test_remote_key :
    0x214C07 * 1024 + 0x05A = 0x85301C5A ∧ mwuOfWin 0x214C07 = 2 ∧ mwuOfVi (8 * 256) = 2 ∧ mwuOfVi (11 * 256 + 255) = 2 ∧
      genAdv 1023 1 = 1 ∧ genAdv 0x059 1 = 0x05A := by decide +kernel

/-- R141 at 0, 1 symbol in 10 and 1 in 10^6, and at the cap. -/
theorem test_figure_of_merit : fomOf 1 1 = 0 ∧ fomOf 1 10 = 16 ∧ fomOf 1 1000000 = 96 ∧ fomOf 3 1000 = 40 ∧ fomOf 1 (10 ^ 17) = 255 := by
  decide +kernel

/-- The check values of the CRC catalogues for "123456789" (polynomials of R137, R166 and R270). -/
theorem test_crc :
    let b : Bytes := (List.range 9).map (fun i => BitVec.ofNat 8 (0x31 + i))
    crc16 b = 0x29B1 ∧ crc32 b = 0xCBF43926 ∧ crc32c b = 0xE3069283 := by decide +kernel

/-- FIPS 180-4's example of SHA-256, "abc". -/
theorem test_sha256 : beNat (sha256 [0x61, 0x62, 0x63]) =
    0xBA7816BF8F01CFEA414140DE5DAE2223B00361A396177A9CB410FF61F20015AD := by decide +kernel

/-- FIPS 180-4's example of SHA-384, "abc". -/
theorem test_sha384 : beNat (sha384 [0x61, 0x62, 0x63]) =
    0xCB00753F45A35E8BB5A03D699AC65007272C32AB0EDED1631A8B605A43FF5BED8086072BA1E7CC2358BAECA134C825A7 := by decide +kernel

/-- 13_collectives.md, the worked example of exact mode: Y's partial sum, and the rounded total. -/
theorem test_exact_sum :
    let a := Exact.ofWord 3 0x43B0000000000000
    let b := Exact.ofWord 3 0x3FF0000000000000
    let c := Exact.ofWord 3 0xC3B0000000000000
    let d := Exact.ofWord 3 0x3C30000000000000
    beNat (Exact.encode 3 (c.add d)) = 0x8F * 2 ^ 192 + 0xFFFFC00000000000 * 2 ^ 128 + 0x0040000000000000 ∧
      (Exact.encode 3 (c.add d)).length = 25 ∧ Exact.toWord 3 (((c.add d).add b).add a) = 0x3FF0000000000000 ∧
      Exact.toWord 3 (((a.add b).add c).add d) = 0x3FF0000000000000 ∧
      fpAdd 11 52 (fpAdd 11 52 0x43B0000000000000 0x3FF0000000000000) (fpAdd 11 52 0xC3B0000000000000 0x3C30000000000000) = 0 := by
  decide +kernel

end Sys2Proof.Machine.Checks
end

/-! The scope's rules on registers: what an accepted write leaves (R5 R104), and accesses where no
field map defines a register (R7 R8 R82). -/

namespace Sys2Proof.Machine

/-! What the collar of a page reads after an accepted change (R104). -/

theorem State.get_chg_ne {s : State} {p q : PageRef} {o : Nat} (hseq : q.addr + o ≠ p.addr + 0x24)
    (htick : q.addr + o ≠ p.addr + 0x28) : (s.chg p).get q o = s.get q o := by
  rw [State.chg, State.get_put_ne htick.symm, State.get_put_ne hseq.symm]

theorem State.get_chg_chgseq (s : State) (p : PageRef) (hw : Registers.wf s.regs = true) :
    (s.chg p).get p 0x24 = (s.get p 0x24 + 1) % 2 ^ 32 := by
  rw [State.chg, State.get_put_ne (by omega), State.get_put hw, Nat.mod_mod]

theorem State.get_chg_chgtick (s : State) (p : PageRef) (hw : Registers.wf s.regs = true) :
    (s.chg p).get p 0x28 = s.nowTick % 2 ^ 32 := by
  rw [State.chg, State.get_put (State.put_wf hw _ _ _), Nat.mod_mod]

/-! How a write is judged (R97). -/

/-- A write that takes effect passed the checks before its row's, so its row judges it. -/
theorem State.judge_eq_judgeRow {s : State} {w : RegWrite} {m : Option Nat} {p : PageRef} {off : Nat} {r : RegRow}
    (hl : locate w.addr = some (p, off)) (hr : regRow p off = some r) (hf : (s.judge (w, m)).fate = .ok) :
    s.judge (w, m) = s.judgeRow w m p off r := by
  simp only [State.judge, hl, hr] at hf ⊢
  split_ifs at hf ⊢
  rfl

/-- A write judged as one of a single register names that register, and carries the bits that its mask lets through. -/
theorem State.judgeRow_single {s : State} {w : RegWrite} {m : Option Nat} {p : PageRef} {off : Nat} {r : RegRow}
    (h : (s.judgeRow w m p off r).pair = false) : ∃ new fate, s.judgeRow w m p off r =
      ⟨w, m, p, off, false, Nat.land w.value.toNat (m.getD 0xFFFFFFFF), s.getFor p off w.origin, new, fate⟩ := by
  revert h
  unfold State.judgeRow
  generalize (if isHi p off then regRow p (off - 4) else none) = lo
  dsimp only
  split
  · exact fun _ => ⟨_, _, rfl⟩
  split
  · exact fun _ => ⟨_, _, rfl⟩
  split
  · exact fun _ => ⟨_, _, rfl⟩
  split
  · exact fun _ => ⟨_, _, rfl⟩
  cases lo with
  | none => exact fun _ => ⟨_, _, rfl⟩
  | some l => exact fun h => Bool.noConfusion h

/-! How an accepted write of one register is stored. -/

theorem State.storeOne_single {s : State} {j : Judged} {r : RegRow} (hf : j.fate = .ok) (hp : j.pair = false)
    (hr : regRow j.p j.off = some r) :
    (s.storeOne j).1 = (s.putFor j.p j.off j.w.origin (Nat.land (s.adjust j.p j.off (s.getFor j.p j.off j.w.origin)
      (r.apply (j.mask.getD 0xFFFFFFFF) (s.getFor j.p j.off j.w.origin) j.val)) (Nat.xor 0xFFFFFFFF r.wo))).chg j.p := by
  simp [State.storeOne, hf, hp, hr]

theorem State.getFor_shared {s : State} {p : PageRef} {off : Nat} (h : isOwn p off = false) (o : Nat) :
    s.getFor p off o = s.get p off := by
  simp [State.getFor, h]

theorem State.putFor_shared {s : State} {p : PageRef} {off : Nat} (h : isOwn p off = false) (o v : Nat) :
    s.putFor p off o v = s.put p off v := by
  simp [State.putFor, h]

theorem isOwn_of_row {p : PageRef} {off : Nat} {r : RegRow} (hr : regRow p off = some r) : isOwn p off = r.perOrigin := by
  simp [isOwn, hr]

theorem Word.land_allOnes (v : Word) : Nat.land v.toNat 0xFFFFFFFF = v.toNat :=
  (Nat.and_two_pow_sub_one_eq_mod v.toNat 32).trans (Nat.mod_eq_of_lt v.isLt)

/-- An accepted direct write of a register that all origins share is one `put` and the page's change marks. -/
theorem State.storeOne_accepted {s : State} {w : RegWrite} {p : PageRef} {off : Nat} {r : RegRow}
    (hl : locate w.addr = some (p, off)) (hr : regRow p off = some r) (hown : r.perOrigin = false)
    (hf : (s.judge (w, none)).fate = .ok) (hp : (s.judge (w, none)).pair = false) :
    (s.storeOne (s.judge (w, none))).1 = (s.put p off (Nat.land
      (s.adjust p off (s.get p off) (r.apply 0xFFFFFFFF (s.get p off) w.value.toNat)) (Nat.xor 0xFFFFFFFF r.wo))).chg p := by
  have hrow := State.judge_eq_judgeRow hl hr hf
  have hshared : isOwn p off = false := (isOwn_of_row hr).trans hown
  rw [hrow] at hf hp ⊢
  obtain ⟨new, fate, hj⟩ := State.judgeRow_single hp
  rw [hj] at hf hp ⊢
  rw [State.storeOne_single hf hp hr, State.getFor_shared hshared, State.putFor_shared hshared, Option.getD_none,
    Word.land_allOnes]

/-- Settles O19: the store is one `put` followed by the page's change marks, which lie at two other offsets. -/
theorem acceptedWriteStoresAndCounts : Obligations.AcceptedWriteStoresAndCounts := by
  unfold Obligations.AcceptedWriteStoresAndCounts
  intro s w p off r hw hl hr hown hseq htick hf hp
  rw [State.storeOne_accepted hl hr hown hf hp]
  refine ⟨?_, ?_, ?_, ?_⟩
  · rw [State.get_chg_ne (by omega) (by omega), State.get_put hw]
  · rw [State.get_chg_chgseq _ _ (State.put_wf hw _ _ _), State.get_put_ne (by omega)]
  · rw [State.get_chg_chgtick _ _ (State.put_wf hw _ _ _)]
    rfl
  · intro q o ⟨hoff, hs, ht⟩
    rw [State.get_chg_ne hs ht, State.get_put_ne hoff.symm]

/-! Accesses where no field map defines a register (R7 R82). -/

/-- No register lies at an address: it is in no page, or at an offset of one that no field map defines (R82). -/
def UndefinedAt (a : Nat) : Prop := ∀ p off, locate a = some (p, off) → regRow p off = none

theorem State.judge_undefined (s : State) {w : RegWrite} (ha : w.addr % 4 = 0) (hu : UndefinedAt w.addr) :
    (s.judge (w, none)).fate = .skip := by
  simp only [State.judge, ha, ne_eq, not_true_eq_false, if_false]
  cases hl : locate w.addr with
  | none => split_ifs <;> rfl
  | some e =>
    simp only [hu e.1 e.2 hl]
    split_ifs <;> rfl

theorem State.judge_unaligned {s : State} {w : RegWrite} (hp : pathReaches w.path w.addr = true) (ha : w.addr % 4 ≠ 0) :
    (s.judge (w, none)).fate = .access ∧ (s.judge (w, none)).w = w := by
  simp [State.judge, hp, ha]

theorem State.directWrites_nil (s : State) (rival : Option Rival) : s.directWrites rival [] = (s, []) := rfl

/-- One direct write that is neither stored nor held only sets the error bit it is blamed for. -/
theorem State.directWrites_single {s : State} {w : RegWrite} (rival : Option Rival)
    (hok : (s.judge (w, none)).fate ≠ .ok) (hheld : (s.judge (w, none)).fate ≠ .held) :
    s.directWrites rival [w] = (s.blame (s.judge (w, none)), [s.judge (w, none)]) := by
  have hhold : s.holdLo (w, none) = s := by simp [State.holdLo, hheld]
  simp [State.directWrites, State.runWrites, hhold, settle1, insRank, State.storeOne, hok]

/-- A write that is ignored. -/
theorem State.directWrites_skip {s : State} {w : RegWrite} (rival : Option Rival)
    (hs : (s.judge (w, none)).fate = .skip) : s.directWrites rival [w] = (s, [s.judge (w, none)]) := by
  rw [State.directWrites_single rival (by simp [hs]) (by simp [hs])]
  simp [State.blame, hs]

theorem State.records_skip (s0 s : State) {js : List Judged} (h : ∀ j ∈ js, j.fate = .skip) : s0.records s js = s := by
  induction js with
  | nil => rfl
  | cons j js ih =>
    have hj : s0.recordOne s j = s := by simp [State.recordOne, h j (by simp)]
    rw [State.records, List.foldl_cons, hj]
    exact ih fun k hk => h k (by simp [hk])

theorem State.judgeAll_skip {s : State} {w : RegWrite} (hs : (s.judge (w, none)).fate = .skip) :
    s.judgeAll [(w, none)] = [s.judge (w, none)] := by
  simp [State.judgeAll, State.holdLo, hs]

theorem outranks_skip {j : Judged} (hj : j.fate = .skip) (r : Rival) : outranks [j] r = outranks [] r := by
  simp [outranks, hj]

/-- With the command of its cycle, a write that is ignored changes nothing of what the command does. -/
theorem State.jointCycle_skip {w : RegWrite} (h : ∀ s : State, (s.judge (w, none)).fate = .skip) (s : State) (c : ZCmd) :
    (s.jointCycle [w] c).1 = (s.jointCycle [] c).1 := by
  have hrec (s0 s t : State) (f : Judged → Bool) : s0.records s ([t.judge (w, none)].filter f) = s :=
    State.records_skip s0 s fun j hj => by
      rw [List.mem_singleton.mp (List.mem_of_mem_filter hj)]
      exact h t
  have hall (s0 s t : State) : s0.records s [t.judge (w, none)] = s := by simpa using hrec s0 s t (fun _ => true)
  simp only [State.jointCycle, List.map_cons, List.map_nil, State.judgeAll_skip (h _), outranks_skip (h _),
    State.directWrites_skip _ (h _), State.directWrites_nil, hrec, hall]
  rfl

theorem State.cycleWrites_skip {w : RegWrite} (h : ∀ s : State, (s.judge (w, none)).fate = .skip) (s : State) :
    s.cycleWrites [w] = s.cycleWrites [] := by
  unfold State.cycleWrites State.cycle
  cases s.zNow with
  | some c => exact State.jointCycle_skip h s c
  | none =>
    simp only [State.directWrites_skip _ (h s), State.directWrites_nil]
    exact State.records_skip s s (by simp [h])

theorem State.cycleWrites_nil {s : State} (hz : s.zNow = none) : s.cycleWrites [] = s := by
  simp only [State.cycleWrites, State.cycle, hz, State.directWrites_nil]
  rfl

/-- A narrow or unaligned write in a cycle without a command (R8). -/
theorem State.cycleWrites_unaligned {s : State} {w : RegWrite} (hz : s.zNow = none) (hp : pathReaches w.path w.addr = true)
    (ha : w.addr % 4 ≠ 0) : s.cycleWrites [w] = s.badAccess w.path w.addr := by
  obtain ⟨hf, hw⟩ := State.judge_unaligned (s := s) hp ha
  simp only [State.cycleWrites, State.cycle, hz,
    State.directWrites_single none (show (s.judge (w, none)).fate ≠ .ok by simp [hf]) (by simp [hf])]
  simp [State.records, State.recordOne, State.blame, hf, hw]

theorem State.badAccess_on {s : State} {x : APath} {a : Nat} {p : PageRef} (hr : pathReaches x a = true)
    (hp : accessPage a = some p) (hon : s.pageOn p = true) : s.badAccess x a = s.raise p 0 := by
  simp [State.badAccess, hr, hp, hon]

theorem State.badRead_on {s : State} {x : APath} {a : Nat} {p : PageRef} (hr : pathReaches x a = true)
    (hp : accessPage a = some p) (hon : s.pageOn p = true) :
    s.badRead x a = (s.raise p 0).emit (.value x.origin a 0) := by
  rw [State.badRead, State.badAccess_on hr hp hon]

/-- A read at an undefined offset of a page. -/
theorem State.readAt_undefinedOffset (s : State) (x : APath) {a : Nat} {p : PageRef} {off : Nat}
    (hl : locate a = some (p, off)) (hr : regRow p off = none) : s.readAt x a = (s, 0) := by
  simp [State.readAt, hl, State.readReg, hr]

/-- A read of the BAR0 offsets outside every page and outside the route table window. -/
theorem State.readAt_noPage (s : State) (x : APath) {a : Nat} (hl : locate a = none)
    (ha : a < 0xE00000 ∨ (0xF00000 ≤ a ∧ a < vfBase)) : s.readAt x a = (s, 0) := by
  have hbar : ¬ vfBase ≤ a := by
    unfold vfBase at ha ⊢
    omega
  have hwin : ¬ (0xE00000 ≤ a ∧ a < 0xF00000 ∧ s.powered routePg = true) := by omega
  simp only [State.readAt, hl, if_neg hbar, if_neg hwin, ite_self]

theorem State.readOut_aligned {s : State} {x : APath} {a : Nat} (ha : a % 4 = 0) (h : s.readAt x a = (s, 0)) :
    s.readOut x a = s.emit (.value x.origin a 0) := by
  simp [State.readOut, ha, h]

theorem State.readOut_unaligned (s : State) (x : APath) {a : Nat} (ha : a % 4 ≠ 0) : s.readOut x a = s.badRead x a := by
  simp [State.readOut, ha]

/-! The rows of the register accesses. -/

theorem exec_registerWrite (ws : List RegWrite) (s : State) : exec (.registerWrite ws) s = .next (s.cycleWrites ws) := rfl

theorem exec_readClear (x : APath) (a : Nat) (s : State) : exec (.readClear x a) s = .next (s.readOut x a) := rfl

theorem exec_narrowRead (x : APath) (a : Nat) (s : State) :
    exec (.narrowAccess ⟨x, false⟩ a) s = .next (s.badRead x a) := rfl

theorem exec_narrowWrite (x : APath) (a : Nat) (s : State) :
    exec (.narrowAccess ⟨x, true⟩ a) s = .next (s.badAccess x a) := rfl

theorem exec_registerWrite_undefined (s : State) {w : RegWrite} (ha : w.addr % 4 = 0) (hu : UndefinedAt w.addr) :
    exec (.registerWrite [w]) s = exec (.registerWrite []) s := by
  rw [exec_registerWrite, exec_registerWrite, State.cycleWrites_skip (fun t => t.judge_undefined ha hu)]

/-- Settles O56: an aligned access to an undefined offset is skipped or reads 0, and any other there is an ACCESS error. -/
theorem undefinedOffsetsReadZero : Obligations.UndefinedOffsetsReadZero := by
  unfold Obligations.UndefinedOffsetsReadZero
  rintro s x o a w rfl ha rfl rfl
  refine ⟨fun hz => ?_, fun p off hl hr => ⟨?_, ?_, ?_⟩, fun hl hout => ⟨?_, ?_⟩⟩
  · rw [exec_registerWrite, State.cycleWrites_nil hz]
  · rw [exec_readClear, State.readOut_aligned ha (s.readAt_undefinedOffset _ hl hr)]
  · refine exec_registerWrite_undefined s ha fun q o hq => ?_
    obtain ⟨rfl, rfl⟩ : p = q ∧ off = o := by simpa [hl] using hq
    exact hr
  · intro hon b hb hreach hpage
    refine ⟨?_, ?_, fun hpos => ⟨?_, fun hz => ?_⟩⟩
    · rw [exec_narrowRead, State.badRead_on hreach hpage hon]
    · rw [exec_narrowWrite, State.badAccess_on hreach hpage hon]
    · rw [exec_readClear, s.readOut_unaligned _ (by omega), State.badRead_on hreach hpage hon]
    · rw [exec_registerWrite, State.cycleWrites_unaligned hz hreach (by change (w.addr + b) % 4 ≠ 0; omega)]
      exact congrArg _ (State.badAccess_on hreach hpage hon)
  · rw [exec_readClear, State.readOut_aligned ha (s.readAt_noPage _ hl hout)]
  · exact exec_registerWrite_undefined s ha fun p off hp => by simp [hl] at hp

end Sys2Proof.Machine

/-! Module power, presence and supervision: what a sample of the supervision sensors stores, which levels it shows, and
its way to the power-off at CRIT (R38 R39 R40 R41 R42). -/

namespace Sys2Proof.Machine

/-! Fields at another offset of the page that is written. -/

theorem State.fget_put_offset {off o : Nat} (h : off ≠ o) (s : State) (p : PageRef) (v hi lo : Nat) :
    (s.put p off v).fget p o hi lo = s.fget p o hi lo := by
  rw [State.fget, State.get_put_ne (by omega), State.fget]

theorem State.fget_fput_offset {off o : Nat} (h : off ≠ o) (s : State) (p : PageRef) (v hi lo x y : Nat) :
    (s.fput p off x y v).fget p o hi lo = s.fget p o hi lo := State.fget_put_offset h s p _ hi lo

theorem State.fget_setPwr_offset {o : Nat} (h : 0x40 ≠ o) (s : State) (b : Nat) (v : Bool) (hi lo : Nat) :
    (s.setPwr b v).fget (mgmtPg 3) o hi lo = s.fget (mgmtPg 3) o hi lo := State.fget_put_offset h s _ _ hi lo

/-! The parts of THERMAL_SAMPLE. -/

/-- The electrical readings (R41), with AUX_OK (R35) and SAFE_REMOVE as they now stand. -/
def State.storePower (s : State) (r : ThermalReading) : State :=
  let s := ((s.fput (mgmtPg 3) 0x44 15 0 r.v48).fput (mgmtPg 3) 0x48 15 0 r.i48).fput (mgmtPg 3) 0x4C 15 0 r.watts
  (s.setPwr 3 (decide (1140 ≤ r.v12 ∧ r.v12 ≤ 1260))).setPwr 7 (!s.pwr.main)

/-- Outlet, inlet and flow as their register holds them (R42). -/
def coolantWord (r : ThermalReading) : Nat := r.outlet % 256 * 2 ^ 24 + r.inlet % 256 * 2 ^ 16 + r.flow % 65536

/-- The coolant's readings and the temperatures (R42). -/
def State.storeThermal (s : State) (r : ThermalReading) : State :=
  ((s.put (mgmtPg 3) 0x50 (coolantWord r)).fput (mgmtPg 3) 0x54 23 16 r.opteMax).fput (mgmtPg 3) 0x54 15 8 r.dieMax

/-- A temperature at the WARN level (R38). -/
def atWarn (r : ThermalReading) : Bool := decide (95 ≤ r.dieMax ∨ 70 ≤ r.opteMax)

/-- FLOW_LOW, a condition of R39 that reads 0 while the main domain is off (log 140). -/
def State.flowLow (s : State) (r : ThermalReading) : Bool := s.pwr.main && decide (r.flow < 350)

/-- INLET_HIGH, likewise. -/
def State.inletHigh (s : State) (r : ThermalReading) : Bool := s.pwr.main && decide (40 < r.inlet)

/-- The events of a WARN level newly reached. -/
def State.warnEvents (s : State) (warn : Bool) : State :=
  if warn && !s.therm 0 then (List.range 16).foldl (fun s h => s.pfEvent h 2) (s.event 1 .thermal) else s

/-- The event of a coolant condition newly reached. -/
def State.coolantEvent (s : State) (low high : Bool) : State :=
  if (low && !s.therm 4) || (high && !s.therm 3) then s.event 1 .coolant else s

/-- WARN, FLOW_LOW and INLET_HIGH as THERM_STAT shows them (R42). -/
def State.showLevels (s : State) (warn low high : Bool) : State :=
  ((s.bput (mgmtPg 3) 0x54 0 warn).bput (mgmtPg 3) 0x54 4 low).bput (mgmtPg 3) 0x54 3 high

/-- The levels of a sample whose readings are stored: their events, and their bits. -/
def State.takeLevels (s : State) (r : ThermalReading) : State :=
  ((s.warnEvents (atWarn r)).coolantEvent (s.flowLow r) (s.inletHigh r)).showLevels (atWarn r) (s.flowLow r) (s.inletHigh r)

/-- All that THERMAL_SAMPLE does but for CRIT. -/
def State.sampled (s : State) (r : ThermalReading) : State := ((s.storePower r).storeThermal r).takeLevels r

theorem exec_thermalSample {s : State} (r : ThermalReading) (ha : s.pwr.aux = true) (hm : s.zyn.mcReset = false) :
    exec (.thermalSample r) s = .next (if (105 ≤ r.dieMax ∨ 78 ≤ r.opteMax) ∧ (s.sampled r).pwr.critPending = false then
      (s.sampled r).crit else s.sampled r) := by
  have hguard : ¬ (!s.pwr.aux || s.zyn.mcReset) = true := by simp [ha, hm]
  change execThermalSample r s = _
  rw [execThermalSample, if_neg hguard]
  rfl

theorem exec_leak {s : State} (asserted : Bool) (ha : s.pwr.aux = true) (hm : s.zyn.mcReset = false) :
    exec (.leak asserted) s = .next (if asserted then (s.bput (mgmtPg 3) 0x54 5 asserted).crit else
      s.bput (mgmtPg 3) 0x54 5 asserted) := by
  have hguard : ¬ (!s.pwr.aux || s.zyn.mcReset) = true := by simp [ha, hm]
  exact if_neg hguard

/-! A sample changes registers alone, and adds outputs. -/

section Frame

variable {F : Nat} {a s : State} (fm : 1 &&& F = 1) (h : Keeps F a s)

include fm h

theorem State.storePower_keeps (r : ThermalReading) : Keeps F a (s.storePower r) := by
  unfold State.storePower
  exact State.setPwr_keeps fm (State.setPwr_keeps fm (State.fput_keeps fm (State.fput_keeps fm (State.fput_keeps fm h))))

theorem State.storeThermal_keeps (r : ThermalReading) : Keeps F a (s.storeThermal r) := by
  unfold State.storeThermal
  exact State.fput_keeps fm (State.fput_keeps fm (State.put_keeps fm h))

theorem State.warnEvents_keeps (warn : Bool) : Keeps F a (s.warnEvents warn) := by
  unfold State.warnEvents
  split
  · exact (State.event_keeps h).fold fun _ _ => State.pfEvent_keeps fm
  · exact h

theorem State.showLevels_keeps (warn low high : Bool) : Keeps F a (s.showLevels warn low high) := by
  unfold State.showLevels
  exact State.bput_keeps fm (State.bput_keeps fm (State.bput_keeps fm h))

omit fm in
theorem State.coolantEvent_keeps (low high : Bool) : Keeps F a (s.coolantEvent low high) := by
  unfold State.coolantEvent
  split
  · exact State.event_keeps h
  · exact h

theorem State.takeLevels_keeps (r : ThermalReading) : Keeps F a (s.takeLevels r) :=
  State.showLevels_keeps fm (State.coolantEvent_keeps (State.warnEvents_keeps fm h _) _ _) _ _ _

theorem State.sampled_keeps (r : ThermalReading) : Keeps F a (s.sampled r) :=
  State.takeLevels_keeps fm (State.storeThermal_keeps fm (State.storePower_keeps fm h r) r) r

end Frame

theorem Keeps.pwr_eq {a s : State} (h : Keeps 1 a s) : s.pwr = a.pwr := h.frame .pwr (by decide)

theorem Keeps.psto_eq {a s : State} (h : Keeps 1 a s) : s.psto = a.psto := h.frame .psto (by decide)

/-! The readings stored. -/

section StoreReadings

variable {s : State} (hw : Registers.wf s.regs = true) (r : ThermalReading)

theorem State.storeThermal_fget {o : Nat} (h50 : 0x50 ≠ o) (h54 : 0x54 ≠ o) (hi lo : Nat) :
    (s.storeThermal r).fget (mgmtPg 3) o hi lo = s.fget (mgmtPg 3) o hi lo := by
  rw [State.storeThermal, State.fget_fput_offset h54, State.fget_fput_offset h54, State.fget_put_offset h50]

include hw

theorem State.storePower_volts : (s.storePower r).fget (mgmtPg 3) 0x44 15 0 = r.v48 % 2 ^ 16 := by
  rw [State.storePower, State.fget_setPwr_offset (by decide), State.fget_setPwr_offset (by decide),
    State.fget_fput_offset (by decide), State.fget_fput_offset (by decide), State.fget_fput hw (by decide) (by decide)]

theorem State.storePower_current : (s.storePower r).fget (mgmtPg 3) 0x48 15 0 = r.i48 % 2 ^ 16 := by
  rw [State.storePower, State.fget_setPwr_offset (by decide), State.fget_setPwr_offset (by decide),
    State.fget_fput_offset (by decide), State.fget_fput (State.fput_wf hw _ _ _ _ _) (by decide) (by decide)]

theorem State.storePower_watts : (s.storePower r).fget (mgmtPg 3) 0x4C 15 0 = r.watts % 2 ^ 16 := by
  have hvolts := State.fput_wf hw (mgmtPg 3) 0x44 15 0 r.v48
  rw [State.storePower, State.fget_setPwr_offset (by decide), State.fget_setPwr_offset (by decide),
    State.fget_fput (State.fput_wf hvolts _ _ _ _ _) (by decide) (by decide)]

theorem State.storeThermal_coolant : (s.storeThermal r).get (mgmtPg 3) 0x50 = coolantWord r := by
  have hfit : coolantWord r < 2 ^ 32 := by
    unfold coolantWord
    omega
  rw [State.storeThermal, State.get_fput_ne (by omega), State.get_fput_ne (by omega), State.get_put hw, Nat.mod_eq_of_lt hfit]

theorem State.storeThermal_die : (s.storeThermal r).fget (mgmtPg 3) 0x54 15 8 = r.dieMax % 256 :=
  State.fget_fput (State.fput_wf (State.put_wf hw _ _ _) _ _ _ _ _) (by decide) (by decide) _ _ _

theorem State.storeThermal_optics : (s.storeThermal r).fget (mgmtPg 3) 0x54 23 16 = r.opteMax % 256 := by
  have hput := State.put_wf hw (mgmtPg 3) 0x50 (coolantWord r)
  rw [State.storeThermal, State.fget_fput_ne (State.fput_wf hput _ _ _ _ _) (by decide) (by decide) (by decide)]
  exact State.fget_fput hput (by decide) (by decide) _ _ _

end StoreReadings

/-! The events of the levels leave the supervision page as it is. -/

/-- The pages of HOST lie above those of MGMT (R80). -/
theorem hostPg_addr_ne_supervision (h : Nat) {o : Nat} (ho : o < 0x1000) : (hostPg h 0).addr + 0x4C ≠ (mgmtPg 3).addr + o := by
  simp only [PageRef.addr, hostPg, mgmtPg, pageAddr, clsRow]
  omega

section Events

variable {o : Nat} (ho : o < 0x1000)

include ho

theorem State.pfEvent_supervision (s : State) (h n : Nat) : (s.pfEvent h n).get (mgmtPg 3) o = s.get (mgmtPg 3) o := by
  have hput : (s.bput (hostPg h 0) 0x4C n true).get (mgmtPg 3) o = s.get (mgmtPg 3) o :=
    State.get_bput_ne (hostPg_addr_ne_supervision h ho) n true
  unfold State.pfEvent
  dsimp only
  split
  · exact hput
  · exact hput

theorem State.pfEvents_supervision (n : Nat) (hosts : List Nat) (s : State) :
    (hosts.foldl (fun s h => s.pfEvent h n) s).get (mgmtPg 3) o = s.get (mgmtPg 3) o := by
  induction hosts generalizing s with
  | nil => rfl
  | cons h hosts ih => rw [List.foldl_cons, ih, State.pfEvent_supervision ho]

theorem State.warnEvents_supervision (s : State) (warn : Bool) :
    (s.warnEvents warn).get (mgmtPg 3) o = s.get (mgmtPg 3) o := by
  unfold State.warnEvents
  split
  · exact State.pfEvents_supervision ho 2 _ (s.event 1 .thermal)
  · rfl

omit ho in
theorem State.coolantEvent_get (s : State) (low high : Bool) (p : PageRef) (o : Nat) :
    (s.coolantEvent low high).get p o = s.get p o := by
  unfold State.coolantEvent
  split <;> rfl

end Events

/-! The levels shown. -/

section ShowLevels

variable {s : State} (hw : Registers.wf s.regs = true) (warn low high : Bool)

theorem State.showLevels_get {o : Nat} (ho : 0x54 ≠ o) : (s.showLevels warn low high).get (mgmtPg 3) o = s.get (mgmtPg 3) o := by
  rw [State.showLevels, State.get_bput_ne (by omega), State.get_bput_ne (by omega), State.get_bput_ne (by omega)]

include hw

/-- The temperatures lie above the levels. -/
theorem State.showLevels_fget_above {hi lo : Nat} (hlo : 4 < lo) :
    (s.showLevels warn low high).fget (mgmtPg 3) 0x54 hi lo = s.fget (mgmtPg 3) 0x54 hi lo := by
  have hw0 := State.bput_wf hw (mgmtPg 3) 0x54 0 warn
  have hw4 := State.bput_wf hw0 (mgmtPg 3) 0x54 4 low
  rw [State.showLevels, State.bput, State.fget_fput_ne hw4 (by decide) (by decide) (.inl (by omega)), State.bput,
    State.fget_fput_ne hw0 (by decide) (by decide) (.inl (by omega)), State.bput,
    State.fget_fput_ne hw (by decide) (by decide) (.inl (by omega))]

theorem State.showLevels_therm : (s.showLevels warn low high).therm 0 = warn ∧
    (s.showLevels warn low high).therm 4 = low ∧ (s.showLevels warn low high).therm 3 = high := by
  have hw0 := State.bput_wf hw (mgmtPg 3) 0x54 0 warn
  have hw4 := State.bput_wf hw0 (mgmtPg 3) 0x54 4 low
  refine ⟨?_, ?_, ?_⟩ <;> rw [State.therm, State.showLevels]
  · rw [State.bget_bput_ne hw4 (by decide) (by decide), State.bget_bput_ne hw0 (by decide) (by decide),
      State.bget_bput hw (by decide)]
  · rw [State.bget_bput_ne hw4 (by decide) (by decide), State.bget_bput hw0 (by decide)]
  · rw [State.bget_bput hw4 (by decide)]

end ShowLevels

section TakeLevels

variable {s : State}

theorem State.takeLevels_get (r : ThermalReading) {o : Nat} (ho : o < 0x54) :
    (s.takeLevels r).get (mgmtPg 3) o = s.get (mgmtPg 3) o := by
  rw [State.takeLevels, State.showLevels_get _ _ _ (by omega), State.coolantEvent_get, State.warnEvents_supervision (by omega)]

/-- The electrical readings lie below the thermal ones. -/
theorem State.sampled_fget_electrical (r : ThermalReading) {o : Nat} (ho : o < 0x50) (hi lo : Nat) :
    (s.sampled r).fget (mgmtPg 3) o hi lo = (s.storePower r).fget (mgmtPg 3) o hi lo := by
  rw [State.sampled, State.fget, State.takeLevels_get r (by omega), ← State.fget, State.storeThermal_fget r (by omega) (by omega)]

variable (h : Keeps 1 s s) (r : ThermalReading)

include h

theorem State.levelEvents_wf : Registers.wf ((s.warnEvents (atWarn r)).coolantEvent (s.flowLow r) (s.inletHigh r)).regs = true :=
  (State.coolantEvent_keeps (State.warnEvents_keeps rfl h _) _ _).regs

theorem State.takeLevels_fget_temperature {hi lo : Nat} (hlo : 4 < lo) :
    (s.takeLevels r).fget (mgmtPg 3) 0x54 hi lo = s.fget (mgmtPg 3) 0x54 hi lo := by
  rw [State.takeLevels, State.showLevels_fget_above (State.levelEvents_wf h r) _ _ _ hlo, State.fget, State.coolantEvent_get,
    State.warnEvents_supervision (by decide), State.fget]

theorem State.takeLevels_therm : (s.takeLevels r).therm 0 = atWarn r ∧ (s.takeLevels r).therm 4 = s.flowLow r ∧
    (s.takeLevels r).therm 3 = s.inletHigh r :=
  State.showLevels_therm (State.levelEvents_wf h r) _ _ _

end TakeLevels

/-! CRIT. -/

/-- The mask of `State.enterFatal_keeps` has no bit for the power state. -/
theorem State.enterFatal_pwr {s : State} (hw : Registers.wf s.regs = true) (hp : Memory.wf s.mem = true) (cause : Nat) :
    (s.enterFatal cause).pwr = s.pwr :=
  (State.enterFatal_keeps (F := 136348161) rfl (Keeps.refl hw hp)).frame .pwr (by decide)

/-- With the main domain on, CRIT begins the way to the power-off (R38). -/
theorem State.crit_critPending {s : State} (hw : Registers.wf s.regs = true) (hp : Memory.wf s.mem = true)
    (hmain : s.pwr.main = true) : s.crit.pwr.critPending = true := by
  have hstill : (s.bput (mgmtPg 3) 0x54 1 true).pwr.main = true := by rw [State.bput_pwr, hmain]
  rw [State.crit, if_pos hstill, State.enterFatal_pwr ?wf ?pool]
  case wf => exact State.bput_wf hw _ _ _ _
  case pool => exact hp

/-- Settles O12: the events of the levels leave the supervision page, and CRIT's fatal state keeps the power state. -/
theorem supervisionReadingsAreStored : Obligations.SupervisionReadingsAreStored := by
  unfold Obligations.SupervisionReadingsAreStored
  intro s r hw hp ha hm
  have hpower : Keeps 1 s (s.storePower r) := State.storePower_keeps rfl (.refl hw hp) r
  have hstored : Keeps 1 s ((s.storePower r).storeThermal r) := State.storeThermal_keeps rfl hpower r
  have hself : Keeps 1 ((s.storePower r).storeThermal r) ((s.storePower r).storeThermal r) := .refl hstored.regs hstored.pool
  have hsampled : Keeps 1 s (s.sampled r) := State.sampled_keeps rfl (.refl hw hp) r
  refine ⟨fun hdie hopte => ?_, fun hcrit hmain hpend => ?_, exec_leak false ha hm, exec_leak true ha hm⟩
  · have hbelow : ¬ (105 ≤ r.dieMax ∨ 78 ≤ r.opteMax) := by omega
    obtain ⟨hwarn, hlow, hhigh⟩ := State.takeLevels_therm hself r
    rw [State.flowLow, hstored.pwr_eq] at hlow
    rw [State.inletHigh, hstored.pwr_eq] at hhigh
    refine ⟨s.sampled r, ?_, ?_, ?_, ?_, ?_, ?_, ?_, hwarn, hlow, hhigh, hsampled.pwr_eq, hsampled.psto_eq⟩
    · rw [exec_thermalSample r ha hm, if_neg fun h => hbelow h.1]
    · rw [State.sampled_fget_electrical r (by decide), State.storePower_volts hw]
    · rw [State.sampled_fget_electrical r (by decide), State.storePower_current hw]
    · rw [State.sampled_fget_electrical r (by decide), State.storePower_watts hw]
    · rw [State.sampled, State.takeLevels_get r (by decide), State.storeThermal_coolant hpower.regs, coolantWord]
    · rw [State.sampled, State.takeLevels_fget_temperature hself r (by decide), State.storeThermal_die hpower.regs]
    · rw [State.sampled, State.takeLevels_fget_temperature hself r (by decide), State.storeThermal_optics hpower.regs]
  · refine ⟨(s.sampled r).crit, ?_, State.crit_critPending hsampled.regs hsampled.pool ?_⟩
    · rw [exec_thermalSample r ha hm, if_pos ⟨hcrit, by rw [hsampled.pwr_eq, hpend]⟩]
    · rw [hsampled.pwr_eq, hmain]

end Sys2Proof.Machine

/-! The reference and TICK: the start of TICK and its advance at a boundary, a core cycle with nothing waiting, and the
runs of the tick's jobs (R57 R59 R61 R72 R73 R74 R78 R615). -/

namespace Sys2Proof.Machine

/-! The first lock of the PLL (R57 R615). -/

theorem State.pllPick_eq {s : State} {b : Bool} (hb : s.refUsable b = true) (hA : b = true → s.refUsable false = false) :
    s.pllPick = some b := by
  cases b with
  | false => simp [State.pllPick, hb]
  | true => simp [State.pllPick, hb, hA rfl]

/-- A PLL that has never locked locks to the input it picks, and TICK runs from then on. -/
theorem State.pllEval_firstLock {s : State} {b : Bool} (hm : s.tick.monitors = true) (hl : s.tick.locked = false)
    (hpick : s.pllPick = some b) :
    s.pllEval = ({ s with tick := { s.tick with locked := true, running := true } }).pllUse b := by
  simp [State.pllEval, hm, hl, hpick]

@[simp] theorem State.pllUse_tick (s : State) (b : Bool) : (s.pllUse b).tick = s.tick := rfl

/-- The bits of TICK's status that show the input in use, and the lock. -/
theorem State.pllUse_shows {s : State} (hw : Registers.wf s.regs = true) (b : Bool) :
    (s.pllUse b).bget (tickPg 0) 0x4C 4 = b ∧ (s.pllUse b).bget (tickPg 0) 0x4C 5 = true := by
  have hinput := State.bput_wf hw (tickPg 0) 0x4C 4 b
  constructor
  · rw [State.pllUse, State.bget_bput_ne hinput (by decide) (by decide), State.bget_bput hw (by decide)]
  · rw [State.pllUse, State.bget_bput hinput (by decide)]

/-! A 64-bit pair after a write. -/

theorem State.get_put64_ne {s : State} {p q : PageRef} {off o : Nat} (hlo : p.addr + off ≠ q.addr + o)
    (hhi : p.addr + (off + 4) ≠ q.addr + o) (v : Nat) : (s.put64 p off v).get q o = s.get q o := by
  rw [State.put64, State.get_put_ne hhi, State.get_put_ne hlo]

theorem State.get64_put64 {s : State} (hw : Registers.wf s.regs = true) (p : PageRef) (off : Nat) {v : Nat} (hv : v < 2 ^ 64) :
    (s.put64 p off v).get64 p off = v := by
  have hlo : (s.put64 p off v).get p off = v % 2 ^ 32 := by
    rw [State.put64, State.get_put_ne (by omega), State.get_put hw, Nat.mod_mod]
  have hhi : (s.put64 p off v).get p (off + 4) = v / 2 ^ 32 := by
    rw [State.put64, State.get_put (State.put_wf hw _ _ _), Nat.mod_eq_of_lt (by omega)]
  rw [State.get64, hlo, hhi, Nat.mod_add_div]

/-! The ends of jobs (R78). -/

theorem State.jobEnd_wf {s : State} (hw : Registers.wf s.regs = true) (j endCc : Nat) :
    Registers.wf (s.jobEnd j endCc).regs = true := State.fput_wf (State.fput_wf hw _ _ _ _ _) _ _ _ _ _

@[simp] theorem State.jobEnd_route (s : State) (j endCc : Nat) : (s.jobEnd j endCc).route = s.route := by
  rw [State.jobEnd, State.fput_route, State.fput_route]

/-- Job j's register on TICK page 1 is the only one that its end changes. -/
theorem State.get_jobEnd_ne {s : State} {q : PageRef} {o j : Nat} (h : (tickPg 1).addr + (0x40 + 4 * j) ≠ q.addr + o)
    (endCc : Nat) : (s.jobEnd j endCc).get q o = s.get q o := by
  rw [State.jobEnd, State.get_fput_ne h, State.get_fput_ne h]

/-- The ends of runs that a boundary reports, each with its core cycle; jobs 5, 7 and 8 end by rows of their own (log 90). -/
def State.endJobs (s : State) (ends : List (Nat × Nat)) : State :=
  ends.foldl (fun s e =>
    if e.1 < 9 ∧ e.1 ≠ 5 ∧ e.1 ≠ 7 ∧ e.1 ≠ 8 ∧ (s.fatal = false ∨ e.1 = 0 ∨ e.1 = 2) then s.jobEnd e.1 e.2 else s) s

/-- What the end of each of the nine jobs keeps, the ends of a tick's runs keep. -/
theorem State.endJobs_induction {P : State → Prop} (hjob : ∀ s j endCc, j < 9 → P s → P (s.jobEnd j endCc)) {s : State}
    (h : P s) (ends : List (Nat × Nat)) : P (s.endJobs ends) := by
  refine List.foldlRecOn ends _ h fun t ht e _ => ?_
  split
  · next hrun => exact hjob t e.1 e.2 hrun.1 ht
  · exact ht

theorem State.endJobs_wf {s : State} (hw : Registers.wf s.regs = true) (ends : List (Nat × Nat)) :
    Registers.wf (s.endJobs ends).regs = true :=
  State.endJobs_induction (P := fun t => Registers.wf t.regs = true) (fun _ j c _ ht => State.jobEnd_wf ht j c) hw ends

theorem State.get_endJobs_ne {s : State} {q : PageRef} {o : Nat} (h : ∀ j < 9, (tickPg 1).addr + (0x40 + 4 * j) ≠ q.addr + o)
    (ends : List (Nat × Nat)) : (s.endJobs ends).get q o = s.get q o :=
  State.endJobs_induction (P := fun t => t.get q o = s.get q o)
    (fun _ j c hj ht => (State.get_jobEnd_ne (h j hj) c).trans ht) rfl ends

/-! The tick that begins (R59 R74). -/

/-- TICK.COUNT once a boundary has passed. -/
def State.nextCount (s : State) : Nat := (s.tick.count + 1) % 2 ^ 64

theorem State.openTick_count (s : State) (o : TickObs) : (s.openTick o).tick.count = s.nextCount := rfl

theorem State.openTick_cc (s : State) (o : TickObs) : (s.openTick o).tick.cc = 0 := rfl

theorem State.openTick_get (s : State) (o : TickObs) (p : PageRef) (off : Nat) :
    (s.openTick o).get p off = ((s.endJobs o.ends).put64 (tickPg 0) 0x40 s.nextCount).get p off := rfl

/-- The configuration kept for the tick is that of the registers as it begins. -/
theorem State.openTick_cfg (s : State) (o : TickObs) (p : PageRef) (off : Nat) :
    (s.openTick o).cfg p off = (s.openTick o).get p off := rfl

theorem State.openTick_get64 {s : State} (hw : Registers.wf s.regs = true) (o : TickObs) :
    (s.openTick o).get64 (tickPg 0) 0x40 = s.nextCount := by
  have hfit : s.nextCount < 2 ^ 64 := Nat.mod_lt _ (by positivity)
  rw [State.get64, State.openTick_get, State.openTick_get, ← State.get64,
    State.get64_put64 (State.endJobs_wf hw o.ends) _ _ hfit]

/-- The addresses of the registers that a boundary changes lie on the two pages of TICK that they are listed in (R80). -/
theorem locate_countLo : locate ((tickPg 0).addr + 0x40) = some (tickPg 0, 0x40) := by decide +kernel

theorem locate_countHi : locate ((tickPg 0).addr + (0x40 + 4)) = some (tickPg 0, 0x44) := by decide +kernel

theorem locate_jobEnds : ∀ j < 9, locate ((tickPg 1).addr + (0x40 + 4 * j)) = some (tickPg 1, 0x40 + 4 * j) := by
  decide +kernel

/-- Registers that lie on two pages have two addresses. -/
theorem addr_ne_of_page_ne {p q : PageRef} {off o a : Nat} (hp : locate a = some (p, off))
    (hq : locate (q.addr + o) = some (q, o)) (hne : q ≠ p) : a ≠ q.addr + o := by
  rintro rfl
  exact hne (congrArg Prod.fst (Option.some.inj (hq.symm.trans hp)))

/-- A boundary changes no register of another page than TICK's. -/
theorem State.openTick_get_ne (s : State) (o : TickObs) {p : PageRef} {off : Nat} (h0 : p ≠ tickPg 0) (h1 : p ≠ tickPg 1)
    (hloc : locate (p.addr + off) = some (p, off)) : (s.openTick o).get p off = s.get p off := by
  rw [State.openTick_get, State.get_put64_ne (addr_ne_of_page_ne locate_countLo hloc h0)
    (addr_ne_of_page_ne locate_countHi hloc h0), State.get_endJobs_ne]
  exact fun j hj => addr_ne_of_page_ne (locate_jobEnds j hj) hloc h1

/-- Settles O15: the first lock is the one branch of the PLL that starts TICK, and the boundary keeps for the tick the
registers it has just put, which are TICK's own. -/
theorem tickStartsAndAdvances : Obligations.TickStartsAndAdvances := by
  unfold Obligations.TickStartsAndAdvances
  intro s b o hw
  refine ⟨fun hm hl hb hA => ?_, fun _ => ⟨s.openTick_count o, s.openTick_cc o, ?_, fun p off h0 h1 hloc => ?_⟩⟩
  · rw [State.pllEval_firstLock hm hl (State.pllPick_eq hb hA), State.pllUse_tick]
    exact ⟨rfl, rfl, rfl, State.pllUse_shows hw b⟩
  · rw [State.openTick_get64 hw o, State.openTick_count]
  · rw [State.openTick_cfg, State.openTick_get_ne s o h0 h1 hloc]

/-! A core cycle with nothing waiting (log 4). -/

theorem State.zReached_noCommand {s : State} (h : s.zyn.queue = []) (cc : Nat) : s.zReached cc = s := by
  rw [State.zReached, h]
  rfl

theorem State.refillTo_noRefill {s : State} (h : s.tick.refill = none) (cc : Nat) : s.refillTo cc = s := by
  rw [State.refillTo, h]

theorem State.nocWaits_noRequest {s : State} (h : s.noc.waits = []) : s.nocWaits = s := by
  have hsame : { s with noc := { s.noc with waits := [] } } = s := by rw [← h]
  simp only [State.nocWaits, h, List.filter_nil, List.foldl_nil, hsame]

/-- Rings that carry no message, with no request at a stop, pass a cycle unchanged. -/
theorem State.nocTick_quiet {s : State} (hmsgs : s.noc.msgs = []) (hwaits : s.noc.waits = []) : s.nocTick = s := by
  have hsame : { s with noc := { s.noc with msgs := [] } } = s := by rw [← hmsgs]
  simp only [State.nocTick, hmsgs, moveAll, List.filter_nil, List.foldl_nil, hsame, State.nocWaits_noRequest hwaits]

theorem idleCycle_advances {s : State} (hrun : s.tick.running = true) (hcc : s.tick.cc < 1534) :
    idleCycle s = { s with tick := { s.tick with cc := s.tick.cc + 1 } } := if_pos ⟨hrun, hcc⟩

theorem idleCycle_stays {s : State} (h : s.tick.running = false ∨ 1534 ≤ s.tick.cc) : idleCycle s = s := by
  refine if_neg fun ⟨hrun, hcc⟩ => ?_
  rcases h with hstop | hend
  · simp [hstop] at hrun
  · omega

/-- Where nothing else has work, a core cycle is TICK's alone. -/
theorem State.idle_quiet {s : State} (hmsgs : s.noc.msgs = []) (hwaits : s.noc.waits = []) (hq : s.zyn.queue = [])
    (hrefill : s.tick.refill = none) : s.idle = idleCycle s := by
  have hrefill' : (idleCycle s).tick.refill = none := by
    unfold idleCycle
    split <;> exact hrefill
  simp only [State.idle, State.zReached_noCommand hq, ite_self, State.nocTick_quiet hmsgs hwaits,
    State.refillTo_noRefill hrefill']

theorem step_emptyQueue {s : State} (h : s.pending = []) : step s = .next s.idle := by
  rw [step, h]

/-- Settles O2: with the rings, the window and the refill at rest, `idle` is `idleCycle`. -/
theorem emptyQueueStepsOneCycle : Obligations.EmptyQueueStepsOneCycle := by
  unfold Obligations.EmptyQueueStepsOneCycle
  intro s hp
  refine ⟨step_emptyQueue hp, fun hmsgs hwaits hq hrefill => ?_⟩
  rw [step_emptyQueue hp, State.idle_quiet hmsgs hwaits hq hrefill]
  exact ⟨fun hrun hcc => congrArg _ (idleCycle_advances hrun hcc), fun hrest => congrArg _ (idleCycle_stays hrest)⟩

/-! The runs of jobs that commands start (R72 R73 R242 R291 R500). -/

/-- A job whose last run has ended starts, while TICK runs outside the fatal state. -/
theorem State.jobStart_ready {s : State} {j : Nat} (hrun : s.tick.running = true) (hfatal : s.fatal = false)
    (hbusy : Tab.get (fun _ => false) s.tick.busy j = false) : s.jobStart j = (s, true) := by
  simp [State.jobStart, hrun, hfatal, hbusy]

section JobRuns

variable {s₀ s : State} (hs : s = s₀.zFlush)

include hs

theorem exec_weightsInForce (hfatal : s.fatal = false) {w : Tab Nat} (hw : s.route.detourNext = some w) :
    exec .weightsInForce s₀ = .next { s with route := { s.route with detour := w, detourNext := none } } := by
  subst hs
  change execWeightsInForce s₀ = _
  simp [execWeightsInForce, hw, hfatal]

variable (hrun : s.tick.running = true) (hfatal : s.fatal = false)

include hrun hfatal

/-- The messages that a run of job 7 considers, in their order (log 69). -/
theorem exec_clearanceScheduling {unit : Nat} (reach endCc : Nat) (hunit : unit < 8) (hworks : s.works (xptPg unit 0) = true)
    (hran : (s.xpt unit).ran = false) (hbusy : Tab.get (fun _ => false) s.tick.busy 7 = false) :
    exec (.clearanceScheduling unit reach endCc) s₀ = .next (
      (((((s.clrOrder (2 * unit)).map (fun e => (2 * unit, e)) ++
        (s.clrOrder (2 * unit + 1)).map (fun e => (2 * unit + 1, e))).take reach).foldl
          (fun s e => s.serveAnn e.1 e.2) s).updXpt unit (fun x => { x with ran := true })).jobEnd 7 endCc) := by
  subst hs
  change execClearanceScheduling unit reach endCc s₀ = _
  simp [execClearanceScheduling, hworks, hran, Nat.not_le.mpr hunit, State.jobStart_ready hrun hfatal hbusy]

theorem exec_adaptiveWeightUpdate_overrun {endCc : Nat} (hbusy : Tab.get (fun _ => false) s.tick.busy 5 = false)
    (hend : 512 ≤ endCc) : exec (.adaptiveWeightUpdate endCc) s₀ = .next (s.jobEnd 5 endCc) := by
  subst hs
  change execAdaptiveWeightUpdate endCc s₀ = _
  simp [execAdaptiveWeightUpdate, State.jobStart_ready hrun hfatal hbusy, Nat.not_lt.mpr hend]

/-- A run within its window leaves a table to come into force, and the one in force as it is. -/
theorem exec_adaptiveWeightUpdate_inWindow {endCc : Nat} (hbusy : Tab.get (fun _ => false) s.tick.busy 5 = false)
    (hend : endCc < 512) : ∃ w, exec (.adaptiveWeightUpdate endCc) s₀ =
      .next { s.jobEnd 5 endCc with route := { s.route with detourNext := some w } } := by
  subst hs
  change ∃ w, execAdaptiveWeightUpdate endCc s₀ = _
  simp only [execAdaptiveWeightUpdate, State.jobStart_ready hrun hfatal hbusy, hend, if_true, State.jobEnd_route]
  exact ⟨_, rfl⟩

theorem exec_pairedJournalling {share : Nat} (endCc : Nat) (hshare : share < 16) (hheld : s.bget (cluPg share) 0x44 8 = false)
    (hbusy : Tab.get (fun _ => false) s.tick.busy (16 + share) = false) {u : State}
    (hu : u = if s.journals then s.journalRun share else s) : exec (.pairedJournalling share endCc) s₀ =
      .next ((u.bump (engPg (u.get (cluPg share) 0x44 % 128)) 0 1).jobEnd 8 endCc) := by
  subst hs hu
  change execPairedJournalling share endCc s₀ = _
  simp [execPairedJournalling, hrun, hfatal, hheld, hbusy, Nat.not_le.mpr hshare]

end JobRuns

/-- Settles O14: once the window has executed, no guard of a job's command stands in the way of its run. -/
theorem tickJobCommandsComplete : Obligations.TickJobCommandsComplete := by
  unfold Obligations.TickJobCommandsComplete
  intro s₀ s hs hrun hfatal
  refine ⟨fun unit reach endCc hunit hworks hran hbusy => ?_, fun endCc hbusy hend => ?_, fun endCc hbusy hend => ?_,
    fun w hw => ?_, fun share endCc hshare hheld hbusy => ⟨_, rfl, ?_⟩⟩
  · exact exec_clearanceScheduling hs hrun hfatal reach endCc hunit hworks hran hbusy
  · exact exec_adaptiveWeightUpdate_overrun hs hrun hfatal hbusy hend
  · obtain ⟨w, hexec⟩ := exec_adaptiveWeightUpdate_inWindow hs hrun hfatal hbusy hend
    exact ⟨_, hexec, rfl, rfl, rfl⟩
  · exact exec_weightsInForce hs hfatal hw
  · exact exec_pairedJournalling hs hrun hfatal endCc hshare hheld hbusy rfl

end Sys2Proof.Machine

/-! The register model's writes: the ranks of origins, who may write a page, and what a write that takes effect leaves
(R92 R95 R97 R98 R99 R102 R120). -/

namespace Sys2Proof.Machine

/-! Ranks (R98). -/

theorem rankKey_physicalFunction {o : Nat} (hlo : 0x10 ≤ o) (hhi : o < 0x20) : rankKey o = 65536 * 3 + o := by
  have hne : o ≠ 0 ∧ o ≠ 1 := by omega
  simp [rankKey, hne, hlo, hhi]

theorem rankKey_engine {o : Nat} (hlo : 0x100 ≤ o) (hhi : o < 0x180) : rankKey o = 65536 * 5 + o := by
  have hne : o ≠ 0 ∧ o ≠ 1 ∧ ¬ o < 0x20 ∧ o ≠ 0x200 := by omega
  simp [rankKey, hne, hlo, hhi]

theorem rankKey_above {o : Nat} (h : 0x200 < o) : rankKey o = 65536 * 6 + o := by
  have hne : o ≠ 0 ∧ o ≠ 1 ∧ ¬ o < 0x20 ∧ o ≠ 0x200 ∧ ¬ o < 0x180 := by omega
  simp [rankKey, hne]

/-- Settles O21: each class of origins has one rank, and the origin itself decides within it. -/
theorem originsRankInOrder : Obligations.OriginsRankInOrder := by
  unfold Obligations.OriginsRankInOrder
  intro h e v hh he hv
  have hmanager : rankKey 0 = 65536 ∧ rankKey 1 = 65536 * 2 + 1 ∧ rankKey 0x200 = 65536 * 4 + 0x200 := by decide
  have hpf := rankKey_physicalFunction (o := 0x10 + h) (by omega) (by omega)
  have heng := rankKey_engine (o := 0x100 + e) (by omega) (by omega)
  have hvi := rankKey_above (o := 0x1000 + v) (by omega)
  have hvi' := rankKey_above (o := 0x1001 + v) (by omega)
  refine ⟨by omega, by omega, by omega, by omega, by omega, fun hlt => ?_, fun hlt => ?_, fun _ => by omega⟩
  · have hpf' := rankKey_physicalFunction (o := 0x11 + h) (by omega) (by omega)
    omega
  · have heng' := rankKey_engine (o := 0x101 + e) (by omega) (by omega)
    omega

/-! The place and the value of a judged write (R92 R97). -/

/-- A write that is neither ignored nor an ACCESS error reached a register, whose row judged it. -/
theorem State.judge_reached {s : State} {w : RegWrite} {m : Option Nat} (hskip : (s.judge (w, m)).fate ≠ .skip)
    (haccess : (s.judge (w, m)).fate ≠ .access) : ∃ p off r, locate w.addr = some (p, off) ∧ regRow p off = some r ∧
      s.judge (w, m) = s.judgeRow w m p off r := by
  revert hskip haccess
  unfold State.judge
  dsimp only
  split
  · exact fun hskip => absurd rfl hskip
  split
  · exact fun _ haccess => absurd rfl haccess
  split
  · exact fun hskip => absurd rfl hskip
  next p off hl =>
    split
    · exact fun hskip => absurd rfl hskip
    split
    · exact fun hskip => absurd rfl hskip
    next r hr => exact fun _ _ => ⟨p, off, r, hl, hr, rfl⟩

theorem State.judge_row {s : State} {w : RegWrite} {m : Option Nat} {p : PageRef} {off : Nat}
    (hl : locate w.addr = some (p, off)) (hskip : (s.judge (w, m)).fate ≠ .skip)
    (haccess : (s.judge (w, m)).fate ≠ .access) : ∃ r, s.judge (w, m) = s.judgeRow w m p off r := by
  obtain ⟨q, o, r, hq, -, hj⟩ := State.judge_reached hskip haccess
  obtain ⟨rfl, rfl⟩ : p = q ∧ off = o := by simpa [hl] using hq
  exact ⟨r, hj⟩

/-- The offset that a write of `off` commits: of a pair's _HI register that of its _LO (R92). -/
def commitOff (p : PageRef) (off : Nat) : Nat := if isHi p off && (regRow p (off - 4)).isSome then off - 4 else off

/-- What a row's judgement names: the write itself, its page and the offset that it commits; with no pair, the register
written and the value's bits under the mask. -/
theorem State.judgeRow_names (s : State) (w : RegWrite) (m : Option Nat) (p : PageRef) (off : Nat) (r : RegRow) :
    ∃ at' pair val old new fate, s.judgeRow w m p off r = ⟨w, m, p, at', pair, val, old, new, fate⟩ ∧
      (fate = .ok → at' = commitOff p off) ∧ (fate = .held → at' = off) ∧
      (isHi p off = false → at' = off ∧ pair = false ∧ val = Nat.land w.value.toNat (m.getD 0xFFFFFFFF)) := by
  have hplain (h : (if isHi p off then regRow p (off - 4) else none) = none) : off = commitOff p off := by
    unfold commitOff
    split_ifs at h ⊢ <;> simp_all
  unfold State.judgeRow
  dsimp only
  split
  · exact ⟨_, _, _, _, _, _, rfl, by simp⟩
  split
  · exact ⟨_, _, _, _, _, _, rfl, by simp⟩
  split
  · exact ⟨_, _, _, _, _, _, rfl, by simp⟩
  split
  · exact ⟨_, _, _, _, _, _, rfl, by simp⟩
  split
  next h => exact ⟨_, _, _, _, _, _, rfl, fun _ => hplain h, fun _ => rfl, fun _ => ⟨rfl, rfl, rfl⟩⟩
  next l h =>
    have hpair : isHi p off = true ∧ regRow p (off - 4) = some l := by simpa using h
    refine ⟨_, _, _, _, _, _, rfl, fun _ => by simp [commitOff, hpair], fun hheld => ?_, by simp [hpair]⟩
    split_ifs at hheld

section Accepted

variable {s : State} {w : RegWrite} {p : PageRef} {off : Nat} (hl : locate w.addr = some (p, off))
  (hf : (s.judge (w, none)).fate = .ok)

include hl hf

theorem State.judge_ok_names : (s.judge (w, none)).w = w ∧ (s.judge (w, none)).p = p ∧
    (s.judge (w, none)).off = commitOff p off := by
  obtain ⟨r, hj⟩ := State.judge_row (s := s) (m := none) hl (by simp [hf]) (by simp [hf])
  obtain ⟨_, _, _, _, _, _, hrow, hat, _, _⟩ := s.judgeRow_names w none p off r
  rw [hj, hrow] at hf ⊢
  exact ⟨rfl, rfl, hat hf⟩

/-- An accepted write of a register that is not the _HI one of a pair commits that register alone. -/
theorem State.judge_ok_single (hhi : isHi p off = false) : (s.judge (w, none)).off = off ∧
    (s.judge (w, none)).pair = false ∧ (s.judge (w, none)).val = w.value.toNat := by
  obtain ⟨r, hj⟩ := State.judge_row (s := s) (m := none) hl (by simp [hf]) (by simp [hf])
  obtain ⟨_, _, _, _, _, _, hrow, _, _, hsingle⟩ := s.judgeRow_names w none p off r
  obtain ⟨hoff, hpair, hval⟩ := hsingle hhi
  rw [hj, hrow]
  exact ⟨hoff, hpair, hval.trans (Word.land_allOnes w.value)⟩

end Accepted

/-! Precedence among the writes of one cycle (R99). -/

theorem Judged.competes_congr {a b : Judged} (hp : a.p = b.p) (hoff : a.off = b.off) : a.competes = b.competes := by
  rw [Judged.competes, Judged.competes, hp, hoff]

/-- Of two accepted writes of one register, the origin that ranks first wins it, whichever was judged first. -/
theorem winnerOf_pair {a b k : Judged} (ha : a.fate = .ok ∧ a.p = k.p ∧ a.off = k.off)
    (hb : b.fate = .ok ∧ b.p = k.p ∧ b.off = k.off) (hrank : rankKey a.w.origin < rankKey b.w.origin) :
    winnerOf [a, b] k = a.w.origin ∧ winnerOf [b, a] k = a.w.origin := by
  simp [winnerOf, argMin, ha, hb, hrank.le, hrank.not_ge]

theorem settle1_winner {js : List Judged} {j : Judged} (h : winnerOf js j = j.w.origin) : settle1 none js j = j := by
  simp [settle1, h]

theorem settle1_loser {js : List Judged} {j : Judged} {o : Nat} (hf : j.fate = .ok) (hc : j.competes = true)
    (h : winnerOf js j = o) (hne : o ≠ j.w.origin) : settle1 none js j = { j with fate := .lost o } := by
  simp [settle1, hf, hc, h, hne]

/-- The judged writes as precedence leaves them, in the order in which they are stored. -/
def settleAll (rival : Option Rival) (js : List Judged) : List Judged :=
  (js.map (settle1 rival js)).foldl (fun l j => insRank j l) []

theorem settleAll_pair {a b : Judged} (ha : a.fate = .ok) (hb : b.fate = .ok) (hp : a.p = b.p) (hoff : a.off = b.off)
    (hrank : rankKey a.w.origin < rankKey b.w.origin) (hc : a.competes = true) :
    settleAll none [a, b] = [a, { b with fate := .lost a.w.origin }] ∧
      settleAll none [b, a] = [a, { b with fate := .lost a.w.origin }] := by
  have hcb : b.competes = true := (Judged.competes_congr hp hoff).symm.trans hc
  have hne : a.w.origin ≠ b.w.origin := fun h => by simp [h] at hrank
  obtain ⟨hab, hba⟩ := winnerOf_pair (k := a) ⟨ha, rfl, rfl⟩ ⟨hb, hp.symm, hoff.symm⟩ hrank
  obtain ⟨hab', hba'⟩ := winnerOf_pair (k := b) ⟨ha, hp, hoff⟩ ⟨hb, rfl, rfl⟩ hrank
  constructor
  · simp [settleAll, settle1_winner hab, settle1_loser hb hcb hab' hne, insRank, hrank.not_gt]
  · simp [settleAll, settle1_winner hba, settle1_loser hb hcb hba' hne, insRank, hrank]

/-! The store of the writes of one cycle. -/

theorem State.storeOne_names (s : State) (j : Judged) : (s.storeOne j).2.w = j.w ∧ (s.storeOne j).2.p = j.p ∧
    (s.storeOne j).2.off = j.off ∧ (s.storeOne j).2.val = j.val ∧ (s.storeOne j).2.fate = j.fate := by
  unfold State.storeOne
  split
  · exact ⟨rfl, rfl, rfl, rfl, rfl⟩
  split
  · exact ⟨rfl, rfl, rfl, rfl, rfl⟩
  split <;> exact ⟨rfl, rfl, rfl, rfl, rfl⟩

theorem Judged.status_congr {a b : Judged} (h : a.fate = b.fate) : a.status = b.status := by
  rw [Judged.status, Judged.status, h]

theorem Judged.winner_congr {a b : Judged} (h : a.fate = b.fate) : a.winner = b.winner := by
  rw [Judged.winner, Judged.winner, h]

/-- What a record says of a write: whose it is, its status and its winner (R103). -/
def Judged.verdict (j : Judged) : RegWrite × Nat × Nat := (j.w, j.status, j.winner)

theorem State.storeOne_verdict (s : State) (j : Judged) : (s.storeOne j).2.verdict = j.verdict := by
  obtain ⟨hw, _, _, _, hfate⟩ := s.storeOne_names j
  rw [Judged.verdict, hw, Judged.status_congr hfate, Judged.winner_congr hfate, Judged.verdict]

/-- One write of a cycle is stored behind those before it. -/
def storeNext (a : State × List Judged) (j : Judged) : State × List Judged :=
  ((a.1.storeOne j).1, a.2 ++ [(a.1.storeOne j).2])

theorem storeNext_verdicts (js : List Judged) (a : State × List Judged) :
    (js.foldl storeNext a).2.map Judged.verdict = a.2.map Judged.verdict ++ js.map Judged.verdict := by
  induction js generalizing a with
  | nil => simp
  | cons j js ih => simp [ih, storeNext, State.storeOne_verdict]

theorem State.holdLo_of_not_held {s : State} {e : RegWrite × Option Nat} (h : (s.judge e).fate ≠ .held) :
    s.holdLo e = s := if_neg h

/-- A cycle without a held _LO half judges its writes on the state it begins with. -/
theorem State.runWrites_judged (s : State) (rival : Option Rival) (ws : List (RegWrite × Option Nat))
    (hnone : ws.foldl State.holdLo s = s) :
    (s.runWrites rival ws).2 = ((settleAll rival (ws.map s.judge)).foldl storeNext (s, [])).2 := by
  unfold State.runWrites
  rw [hnone]
  rfl

theorem State.runWrites_verdicts {s : State} {rival : Option Rival} {ws : List (RegWrite × Option Nat)}
    (hnone : ws.foldl State.holdLo s = s) :
    (s.runWrites rival ws).2.map Judged.verdict = (settleAll rival (ws.map s.judge)).map Judged.verdict := by
  rw [s.runWrites_judged rival ws hnone, storeNext_verdicts, List.map_nil, List.nil_append]

/-- Settles O20: rank alone decides the register, and the store follows the order of rank. -/
theorem outrankedWriteIsSuperseded : Obligations.OutrankedWriteIsSuperseded := by
  unfold Obligations.OutrankedWriteIsSuperseded
  intro s v w haddr hrank hv hw hc
  obtain ⟨p, off, _, hl, _, _⟩ := State.judge_reached (s := s) (w := v) (m := none) (by simp [hv]) (by simp [hv])
  obtain ⟨hvw, hvp, hvoff⟩ := State.judge_ok_names hl hv
  obtain ⟨hww, hwp, hwoff⟩ := State.judge_ok_names (haddr ▸ hl) hw
  have hpass : s.holdLo (v, none) = s ∧ s.holdLo (w, none) = s :=
    ⟨State.holdLo_of_not_held (by simp [hv]), State.holdLo_of_not_held (by simp [hw])⟩
  have hsettled := settleAll_pair hv hw (hvp.trans hwp.symm) (hvoff.trans hwoff.symm) (by rwa [hvw, hww]) hc
  have hfirst : (s.judge (v, none)).verdict = (v, stOk, 0xFFFF) := by
    simp [Judged.verdict, Judged.status, Judged.winner, hvw, hv]
  have hlost (o : Nat) : Judged.verdict { s.judge (w, none) with fate := .lost o } = (w, stSuperseded, o) := by
    simp [Judged.verdict, Judged.status, Judged.winner, hww]
  change (s.runWrites none [(v, none), (w, none)]).2.map Judged.verdict = _ ∧
    (s.runWrites none [(w, none), (v, none)]).2.map Judged.verdict = _
  constructor
  · rw [State.runWrites_verdicts (by simp [hpass])]
    simp [hsettled.1, hfirst, hlost, hvw]
  · rw [State.runWrites_verdicts (by simp [hpass])]
    simp [hsettled.2, hfirst, hlost, hvw]

/-! Who may write a page (R95). -/

theorem State.mayWrite_iff (s : State) (p : PageRef) (o : Nat) : s.mayWrite p o = true ↔
    o = s.fget p 0x20 15 0 ∨ (o = s.fget p 0x20 31 16 ∧ s.fget p 0x20 31 16 ≠ 0xFFFF) ∨ o = 0 ∨
      (o = 1 ∧ s.fget p 0x20 15 0 ≠ 0) := by
  have hdelegate : (o = s.fget p 0x20 31 16 ∧ o ≠ 0xFFFF) ↔ (o = s.fget p 0x20 31 16 ∧ s.fget p 0x20 31 16 ≠ 0xFFFF) :=
    and_congr_right fun h => by rw [h]
  rw [← hdelegate]
  simp [State.mayWrite, State.fget, or_assoc]

/-- The checks of a direct write before its permission leave a writer that the page does not permit to be refused. -/
theorem State.judge_notOwner {s : State} {w : RegWrite} {p : PageRef} {off : Nat} {r : RegRow}
    (hreach : pathReaches w.path w.addr = true) (ha : w.addr % 4 = 0) (hl : locate w.addr = some (p, off))
    (hon : s.pageOn p = true) (hr : regRow p off = some r) (hw : r.writable ≠ 0) (hmay : s.mayWrite p w.origin = false) :
    s.judge (w, none) = ⟨w, none, p, off, false, Nat.land w.value.toNat 0xFFFFFFFF, s.getFor p off w.origin,
      s.getFor p off w.origin, .deny stNotOwner 1⟩ := by
  simp [State.judge, State.judgeRow, hreach, ha, hl, hon, hr, hw, hmay]

/-- In a cycle without a command, a direct write that is neither stored nor held sets its error bit and is journalled. -/
theorem State.cycleWrites_refused {s : State} {w : RegWrite} (hz : s.zNow = none)
    (hok : (s.judge (w, none)).fate ≠ .ok) (hheld : (s.judge (w, none)).fate ≠ .held) :
    s.cycleWrites [w] = s.recordOne (s.blame (s.judge (w, none))) (s.judge (w, none)) := by
  simp only [State.cycleWrites, State.cycle, hz, State.directWrites_single none hok hheld, State.records, List.foldl_cons,
    List.foldl_nil]

/-- Settles O22: NOTOWNER is the first check after the row's, so it decides whatever the value is. -/
theorem onlyPermittedWritersWriteAPage : Obligations.OnlyPermittedWritersWriteAPage := by
  unfold Obligations.OnlyPermittedWritersWriteAPage
  rintro s w p off o owner delegate r rfl rfl
  refine ⟨s.mayWrite_iff p o, fun hreach ha hl hon hr hw hmay => ?_⟩
  have hj := State.judge_notOwner hreach ha hl hon hr hw hmay
  refine ⟨by rw [hj], fun hz => ?_⟩
  rw [exec_registerWrite, State.cycleWrites_refused hz (by simp [hj]) (by simp [hj]), hj]
  rfl

/-! A direct write that takes effect, alone in its cycle (R97 R102). -/

/-- No other write of its cycle outranks it. -/
theorem winnerOf_single (j : Judged) : winnerOf [j] j = j.w.origin := by
  by_cases hf : j.fate = .ok <;> simp [winnerOf, argMin, hf]

theorem State.directWrites_accepted {s : State} {w : RegWrite} (hf : (s.judge (w, none)).fate = .ok) {u : State} {j : Judged}
    (hstore : s.storeOne (s.judge (w, none)) = (u, j)) :
    s.directWrites none [w] = (u.written j.p j.off s.ringOn j.old j.new j.val, [j]) := by
  have hpass : s.holdLo (w, none) = s := State.holdLo_of_not_held (by simp [hf])
  have hj : j.fate = .ok := by
    rw [← hf, ← (s.storeOne_names (s.judge (w, none))).2.2.2.2, hstore]
  simp [State.directWrites, State.runWrites, hpass, settle1_winner (winnerOf_single _), insRank, hstore, State.blame, hj]

theorem State.cycleWrites_accepted {s : State} {w : RegWrite} (hz : s.zNow = none) (hf : (s.judge (w, none)).fate = .ok) :
    s.cycleWrites [w] = s.acceptedWrite w (fun t j => t.written j.p j.off s.ringOn j.old j.new j.val) := by
  simp only [State.cycleWrites, State.cycle, hz, State.directWrites_accepted hf (Prod.mk.eta).symm]
  rfl

/-! The rows of writes of their own (R85 R87 R92). -/

/-- A row of its own takes the write that it names as REGISTER_WRITE does. -/
theorem State.writeIf_named {s : State} {w : RegWrite} {p : PageRef} {off : Nat} {sel : PageRef → Nat → Nat → Bool}
    (hl : locate w.addr = some (p, off)) (hsel : sel p off w.value.toNat = true) : s.writeIf sel w = s.cycleWrites [w] := by
  simp [State.writeIf, namedWrite, hl, hsel]

section OwnRows

variable {s : State} {w : RegWrite} {p : PageRef} {off : Nat} {sel : PageRef → Nat → Nat → Bool} {c : Instr}
  (hz : s.zNow = none) (hl : locate w.addr = some (p, off)) (hf : (s.judge (w, none)).fate = .ok)

include hz hl hf

theorem exec_namedWrite (hc : exec c s = .next (s.writeIf sel w)) (hsel : sel p off w.value.toNat = true) :
    exec c s = .next (s.acceptedWrite w (fun t j => t.written j.p j.off s.ringOn j.old j.new j.val)) := by
  rw [hc, State.writeIf_named hl hsel, State.cycleWrites_accepted hz hf]

/-- A write of one register alone: what it does beyond storing its value depends on that register and the value. -/
theorem exec_namedWrite_effect (hc : exec c s = .next (s.writeIf sel w)) (hsel : sel p off w.value.toNat = true)
    (hhi : isHi p off = false) {f : State → Judged → State}
    (heff : ∀ (t : State) (j : Judged), j.val = w.value.toNat → t.written p off s.ringOn j.old j.new j.val = f t j) :
    exec c s = .next (s.acceptedWrite w f) := by
  obtain ⟨-, hp, -⟩ := State.judge_ok_names hl hf
  obtain ⟨hoff, -, hval⟩ := State.judge_ok_single hl hf hhi
  obtain ⟨-, hp', hoff', hval', -⟩ := s.storeOne_names (s.judge (w, none))
  rw [exec_namedWrite hz hl hf hc hsel, State.acceptedWrite, State.acceptedWrite, hp', hoff', hp, hoff,
    heff _ _ (hval'.trans hval)]

end OwnRows

end Sys2Proof.Machine

/-! The writes with rows of their own, on the controls and on the blocks (R85 R87 R97). -/

namespace Sys2Proof.Machine

/-! Registers of no pair (R91). -/

/-- A register is the _LO one of a pair by the list of pairs, or as a counter's. -/
theorem isLo_of_no_pair {p : PageRef} {off : Nat} (hctr : off < 0xC00 ∨ 0xC80 ≤ off)
    (hrows : ∀ c g o n d, (c, g, o, n, d) ∈ pairRows → c = p.cls → g = p.page → o ≤ off → (off - o) % d = 0 →
      n ≤ (off - o) / d) : isLo p off = false := by
  have hpairs : pairRows.any (fun (c, g, o, n, d) => decide (c = p.cls ∧ g = p.page ∧ o ≤ off ∧ (off - o) % d = 0 ∧
      (off - o) / d < n)) = false := by
    refine List.any_eq_false.mpr fun ⟨c, g, o, n, d⟩ hrow => ?_
    simpa using hrows c g o n d hrow
  have hcounter : ¬ (0xC00 ≤ off ∧ off < 0xC80 ∧ off % 8 = 0) := by omega
  simp only [isLo, hpairs, hcounter, decide_false, Bool.and_false, Bool.or_false]

theorem isHi_of_lo {p : PageRef} {off : Nat} (h : isLo p (off - 4) = false) : isHi p off = false := by
  rw [isHi, h, Bool.and_false]

/-- The pairs lie from 0x40 on, behind the collar. -/
theorem isHi_collar {off : Nat} (h : off < 0x44) (p : PageRef) : isHi p off = false := by
  have hbase : ∀ row ∈ pairRows, 0x40 ≤ row.2.2.1 := by decide
  refine isHi_of_lo (isLo_of_no_pair (by omega) fun c g o n d hrow _ _ ho => ?_)
  have : 0x40 ≤ o := hbase _ hrow
  omega

theorem isHi_tile {off : Nat} (h : off < 0xC00) (i : Nat) : isHi (tilePg i) off = false := by
  have hcls : ∀ row ∈ pairRows, row.1 ≠ .tile := by decide
  exact isHi_of_lo (isLo_of_no_pair (by omega) fun c g o n d hrow hc => absurd hc (hcls _ hrow))

/-- The control register of a queue follows its base pair. -/
theorem isHi_queueCtl {q : Nat} (hq : q < 64) (v n : Nat) : isHi (vfPg v n) (0x108 + 16 * q) = false := by
  have hbase : ∀ row ∈ pairRows, row.1 = .vf → row.2.2.1 = 0x100 ∧ row.2.2.2.2 = 16 := by decide
  refine isHi_of_lo (isLo_of_no_pair (by omega) fun c g o n d hrow hc _ _ hmod => ?_)
  obtain ⟨rfl, rfl⟩ : o = 0x100 ∧ d = 16 := hbase _ hrow hc
  omega

theorem isHi_ctrClr (p : PageRef) : isHi p 0xC84 = false := by
  have hcount : ∀ row ∈ pairRows, row.2.2.2.1 ≤ (0xC80 - row.2.2.1) / row.2.2.2.2 := by decide
  exact isHi_of_lo (isLo_of_no_pair (by omega) fun c g o n d hrow _ _ _ _ => hcount _ hrow)

/-- A PORT page of lanes has no pairs but its counters. -/
theorem isLo_lanes {p : PageRef} {off : Nat} (hc : p.cls = .port) (hp : p.page = 1) (h : off < 0xC00) : isLo p off = false := by
  have hpage : ∀ row ∈ pairRows, row.1 = .port → row.2.1 = 0 := by decide
  refine isLo_of_no_pair (.inl h) fun c g o n d hrow hcls hg => ?_
  have : g = 0 := hpage _ hrow (hcls.trans hc)
  omega

/-! The effect of a write by its register (R87). -/

theorem State.written_block {off : Nat} (hctl : off ≠ 0x08) (htest : off ≠ 0x2C) (hctr : off ≠ 0xC84) (s : State) (p : PageRef)
    (ring : Bool) (old new v : Nat) : s.written p off ring old new v = s.blockWritten p off old new v := by
  simp [State.written, hctl, htest, hctr]

/-- A queue starts anew when its control register's EN rises (R446). -/
theorem State.blockWritten_queueCtl (s : State) (v : Nat) {n q : Nat} (hn : 2 ≤ n) (old new val : Nat) :
    s.blockWritten (vfPg v n) (0x108 + 16 * q) old new val =
      if bit old 31 = false ∧ bit new 31 = true then s.queueEnabled v n q else s := by
  have hrow : 0x100 ≤ 0x108 + 16 * q ∧ (0x108 + 16 * q) % 16 = 8 ∧ (0x108 + 16 * q - 0x100) / 16 = q := by omega
  simp [State.blockWritten, vfPg, hn, hrow]

/-- Settles O17: each row takes the write that it names as any accepted one, and the register's effect is the one named. -/
theorem controlWriteCommandsComplete : Obligations.ControlWriteCommandsComplete := by
  unfold Obligations.ControlWriteCommandsComplete
  intro s w p off hz hl hf
  have hctl : off = 0x08 → isHi p off = false := fun h => isHi_collar (by omega) p
  refine ⟨?enable, ?reset, ?fence, ?release, ?inject, ?test, ?refsel, ?size, ?retrain, ?spare, ?allot, ?reef, ?copy⟩
  case enable =>
    rintro rfl hp
    exact exec_namedWrite_effect hz hl hf rfl (by simp [hp]) (hctl rfl) fun _ _ _ => rfl
  case reset =>
    rintro rfl hbit
    exact exec_namedWrite_effect hz hl hf rfl (by simp [hbit]) (hctl rfl) fun _ _ _ => rfl
  case fence =>
    rintro rfl hbit
    exact exec_namedWrite_effect hz hl hf rfl (by simp [hbit]) (hctl rfl) fun _ _ _ => rfl
  case release =>
    rintro rfl hbit
    exact exec_namedWrite_effect hz hl hf rfl (by simp [hbit]) (hctl rfl) fun _ _ _ => rfl
  case reef =>
    rintro rfl hp hcls
    exact exec_namedWrite_effect hz hl hf rfl (by simp [hp, hcls]) (hctl rfl) fun _ _ _ => rfl
  case inject =>
    rintro rfl
    exact exec_namedWrite_effect hz hl hf rfl rfl (isHi_collar (by decide) p) fun t j _ =>
      State.written_block (by decide) (by decide) (by decide) t p _ _ _ _
  case test =>
    rintro rfl hbit
    exact exec_namedWrite_effect hz hl hf rfl (by simp [hbit]) (isHi_collar (by decide) p) fun t j hv => by
      simp [State.written, hv, hbit]
  case refsel =>
    rintro rfl rfl
    exact exec_namedWrite_effect hz hl hf rfl rfl rfl fun t j _ => by
      simp [State.written_block, State.blockWritten, tickPg]
  case size =>
    rintro rfl rfl
    exact exec_namedWrite_effect hz hl hf rfl rfl rfl fun t j _ => by
      simp [State.written_block, State.blockWritten, jrnlPg]
  case retrain =>
    rintro i rfl rfl hbit
    exact exec_namedWrite_effect hz hl hf rfl (by simp [lanePg, hbit]) rfl fun t j hv => by
      simp [State.written_block, State.blockWritten, lanePg, hv, hbit]
  case spare =>
    rintro k rfl rfl hmask
    exact exec_namedWrite_effect hz hl hf rfl (by simp [optePg, hmask]) rfl fun t j hv => by
      simp [State.written_block, State.blockWritten, optePg, hv]
  case allot =>
    rintro i rfl hoff
    exact exec_namedWrite_effect hz hl hf rfl (by simp [tilePg, hoff]) (isHi_tile (by omega) i) fun t j _ => by
      rw [State.written_block (by omega) (by omega) (by omega)]
      exact if_pos hoff
  case copy =>
    rintro rfl rfl hbit
    exact exec_namedWrite_effect hz hl hf rfl (by simp [hbit]) rfl fun t j hv => by
      simp [State.written_block, State.blockWritten, routePg, hv, hbit]

/-- Settles O18: as for the controls, with the block's own effect. -/
theorem blockWriteCommandsComplete : Obligations.BlockWriteCommandsComplete := by
  unfold Obligations.BlockWriteCommandsComplete
  intro s w p off hz hl hf
  refine ⟨?enable, ?xlate, ?cmdq, ?cplq, ?partition, ?pairing, ?stage, ?data⟩
  case enable =>
    rintro v rfl rfl
    exact exec_namedWrite_effect hz hl hf rfl rfl rfl fun t j _ => by
      simp [State.written_block, State.blockWritten, viPg]
  case xlate =>
    rintro v rfl rfl hbit
    exact exec_namedWrite_effect hz hl hf rfl (by simp [viPg, hbit]) rfl fun t j hv => by
      simp [State.written_block, State.blockWritten, viPg, hv, hbit]
  case cmdq =>
    rintro v q rfl hq rfl
    exact exec_namedWrite_effect hz hl hf rfl (by simp [vfPg]; omega) (isHi_queueCtl hq v 2) fun t j _ => by
      rw [State.written_block (by omega) (by omega) (by omega), State.blockWritten_queueCtl t v (by decide)]
      rfl
  case cplq =>
    rintro v q rfl hq rfl
    exact exec_namedWrite_effect hz hl hf rfl (by simp [vfPg]; omega) (isHi_queueCtl hq v 3) fun t j _ => by
      rw [State.written_block (by omega) (by omega) (by omega), State.blockWritten_queueCtl t v (by decide)]
      rfl
  case partition =>
    rintro rfl rfl hbit
    exact exec_namedWrite_effect hz hl hf rfl (by simp [hbit]) rfl fun t j hv => by
      simp [State.written_block, State.blockWritten, hbmcPg, hv, hbit]
  case pairing =>
    rintro rfl rfl hbit
    exact exec_namedWrite_effect hz hl hf rfl (by simp [hbit]) rfl fun t j _ => by
      simp [State.written_block, State.blockWritten, lanyPg]
  case stage =>
    rintro rfl rfl hbit
    exact exec_namedWrite_effect hz hl hf rfl (by simp [hbit]) rfl fun t j hv => by
      simp [State.written_block, State.blockWritten, pstoPg, hv, hbit]
  case data =>
    rintro rfl rfl
    exact exec_namedWrite_effect hz hl hf rfl rfl rfl fun t j hv => by
      simp [State.written_block, State.blockWritten, pstoPg, hv]

end Sys2Proof.Machine

/-! Reads, and the rows of register access (R5 R8 R91 R92 R93 R94 R107). -/

namespace Sys2Proof.Machine

/-! Who may read a page (R94). -/

theorem State.readBarred_iff (s : State) (p : PageRef) (o : Nat) : s.readBarred p o = true ↔
    (∃ h, h < 16 ∧ o = 0x10 + h ∧ ((p.cls = .host ∧ p.inst ≠ h) ∨ (p.cls = .vi ∧ viPort p.inst ≠ h))) ∨
      (p.cls = .jrnl ∧ p.page = 1 ∧ 1 < o) := by
  have hport (q : Nat → Prop) : (∃ h, h < 16 ∧ o = 0x10 + h ∧ q h) ↔ (0x10 ≤ o ∧ o < 0x20) ∧ q (o - 0x10) := by
    constructor
    · rintro ⟨h, hh, rfl, hq⟩
      exact ⟨by omega, by simpa using hq⟩
    · rintro ⟨ho, hq⟩
      exact ⟨o - 0x10, by omega, by omega, hq⟩
  rw [hport]
  cases hc : p.cls <;> simp [State.readBarred, hc]

/-- A page that can be reached is powered. -/
theorem State.powered_of_pageOn {s : State} {p : PageRef} (h : s.pageOn p = true) : s.powered p = true := by
  simp only [State.pageOn, Bool.and_eq_true] at h
  exact h.1

theorem State.readReg_barred {s : State} {p : PageRef} {o : Nat} (h : s.readBarred p o = true) (off : Nat) :
    s.readReg o p off = (s, 0) := by
  simp [State.readReg, h]

theorem State.readAt_barred {s : State} {x : APath} {a : Nat} {p : PageRef} {off : Nat} (hl : locate a = some (p, off))
    (h : s.readBarred p x.origin = true) : s.readAt x a = (s, 0) := by
  simp [State.readAt, hl, State.readReg_barred h]

/-! What a read does where its origin holds no latch of the page (R5 R91 R107). -/

/-- A read of a _LO register latches its pair, and any other ends the latch (R91). -/
def State.latchRead (s : State) (o : Nat) (p : PageRef) (off : Nat) : State :=
  let taken := if isLo p off then some (s.latchOf p off o) else none
  { s with latches := Tab.set noLatch s.latches (65536 * pageCode p + o) taken }

/-- A read clears the RC fields of the register (R5 R93). -/
def State.clearRead (s : State) (p : PageRef) (off : Nat) (r : RegRow) : State :=
  if r.rc = 0 then s else s.put p off (s.get p off - Nat.land (s.get p off) r.rc)

/-- The least figure of merit of a lane starts anew once it is read. -/
def State.fomRead (s : State) (p : PageRef) (off : Nat) : State :=
  if p.cls = .port ∧ p.page = 1 ∧ (off = 0x84 ∨ off = 0xA4) then
    s.updLane p.inst (b2n (decide (off = 0xA4))) (fun x => { x with minFresh := true })
  else s

/-- The last word of a journal record takes the origin's RD to the next (R107). -/
def State.recordRead (s : State) (o : Nat) (p : PageRef) (off : Nat) : State :=
  if p = jrnlPg 1 ∧ off = 0x7C ∧ s.rdStat o = 0 then
    let rd := wrapAdd 64 (s.ownReg p 0x40 o + 2 ^ 32 * s.ownReg p 0x44 o) 1
    (s.setOwn p 0x40 o (rd % 2 ^ 32)).setOwn p 0x44 o (rd / 2 ^ 32)
  else s

/-- The state that a read without a latch leaves. -/
def State.readLeaves (s : State) (o : Nat) (p : PageRef) (off : Nat) (r : RegRow) : State :=
  (((s.latchRead o p off).clearRead p off r).fomRead p off).recordRead o p off

theorem State.readReg_unlatched {s : State} {o : Nat} {p : PageRef} {off : Nat} {r : RegRow} (hp : s.powered p = true)
    (hb : s.readBarred p o = false) (hr : regRow p off = some r)
    (hlatch : Tab.get noLatch s.latches (65536 * pageCode p + o) = none) :
    s.readReg o p off = (s.readLeaves o p off r, s.peek p off o) := by
  have hguard : ¬ (!s.powered p || s.readBarred p o || (regRow p off).isNone) = true := by simp [hp, hb, hr]
  rw [State.readReg, if_neg hguard]
  simp only [hlatch, hr]
  rfl

theorem State.clearRead_plain {r : RegRow} (hr : r.rc = 0) (s : State) (p : PageRef) (off : Nat) :
    s.clearRead p off r = s := if_pos hr

theorem State.recordRead_other {p : PageRef} (hp : p ≠ jrnlPg 1) (s : State) (o off : Nat) : s.recordRead o p off = s :=
  if_neg fun h => hp h.1

/-- No _LO register is a lane's figure of merit. -/
theorem State.fomRead_lo {p : PageRef} {off : Nat} (hlo : isLo p off = true) (s : State) : s.fomRead p off = s := by
  refine if_neg fun ⟨hc, hp, hoff⟩ => ?_
  have hnot := isLo_lanes hc hp (show off < 0xC00 by omega)
  rw [hlo] at hnot
  exact Bool.noConfusion hnot

theorem State.clearRead_out (s : State) (p : PageRef) (off : Nat) (r : RegRow) : (s.clearRead p off r).out = s.out := by
  unfold State.clearRead
  split <;> rfl

theorem State.fomRead_out (s : State) (p : PageRef) (off : Nat) : (s.fomRead p off).out = s.out := by
  unfold State.fomRead
  split <;> rfl

theorem State.fomRead_regs (s : State) (p : PageRef) (off : Nat) : (s.fomRead p off).regs = s.regs := by
  unfold State.fomRead
  split <;> rfl

theorem State.setOwn_out (s : State) (p : PageRef) (off o v : Nat) : (s.setOwn p off o v).out = s.out := rfl

theorem State.recordRead_out (s : State) (o : Nat) (p : PageRef) (off : Nat) : (s.recordRead o p off).out = s.out := by
  unfold State.recordRead
  split
  · rw [State.setOwn_out, State.setOwn_out]
  · rfl

/-- What a read does sends nothing. -/
theorem State.readLeaves_out (s : State) (o : Nat) (p : PageRef) (off : Nat) (r : RegRow) :
    (s.readLeaves o p off r).out = s.out := by
  rw [State.readLeaves, State.recordRead_out, State.fomRead_out, State.clearRead_out]
  rfl

/-- Of the registers of a page other than JRNL page 1, a read changes the RC fields of the one read. -/
theorem State.readLeaves_regs {p : PageRef} (hp : p ≠ jrnlPg 1) (s : State) (o off : Nat) (r : RegRow) :
    (s.readLeaves o p off r).regs = (if r.rc = 0 then s else s.put p off (s.get p off - Nat.land (s.get p off) r.rc)).regs := by
  rw [State.readLeaves, State.recordRead_other hp, State.fomRead_regs, State.clearRead]
  split <;> rfl

/-- A read of a _LO register without RC fields only latches. -/
theorem State.readLeaves_lo {p : PageRef} {off : Nat} {r : RegRow} (hp : p ≠ jrnlPg 1) (hlo : isLo p off = true) (hr : r.rc = 0)
    (s : State) (o : Nat) : s.readLeaves o p off r =
      { s with latches := Tab.set noLatch s.latches (65536 * pageCode p + o) (some (s.latchOf p off o)) } := by
  rw [State.readLeaves, State.recordRead_other hp, State.fomRead_lo hlo, State.clearRead_plain hr, State.latchRead, hlo]
  rfl

/-- A read, where its origin holds no latch of the page: what it leaves, and the value returned. -/
theorem State.readOut_unlatched {s : State} {x : APath} {a : Nat} {p : PageRef} {off : Nat} {r : RegRow}
    (hreach : pathReaches x a = true) (ha : a % 4 = 0) (hl : locate a = some (p, off)) (hr : regRow p off = some r)
    (hon : s.pageOn p = true) (hb : s.readBarred p x.origin = false)
    (hlatch : Tab.get noLatch s.latches (65536 * pageCode p + x.origin) = none) : s.readOut x a =
      (s.readLeaves x.origin p off r).emit (.value x.origin a (BitVec.ofNat 32 (s.peek p off x.origin))) := by
  simp [State.readOut, State.readAt, hreach, ha, hl, hon, State.readReg_unlatched (State.powered_of_pageOn hon) hb hr hlatch]

/-- Settles O57: a barred read is a read of 0, and any other is the read of a register. -/
theorem barredReadsReturnZero : Obligations.BarredReadsReturnZero := by
  unfold Obligations.BarredReadsReturnZero
  rintro s p x o rfl
  refine ⟨s.readBarred_iff p _, fun a off ha hl hb => ?_, fun a off hreach ha hl hb hon hdef hlatch => ?_⟩
  · rw [exec_readClear, State.readOut_aligned ha (State.readAt_barred hl hb)]
  · obtain ⟨r, hr⟩ := Option.isSome_iff_exists.mp hdef
    refine ⟨_, exec_readClear x a s, ?_⟩
    rw [State.readOut_unlatched hreach ha hl hr hon hb hlatch, State.emit, State.readLeaves_out]

/-! A word of a journal record (R107). -/

theorem locate_record : ∀ k < 8, locate ((jrnlPg 1).addr + 0x60 + 4 * k) = some (jrnlPg 1, 0x60 + 4 * k) := by decide +kernel

theorem regRow_record {k : Nat} (hk : k < 8) : ∃ r, regRow (jrnlPg 1) (0x60 + 4 * k) = some r ∧ r.rc = 0 := by
  have h : ∀ k < 8, (regRow (jrnlPg 1) (0x60 + 4 * k)).map RegRow.rc = some 0 := by decide
  exact Option.map_eq_some_iff.mp (h k hk)

theorem State.live_record {k : Nat} (hk : k < 8) (s : State) (o : Nat) :
    s.live (jrnlPg 1) (0x60 + 4 * k) o = some (leAt (s.rdRec o) (4 * k) 4) := by
  have hoff : 0x60 + 4 * k ≠ 0x48 ∧ 0x60 + 4 * k < 0x80 := by omega
  delta State.live
  simp [jrnlPg, hoff]

/-- Behind the first registers of the collar, a register that shows state held elsewhere reads as that. -/
theorem State.peek_live {s : State} {p : PageRef} {off o v : Nat} (hoff : 0x10 ≤ off) (h : s.live p off o = some v) :
    s.peek p off o = v := by
  unfold State.peek
  split
  · omega
  · omega
  · omega
  · omega
  · rw [h]

theorem State.readLeaves_record {r : RegRow} (hr : r.rc = 0) (s : State) (o off : Nat) :
    s.readLeaves o (jrnlPg 1) off r = (s.latchRead o (jrnlPg 1) off).recordRead o (jrnlPg 1) off := by
  rw [State.readLeaves, State.clearRead_plain hr]
  rfl

section RecordRead

variable {s : State} {o k : Nat}

/-- RD stays at a record whose last word has not been read, or that is not held. -/
theorem State.recordRead_stays (h : k ≠ 7 ∨ s.rdStat o ≠ 0) :
    ((s.latchRead o (jrnlPg 1) (0x60 + 4 * k)).recordRead o (jrnlPg 1) (0x60 + 4 * k)).orig = s.orig := by
  have hstay : ¬ (jrnlPg 1 = jrnlPg 1 ∧ 0x60 + 4 * k = 0x7C ∧ (s.latchRead o (jrnlPg 1) (0x60 + 4 * k)).rdStat o = 0) := by
    rintro ⟨-, hlast, hheld⟩
    exact h.elim (fun hk => hk (by omega)) (fun hst => hst hheld)
  rw [State.recordRead, if_neg hstay]
  rfl

theorem State.recordRead_advances (h : s.rdStat o = 0) {rd : Nat}
    (hrd : rd = wrapAdd 64 (s.ownReg (jrnlPg 1) 0x40 o + 2 ^ 32 * s.ownReg (jrnlPg 1) 0x44 o) 1) :
    ((s.latchRead o (jrnlPg 1) 0x7C).recordRead o (jrnlPg 1) 0x7C).orig =
      ((s.setOwn (jrnlPg 1) 0x40 o (rd % 2 ^ 32)).setOwn (jrnlPg 1) 0x44 o (rd / 2 ^ 32)).orig := by
  subst hrd
  have hlast : jrnlPg 1 = jrnlPg 1 ∧ 0x7C = 0x7C ∧ (s.latchRead o (jrnlPg 1) 0x7C).rdStat o = 0 := ⟨rfl, rfl, h⟩
  rw [State.recordRead, if_pos hlast]
  rfl

end RecordRead

/-! A write of a _LO register (R92). -/

theorem State.judge_held_names {s : State} {w : RegWrite} {p : PageRef} {off : Nat} (hl : locate w.addr = some (p, off))
    (hf : (s.judge (w, none)).fate = .held) : (s.judge (w, none)).w = w ∧ (s.judge (w, none)).p = p ∧
      (s.judge (w, none)).off = off := by
  obtain ⟨r, hj⟩ := State.judge_row (s := s) (m := none) hl (by simp [hf]) (by simp [hf])
  obtain ⟨_, _, _, _, _, _, hrow, _, hat, _⟩ := s.judgeRow_names w none p off r
  rw [hj, hrow] at hf ⊢
  exact ⟨rfl, rfl, hat hf⟩

/-- The judgement of a _LO write reads no held half. -/
theorem State.judgeRow_setHeld {p : PageRef} {off : Nat} (hlo : isLo p off = true) (s : State) (q : PageRef) (o x : Nat)
    (v : Option Word) (w : RegWrite) (m : Option Nat) (r : RegRow) :
    (s.setHeld q o x v).judgeRow w m p off r = s.judgeRow w m p off r := by
  simp only [State.judgeRow, hlo, if_true]
  rfl

theorem State.judge_setHeld {w : RegWrite} {p : PageRef} {off : Nat} (hl : locate w.addr = some (p, off))
    (hlo : isLo p off = true) (s : State) (q : PageRef) (o x : Nat) (v : Option Word) :
    (s.setHeld q o x v).judge (w, none) = s.judge (w, none) := by
  simp only [State.judge, hl, State.judgeRow_setHeld hlo]
  rfl

theorem State.cycleWrites_held {s : State} {w : RegWrite} {p : PageRef} {off : Nat} (hz : s.zNow = none)
    (hl : locate w.addr = some (p, off)) (hlo : isLo p off = true) (hf : (s.judge (w, none)).fate = .held) :
    s.cycleWrites [w] = s.setHeld p off w.origin (some (BitVec.ofNat 32 (s.judge (w, none)).new)) := by
  obtain ⟨hw, hp, hoff⟩ := State.judge_held_names hl hf
  have hhold : s.holdLo (w, none) = s.setHeld p off w.origin (some (BitVec.ofNat 32 (s.judge (w, none)).new)) := by
    simp [State.holdLo, hf, hw, hp, hoff]
  simp [State.cycleWrites, State.cycle, hz, State.directWrites, State.runWrites, hhold, State.judge_setHeld hl hlo, settle1,
    insRank, State.storeOne, State.blame, State.records, State.recordOne, hf]

/-! The rows of the register accesses. -/

theorem exec_pairLoRead {x : APath} {a : Nat} {p : PageRef} {off : Nat} (s : State) (ha : a % 4 = 0)
    (hl : locate a = some (p, off)) (hlo : isLo p off = true) : exec (.pairLoRead x a) s = .next (s.readOut x a) := by
  change execPairLoRead x a s = _
  simp [execPairLoRead, ha, hl, hlo]

theorem exec_pairLoRead_unaligned {a : Nat} (s : State) (x : APath) (ha : a % 4 ≠ 0) :
    exec (.pairLoRead x a) s = .next (s.badRead x a) := if_pos ha

theorem exec_journalRecordRead {k : Nat} (s : State) (x : APath) (hk : k < 8) :
    exec (.journalRecordRead x k) s = .next (s.readOut x ((jrnlPg 1).addr + 0x60 + 4 * k)) := if_pos hk

theorem exec_pairHiCommit {w : RegWrite} {p : PageRef} {off : Nat} (s : State) (hl : locate w.addr = some (p, off))
    (hhi : isHi p off = true) : exec (.pairHiCommit [w]) s = .next (s.cycleWrites [w]) := by
  change execPairHiCommit [w] s = _
  simp [execPairHiCommit, namedWrite, hl, hhi]

/-- A word of the record at the origin's RD, which the two managers alone may read. -/
theorem State.readOut_record {s : State} {x : APath} {k : Nat} (hx : x = .session ∨ x = .firmware) (hk : k < 8)
    (hon : s.pageOn (jrnlPg 1) = true)
    (hlatch : Tab.get noLatch s.latches (65536 * pageCode (jrnlPg 1) + x.origin) = none) :
    s.readOut x ((jrnlPg 1).addr + 0x60 + 4 * k) = ((s.latchRead x.origin (jrnlPg 1) (0x60 + 4 * k)).recordRead x.origin
      (jrnlPg 1) (0x60 + 4 * k)).emit (.value x.origin ((jrnlPg 1).addr + 0x60 + 4 * k)
        (BitVec.ofNat 32 (leAt (s.rdRec x.origin) (4 * k) 4))) := by
  have hpath : pathReaches x ((jrnlPg 1).addr + 0x60 + 4 * k) = true ∧ x.origin ≤ 1 := by
    rcases hx with rfl | rfl
    · exact ⟨rfl, by decide⟩
    · exact ⟨rfl, by decide⟩
  have halign : ((jrnlPg 1).addr + 0x60 + 4 * k) % 4 = 0 := by
    have hbase : ((jrnlPg 1).addr + 0x60) % 4 = 0 := by decide
    omega
  have hopen : s.readBarred (jrnlPg 1) x.origin = false := by simp [State.readBarred, jrnlPg, hpath.2]
  obtain ⟨r, hr, hrc⟩ := regRow_record hk
  rw [State.readOut_unlatched hpath.1 halign (locate_record k hk) hr hon hopen hlatch, State.readLeaves_record hrc,
    State.peek_live (by omega) (s.live_record hk x.origin)]

theorem exec_registerWrite_joint {s : State} {c : ZCmd} (ws : List RegWrite) (hz : s.zNow = some c) :
    exec (.registerWrite ws) s = .next (s.jointCycle ws c).1 := by
  rw [exec_registerWrite, State.cycleWrites, State.cycle, hz]

/-- Settles O16: a read leaves what its register's RC fields and pair ask for, and a row of its own takes its write as
REGISTER_WRITE does. -/
theorem registerAccessCommandsComplete : Obligations.RegisterAccessCommandsComplete := by
  unfold Obligations.RegisterAccessCommandsComplete
  intro s
  refine ⟨fun ws c => exec_registerWrite_joint ws, fun q a => ⟨exec_narrowWrite q a s, exec_narrowRead q a s⟩,
    fun q a p => State.badAccess_on, fun q a ha => ⟨exec_pairLoRead_unaligned s q ha, ?_⟩, ?loRead, ?read, ?record, ?loWrite,
    ?writes, ?ctrClear, ?snap⟩
  · rw [exec_readClear, s.readOut_unaligned q ha]
  case loRead =>
    rintro q o a p off r rfl hreach ha hl hlo hr hrc hon hb hp hlatch
    rw [exec_pairLoRead s ha hl hlo, State.readOut_unlatched hreach ha hl hr hon hb hlatch, State.readLeaves_lo hp hlo hrc]
  case read =>
    rintro q o a p off r rfl hreach ha hl - hr hon hb hp hlatch
    refine ⟨_, exec_readClear q a s, ?_, ?_⟩
    · rw [State.readOut_unlatched hreach ha hl hr hon hb hlatch, State.emit, State.readLeaves_out]
    · rw [State.readOut_unlatched hreach ha hl hr hon hb hlatch, ← State.readLeaves_regs hp s q.origin off r]
      rfl
  case record =>
    rintro q o k rfl hk hq hon hlatch
    refine ⟨_, exec_journalRecordRead s q hk, ?_, fun hstay => ?_, ?_⟩
    · rw [State.readOut_record hq hk hon hlatch, State.emit, State.recordRead_out]
      rfl
    · rw [State.readOut_record hq hk hon hlatch, State.emit_orig, State.recordRead_stays hstay]
    · rintro rfl hheld rd hrd
      rw [State.readOut_record hq hk hon hlatch, State.emit_orig, State.recordRead_advances hheld hrd]
  case loWrite =>
    intro w p off hz hl hlo hf
    rw [← State.cycleWrites_held hz hl hlo hf]
    exact congrArg _ (State.writeIf_named hl hlo)
  case writes =>
    rintro w hz hf t rfl
    refine ⟨by rw [exec_registerWrite, State.cycleWrites_accepted hz hf], fun p off hl => ?_⟩
    refine ⟨fun hhi => by rw [exec_pairHiCommit s hl hhi, State.cycleWrites_accepted hz hf],
      fun hp ho => exec_namedWrite hz hl hf rfl (by simp [hp, ho]), fun ho hb => exec_namedWrite hz hl hf rfl (by simp [ho, hb]),
      fun ho hb => exec_namedWrite hz hl hf rfl (by simp [ho, hb]), fun ho hb => exec_namedWrite hz hl hf rfl (by simp [ho, hb]),
      fun ho => exec_namedWrite hz hl hf rfl (by simp [ho]), fun ho hb => exec_namedWrite hz hl hf rfl (by simp [ho, hb]),
      fun hp ho => exec_namedWrite hz hl hf rfl (by simp [hp, ho]), fun hp ho => exec_namedWrite hz hl hf rfl (by simp [hp, ho]),
      fun hc hp ho hb => exec_namedWrite hz hl hf rfl (by simp [hc, hp, ho, hb]),
      fun hc hp ho hm => exec_namedWrite hz hl hf rfl (by simp [hc, hp, ho, hm]),
      fun hc ho => exec_namedWrite hz hl hf rfl (by simp [hc, ho]),
      fun hc hp ho => exec_namedWrite hz hl hf rfl (by simp [hc, hp, ho]),
      fun hp ho hb => exec_namedWrite hz hl hf rfl (by simp [hp, ho, hb])⟩
  case ctrClear =>
    intro w p hz hl hctr hf
    exact exec_namedWrite_effect hz hl hf rfl (by simp [hctr]) (isHi_ctrClr p) fun t j hv => by
      simp [State.written, hctr, hv]
  case snap =>
    intro w hz hl hb hf
    exact exec_namedWrite_effect hz hl hf rfl (by simp [hb]) rfl fun t j _ => by
      simp [State.written_block, State.blockWritten, pmonPg]

end Sys2Proof.Machine

/-! The change journal, and the ends of fences, injections and tests (R89 R105 R106 R109 R473 R475 R547). -/

namespace Sys2Proof.Machine

/-! A record's way (R103 R105 R109 R599). -/

theorem leBytes_length (n v : Nat) : (leBytes n v).length = n := by
  induction n generalizing v with
  | zero => rfl
  | succ n ih => rw [leBytes, List.length_cons, ih]

theorem JRec.bytes_length (r : JRec) : r.bytes.length = 32 := by
  simp [JRec.bytes, leBytes_length]

theorem JRec.bytes_ne_nil (r : JRec) : r.bytes ≠ [] := by
  rw [← List.length_pos_iff, r.bytes_length]
  decide

/-- A value other than its key's reading is listed, in whatever form the table is. -/
theorem tab_get_set_listed {α : Type} [DecidableEq α] {d : Nat → α} {k : Nat} {v : α} (h : v ≠ d k) (t : Tab α) :
    Tab.get d (Tab.set d t k v) k = v := by
  rw [Tab.get, Tab.set, if_neg h, tab_find_ins, Option.getD_some]

theorem State.keepRec_running {s : State} (h : s.ringOn = true) (b : Bytes) :
    s.keepRec b = { s with jrnl := { s.jrnl with pendingRec := s.jrnl.pendingRec ++ [b] } } := if_pos h

theorem State.keepRec_held {s : State} (h : s.ringOn = false) (hroom : s.jrnl.held.length < 4096) (b : Bytes) :
    s.keepRec b = { s with jrnl := { s.jrnl with held := s.jrnl.held ++ [b] } } := by
  rw [State.keepRec, if_neg (by simp [h]), if_pos hroom]

theorem State.keepRec_full {s : State} (h : s.ringOn = false) (hfull : s.jrnl.held.length = 4096) (b : Bytes) :
    s.keepRec b = { s with jrnl := { s.jrnl with held := s.jrnl.held.drop 1 ++ [b],
                                                 overwritten := min (s.jrnl.overwritten + 1) 0xFFFFFFFF } } := by
  rw [State.keepRec, if_neg (by simp [h]), if_neg (by omega)]

theorem State.keepRec_mirror (s : State) (b : Bytes) : (s.keepRec b).jrnl.mirror = s.jrnl.mirror := by
  unfold State.keepRec
  split
  · rfl
  split <;> rfl

theorem State.keepRec_mirrors (s : State) (b : Bytes) (h : Nat) (r : JRec) : (s.keepRec b).mirrors h r = s.mirrors h r := by
  unfold State.keepRec
  split
  · rfl
  split <;> rfl

/-- A record behind those that wait for the mirrors of some host ports. -/
def joinMirrors (takes : Nat → Bool) (b : Bytes) (hosts : List Nat) (t : Tab (List Bytes)) : Tab (List Bytes) :=
  hosts.foldl (fun t h => if takes h then Tab.upd (fun _ => ([] : List Bytes)) t h (fun q => q ++ [b]) else t) t

theorem joinMirrors_other {takes : Nat → Bool} {h : Nat} {hosts : List Nat} (hno : h ∈ hosts → takes h = false) (b : Bytes)
    (t : Tab (List Bytes)) : Tab.get (fun _ => ([] : List Bytes)) (joinMirrors takes b hosts t) h =
      Tab.get (fun _ => ([] : List Bytes)) t h := by
  refine List.foldlRecOn (motive := fun u => Tab.get (fun _ => ([] : List Bytes)) u h =
    Tab.get (fun _ => ([] : List Bytes)) t h) hosts _ rfl fun u hu g hg => ?_
  split
  next hgo =>
    have hne : g ≠ h := by
      rintro rfl
      simp [hno hg] at hgo
    rw [Tab.upd, tab_get_set_ne hne, hu]
  next => exact hu

theorem joinMirrors_mem {takes : Nat → Bool} {h : Nat} {hosts : List Nat} (hh : h ∈ hosts) (hnodup : hosts.Nodup)
    (htakes : takes h = true) (b : Bytes) (t : Tab (List Bytes)) :
    Tab.get (fun _ => ([] : List Bytes)) (joinMirrors takes b hosts t) h =
      Tab.get (fun _ => ([] : List Bytes)) t h ++ [b] := by
  obtain ⟨before, after, rfl⟩ := List.append_of_mem hh
  obtain ⟨-, hafter, hapart⟩ := List.nodup_append.mp hnodup
  have hb : h ∉ before := fun hin => hapart h hin h (by simp) rfl
  have ha : h ∉ after := (List.nodup_cons.mp hafter).1
  have hsplit : joinMirrors takes b (before ++ h :: after) t = joinMirrors takes b after
      (Tab.upd (fun _ => ([] : List Bytes)) (joinMirrors takes b before t) h (fun q => q ++ [b])) := by
    simp [joinMirrors, htakes]
  rw [hsplit, joinMirrors_other (fun hin => absurd hin ha), Tab.upd, tab_get_set_listed (by simp),
    joinMirrors_other (fun hin => absurd hin hb)]

theorem State.record_mirror (s : State) (r : JRec) :
    (s.record r).jrnl.mirror = joinMirrors (fun h => s.mirrors h r) r.bytes (List.range 16) s.jrnl.mirror := by
  simp only [State.record, State.mirrorOut, State.keepRec_mirror, State.keepRec_mirrors]
  rfl

/-- Apart from the mirrors' queues, a record leaves the journal as its keeping does. -/
theorem State.record_kept (s : State) (r : JRec) : (s.record r).jrnl.pendingRec = (s.keepRec r.bytes).jrnl.pendingRec ∧
    (s.record r).jrnl.held = (s.keepRec r.bytes).jrnl.held ∧
    (s.record r).jrnl.overwritten = (s.keepRec r.bytes).jrnl.overwritten := ⟨rfl, rfl, rfl⟩

/-- Settles O24: the mirrors' queues are apart from the ring and the buffer, and each is extended at most once. -/
theorem recordsReachRingBufferAndMirrors : Obligations.RecordsReachRingBufferAndMirrors := by
  unfold Obligations.RecordsReachRingBufferAndMirrors
  intro s r
  obtain ⟨hpending, hheld, hover⟩ := s.record_kept r
  rw [hpending, hheld, hover, s.record_mirror r]
  refine ⟨fun hon => ?_, fun hoff hroom => ?_, fun hoff hfull => ?_, fun h hh htakes => ?_, fun h _ hno => ?_, r.bytes_length⟩
  · rw [State.keepRec_running hon]
    exact ⟨rfl, rfl⟩
  · rw [State.keepRec_held hoff hroom]
    exact ⟨rfl, rfl⟩
  · rw [State.keepRec_full hoff hfull]
    exact ⟨rfl, rfl⟩
  · exact joinMirrors_mem (List.mem_range.mpr hh) List.nodup_range htakes _ _
  · exact joinMirrors_other (fun _ => hno) _ _

/-! The ring and a mirror take a record that waits (R105 R109). -/

theorem State.writeRec_cons {s : State} {b : Bytes} {l : List Bytes} (h : s.jrnl.pendingRec = b :: l) :
    ∃ old, s.writeRec = { s with jrnl := { s.jrnl with pendingRec := l, wr := wrapAdd 64 s.jrnl.wr 1,
                                                       ring := Tab.set (fun _ => ([] : Bytes)) old s.jrnl.wr b } } := by
  simp only [State.writeRec, h]
  exact ⟨_, rfl⟩

theorem exec_journalRecordWrite {s : State} (h : s.ringOn = true) : exec .journalRecordWrite s = .next s.writeRec := if_pos h

theorem exec_mirrorRecordWrite {s : State} {h : Nat} {b : Bytes} {l : List Bytes}
    (hq : Tab.get (fun _ => ([] : List Bytes)) s.jrnl.mirror h = b :: l) (hup : s.bget (hostPg h 0) 0x44 31 = true)
    (hfatal : s.fatal = false) : exec (.mirrorRecordWrite h) s = .next (State.mirrorRec
      { s with jrnl := { s.jrnl with mirror := Tab.set (fun _ => ([] : List Bytes)) s.jrnl.mirror h l } } h b) := by
  change execMirrorRecordWrite h s = _
  simp [execMirrorRecordWrite, hq, hup, hfatal]

/-! The ends of fences, injections and tests (R89 R473 R475 R547). -/

section Ends

variable {s : State} {p : PageRef} {page : Nat} (hpage : pageOfCode page = some p)

include hpage

theorem exec_errorInjectionRaise (hon : s.pageOn p = true) : exec (.errorInjectionRaise page) s =
    .next ((List.range 32).foldl (fun u b => if bit (s.injectDue p) b then u.injectOne p b else u) s) := by
  change execErrorInjectionRaise page s = _
  simp [execErrorInjectionRaise, hpage, hon]

theorem exec_fenceComplete (hon : s.powered p = true) (hzero : p.page = 0) (hreq : s.bget p 8 3 = true)
    (hnot : s.bget p 0xC 2 = false) : exec (.fenceComplete page) s =
      .next (if (s.nocRun nocFuel none).fenceOver p then (s.nocRun nocFuel none).setFenced p else s.nocRun nocFuel none) := by
  change execFenceComplete page s = _
  simp [execFenceComplete, hpage, hon, hzero, hreq, hnot]

theorem exec_fenceTimeout {k t : Nat} (hstop : stopOf p = some k) (hon : s.powered p = true) (hnot : s.bget p 0xC 2 = false)
    (hstart : Tab.get (fun _ => 0) s.svc.fenceStart (pageCode p) = t + 1)
    (hlate : t + 2 ^ max 10 (s.fget (nocPg k) 0x40 12 8) ≤ s.nowTick) : exec (.fenceTimeout page) s = .next (State.raise
      { s with svc := { s.svc with fenceStart := Tab.set (fun _ => 0) s.svc.fenceStart (pageCode p) 0 } } (nocPg k) 19) := by
  change execFenceTimeout page s = _
  simp [execFenceTimeout, hpage, hstop, hon, hnot, hstart, hlate]

variable {t : Test} (ht : s.testOf p = some t) (hon : s.powered p = true) {verdict : Nat} (hlo : 1 ≤ verdict)
  (hhi : verdict ≤ 3)

include ht hon hlo hhi

theorem exec_selfTestVerdict_full (fails : Nat) (hkind : t.kind = 5) (hst : s.svcState p = svcSelftest)
    (hport : p.cls ≠ .port ∨ (s.lport p.inst).test = none) : exec (.selfTestVerdict page verdict fails) s =
      .next (s.fullEnd ((pageOfCode t.page).getD p) verdict fails) := by
  have hguard : ¬ (s.powered p = false ∨ verdict = 0 ∨ 3 + 1 ≤ verdict) := by simp [hon]; omega
  have hdone : s.svcState p = svcSelftest ∧ ¬ (p.cls = .port ∧ (s.lport p.inst).test.isSome) := by
    refine ⟨hst, fun ⟨hc, hsome⟩ => hport.elim (fun h => h hc) fun h => ?_⟩
    simp [h] at hsome
  change execSelfTestVerdict page verdict fails s = _
  simp only [execSelfTestVerdict, hpage, ht]
  rw [if_neg hguard, if_pos hkind, if_pos hdone]

theorem exec_selfTestVerdict_target (fails : Nat) (hkind : t.kind ≠ 5) (hcls : p.cls ≠ .eng) :
    exec (.selfTestVerdict page verdict fails) s = .next (s.targetVerdict p.zero t verdict fails) := by
  have hguard : ¬ (s.powered p = false ∨ verdict = 0 ∨ 3 + 1 ≤ verdict) := by simp [hon]; omega
  change execSelfTestVerdict page verdict fails s = _
  simp only [execSelfTestVerdict, hpage, ht]
  rw [if_neg hguard, if_neg hkind, if_neg fun h => hcls h.1]

end Ends

/-- Settles O23: none of the guards of these rows stands in the way, and a record listed in the ring is not the empty one
that an unlisted index reads as. -/
theorem collarAndJournalCommandsComplete : Obligations.CollarAndJournalCommandsComplete := by
  unfold Obligations.CollarAndJournalCommandsComplete
  intro s p page hpage
  refine ⟨?fence, fun k t hstop hon hnot hstart hlate => exec_fenceTimeout hpage hstop hon hnot hstart hlate, ?inject,
    fun verdict fails t ht hon hlo hhi hkind hst hport =>
      exec_selfTestVerdict_full hpage ht hon hlo hhi fails hkind hst hport,
    fun verdict fails t ht hon hlo hhi hkind hcls => exec_selfTestVerdict_target hpage ht hon hlo hhi fails hkind hcls,
    ?ring, fun h b l => exec_mirrorRecordWrite⟩
  case fence =>
    rintro u rfl hon hzero hreq hnot
    exact exec_fenceComplete hpage hon hzero hreq hnot
  case inject =>
    rintro hon due rfl
    exact exec_errorInjectionRaise hpage hon
  case ring =>
    intro b l hon hpending hb
    obtain ⟨old, hwrite⟩ := State.writeRec_cons hpending
    refine ⟨_, exec_journalRecordWrite hon, ?_⟩
    rw [hwrite]
    exact ⟨rfl, rfl, tab_get_set_listed hb old, rfl, rfl⟩

end Sys2Proof.Machine

/-! Precedence among the commands of a window (R98 R119). -/

namespace Sys2Proof.Machine

/-- A command that a later one of its window is attached to (R119). -/
def ZCmd.superseding (w c : ZCmd) : ZCmd := { w with losers := w.losers ++ [(c.path, c.frame)] }

theorem zTake_first (c : ZCmd) : zTake [] c = [c] := rfl

theorem zTake_beaten {w c : ZCmd} (hne : zOrigin w.frame ≠ zOrigin c.frame) (hsame : zSame w.frame c.frame = true) :
    zTake [w] c = [w.superseding c] := by
  simp [zTake, updFirst, hne, hsame, ZCmd.superseding]

theorem zTake_apart {w c : ZCmd} (hsame : zSame w.frame c.frame = false) : zTake [w] c = [w, c] := by
  simp [zTake, hsame]

/-- The commands of a window in the order of rank. -/
def byRank (cs : List ZCmd) : List ZCmd := cs.foldl (fun l c => zRank c l) []

theorem zResolve_eq (cs : List ZCmd) : zResolve cs =
    cs.filterMap (fun c => ((byRank cs).foldl zTake []).find? (fun w => decide (w.path = c.path ∧ w.frame = c.frame))) := rfl

theorem byRank_pair {a b : ZCmd} (h : rankKey (zOrigin a.frame) < rankKey (zOrigin b.frame)) :
    byRank [a, b] = [a, b] ∧ byRank [b, a] = [a, b] := by
  simp [byRank, zRank, h, h.not_gt]

theorem byRank_two (a b : ZCmd) : byRank [a, b] = [a, b] ∨ byRank [a, b] = [b, a] := by
  by_cases h : rankKey (zOrigin b.frame) < rankKey (zOrigin a.frame)
  · exact .inr (byRank_pair h).2
  · exact .inl (by simp [byRank, zRank, h])

section Two

variable {a b : ZCmd} (hab : (a.path, a.frame) ≠ (b.path, b.frame))

include hab

theorem zResolve_conflict (hsame : zSame a.frame b.frame = true)
    (hrank : rankKey (zOrigin a.frame) < rankKey (zOrigin b.frame)) :
    zResolve [a, b] = [a.superseding b] ∧ zResolve [b, a] = [a.superseding b] := by
  have hne : zOrigin a.frame ≠ zOrigin b.frame := fun h => by simp [h] at hrank
  have hnot : ¬ (a.path = b.path ∧ a.frame = b.frame) := fun h => hab (Prod.ext h.1 h.2)
  have hnames : (a.superseding b).path = a.path ∧ (a.superseding b).frame = a.frame := ⟨rfl, rfl⟩
  obtain ⟨hord, hord'⟩ := byRank_pair hrank
  simp [zResolve_eq, hord, hord', zTake_first, zTake_beaten hne hsame, hnames, hnot]

theorem zResolve_apart (hsame : zSame a.frame b.frame = false) (hsame' : zSame b.frame a.frame = false) :
    zResolve [a, b] = [a, b] := by
  have hnot : ¬ (a.path = b.path ∧ a.frame = b.frame) := fun h => hab (Prod.ext h.1 h.2)
  have hnot' : ¬ (b.path = a.path ∧ b.frame = a.frame) := fun h => hab (Prod.ext h.1.symm h.2.symm)
  rcases byRank_two a b with hord | hord
  · simp [zResolve_eq, hord, zTake_first, zTake_apart hsame, hnot]
  · simp [zResolve_eq, hord, zTake_first, zTake_apart hsame', hnot']

end Two

/-- Settles O30: the commands are taken by rank, so the one that ranks first goes on in either order. -/
theorem conflictingCommandsYieldToRank : Obligations.ConflictingCommandsYieldToRank := by
  unfold Obligations.ConflictingCommandsYieldToRank
  intro a b hab
  exact ⟨fun hsame _ hrank => zResolve_conflict hab hsame hrank, fun hsame hsame' => zResolve_apart hab hsame hsame'⟩

end Sys2Proof.Machine

/-! The arrival of a frame at the Zynken unit: the checks in their order, the high-water marks, and what a frame that passes
does (R112 R117 R118 R119 R121 R126 R128 R129). -/

namespace Sys2Proof.Machine

/-! The checks of an arriving frame, one outcome each (R117). -/

/-- Checks 1 and 2, or those of KEY_LOAD_INITIAL in place of check 2 (R117 R125). -/
def State.zAuthentic (s : State) (path : ZPath) (f : Bytes) : Bool :=
  s.zCheck1 f && (if zOp f = 6 then s.zCheckLoad path f else s.zCheck2 path f)

/-- What a frame that passed checks 1 to 3 meets: checks 4 and 5, then the session or the queue (R117 R119). -/
def State.zAdmit (s : State) (path : ZPath) (f : Bytes) : State :=
  if zForm f = false then s.zFinish path f stBounds 0xFFFF 0
  else if zSession (zOp f) = true then s.sessionFrame f
  else if s.zCheck5 f = false then s.zFinish path f stBusy 0xFFFF 0
  else s.zQueue path f

/-! A mark that is raised (R118). -/

theorem State.setHwm_session (s : State) (o v : Nat) : (s.setHwm o v).zyn.session = s.zyn.session := by
  unfold State.setHwm
  split <;> rfl

section Arrival

variable {s : State} {path : ZPath} {f : Bytes}

theorem State.zArrive_of_not_authentic (h : s.zAuthentic path f = false) : s.zArrive path f = s.zReject path f := by
  unfold State.zArrive
  cases h1 : s.zCheck1 f with
  | false => rfl
  | true =>
    simp only [State.zAuthentic, h1, Bool.true_and] at h
    simp only [h]
    rfl

theorem State.zArrive_of_stale (h : s.zAuthentic path f = true) (hc : zCtr f ≤ s.hwm (zOrigin f)) :
    s.zArrive path f = s.zFinish path f stStaleCounter 0xFFFF 0 := by
  obtain ⟨h1, h2⟩ := (Bool.and_eq_true _ _).mp h
  simp only [State.zArrive, h1, h2, hc, Bool.not_true, Bool.false_eq_true, if_true, if_false]

theorem State.zArrive_of_fresh (h : s.zAuthentic path f = true) (hc : s.hwm (zOrigin f) < zCtr f) :
    s.zArrive path f = (s.zAccepted path f).zAdmit path f := by
  obtain ⟨h1, h2⟩ := (Bool.and_eq_true _ _).mp h
  have hsession := s.setHwm_session (zOrigin f) (zCtr f)
  simp only [State.zArrive, h1, h2, hc.not_ge, hsession, State.zAccepted, State.zAdmit, Bool.not_true, Bool.not_eq_true',
    Bool.false_eq_true, if_false]
  obtain hnone | ⟨e, hsome⟩ := Option.eq_none_or_eq_some s.zyn.session
  · simp only [hnone, Option.map_none, reduceCtorEq, and_false, Bool.false_eq_true, if_false]
  · simp only [hsome, Option.map_some, Option.some.injEq, decide_eq_true_eq]

/-! Checks 4 and 5 (R117 R119). -/

theorem State.zAdmit_of_bad_form (h : zForm f = false) : s.zAdmit path f = s.zFinish path f stBounds 0xFFFF 0 := by
  simp only [State.zAdmit, h, if_true]

theorem State.zAdmit_of_session (hform : zForm f = true) (h : zSession (zOp f) = true) :
    s.zAdmit path f = s.sessionFrame f := by
  simp only [State.zAdmit, hform, h, Bool.true_eq_false, if_true, if_false]

theorem State.zAdmit_of_critical (hform : zForm f = true) (h : zSession (zOp f) = false) : s.zAdmit path f =
    if s.zCheck5 f = true then s.zQueue path f else s.zFinish path f stBusy 0xFFFF 0 := by
  simp only [State.zAdmit, hform, h, Bool.true_eq_false, Bool.false_eq_true, if_false]
  cases s.zCheck5 f <;> rfl

/-- Neither the queue nor TICK is touched by the acceptance, so check 5 meets what it would have met before it. -/
theorem State.zAccepted_zCheck5 (s : State) (path : ZPath) (f : Bytes) : (s.zAccepted path f).zCheck5 f = s.zCheck5 f := by
  unfold State.zAccepted State.setHwm
  split
  · split <;> rfl
  · split <;> rfl

/-! The row of a frame that passes every check up to its form (R115 R117). -/

theorem State.readWaits_of_op (s : State) (h : zOp f ≠ 0x0F02) : s.readWaits f = false := by
  simp only [State.readWaits, h, decide_false, Bool.false_and]

section Passes

variable (hp : s.zPasses path f = true) {op : Nat} (hop : zOp f = op)

include hp hop

theorem State.zRow_of_passes : s.zRow op path f =
    if s.readWaits f = true then s.nocWait mcStop cleatStop 0 else (s.zAccepted path f).zAdmit path f := by
  obtain ⟨⟨⟨⟨hreach, h1⟩, h2⟩, hc⟩, -⟩ : (((s.zReach path = true ∧ s.zCheck1 f = true) ∧
      (if zOp f = 6 then s.zCheckLoad path f else s.zCheck2 path f) = true) ∧ s.hwm (zOrigin f) < zCtr f) ∧
      zForm f = true := by
    simpa only [State.zPasses, Bool.and_eq_true, decide_eq_true_eq] using hp
  have hauth : s.zAuthentic path f = true := by rw [State.zAuthentic, h1, h2, Bool.true_and]
  simp only [State.zRow, hreach, hop, decide_true, Bool.true_or, Bool.true_and, if_true, State.zArrive_of_fresh hauth hc]

theorem State.zRow_of_critical (hcrit : op < 0x0F00) (h5 : s.zCheck5 f = true) :
    s.zRow op path f = (s.zAccepted path f).zQueue path f := by
  have hform : zForm f = true := ((Bool.and_eq_true _ _).mp hp).2
  have hsession : zSession (zOp f) = false := decide_eq_false (by omega)
  rw [State.zRow_of_passes hp hop, s.readWaits_of_op (by omega), if_neg Bool.false_ne_true,
    State.zAdmit_of_critical hform hsession, State.zAccepted_zCheck5, if_pos h5]

theorem State.zRow_of_session (hsess : 0x0F00 ≤ op) : s.zRow op path f =
    if s.readWaits f = true then s.nocWait mcStop cleatStop 0 else (s.zAccepted path f).sessionFrame f := by
  have hform : zForm f = true := ((Bool.and_eq_true _ _).mp hp).2
  rw [State.zRow_of_passes hp hop, State.zAdmit_of_session hform (decide_eq_true (by omega))]

end Passes

end Arrival

/-- Settles O25: none of these opcodes is a session frame's, so the frame goes on from check 5 to the queue. -/
theorem criticalCommandsAreQueued : Obligations.CriticalCommandsAreQueued := by
  unfold Obligations.CriticalCommandsAreQueued
  rintro s t path f hp h5 rfl
  have queued {op : Nat} (hcrit : op < 0x0F00) (hop : zOp f = op) :
      (.next (s.zRow op path f) : Host.Outcome State Fault Refusal) = .next ((s.zAccepted path f).zQueue path f) :=
    congrArg _ (State.zRow_of_critical hp hop hcrit h5)
  exact ⟨queued (by decide), queued (by decide), queued (by decide), queued (by decide), queued (by decide),
    queued (by decide), queued (by decide), queued (by decide), queued (by decide), queued (by decide), queued (by decide),
    queued (by decide), queued (by decide)⟩

/-- Settles O28: each outcome is that of the first check that fails. -/
theorem frameChecksDecideInOrder : Obligations.FrameChecksDecideInOrder := by
  unfold Obligations.FrameChecksDecideInOrder
  rintro s path f auth rfl
  refine ⟨State.zArrive_of_not_authentic, State.zArrive_of_stale, fun h hc hform => ?_, fun h hc hform hsession h5 => ?_⟩
  · rw [State.zArrive_of_fresh h hc, State.zAdmit_of_bad_form hform]
  · rw [State.zArrive_of_fresh h hc, State.zAdmit_of_critical hform hsession, State.zAccepted_zCheck5, h5,
      if_neg Bool.false_ne_true]

/-! Session frames, and the events around the unit (R112 R121 R126 R128 R129). -/

section Session

variable {s : State} {f : Bytes} {p : PageRef} (hpage : objPage false (zObj f) = some p)

theorem State.sessionFrame_open (h : zOp f = 0x0F00) : s.sessionFrame f = (s.openSession f).zSessionDone f stOk 0 := by
  simp only [State.sessionFrame, h]

theorem State.sessionFrame_close (h : zOp f = 0x0F01) : s.sessionFrame f = s.closeSession.zSessionDone f stOk 0 := by
  simp only [State.sessionFrame, h]

include hpage

theorem State.sessionFrame_read (h : zOp f = 0x0F02) : s.sessionFrame f = s.sessionRead f p (zp f 0 4) := by
  simp only [State.sessionFrame, h, hpage]

theorem State.sessionFrame_write (h : zOp f = 0x0F03) : s.sessionFrame f = s.sessionWrite f p (zp f 0 4) := by
  simp only [State.sessionFrame, h, hpage]

end Session

/-- The mailbox of a host port hands over the frame whose transfer is to be read (R112). -/
theorem State.readMailbox_reading {u : State} {h : Nat} (frame : Bytes)
    (hbox : Tab.get (fun _ => ZBox.idle) u.zyn.mailbox h = .reading) (hreach : u.zReach (.host h) = true)
    (hup : u.bget (hostPg h 0) 0x44 31 = true) : u.readMailbox h frame = State.zArrive
      { u with zyn := { u.zyn with mailbox := Tab.set (fun _ => ZBox.idle) u.zyn.mailbox h
                                                (.owed (frame.take (u.fget (hostPg h 2) 0x50 8 0))) } }
      (.host h) (frame.take (u.fget (hostPg h 2) 0x50 8 0)) := by
  simp only [State.readMailbox, hbox, hreach, hup, and_self, if_true]

theorem exec_zcmdGo {s : State} {w : RegWrite} {h : Nat} (hloc : locate w.addr = some (hostPg h 2, 0x50))
    (hgo : bit w.value.toNat 31 = true) (frame : Bytes) :
    exec (.zcmdGo w frame) s = .next ((s.cycleWrites [w]).readMailbox h frame) := by
  change execZcmdGo w frame s = _
  simp only [execZcmdGo, hloc, hgo, hostPg, and_self, if_true]

theorem exec_keyPendingEffect {s : State} {slot : Nat} {c : KeyPend}
    (hpend : Tab.get (fun _ => none) s.psto.keyPend slot = some c) (haux : s.pwr.aux = true) (hrun : s.tick.running = true)
    (hdue : c.boundary ≤ s.nowTick) : exec (.keyPendingEffect slot) s = .next (s.keyEffect slot) := by
  change execKeyPendingEffect slot s = _
  simp only [execKeyPendingEffect, hpend, haux, hrun, hdue, and_self, if_true]

theorem exec_sessionIdleTimeout {s : State}
    (h : s.zyn.sessOff = true ∨ s.idleTicks ≤ s.zyn.sessSpent + (s.nowTick - s.zyn.sessTick)) :
    exec .sessionIdleTimeout s = .next s.closeSession := by
  change execSessionIdleTimeout s = _
  rw [execSessionIdleTimeout, if_neg]
  intro hidle
  obtain ⟨hon, hlt⟩ : s.zyn.sessOff = false ∧ s.idleTime < s.idleTicks := by simpa using hidle
  unfold State.idleTime at hlt
  rcases h with hoff | hle
  · simp [hon] at hoff
  · omega

theorem exec_hwmPersisted {s : State} {o i : Nat} (hi : hwmIdx o = some i) (haux : s.pwr.aux = true) :
    exec (.hwmPersisted o) s = .next (s.persistHwm i).zAfterPersist := by
  change execHwmPersisted o s = _
  simp only [execHwmPersisted, haux, hi, Bool.not_true, Bool.false_eq_true, if_false]

/-- Settles O26: a session frame goes from check 4 to its effect, and only a REG_READ may have to wait for a slot. -/
theorem sessionAndUnitCommandsComplete : Obligations.SessionAndUnitCommandsComplete := by
  unfold Obligations.SessionAndUnitCommandsComplete
  intro s
  refine ⟨?frames, fun slot c => exec_keyPendingEffect, exec_sessionIdleTimeout, rfl, fun o i => exec_hwmPersisted, ?go⟩
  case frames =>
    rintro path f u hp rfl
    have atOnce {op : Nat} (hsess : 0x0F00 ≤ op) (hread : op ≠ 0x0F02) (hop : zOp f = op) :
        s.zRow op path f = (s.zAccepted path f).sessionFrame f := by
      rw [State.zRow_of_session hp hop hsess, s.readWaits_of_op (by omega), if_neg Bool.false_ne_true]
    refine ⟨fun h => congrArg Host.Outcome.next ?_, fun h => congrArg Host.Outcome.next ?_,
      fun p h hpage => congrArg Host.Outcome.next ?_, fun p h hpage => congrArg Host.Outcome.next ?_⟩
    · rw [atOnce (by decide) (by decide) h, State.sessionFrame_open h]
    · rw [atOnce (by decide) (by decide) h, State.sessionFrame_close h]
    · rw [State.zRow_of_session hp h (by decide), State.sessionFrame_read hpage h]
    · rw [atOnce (by decide) (by decide) h, State.sessionFrame_write hpage h]
  case go =>
    rintro w frame f h u hloc hgo rfl hbox hreach hup rfl
    rw [exec_zcmdGo hloc hgo, State.readMailbox_reading frame hbox hreach hup]

/-! The high-water marks (R118). -/

theorem State.hwm_of_idx {s : State} {o i : Nat} (h : hwmIdx o = some i) : s.hwm o = Tab.get hwmD s.zyn.hwm i := by
  simp only [State.hwm, h]

theorem State.hwm_congr {s t : State} (h : t.zyn.hwm = s.zyn.hwm) (o : Nat) : t.hwm o = s.hwm o := by
  simp only [State.hwm, h]

theorem State.setHwm_hwm {s : State} (hw : Tab.wf hwmD s.zyn.hwm = true) {o : Nat} (ho : (hwmIdx o).isSome = true) (v : Nat) :
    (s.setHwm o v).hwm o = v := by
  obtain ⟨i, hi⟩ := Option.isSome_iff_exists.mp ho
  rw [State.hwm_of_idx hi]
  simp only [State.setHwm, hi, tab_get_set hw]

theorem State.setHwm_hwm_ne {s : State} {o q : Nat} (h : hwmIdx q ≠ hwmIdx o) (v : Nat) : (s.setHwm o v).hwm q = s.hwm q := by
  unfold State.setHwm
  split
  next i hi =>
    unfold State.hwm
    split
    next j hj => exact tab_get_set_ne (by rintro rfl; exact h (hj.trans hi.symm)) v
    next => rfl
  next => rfl

theorem State.zAccepted_marks (s : State) (path : ZPath) (f : Bytes) :
    (s.zAccepted path f).zyn.hwm = (s.setHwm (zOrigin f) (zCtr f)).zyn.hwm := by
  unfold State.zAccepted
  split <;> rfl

theorem State.zAccepted_hwm {s : State} (hw : Tab.wf hwmD s.zyn.hwm = true) (path : ZPath) {f : Bytes}
    (ho : (hwmIdx (zOrigin f)).isSome = true) : (s.zAccepted path f).hwm (zOrigin f) = zCtr f := by
  rw [State.hwm_congr (s.zAccepted_marks path f), State.setHwm_hwm hw ho]

/-- Settles O29: the mark stands at the accepted counter, so check 3 refuses every counter up to it. -/
theorem acceptedCounterIsNeverReused : Obligations.AcceptedCounterIsNeverReused := by
  unfold Obligations.AcceptedCounterIsNeverReused
  intro s path f g hw horigin hle ho
  have hmark := State.zAccepted_hwm hw path ho
  refine ⟨hmark, fun p hauth => State.zArrive_of_stale hauth ?_⟩
  rwa [← horigin, hmark]

end Sys2Proof.Machine

/-! What leaves the Zynken unit's state as it is: every operation that an arriving frame can reach, down to the register
writes and the critical commands of the cycle of a session's write. Most leave the whole unit as it was (`_zyn`); those
that move its queue, its session, its stalled reads or a mailbox leave its high-water marks (`_marks`). `simp` writes out
its proofs (`-implicitDefEqProofs`): the kernel then follows the lemmas named instead of unfolding the state. -/

namespace Sys2Proof.Machine

/-! Choices and folds of steps. -/

section Steps

variable {α β : Type} (c : Prop) [Decidable c]

@[simp] theorem ite_zyn (s t : State) : (if c then s else t).zyn = if c then s.zyn else t.zyn := apply_ite ..

@[simp] theorem ite_marks (y z : Zyn) : (if c then y else z).hwm = if c then y.hwm else z.hwm := apply_ite ..

@[simp] theorem ite_fst_zyn (x y : State × β) : (if c then x else y).1.zyn = if c then x.1.zyn else y.1.zyn :=
  apply_ite (fun x : State × β => x.1.zyn) ..

@[simp] theorem ite_snd_zyn (x y : β × State) : (if c then x else y).2.zyn = if c then x.2.zyn else y.2.zyn :=
  apply_ite (fun x : β × State => x.2.zyn) ..

/-- A reading that no step of a fold changes is the one before the fold. -/
theorem foldl_reading {σ τ : Type} (v : σ → τ) {g : σ → α → σ} (h : ∀ t x, v (g t x) = v t) (l : List α) (s : σ) :
    v (l.foldl g s) = v s :=
  List.foldlRecOn (motive := fun t => v t = v s) l g rfl fun t ht x _ => (h t x).trans ht

@[simp] theorem foldl_zyn {g : State → α → State} (h : ∀ t x, (g t x).zyn = t.zyn) (l : List α) (s : State) :
    (l.foldl g s).zyn = s.zyn := foldl_reading State.zyn h l s

@[simp] theorem foldl_marks {g : State → α → State} (h : ∀ t x, (g t x).zyn.hwm = t.zyn.hwm) (l : List α) (s : State) :
    (l.foldl g s).zyn.hwm = s.zyn.hwm := foldl_reading (fun t => t.zyn.hwm) h l s

end Steps

section Frames

variable (s : State)

/-! Errors, events and records. -/

@[simp] theorem State.bumpVf_zyn (v n k : Nat) : (s.bumpVf v n k).zyn = s.zyn := by simp -implicitDefEqProofs [State.bumpVf]

@[simp] theorem State.raise_zyn (p : PageRef) (b : Nat) : (s.raise p b).zyn = s.zyn := by
  simp -implicitDefEqProofs [State.raise]

@[simp] theorem State.pfEvent_zyn (h n : Nat) : (s.pfEvent h n).zyn = s.zyn := by simp -implicitDefEqProofs [State.pfEvent]

@[simp] theorem State.hostWriteAttr_zyn (h addr attr : Nat) (b : Bytes) : (s.hostWriteAttr h addr attr b).zyn = s.zyn := by
  simp -implicitDefEqProofs [State.hostWriteAttr]

@[simp] theorem State.hostWrite_zyn (h addr : Nat) (b : Bytes) : (s.hostWrite h addr b).zyn = s.zyn := by
  simp -implicitDefEqProofs [State.hostWrite]

@[simp] theorem State.keepRec_zyn (b : Bytes) : (s.keepRec b).zyn = s.zyn := by simp -implicitDefEqProofs [State.keepRec]
@[simp] theorem State.mirrorOut_zyn (r : JRec) : (s.mirrorOut r).zyn = s.zyn := rfl
@[simp] theorem State.record_zyn (r : JRec) : (s.record r).zyn = s.zyn := by simp -implicitDefEqProofs [State.record]

@[simp] theorem State.record3_zyn (p : PageRef) (off before after : Nat) : (s.record3 p off before after).zyn = s.zyn := by
  simp -implicitDefEqProofs [State.record3]

@[simp] theorem State.setSvc_zyn (p : PageRef) (st : Nat) : (s.setSvc p st).zyn = s.zyn := by
  simp -implicitDefEqProofs [State.setSvc]

/-! The rings. -/

@[simp] theorem State.nocSend_zyn (kind : NocKind) (src dst ring txn : Nat) :
    (s.nocSend kind src dst ring txn).zyn = s.zyn := rfl
@[simp] theorem State.updNocTxn_zyn (id : Nat) (f : NocTxn → NocTxn) : (s.updNocTxn id f).zyn = s.zyn := rfl

@[simp] theorem State.nocServed_zyn (t : NocTxn) : (s.nocServed t).zyn = s.zyn := by
  simp -implicitDefEqProofs [State.nocServed]

@[simp] theorem State.nocServe_zyn (t : NocTxn) : (s.nocServe t).zyn = s.zyn := by simp -implicitDefEqProofs [State.nocServe]
@[simp] theorem State.nocDone_zyn (t : NocTxn) : (s.nocDone t).zyn = s.zyn := by simp -implicitDefEqProofs [State.nocDone]

@[simp] theorem State.nocArrive_zyn (m : NocMsg) : (s.nocArrive m).zyn = s.zyn := by
  simp only [State.nocArrive]
  repeat' split
  all_goals simp -implicitDefEqProofs

@[simp] theorem State.nocWaits_zyn : s.nocWaits.zyn = s.zyn := by simp -implicitDefEqProofs [State.nocWaits]

@[simp] theorem State.nocTick_zyn : s.nocTick.zyn = s.zyn := by
  rw [State.nocTick, State.nocWaits_zyn, foldl_zyn fun t m => t.nocArrive_zyn m]

@[simp] theorem State.nocRun_zyn (n : Nat) (id : Option Nat) : (State.nocRun n id s).zyn = s.zyn := by
  induction n generalizing s with
  | zero => rfl
  | succ n ih =>
    unfold State.nocRun
    simp -implicitDefEqProofs [ih]

@[simp] theorem State.nocWait_zyn (src tgt level : Nat) : (s.nocWait src tgt level).zyn = s.zyn := by
  simp -implicitDefEqProofs [State.nocWait]

@[simp] theorem State.nocAsk_zyn (src tgt level : Nat) (wr : Bool) (bytes : Nat) (hold : List Nat) :
    (s.nocAsk src tgt level wr bytes hold).2.zyn = s.zyn := rfl

@[simp] theorem State.nocSlot_zyn (src tgt level : Nat) : (s.nocSlot src tgt level).2.zyn = s.zyn := by
  simp -implicitDefEqProofs [State.nocSlot]

@[simp] theorem State.nocHand_zyn (src tgt level : Nat) (wr : Bool) (bytes : Nat) (hold : List Nat) :
    (s.nocHand src tgt level wr bytes hold).2.zyn = s.zyn := by
  simp -implicitDefEqProofs [State.nocHand]

@[simp] theorem State.nocAnswer_zyn (hold : List Nat) : (s.nocAnswer hold).zyn = s.zyn := by
  unfold State.nocAnswer
  split <;> simp -implicitDefEqProofs

@[simp] theorem State.nocOne_zyn (src tgt level : Nat) (wr : Bool) (bytes : Nat) :
    (s.nocOne src tgt level wr bytes).zyn = s.zyn := by
  simp -implicitDefEqProofs [State.nocOne]

@[simp] theorem State.nocTxn_zyn (src tgt level : Nat) (wr : Bool) (n : Nat) :
    (s.nocTxn src tgt level wr n).zyn = s.zyn := by
  simp -implicitDefEqProofs [State.nocTxn]

@[simp] theorem State.nocRecall_zyn (k : Nat) : (s.nocRecall k).zyn = s.zyn := by simp -implicitDefEqProofs [State.nocRecall]
@[simp] theorem State.nocGrant_zyn (k : Nat) : (s.nocGrant k).zyn = s.zyn := by simp -implicitDefEqProofs [State.nocGrant]

/-! VIs and their queues. -/

@[simp] theorem State.updVi_zyn (v : Nat) (f : Vi → Vi) : (s.updVi v f).zyn = s.zyn := rfl

@[simp] theorem State.setViState_zyn (v st : Nat) : (s.setViState v st).zyn = s.zyn := by
  simp -implicitDefEqProofs [State.setViState]

@[simp] theorem State.updCq_zyn (v q : Nat) (f : CplQ → CplQ) : (s.updCq v q f).zyn = s.zyn := rfl
@[simp] theorem State.updCmq_zyn (v q : Nat) (f : CmdQ → CmdQ) : (s.updCmq v q f).zyn = s.zyn := rfl

/-! Key slots and the Lanyard. -/

@[simp] theorem State.setSlot_zyn (k st base mask keyId : Nat) (key : Bytes) :
    (s.setSlot k st base mask keyId key).zyn = s.zyn := by
  simp -implicitDefEqProofs [State.setSlot]

@[simp] theorem State.updLink_zyn (p : Nat) (f : Link → Link) : (s.updLink p f).zyn = s.zyn := rfl

@[simp] theorem State.sendLany_zyn (sub arg : Nat) (body : Bytes) : (s.sendLany sub arg body).zyn = s.zyn := by
  unfold State.sendLany
  split <;> simp -implicitDefEqProofs

/-! Route decisions. -/

@[simp] theorem State.updTile_zyn (t : Nat) (f : Tile → Tile) : (s.updTile t f).zyn = s.zyn := rfl
@[simp] theorem State.setAdmit_zyn (p : Nat) (v : Bool) : (s.setAdmit p v).zyn = s.zyn := rfl

@[simp] theorem State.countDec_zyn (inVc : Nat) (gateway : Bool) (cls : Nat) (d : Dec) :
    (s.countDec inVc gateway cls d).zyn = s.zyn := by
  unfold State.countDec
  split <;> simp -implicitDefEqProofs

/-! Self-tests. -/

@[simp] theorem State.setVerdict_zyn (p : PageRef) (kind verdict fails : Nat) :
    (s.setVerdict p kind verdict fails).zyn = s.zyn := by
  simp -implicitDefEqProofs [State.setVerdict]

@[simp] theorem State.runTest_zyn (p : PageRef) (t : Test) : (s.runTest p t).zyn = s.zyn := rfl

@[simp] theorem State.nextTest_zyn (p : PageRef) : (s.nextTest p).zyn = s.zyn := by
  simp only [State.nextTest]
  split
  · simp -implicitDefEqProofs
  · split <;> simp -implicitDefEqProofs

/-! Lanes and light. -/

@[simp] theorem State.updLane_zyn (p l : Nat) (f : Lane → Lane) : (s.updLane p l f).zyn = s.zyn := rfl
@[simp] theorem State.updLport_zyn (p : Nat) (f : LanePort → LanePort) : (s.updLport p f).zyn = s.zyn := rfl
@[simp] theorem State.setLaneState_zyn (p l st : Nat) : (s.setLaneState p l st).zyn = s.zyn := rfl
@[simp] theorem State.noBond_zyn (p : Nat) : (s.noBond p).zyn = s.zyn := by simp -implicitDefEqProofs [State.noBond]

@[simp] theorem State.backToPrimary_zyn (k w : Nat) : (s.backToPrimary k w).zyn = s.zyn := by
  simp -implicitDefEqProofs [State.backToPrimary]

@[simp] theorem State.updSpare_zyn (k : Nat) (f : Spare → Spare) : (s.updSpare k f).zyn = s.zyn := rfl

@[simp] theorem State.lightEngine_zyn (k : Nat) : (s.lightEngine k).zyn = s.zyn := by
  simp -implicitDefEqProofs [State.lightEngine]

@[simp] theorem State.darken_zyn (k : Nat) : (s.darken k).zyn = s.zyn := by simp -implicitDefEqProofs [State.darken]

@[simp] theorem State.bringUp_zyn (p : Nat) (lift : Bool) : (s.bringUp p lift).zyn = s.zyn := by
  simp -implicitDefEqProofs [State.bringUp]

@[simp] theorem State.lanesOff_zyn (p : Nat) (keep out : Bool) : (s.lanesOff p keep out).zyn = s.zyn := by
  simp -implicitDefEqProofs [State.lanesOff]

@[simp] theorem State.setBond_zyn (p m : Nat) : (s.setBond p m).zyn = s.zyn := by simp -implicitDefEqProofs [State.setBond]
@[simp] theorem State.rebond_zyn (p prop : Nat) : (s.rebond p prop).zyn = s.zyn := rfl
@[simp] theorem State.toSignal_zyn (p l : Nat) : (s.toSignal p l).zyn = s.zyn := rfl

@[simp] theorem State.leaveBond_zyn (p l st : Nat) : (s.leaveBond p l st).zyn = s.zyn := by
  simp -implicitDefEqProofs [State.leaveBond]

@[simp] theorem State.startLaneTest_zyn (p l b : Nat) : (s.startLaneTest p l b).zyn = s.zyn := by
  simp -implicitDefEqProofs [State.startLaneTest]

@[simp] theorem State.nextLaneTest_zyn (p : Nat) : (s.nextLaneTest p).zyn = s.zyn := by
  unfold State.nextLaneTest
  split <;> simp -implicitDefEqProofs

@[simp] theorem State.endFull_zyn (p : Nat) : (s.endFull p).zyn = s.zyn := by
  simp only [State.endFull]
  split <;> simp -implicitDefEqProofs

/-! The switch. -/

@[simp] theorem State.poolMove_zyn (t src dst n : Nat) : (s.poolMove t src dst n).zyn = s.zyn := rfl

@[simp] theorem State.freeIn_zyn (t input vc n : Nat) (checked : Bool) : (s.freeIn t input vc n checked).zyn = s.zyn := by
  simp -implicitDefEqProofs [State.freeIn]

@[simp] theorem State.updIn_zyn (t id : Nat) (f : InPkt → InPkt) : (s.updIn t id f).zyn = s.zyn := rfl
@[simp] theorem State.updCol_zyn (t id : Nat) (f : ColPkt → ColPkt) : (s.updCol t id f).zyn = s.zyn := rfl

@[simp] theorem State.dropIn_zyn (t : Nat) (e : InPkt) : (s.dropIn t e).zyn = s.zyn := by
  simp -implicitDefEqProofs [State.dropIn]

@[simp] theorem State.dropCol_zyn (t : Nat) (k : ColPkt) : (s.dropCol t k).zyn = s.zyn := rfl

@[simp] theorem State.decideIn_zyn (t : Nat) (e : InPkt) : (s.decideIn t e).zyn = s.zyn := by
  simp only [State.decideIn]
  split
  · simp -implicitDefEqProofs
  · split <;> simp -implicitDefEqProofs

@[simp] theorem State.updXpt_zyn (u : Nat) (f : Xpt → Xpt) : (s.updXpt u f).zyn = s.zyn := rfl

@[simp] theorem State.moveCol_zyn (t : Nat) (k : ColPkt) (h : Hop) : (s.moveCol t k h).zyn = s.zyn := by
  simp only [State.moveCol]
  split <;> simp -implicitDefEqProofs

@[simp] theorem State.decideCol_zyn (p : Nat) (k : ColPkt) : (s.decideCol p k).zyn = s.zyn := by
  simp only [State.decideCol]
  repeat' split
  all_goals simp -implicitDefEqProofs

@[simp] theorem State.redispatchOne_zyn (p : Nat) (k : ColPkt) : (s.redispatchOne p k).zyn = s.zyn := by
  simp only [State.redispatchOne]
  split <;> simp -implicitDefEqProofs

@[simp] theorem State.redispatch_zyn (p : Nat) : (s.redispatch p).zyn = s.zyn := by
  simp -implicitDefEqProofs [State.redispatch]

@[simp] theorem State.undecide_zyn (p : Nat) : (s.undecide p).zyn = s.zyn := by
  refine foldl_zyn (fun t e => foldl_zyn (fun t i => ?_) _ t) _ s
  split <;> simp -implicitDefEqProofs

/-! The links. -/

@[simp] theorem State.frameHdr_zyn (p typ vc cells seq : Nat) : (s.frameHdr p typ vc cells seq).2.zyn = s.zyn := by
  simp -implicitDefEqProofs [State.frameHdr]

@[simp] theorem State.sendFrame_zyn (p typ vc seq : Nat) (cells : Bytes) (stomp : Bool) :
    (s.sendFrame p typ vc seq cells stomp).zyn = s.zyn := by
  simp -implicitDefEqProofs [State.sendFrame]

@[simp] theorem State.showReplay_zyn (p : Nat) (full : Bool) : (s.showReplay p full).zyn = s.zyn := by
  simp -implicitDefEqProofs [State.showReplay]

@[simp] theorem State.startExchange_zyn (p : Nat) : (s.startExchange p).zyn = s.zyn := by
  simp -implicitDefEqProofs [State.startExchange]

@[simp] theorem State.endSession_zyn (p : Nat) : (s.endSession p).zyn = s.zyn := by
  simp -implicitDefEqProofs [State.endSession]

@[simp] theorem State.reExchange_zyn (p : Nat) : (s.reExchange p).zyn = s.zyn := by
  simp -implicitDefEqProofs [State.reExchange]

@[simp] theorem State.stompBegun_zyn (p : Nat) : (s.stompBegun p).zyn = s.zyn := by
  simp only [State.stompBegun]
  split
  · simp -implicitDefEqProofs
  · split <;> simp -implicitDefEqProofs

@[simp] theorem State.discardPacket_zyn (id : Nat) : (s.discardPacket id).zyn = s.zyn := by
  refine foldl_zyn (fun t e => ?_) _ s
  dsimp only
  cases (t.tile e.1).inPkt id
  all_goals
    dsimp only
    split <;> simp -implicitDefEqProofs

@[simp] theorem State.dropArrival_zyn (p : Nat) : (s.dropArrival p).zyn = s.zyn := by
  unfold State.dropArrival
  split <;> simp -implicitDefEqProofs

@[simp] theorem State.linkDrop_zyn (p : Nat) : (s.linkDrop p).zyn = s.zyn := by simp -implicitDefEqProofs [State.linkDrop]
@[simp] theorem State.linkDown_zyn (p : Nat) : (s.linkDown p).zyn = s.zyn := by simp -implicitDefEqProofs [State.linkDown]

@[simp] theorem State.syncLink_zyn (s0 : State) (p : Nat) : (s0.syncLink s p).zyn = s.zyn := by
  simp -implicitDefEqProofs [State.syncLink]

@[simp] theorem State.fullLanes_zyn (p : Nat) : (s.fullLanes p).zyn = s.zyn := by simp -implicitDefEqProofs [State.fullLanes]

@[simp] theorem State.runFull_zyn (p : PageRef) : (s.runFull p).zyn = s.zyn := by
  unfold State.runFull
  split <;> simp -implicitDefEqProofs

@[simp] theorem State.startSync_zyn : s.startSync.zyn = s.zyn := rfl

/-! Service states. -/

@[simp] theorem State.endTransition_zyn (p : PageRef) : (s.endTransition p).zyn = s.zyn := rfl

@[simp] theorem State.enterSvc_zyn (p : PageRef) (st : Nat) : (s.enterSvc p st).zyn = s.zyn := by
  unfold State.enterSvc
  split <;> simp -implicitDefEqProofs

/-! The transport. -/

@[simp] theorem State.updCtx_zyn (loc rem : Nat) (f : Ctx → Ctx) : (s.updCtx loc rem f).zyn = s.zyn := rfl
@[simp] theorem State.updTx_zyn (loc rem : Nat) (f : TxHalf → TxHalf) : (s.updTx loc rem f).zyn = s.zyn := rfl
@[simp] theorem State.updMsg_zyn (loc rem id : Nat) (f : TxMsg → TxMsg) : (s.updMsg loc rem id f).zyn = s.zyn := rfl
@[simp] theorem State.pushReq_zyn (e : TxReq) : (s.pushReq e).zyn = s.zyn := rfl

@[simp] theorem State.pushVoid_zyn (vi loc rem msg ofs : Nat) (hdr : Bytes) :
    (s.pushVoid vi loc rem msg ofs hdr).zyn = s.zyn := rfl
@[simp] theorem State.touchIdle_zyn (loc rem : Nat) : (s.touchIdle loc rem).zyn = s.zyn := rfl

/-! Fabric memory. -/

@[simp] theorem State.poolPut_zyn (off : Nat) (b : Bytes) : (s.poolPut off b).zyn = s.zyn := rfl
@[simp] theorem State.setHolders_zyn (line : Nat) (h : List Nat × Bool) : (s.setHolders line h).zyn = s.zyn := rfl

@[simp] theorem State.sendSnoop_zyn (line h : Nat) (data : Bool) : (s.sendSnoop line h data).zyn = s.zyn := by
  simp -implicitDefEqProofs [State.sendSnoop]

@[simp] theorem State.snoopGo_zyn (line : Nat) : (s.snoopGo line).zyn = s.zyn := by
  unfold State.snoopGo
  split <;> simp -implicitDefEqProofs

@[simp] theorem State.sendSnoops_zyn (line : Nat) (ports : List Nat) (data : Bool) :
    (s.sendSnoops line ports data).zyn = s.zyn := by
  simp -implicitDefEqProofs [State.sendSnoops]

/-! Cleats. -/

@[simp] theorem State.updCleat_zyn (k : Nat) (f : Cleat → Cleat) : (s.updCleat k f).zyn = s.zyn := rfl

@[simp] theorem State.cleatAcquire_zyn (k : Nat) (a : CleatHolder) (tag : Nat) : (s.cleatAcquire k a tag).zyn = s.zyn := by
  unfold State.cleatAcquire
  split <;> simp -implicitDefEqProofs

@[simp] theorem State.cleatMark_zyn (k : Nat) : (s.cleatMark k).1.zyn = s.zyn := by
  simp -implicitDefEqProofs [State.cleatMark]

@[simp] theorem State.cleatTake_zyn (k : Nat) (a : CleatHolder) : (s.cleatTake k a).1.zyn = s.zyn := by
  simp -implicitDefEqProofs [State.cleatTake]

@[simp] theorem State.endStall_marks (x : Stall) (v : Nat) : (s.endStall x v).zyn.hwm = s.zyn.hwm := by
  simp only [State.endStall]
  repeat' split
  all_goals simp -implicitDefEqProofs

@[simp] theorem State.cleatPass_marks (k : Nat) : (s.cleatPass k).zyn.hwm = s.zyn.hwm := by
  unfold State.cleatPass
  split
  · simp -implicitDefEqProofs
  · split <;> simp -implicitDefEqProofs

@[simp] theorem State.cleatRelease_marks (k : Nat) (abandon : Bool) : (s.cleatRelease k abandon).zyn.hwm = s.zyn.hwm := by
  simp -implicitDefEqProofs [State.cleatRelease]

@[simp] theorem State.cleatStart_zyn (k : Nat) (a : CleatHolder) (addr : Nat) (acc : Option (Nat × Nat)) :
    (s.cleatStart k a addr acc).1.zyn = s.zyn := by
  simp -implicitDefEqProofs [State.cleatStart]

@[simp] theorem State.cleatReadBy_zyn (k : Nat) (a : CleatHolder) (addr : Nat) (acc : Option (Nat × Nat)) :
    (s.cleatReadBy k a addr acc).1.zyn = s.zyn := by
  simp only [State.cleatReadBy]
  split <;> simp -implicitDefEqProofs

@[simp] theorem State.cleatReadFrom_zyn (stop level k : Nat) (a : CleatHolder) (addr : Nat) (acc : Option (Nat × Nat)) :
    (s.cleatReadFrom stop level k a addr acc).1.zyn = s.zyn := by
  have hread := s.cleatReadBy_zyn k a addr acc
  unfold State.cleatReadFrom
  split
  · rw [State.nocWait_zyn]
  · split <;> simp_all -implicitDefEqProofs

@[simp] theorem State.cleatBad_zyn : s.cleatBad.zyn = s.zyn := by simp -implicitDefEqProofs [State.cleatBad]

@[simp] theorem State.cleatWriteBy_marks (k : Nat) (a : CleatHolder) (v : Nat) :
    (s.cleatWriteBy k a v).zyn.hwm = s.zyn.hwm := by
  simp only [State.cleatWriteBy]
  repeat' split
  all_goals simp -implicitDefEqProofs

@[simp] theorem State.cleatWriteFrom_marks (stop level k : Nat) (a : CleatHolder) (v : Nat) :
    (s.cleatWriteFrom stop level k a v).zyn.hwm = s.zyn.hwm := by
  simp -implicitDefEqProofs [State.cleatWriteFrom]

@[simp] theorem State.cleatAbandon_marks (f : CleatHolder → Bool) : (s.cleatAbandon f).zyn.hwm = s.zyn.hwm := by
  refine foldl_marks (fun t e => ?_) _ s
  split <;> simp -implicitDefEqProofs

@[simp] theorem State.cleatAbandonOrigin_marks (o : Nat) : (s.cleatAbandonOrigin o).zyn.hwm = s.zyn.hwm := by
  simp -implicitDefEqProofs [State.cleatAbandonOrigin]

@[simp] theorem State.cleatStopVi_marks (v : Nat) : (s.cleatStopVi v).zyn.hwm = s.zyn.hwm := by
  simp -implicitDefEqProofs [State.cleatStopVi]

/-! Spare lasers and bias. -/

@[simp] theorem State.driverReports_zyn (k w d reached : Nat) : (s.driverReports k w d reached).zyn = s.zyn := by
  simp -implicitDefEqProofs [State.driverReports]

@[simp] theorem State.askSpare_zyn (k w : Nat) : (s.askSpare k w).zyn = s.zyn := by
  simp -implicitDefEqProofs [State.askSpare]

@[simp] theorem State.biasWritten_zyn (k d : Nat) : (s.biasWritten k d).zyn = s.zyn := by
  simp -implicitDefEqProofs [State.biasWritten]

/-! Windows. -/

@[simp] theorem State.updWin_zyn (i : Nat) (f : Win → Win) : (s.updWin i f).zyn = s.zyn := rfl

@[simp] theorem State.winAdvance_zyn (i n : Nat) : (s.winAdvance i n).zyn = s.zyn := by
  simp -implicitDefEqProofs [State.winAdvance]

/-! The journal's ring. -/

@[simp] theorem State.holdRecs_zyn (l : List Bytes) : (s.holdRecs l).zyn = s.zyn := by
  simp -implicitDefEqProofs [State.holdRecs]

@[simp] theorem State.stopRing_zyn : s.stopRing.zyn = s.zyn := rfl
@[simp] theorem State.startRing_zyn : s.startRing.zyn = s.zyn := rfl

@[simp] theorem State.followRing_zyn (was : Bool) : (s.followRing was).zyn = s.zyn := by
  simp -implicitDefEqProofs [State.followRing]

@[simp] theorem State.emptyRing_zyn : s.emptyRing.zyn = s.zyn := rfl

/-! The partition and the snoop filter. -/

@[simp] theorem State.commitPartition_zyn : s.commitPartition.zyn = s.zyn := by
  simp -implicitDefEqProofs [State.commitPartition]

@[simp] theorem State.makeRoom_zyn (line : Nat) : (s.makeRoom line).zyn = s.zyn := by
  simp only [State.makeRoom]
  split
  · split <;> simp -implicitDefEqProofs
  · simp -implicitDefEqProofs

@[simp] theorem State.cxlFilter_zyn (port : Nat) (kind : CxlKind) (line : Nat) :
    (s.cxlFilter port kind line).zyn = s.zyn := by
  simp only [State.cxlFilter]
  split <;> simp -implicitDefEqProofs

@[simp] theorem State.cxlServe_zyn (port : Nat) (kind : CxlKind) (line : Nat) (data : Bytes) :
    (s.cxlServe port kind line data).zyn = s.zyn := by
  unfold State.cxlServe
  split <;> simp -implicitDefEqProofs

@[simp] theorem State.cxlReach_zyn (port : Nat) (kind : CxlKind) (line : Nat) (data : Bytes) :
    (s.cxlReach port kind line data).zyn = s.zyn := by
  simp -implicitDefEqProofs [State.cxlReach]

@[simp] theorem State.endSnoop_zyn (line : Nat) : (s.endSnoop line).zyn = s.zyn := by
  unfold State.endSnoop
  split <;> simp -implicitDefEqProofs

@[simp] theorem State.snoopPaid_zyn (line port : Nat) : (s.snoopPaid line port).zyn = s.zyn := by
  simp -implicitDefEqProofs [State.snoopPaid]

@[simp] theorem State.dropHolder_zyn (port : Nat) : (s.dropHolder port).zyn = s.zyn := by
  simp -implicitDefEqProofs [State.dropHolder]

/-! Firmware. -/

@[simp] theorem State.raiseSvn_zyn (kind bank : Nat) : (s.raiseSvn kind bank).zyn = s.zyn := rfl

@[simp] theorem State.clusterRuns_zyn (c bank : Nat) : (s.clusterRuns c bank).zyn = s.zyn := by
  simp -implicitDefEqProofs [State.clusterRuns]

@[simp] theorem State.settleSvn_zyn : s.settleSvn.zyn = s.zyn := by
  unfold State.settleSvn
  split <;> simp -implicitDefEqProofs

@[simp] theorem State.dockBank_zyn (c : Nat) : (s.dockBank c).zyn = s.zyn := by
  unfold State.dockBank
  split <;> simp -implicitDefEqProofs

/-! Pending keys and the PLL. -/

@[simp] theorem State.keyEffect_zyn (k : Nat) : (s.keyEffect k).zyn = s.zyn := by
  unfold State.keyEffect
  split <;> simp -implicitDefEqProofs

@[simp] theorem State.pllUse_zyn (b : Bool) : (s.pllUse b).zyn = s.zyn := rfl

@[simp] theorem State.pllEval_zyn : s.pllEval.zyn = s.zyn := by
  unfold State.pllEval
  repeat' split
  all_goals simp -implicitDefEqProofs

/-! Fences. -/

@[simp] theorem State.setFenced_zyn (p : PageRef) : (s.setFenced p).zyn = s.zyn := by
  simp -implicitDefEqProofs [State.setFenced]

@[simp] theorem State.requestFence_zyn (p : PageRef) : (s.requestFence p).zyn = s.zyn := by
  unfold State.requestFence
  split <;> simp -implicitDefEqProofs

@[simp] theorem State.releaseFence_zyn (p : PageRef) : (s.releaseFence p).zyn = s.zyn := by
  unfold State.releaseFence
  split <;> simp -implicitDefEqProofs

/-! Messages that stop. -/

@[simp] theorem State.stopMsg_zyn (loc rem : Nat) (m : TxMsg) : (s.stopMsg loc rem m).zyn = s.zyn := by
  simp -implicitDefEqProofs [State.stopMsg]

/-! VIs and host ports that stop. -/

@[simp] theorem State.stopBuild_zyn (v : Nat) : (s.stopBuild v).zyn = s.zyn := by
  refine foldl_zyn (fun t c => ?_) _ s
  split <;> simp -implicitDefEqProofs

@[simp] theorem State.stopVi_marks (v cause : Nat) : (s.stopVi v cause).zyn.hwm = s.zyn.hwm := by
  simp -implicitDefEqProofs [State.stopVi]

@[simp] theorem State.enterEnabling_zyn (v : Nat) : (s.enterEnabling v).zyn = s.zyn := by
  simp -implicitDefEqProofs [State.enterEnabling]

@[simp] theorem State.viEnabled_marks (v : Nat) (b : Bool) : (s.viEnabled v b).zyn.hwm = s.zyn.hwm := by
  simp -implicitDefEqProofs [State.viEnabled]

@[simp] theorem State.viGone_zyn (v : Nat) : (s.viGone v).zyn = s.zyn := by simp -implicitDefEqProofs [State.viGone]

@[simp] theorem State.viDestroyed_marks (v : Nat) : (s.viDestroyed v).zyn.hwm = s.zyn.hwm := by
  simp -implicitDefEqProofs [State.viDestroyed]

@[simp] theorem State.portStopVi_marks (v : Nat) : (s.portStopVi v).zyn.hwm = s.zyn.hwm := by
  simp -implicitDefEqProofs [State.portStopVi]

@[simp] theorem State.portReset_marks (h : Nat) : (s.portReset h).zyn.hwm = s.zyn.hwm := by
  simp -implicitDefEqProofs [State.portReset]

@[simp] theorem State.portDown_zyn (h : Nat) : (s.portDown h).zyn = s.zyn := by simp -implicitDefEqProofs [State.portDown]

/-! Service transitions and the session. -/

@[simp] theorem State.startTransition_zyn (p : PageRef) (st : Nat) : (s.startTransition p st).zyn = s.zyn := rfl

@[simp] theorem State.startDrain_zyn (p : PageRef) : (s.startDrain p).zyn = s.zyn := by
  simp -implicitDefEqProofs [State.startDrain]

@[simp] theorem State.leaveActive_marks (p : PageRef) : (s.leaveActive p).zyn.hwm = s.zyn.hwm := by
  unfold State.leaveActive
  split <;> simp -implicitDefEqProofs

@[simp] theorem State.moduleLeaves_marks : s.moduleLeaves.zyn.hwm = s.zyn.hwm := by
  simp -implicitDefEqProofs [State.moduleLeaves]

@[simp] theorem State.enterOut_zyn (p : PageRef) : (s.enterOut p).zyn = s.zyn := by
  unfold State.enterOut
  split <;> simp -implicitDefEqProofs

@[simp] theorem State.enterDockAs_zyn (p : PageRef) (pass relight : Bool) : (s.enterDockAs p pass relight).zyn = s.zyn := by
  unfold State.enterDockAs
  split <;> simp -implicitDefEqProofs

@[simp] theorem State.svcRequest_marks (p : PageRef) (st : Nat) : (s.svcRequest p st).1.zyn.hwm = s.zyn.hwm := by
  simp -implicitDefEqProofs [State.svcRequest]

@[simp] theorem State.noteSvcReq_zyn (p : PageRef) (st : Nat) : (s.noteSvcReq p st).zyn = s.zyn := rfl

@[simp] theorem State.svcCommand_marks (p : PageRef) (st : Nat) : (s.svcCommand p st).1.zyn.hwm = s.zyn.hwm := by
  unfold State.svcCommand
  split
  · exact foldl_reading (fun r : State × Nat × Nat => r.1.zyn.hwm) (fun r n => by simp -implicitDefEqProofs) _ _
  · simp -implicitDefEqProofs

@[simp] theorem State.closeSession_marks : s.closeSession.zyn.hwm = s.zyn.hwm := by
  unfold State.closeSession
  split <;> simp -implicitDefEqProofs

/-! Reads. -/

@[simp] theorem State.setOwn_zyn (p : PageRef) (off origin v : Nat) : (s.setOwn p off origin v).zyn = s.zyn := rfl

@[simp] theorem State.readReg_zyn (origin : Nat) (p : PageRef) (off : Nat) : (s.readReg origin p off).1.zyn = s.zyn := by
  simp only [State.readReg]
  split
  · simp -implicitDefEqProofs
  · split <;> simp -implicitDefEqProofs

/-! What a write does. -/

@[simp] theorem State.softBlock_zyn (z : PageRef) : (s.softBlock z).zyn = s.zyn := by
  unfold State.softBlock
  repeat' split
  all_goals simp -implicitDefEqProofs

@[simp] theorem State.softCollar_zyn (p : PageRef) : (s.softCollar p).zyn = s.zyn := rfl

@[simp] theorem State.softRecords_zyn (s0 : State) (z : PageRef) : (s0.softRecords s z).zyn = s.zyn := by
  simp -implicitDefEqProofs [State.softRecords]

@[simp] theorem State.softReset_zyn (z : PageRef) : (s.softReset z).zyn = s.zyn := by
  simp -implicitDefEqProofs [State.softReset]

@[simp] theorem State.enChanged_zyn (p : PageRef) (ring on : Bool) : (s.enChanged p ring on).zyn = s.zyn := by
  unfold State.enChanged
  split <;> simp -implicitDefEqProofs

@[simp] theorem State.ctlWritten_zyn (p : PageRef) (ring : Bool) (old new : Nat) :
    (s.ctlWritten p ring old new).zyn = s.zyn := by
  simp -implicitDefEqProofs [State.ctlWritten]

@[simp] theorem State.retrain_zyn (p : Nat) : (s.retrain p).zyn = s.zyn := by simp -implicitDefEqProofs [State.retrain]

@[simp] theorem State.forceSpares_zyn (k mask : Nat) : (s.forceSpares k mask).zyn = s.zyn := by
  simp -implicitDefEqProofs [State.forceSpares]

@[simp] theorem State.xlateCommit_zyn (v : Nat) : (s.xlateCommit v).zyn = s.zyn := by
  simp -implicitDefEqProofs [State.xlateCommit]

@[simp] theorem State.beginStaging_zyn : s.beginStaging.zyn = s.zyn := by simp -implicitDefEqProofs [State.beginStaging]
@[simp] theorem State.stageWord_zyn (v : Nat) : (s.stageWord v).zyn = s.zyn := rfl

@[simp] theorem State.queueEnabled_zyn (v page q : Nat) : (s.queueEnabled v page q).zyn = s.zyn := by
  simp -implicitDefEqProofs [State.queueEnabled]

@[simp] theorem State.blockWritten_marks (p : PageRef) (off old new v : Nat) :
    (s.blockWritten p off old new v).zyn.hwm = s.zyn.hwm := by
  unfold State.blockWritten
  split <;> simp -implicitDefEqProofs

@[simp] theorem State.clearCtrs_zyn (p : PageRef) (mask : Nat) : (s.clearCtrs p mask).zyn = s.zyn := by
  simp -implicitDefEqProofs [State.clearCtrs]

@[simp] theorem State.written_marks (p : PageRef) (off : Nat) (ring : Bool) (old new v : Nat) :
    (s.written p off ring old new v).zyn.hwm = s.zyn.hwm := by
  simp -implicitDefEqProofs [State.written]

/-! The writes of a cycle. -/

@[simp] theorem State.badAccess_zyn (path : APath) (a : Nat) : (s.badAccess path a).zyn = s.zyn := by
  unfold State.badAccess
  split
  · simp -implicitDefEqProofs
  · split <;> simp -implicitDefEqProofs

@[simp] theorem State.putFor_zyn (p : PageRef) (off origin v : Nat) : (s.putFor p off origin v).zyn = s.zyn := by
  simp -implicitDefEqProofs [State.putFor]

@[simp] theorem State.setHeld_zyn (p : PageRef) (off origin : Nat) (w : Option Word) :
    (s.setHeld p off origin w).zyn = s.zyn := rfl

@[simp] theorem State.holdLo_zyn (e : RegWrite × Option Nat) : (s.holdLo e).zyn = s.zyn := by
  simp -implicitDefEqProofs [State.holdLo]

@[simp] theorem State.storeOne_zyn (j : Judged) : (s.storeOne j).1.zyn = s.zyn := by
  unfold State.storeOne
  repeat' split
  all_goals simp -implicitDefEqProofs

@[simp] theorem State.blame_zyn (j : Judged) : (s.blame j).zyn = s.zyn := by
  unfold State.blame
  split <;> simp -implicitDefEqProofs

@[simp] theorem State.recordOne_zyn (s0 : State) (j : Judged) : (s0.recordOne s j).zyn = s.zyn := by
  unfold State.recordOne
  split <;> simp -implicitDefEqProofs

@[simp] theorem State.runWrites_marks (rival : Option Rival) (ws : List (RegWrite × Option Nat)) :
    (s.runWrites rival ws).1.zyn.hwm = s.zyn.hwm := by
  have hstore (js : List Judged) (a : State × List Judged) :
      (js.foldl (fun a j => ((a.1.storeOne j).1, a.2 ++ [(a.1.storeOne j).2])) a).1.zyn = a.1.zyn :=
    foldl_reading (fun a : State × List Judged => a.1.zyn) (fun a j => a.1.storeOne_zyn j) js a
  simp -implicitDefEqProofs [State.runWrites, hstore]

@[simp] theorem State.directWrites_marks (rival : Option Rival) (ws : List RegWrite) :
    (s.directWrites rival ws).1.zyn.hwm = s.zyn.hwm := by
  simp -implicitDefEqProofs [State.directWrites]

@[simp] theorem State.records_zyn (s0 : State) (js : List Judged) : (s0.records s js).zyn = s.zyn := by
  simp -implicitDefEqProofs [State.records]

@[simp] theorem State.writeKeyed_marks (w : RegWrite) (mask : Nat) : (s.writeKeyed w mask).1.zyn.hwm = s.zyn.hwm := by
  simp -implicitDefEqProofs [State.writeKeyed]

@[simp] theorem State.readAt_zyn (path : APath) (a : Nat) : (s.readAt path a).1.zyn = s.zyn := by
  unfold State.readAt
  split
  · simp -implicitDefEqProofs
  · split <;> simp -implicitDefEqProofs

/-! Records and replies. -/

@[simp] theorem State.zReply_marks (path : ZPath) (f b : Bytes) : (s.zReply path f b).zyn.hwm = s.zyn.hwm := by
  unfold State.zReply
  split <;> simp -implicitDefEqProofs

@[simp] theorem State.zRecordAt_zyn (o : Nat) (f : Bytes) (status winner : Nat) (t : PageRef × Nat) :
    (s.zRecordAt o f status winner t).zyn = s.zyn := by
  simp -implicitDefEqProofs [State.zRecordAt]

@[simp] theorem State.zRecord_zyn (path : ZPath) (f : Bytes) (status winner : Nat) :
    (s.zRecord path f status winner).zyn = s.zyn := by
  simp -implicitDefEqProofs [State.zRecord]

@[simp] theorem State.zCount_zyn (status : Nat) : (s.zCount status).zyn = s.zyn := by
  simp -implicitDefEqProofs [State.zCount]

@[simp] theorem State.zAnswerAt_marks (tick : Nat) (path : ZPath) (f : Bytes) (status winner result : Nat) :
    (s.zAnswerAt tick path f status winner result).zyn.hwm = s.zyn.hwm := by
  simp -implicitDefEqProofs [State.zAnswerAt]

@[simp] theorem State.zAnswer_marks (path : ZPath) (f : Bytes) (status winner result : Nat) :
    (s.zAnswer path f status winner result).zyn.hwm = s.zyn.hwm := by
  simp -implicitDefEqProofs [State.zAnswer]

@[simp] theorem State.zFinish_marks (path : ZPath) (f : Bytes) (status winner result : Nat) :
    (s.zFinish path f status winner result).zyn.hwm = s.zyn.hwm := by
  simp -implicitDefEqProofs [State.zFinish]

@[simp] theorem State.zReject_marks (path : ZPath) (f : Bytes) : (s.zReject path f).zyn.hwm = s.zyn.hwm := by
  simp -implicitDefEqProofs [State.zReject]

@[simp] theorem State.zQueue_marks (path : ZPath) (f : Bytes) : (s.zQueue path f).zyn.hwm = s.zyn.hwm := rfl

/-! Critical commands. -/

@[simp] theorem State.doRouteCommit_zyn (f : Bytes) : (s.doRouteCommit f).1.zyn = s.zyn := by
  simp -implicitDefEqProofs [State.doRouteCommit]

@[simp] theorem State.doSvcState_marks (f : Bytes) : (s.doSvcState f).1.zyn.hwm = s.zyn.hwm := by
  unfold State.doSvcState
  split <;> simp -implicitDefEqProofs

@[simp] theorem State.doViCreate_zyn (f : Bytes) : (s.doViCreate f).1.zyn = s.zyn := by
  simp -implicitDefEqProofs [State.doViCreate]

@[simp] theorem State.doViDestroy_marks (f : Bytes) : (s.doViDestroy f).1.zyn.hwm = s.zyn.hwm := by
  simp -implicitDefEqProofs [State.doViDestroy]

@[simp] theorem State.doKeyUpdate_zyn (f : Bytes) : (s.doKeyUpdate f).1.zyn = s.zyn := by
  simp -implicitDefEqProofs [State.doKeyUpdate]

@[simp] theorem State.doFwActivate_zyn (path : ZPath) (f : Bytes) : (s.doFwActivate path f).1.zyn = s.zyn := by
  simp -implicitDefEqProofs [State.doFwActivate]

@[simp] theorem State.doCleatRelease_marks (f : Bytes) (cap : Option (CleatHolder × Nat)) :
    (s.doCleatRelease f cap).1.zyn.hwm = s.zyn.hwm := by
  unfold State.doCleatRelease
  split <;> simp -implicitDefEqProofs

@[simp] theorem State.zWrite_marks (f : Bytes) (p : PageRef) (off value mask : Nat) :
    (s.zWrite f p off value mask).1.zyn.hwm = s.zyn.hwm := by
  simp -implicitDefEqProofs [State.zWrite]

@[simp] theorem State.doTickElect_marks (f : Bytes) : (s.doTickElect f).1.zyn.hwm = s.zyn.hwm := by
  simp -implicitDefEqProofs [State.doTickElect]

@[simp] theorem State.doFailover_zyn (f : Bytes) : (s.doFailover f).1.zyn = s.zyn := by
  simp -implicitDefEqProofs [State.doFailover]

@[simp] theorem State.doDumpTrigger_zyn (f : Bytes) : (s.doDumpTrigger f).1.zyn = s.zyn := by
  simp -implicitDefEqProofs [State.doDumpTrigger]

@[simp] theorem State.doOwnerChange_marks (f : Bytes) : (s.doOwnerChange f).1.zyn.hwm = s.zyn.hwm := by
  simp -implicitDefEqProofs [State.doOwnerChange]

@[simp] theorem State.doRegWriteKeyed_marks (f : Bytes) : (s.doRegWriteKeyed f).1.zyn.hwm = s.zyn.hwm := by
  unfold State.doRegWriteKeyed
  split <;> simp -implicitDefEqProofs

@[simp] theorem State.zDo_marks (c : ZCmd) : (s.zDo c).1.zyn.hwm = s.zyn.hwm := by
  simp only [State.zDo]
  split <;> simp -implicitDefEqProofs

@[simp] theorem State.zLosers_marks (c : ZCmd) : (s.zLosers c).zyn.hwm = s.zyn.hwm := by
  simp -implicitDefEqProofs [State.zLosers]

@[simp] theorem State.zEffect_marks (c : ZCmd) : (s.zEffect c).1.zyn.hwm = s.zyn.hwm := by
  simp -implicitDefEqProofs [State.zEffect]

@[simp] theorem State.zRecords_zyn (c : ZCmd) (d : ZDone) : (s.zRecords c d).zyn = s.zyn := by
  simp -implicitDefEqProofs [State.zRecords]

@[simp] theorem State.zReplies_marks (c : ZCmd) (d : ZDone) : (s.zReplies c d).zyn.hwm = s.zyn.hwm := by
  simp -implicitDefEqProofs [State.zReplies]

@[simp] theorem State.jointCycle_marks (ws : List RegWrite) (c : ZCmd) : (s.jointCycle ws c).1.zyn.hwm = s.zyn.hwm := by
  simp only [State.jointCycle]
  split <;> simp -implicitDefEqProofs

@[simp] theorem State.cycle_marks (ws : List RegWrite) : (s.cycle ws).1.zyn.hwm = s.zyn.hwm := by
  unfold State.cycle
  split <;> simp -implicitDefEqProofs

@[simp] theorem State.cycleOne_marks (w : RegWrite) : (s.cycleOne w).1.zyn.hwm = s.zyn.hwm := by
  simp -implicitDefEqProofs [State.cycleOne]

/-! Session frames. -/

@[simp] theorem State.zSessionRec_zyn (f : Bytes) (status : Nat) : (s.zSessionRec f status).zyn = s.zyn := by
  simp -implicitDefEqProofs [State.zSessionRec]

@[simp] theorem State.zSessionDone_zyn (f : Bytes) (status result : Nat) : (s.zSessionDone f status result).zyn = s.zyn := by
  simp -implicitDefEqProofs [State.zSessionDone]

@[simp] theorem State.touchSession_marks : s.touchSession.zyn.hwm = s.zyn.hwm := rfl

@[simp] theorem State.openSession_marks (f : Bytes) : (s.openSession f).zyn.hwm = s.zyn.hwm := by
  simp -implicitDefEqProofs [State.openSession]

@[simp] theorem State.sessionRead_marks (f : Bytes) (p : PageRef) (off : Nat) :
    (s.sessionRead f p off).zyn.hwm = s.zyn.hwm := by
  simp only [State.sessionRead]
  split
  next k _ =>
    have hread := s.cleatReadFrom_zyn mcStop 0 k (.origin (zOrigin f)) (p.addr + off) none
    split <;> simp_all -implicitDefEqProofs
  next => simp -implicitDefEqProofs

@[simp] theorem State.sessionWrite_marks (f : Bytes) (p : PageRef) (off : Nat) :
    (s.sessionWrite f p off).zyn.hwm = s.zyn.hwm := by
  simp only [State.sessionWrite]
  split <;> simp -implicitDefEqProofs

@[simp] theorem State.sessionFrame_marks (f : Bytes) : (s.sessionFrame f).zyn.hwm = s.zyn.hwm := by
  unfold State.sessionFrame
  repeat' split
  all_goals simp -implicitDefEqProofs

end Frames

/-- Whatever checks 4 and 5 make of a frame, its mark stays where check 3 left it. -/
theorem State.zAdmit_marks (s : State) (path : ZPath) (f : Bytes) : (s.zAdmit path f).zyn.hwm = s.zyn.hwm := by
  simp -implicitDefEqProofs [State.zAdmit]

/-- Settles O58: nothing after check 3 moves a mark, and neither does the refusal at check 1 or 2. -/
theorem passedCounterBecomesHighWaterMark : Obligations.PassedCounterBecomesHighWaterMark := by
  unfold Obligations.PassedCounterBecomesHighWaterMark
  rintro s path f auth hw rfl
  refine ⟨fun hauth hc ho => ?_, fun hauth o => ?_⟩
  · have hmarks : (s.zArrive path f).zyn.hwm = (s.setHwm (zOrigin f) (zCtr f)).zyn.hwm := by
      rw [State.zArrive_of_fresh hauth hc, State.zAdmit_marks, State.zAccepted_marks]
    refine ⟨?_, fun o hne => ?_⟩
    · rw [State.hwm_congr hmarks, State.setHwm_hwm hw ho]
    · rw [State.hwm_congr hmarks, State.setHwm_hwm_ne hne]
  · rw [State.zArrive_of_not_authentic hauth, State.hwm_congr (s.zReject_marks path f)]

end Sys2Proof.Machine

/-! The route table window: what a write through it does, and the active bank (R229). `simp` writes out the proofs about an
error (`-implicitDefEqProofs`), so that the kernel need not unfold the states of its two branches. -/

namespace Sys2Proof.Machine

/-! An error of a page changes of its registers only BLK_ERR and its count, and leaves the tables (R84). -/

theorem State.get_congr {s t : State} (h : t.regs = s.regs) (p : PageRef) (o : Nat) : t.get p o = s.get p o := by
  rw [State.get, State.reg, h, State.get, State.reg]

theorem State.raise_regs (s : State) (p : PageRef) (b : Nat) :
    (s.raise p b).regs = ((s.bput p 0x10 b true).satAdd p 0x1C 31 0 1).regs := by
  simp -implicitDefEqProofs only [State.raise, apply_ite State.regs, State.event_regs, ite_self]

theorem State.raise_get_offset {o : Nat} (herr : 0x10 ≠ o) (hcount : 0x1C ≠ o) (s : State) (p : PageRef) (b : Nat) :
    (s.raise p b).get p o = s.get p o := by
  rw [State.get_congr (s.raise_regs p b), State.satAdd, State.get_fput_ne (by omega), State.get_bput_ne (by omega)]

theorem State.raise_route (s : State) (p : PageRef) (b : Nat) : (s.raise p b).route = s.route := by
  simp -implicitDefEqProofs only [State.raise, apply_ite State.route, State.event_route, State.satAdd_route,
    State.bput_route, ite_self]

/-! The active bank. -/

theorem State.raise_bankWord (s : State) (b : Nat) (active : Bool) (a : Nat) :
    (s.raise routePg b).bankWord active a = s.bankWord active a := by
  have hstat : (s.raise routePg b).bget routePg 0x44 9 = s.bget routePg 0x44 9 := by
    rw [State.bget, State.raise_get_offset (by decide) (by decide), State.bget]
  unfold State.bankWord
  rw [hstat, State.raise_route]

/-- ROUTE.STAT names the active bank, and the word goes to the other one. -/
theorem State.setShadow_bankWord_active (s : State) (ofs : Nat) (w : Word) (a : Nat) :
    (s.setShadow ofs w).bankWord true a = s.bankWord true a := by
  have hregs : (s.setShadow ofs w).regs = s.regs := by
    unfold State.setShadow
    split <;> rfl
  have hstat : (s.setShadow ofs w).bget routePg 0x44 9 = s.bget routePg 0x44 9 := by
    rw [State.bget, State.get_congr hregs, State.bget]
  unfold State.bankWord
  rw [hstat]
  cases hbank : s.bget routePg 0x44 9 with
  | false => simp [State.setShadow, hbank]
  | true => simp [State.setShadow, hbank]

/-- A write through the window does nothing, or is an error of the ROUTE page, or puts a word into the shadow bank. -/
theorem execRouteTableWindowWrite_cases {path : APath} {ofs : Nat} {v : Word} {s t : State}
    (h : execRouteTableWindowWrite path ofs v s = .next t) :
    t = s ∨ (∃ b, t = s.raise routePg b) ∨ ∃ w, t = s.setShadow ofs w := by
  unfold execRouteTableWindowWrite at h
  split at h
  · cases h; exact .inl rfl
  split at h
  · cases h; exact .inr (.inl ⟨0, rfl⟩)
  split at h
  · cases h; exact .inr (.inl ⟨1, rfl⟩)
  split at h
  · cases h; exact .inr (.inl ⟨23, rfl⟩)
  dsimp only at h
  split at h
  · cases h; exact .inl rfl
  · cases h; exact .inr (.inr ⟨_, rfl⟩)

/-- Settles O35: neither an error nor a word of the shadow bank touches what the active bank reads. -/
theorem windowWritesLeaveActiveBank : Obligations.WindowWritesLeaveActiveBank := by
  unfold Obligations.WindowWritesLeaveActiveBank
  intro s t q ofs a v h _
  obtain rfl | ⟨b, rfl⟩ | ⟨w, rfl⟩ := execRouteTableWindowWrite_cases h
  · rfl
  · exact s.raise_bankWord b true a
  · exact s.setShadow_bankWord_active ofs w a

end Sys2Proof.Machine

/-! Counters: what a wrap writes, and a chain of them (R582, R583). -/

namespace Sys2Proof.Machine

/-! The counters present on a page. -/

theorem ctrMask_lt {p : PageRef} {m : Nat} (h : ctrMask p = some m) : m < 2 ^ 16 := by
  unfold ctrMask at h
  split at h <;> cases h <;> decide

theorem lt_of_bit {m j n : Nat} (hm : m < 2 ^ n) (h : bit m j = true) : j < n := by
  by_contra hj
  have hzero : m / 2 ^ j = 0 := Nat.div_eq_of_lt (lt_of_lt_of_le hm (Nat.pow_le_pow_right (by decide) (by omega)))
  simp [bit, hzero] at h

/-! What a counter reads. -/

theorem State.ctr_lt (s : State) (p : PageRef) (n : Nat) : s.ctr p n < 2 ^ 48 := by
  have hlo := s.get_lt p (0xC00 + 8 * n)
  have hhi : s.fget p (0xC04 + 8 * n) 15 0 < 2 ^ 16 := Nat.mod_lt _ (by decide)
  unfold State.ctr
  omega

theorem State.ctr_congr {s t : State} {p : PageRef} {n : Nat} (hlo : t.get p (0xC00 + 8 * n) = s.get p (0xC00 + 8 * n))
    (hhi : t.get p (0xC04 + 8 * n) = s.get p (0xC04 + 8 * n)) : t.ctr p n = s.ctr p n := by
  rw [State.ctr, State.fget, hlo, hhi, State.ctr, State.fget]

/-- The counters end below CHAIN at 0xC80. -/
theorem State.ctr_put {n o : Nat} (hn : n < 16) (ho : 0xC80 ≤ o) (s : State) (p : PageRef) (v : Nat) :
    (s.put p o v).ctr p n = s.ctr p n :=
  State.ctr_congr (State.get_put_ne (by omega) _) (State.get_put_ne (by omega) _)

theorem State.ctr_bput {n o : Nat} (hn : n < 16) (ho : 0xC80 ≤ o) (s : State) (p : PageRef) (b : Nat) (v : Bool) :
    (s.bput p o b v).ctr p n = s.ctr p n := State.ctr_put hn ho s p _

theorem State.putCtr_wf {s : State} (hw : Registers.wf s.regs = true) (p : PageRef) (n v : Nat) :
    Registers.wf (s.putCtr p n v).regs = true := State.put_wf (State.put_wf hw _ _ _) _ _ _

theorem State.ctr_putCtr {s : State} (hw : Registers.wf s.regs = true) (p : PageRef) (n : Nat) {v : Nat} (hv : v < 2 ^ 48) :
    (s.putCtr p n v).ctr p n = v := by
  have hpair := State.get64_put64 hw p (0xC00 + 8 * n) (v := v) (by omega)
  rw [State.get64, show 0xC00 + 8 * n + 4 = 0xC04 + 8 * n by omega] at hpair
  rw [State.ctr, State.fget, fld, State.putCtr]
  omega

theorem State.ctr_putCtr_ne {n i : Nat} (h : n ≠ i) (s : State) (p : PageRef) (v : Nat) :
    (s.putCtr p n v).ctr p i = s.ctr p i :=
  State.ctr_congr (State.get_put64_ne (by omega) (by omega) v) (State.get_put64_ne (by omega) (by omega) v)

theorem State.bget_putCtr {n o : Nat} (hn : n < 16) (ho : 0xC80 ≤ o) (s : State) (p : PageRef) (v b : Nat) :
    (s.putCtr p n v).bget p o b = s.bget p o b := by
  rw [State.bget, State.putCtr, State.get_put64_ne (by omega) (by omega), State.bget]

/-! What an addition to a counter does. -/

section Sum

variable {p : PageRef} {m n k f : Nat} {s : State}

theorem State.addCtr_of_fits (h : s.ctr p n + k < 2 ^ 48) :
    State.addCtr p m (f + 1) n k s = s.putCtr p n ((s.ctr p n + k) % 2 ^ 48) := by
  rw [State.addCtr, if_pos h]

theorem State.addCtr_of_chained (hn : n < 16) (hchain : s.bget p 0xC80 n = true) (hnext : bit m (n + 1) = true)
    (h : 2 ^ 48 ≤ s.ctr p n + k) : State.addCtr p m (f + 1) n k s =
      State.addCtr p m f (n + 1) ((s.ctr p n + k) / 2 ^ 48) (s.putCtr p n ((s.ctr p n + k) % 2 ^ 48)) := by
  rw [State.addCtr, if_neg (by omega), State.bget_putCtr hn (Nat.le_refl _), hchain, hnext]
  rfl

theorem State.addCtr_of_unchained (hn : n < 16) (hend : (s.bget p 0xC80 n && bit m (n + 1)) = false)
    (h : 2 ^ 48 ≤ s.ctr p n + k) : State.addCtr p m (f + 1) n k s =
      (s.putCtr p n ((s.ctr p n + k) % 2 ^ 48)).bput p 0xC88 n true := by
  rw [State.addCtr, if_neg (by omega), State.bget_putCtr hn (Nat.le_refl _), hend]
  rfl

/-- An addition to counter n writes nothing but counters from n up and their OVF bits, so it keeps what those writes keep. -/
theorem State.addCtr_induct {P : State → Prop} (hm : m < 2 ^ 16)
    (hput : ∀ t j v, n ≤ j → j < 16 → P t → P (t.putCtr p j v))
    (hovf : ∀ t j, n ≤ j → j < 16 → P t → P (t.bput p 0xC88 j true)) :
    ∀ (f j k : Nat) (s : State), n ≤ j → j < 16 → P s → P (State.addCtr p m f j k s)
  | 0, _, _, _, _, _, hs => hs
  | f + 1, j, k, s, hnj, hj, hs => by
    have hsum := hput s j ((s.ctr p j + k) % 2 ^ 48) hnj hj hs
    by_cases hfits : s.ctr p j + k < 2 ^ 48
    · rw [State.addCtr_of_fits hfits]
      exact hsum
    cases hend : s.bget p 0xC80 j && bit m (j + 1) with
    | false =>
      rw [State.addCtr_of_unchained hj hend (by omega)]
      exact hovf _ j hnj hj hsum
    | true =>
      obtain ⟨hchain, hnext⟩ := Bool.and_eq_true_iff.mp hend
      rw [State.addCtr_of_chained hj hchain hnext (by omega)]
      exact State.addCtr_induct hm hput hovf f (j + 1) _ _ (by omega) (lt_of_bit hm hnext) hsum

theorem State.ctr_addCtr_below {i : Nat} (hm : m < 2 ^ 16) (hn : n < 16) (hi : i < n) :
    (State.addCtr p m f n k s).ctr p i = s.ctr p i :=
  State.addCtr_induct (P := fun t => t.ctr p i = s.ctr p i) hm
    (fun t j v hnj _ ht => by rw [State.ctr_putCtr_ne (by omega), ht])
    (fun t j _ _ ht => by rw [State.ctr_bput (by omega) (by decide), ht])
    f n k s (Nat.le_refl n) hn rfl

theorem State.ovf_addCtr_below {i : Nat} (hw : Registers.wf s.regs = true) (hm : m < 2 ^ 16) (hn : n < 16) (hi : i < n) :
    (State.addCtr p m f n k s).bget p 0xC88 i = s.bget p 0xC88 i :=
  (State.addCtr_induct (P := fun t => Registers.wf t.regs = true ∧ t.bget p 0xC88 i = s.bget p 0xC88 i) hm
    (fun t j v _ hj ⟨hwt, ht⟩ => ⟨State.putCtr_wf hwt p j v, by rw [State.bget_putCtr hj (by decide), ht]⟩)
    (fun t j hnj hj ⟨hwt, ht⟩ =>
      ⟨State.bput_wf hwt p _ j true, by rw [State.bget_bput_ne hwt (by omega) (by omega), ht]⟩)
    f n k s (Nat.le_refl n) hn ⟨hw, rfl⟩).2

/-- The counter itself holds the sum modulo 2^48, wherever its wraps go. -/
theorem State.ctr_addCtr (hw : Registers.wf s.regs = true) (hm : m < 2 ^ 16) (hn : n < 16) :
    (State.addCtr p m (f + 1) n k s).ctr p n = (s.ctr p n + k) % 2 ^ 48 := by
  have hsum : (s.putCtr p n ((s.ctr p n + k) % 2 ^ 48)).ctr p n = (s.ctr p n + k) % 2 ^ 48 :=
    State.ctr_putCtr hw p n (Nat.mod_lt _ (by decide))
  by_cases hfits : s.ctr p n + k < 2 ^ 48
  · rw [State.addCtr_of_fits hfits, hsum]
  cases hend : s.bget p 0xC80 n && bit m (n + 1) with
  | false => rw [State.addCtr_of_unchained hn hend (by omega), State.ctr_bput hn (by decide), hsum]
  | true =>
    obtain ⟨hchain, hnext⟩ := Bool.and_eq_true_iff.mp hend
    rw [State.addCtr_of_chained hn hchain hnext (by omega), State.ctr_addCtr_below hm (lt_of_bit hm hnext) (by omega), hsum]

/-- An event that fills a chained counter is one event of the counter above it. -/
theorem State.ctr_addCtr_chained (hw : Registers.wf s.regs = true) (hm : m < 2 ^ 16) (hn : n < 16)
    (hchain : s.bget p 0xC80 n = true) (hnext : bit m (n + 1) = true) (hwrap : s.ctr p n + 1 = 2 ^ 48) :
    (State.addCtr p m (f + 2) n 1 s).ctr p (n + 1) = (s.ctr p (n + 1) + 1) % 2 ^ 48 := by
  rw [State.addCtr_of_chained hn hchain hnext (by omega), hwrap,
    State.ctr_addCtr (State.putCtr_wf hw _ _ _) hm (lt_of_bit hm hnext), State.ctr_putCtr_ne (by omega),
    Nat.div_self (by decide)]

theorem State.ovf_addCtr_unchained (hw : Registers.wf s.regs = true) (hn : n < 16)
    (hend : (s.bget p 0xC80 n && bit m (n + 1)) = false) (h : 2 ^ 48 ≤ s.ctr p n + k) :
    (State.addCtr p m (f + 1) n k s).bget p 0xC88 n = true := by
  rw [State.addCtr_of_unchained hn hend h, State.bget_bput (State.putCtr_wf hw _ _ _) (by omega)]

end Sum

/-! What an event does. -/

section Event

variable {s : State} {p : PageRef} {m n k : Nat}

/-- A counter above a CHAIN bit counts no event of its own. -/
theorem State.bump_chained (hchain : s.bget p 0xC80 n = true) (k : Nat) : s.bump p (n + 1) k = s := by
  unfold State.bump
  split
  · rfl
  · rw [if_pos (.inr (.inr ⟨Nat.succ_pos n, hchain⟩))]

theorem State.bump_eq_addCtr (hmask : ctrMask p = some m) (hbit : bit m n = true)
    (hown : n = 0 ∨ s.bget p 0xC80 (n - 1) = false) (hk : 0 < k) : s.bump p n k = State.addCtr p m 16 n k s := by
  rw [State.bump, hmask]
  refine if_neg ?_
  rintro (hzero | hreserved | ⟨hpos, hbelow⟩)
  · omega
  · simp [hbit] at hreserved
  · rcases hown with rfl | hfree
    · omega
    · simp [hbelow] at hfree

/-- The events of a chained counter that wraps are one event of the counter above it. -/
theorem State.bump_of_wrap (hmask : ctrMask p = some m) (hbit : bit m n = true) (hchain : s.bget p 0xC80 n = true)
    (hnext : bit m (n + 1) = true) (hown : n = 0 ∨ s.bget p 0xC80 (n - 1) = false) (hk : 0 < k) (hk48 : k < 2 ^ 48)
    (hwrap : 2 ^ 48 ≤ s.ctr p n + k) :
    s.bump p n k = State.addCtr p m 15 (n + 1) 1 (s.putCtr p n (s.ctr p n + k - 2 ^ 48)) := by
  have hlt := s.ctr_lt p n
  have hone : (s.ctr p n + k) / 2 ^ 48 = 1 := by omega
  have hrest : (s.ctr p n + k) % 2 ^ 48 = s.ctr p n + k - 2 ^ 48 := by omega
  rw [State.bump_eq_addCtr hmask hbit hown hk, State.addCtr_of_chained (lt_of_bit (ctrMask_lt hmask) hbit) hchain hnext hwrap,
    hone, hrest]

end Event

/-- Settles O59: the wrap of counter n is one addition to counter n + 1, which leaves counter n and its OVF bit alone and
wraps in its turn as any other; before a reserved counter the wrap ends in counter n's own OVF bit. -/
theorem chainedCountersCountWraps : Obligations.ChainedCountersCountWraps := by
  unfold Obligations.ChainedCountersCountWraps
  intro s p m n k hw hmask hn hbit hchain hlt _
  have hm := ctrMask_lt hmask
  refine ⟨fun _ => State.bump_chained hchain k, fun hnext hown hk hk48 hwrap => ?_,
    fun hreserved hown hk hk48 hwrap => ?_, fun v i hi => State.ctr_put hi (Nat.le_refl _) s p v⟩
  · rw [State.bump_of_wrap hmask hbit hchain hnext hown hk hk48 hwrap]
    have hrest : s.ctr p n + k - 2 ^ 48 < 2 ^ 48 := by omega
    generalize s.ctr p n + k - 2 ^ 48 = rest at hrest ⊢
    have hwt : Registers.wf (s.putCtr p n rest).regs = true := State.putCtr_wf hw p n rest
    have habove (i : Nat) (hi : n ≠ i) : (s.putCtr p n rest).ctr p i = s.ctr p i := State.ctr_putCtr_ne hi s p rest
    have hchains (b : Nat) : (s.putCtr p n rest).bget p 0xC80 b = s.bget p 0xC80 b :=
      State.bget_putCtr (by omega) (by decide) s p rest b
    have hsame := habove (n + 1) (by omega)
    refine ⟨?_, ?_, ?_, fun hfull hend => ?_, fun hfull hchain2 hn2 hnext2 _ => ?_⟩
    · rw [State.ctr_addCtr_below hm (by omega) (by omega), State.ctr_putCtr hw p n hrest]
    · rw [State.ctr_addCtr hwt hm (by omega), hsame]
    · rw [State.ovf_addCtr_below hwt hm (by omega) (by omega), State.bget_putCtr (by omega) (by decide)]
    · exact State.ovf_addCtr_unchained hwt (by omega) (by rw [hchains, hend, Bool.false_and]) (by omega)
    · rw [State.ctr_addCtr_chained hwt hm (by omega) (by rw [hchains, hchain2]) hnext2 (by omega), habove (n + 2) (by omega)]
  · have hend : (s.bget p 0xC80 n && bit m (n + 1)) = false := by rw [hreserved, Bool.and_false]
    rw [State.bump_eq_addCtr hmask hbit hown hk]
    refine ⟨State.ovf_addCtr_unchained hw (by omega) hend hwrap, ?_⟩
    rw [State.addCtr_of_unchained (by omega) hend hwrap, State.ctr_bput (by omega) (by decide), State.ctr_putCtr_ne (by omega)]

end Sys2Proof.Machine

/-! The queue and what every step keeps: the front command, the fields of `Keeps`, the commands that always answer a next
state, the pool's bytes, and the state after reset. -/

namespace Sys2Proof.Machine

/-- Settles O1: the queue is not empty. -/
theorem stepRunsFrontCommand : Obligations.StepRunsFrontCommand := by
  unfold Obligations.StepRunsFrontCommand
  intro s c q hq
  rw [step, hq]

/-- A step that answers a next state keeps what `Keeps` says, from the state whose front command is taken. -/
theorem step_keeps {s t : State} (hr : Registers.wf s.regs = true) (hp : Memory.wf s.mem = true) (e : step s = .next t) :
    ∃ F, Keeps F { s with pending := s.pending.tail } t := by
  cases hq : s.pending with
  | nil =>
    rw [step_emptyQueue hq] at e
    cases e
    have hsame : { s with pending := ([] : List Instr).tail } = s := by rw [List.tail_nil, ← hq]
    rw [hsame]
    exact ⟨_, State.idle_keeps (Nat.and_self _) (Keeps.refl hr hp)⟩
  | cons c q =>
    rw [stepRunsFrontCommand s c q hq] at e
    exact ⟨_, exec_keeps (Nat.and_self _) (Keeps.refl hr hp) e⟩

/-- Settles O4: the canonical forms are two of the fields of `Keeps`. -/
theorem stepKeepsCanonicalForms : Obligations.StepKeepsCanonicalForms := by
  unfold Obligations.StepKeepsCanonicalForms
  intro s t hr hp e
  obtain ⟨F, h⟩ := step_keeps hr hp e
  exact ⟨h.regs, h.pool⟩

/-- Settles O5: the queue, the outputs and both counters are fields of `Keeps`. -/
theorem stepTakesOneCommandAndAddsOutputs : Obligations.StepTakesOneCommandAndAddsOutputs := by
  unfold Obligations.StepTakesOneCommandAndAddsOutputs
  intro s t hr hp e
  obtain ⟨F, h⟩ := step_keeps hr hp e
  obtain ⟨o, ho⟩ := h.out
  exact ⟨h.queue, ⟨o, ho.symm⟩, h.ident, h.free⟩

/-- Settles O6: a component that a command does not list has no bit in the command's mask. -/
theorem commandLeavesUntouchedComponents : Obligations.CommandLeavesUntouchedComponents := by
  unfold Obligations.CommandLeavesUntouchedComponents
  intro c s t k hr hp e hk
  exact (exec_keeps (Nat.and_self _) (Keeps.refl hr hp) e).frame k (maskOf_testBit _ k hk)

/-! Outcomes. -/

/-- An outcome is a next state. -/
def Answers (o : Host.Outcome State Fault Refusal) : Prop := ∃ t, o = .next t

theorem answers_next (t : State) : Answers (.next t) := ⟨t, rfl⟩

theorem answers_ite {c : Prop} [Decidable c] {x y : Host.Outcome State Fault Refusal} (hx : Answers x) (hy : Answers y) :
    Answers (if c then x else y) := by
  split <;> assumption

theorem exec_answers (c : Instr) (s : State) (hm : ∀ port kind dpa data, c ≠ .cxlMemRequest port kind dpa data)
    (ha : ∀ id data, c ≠ .accessDisposed id data) : Answers (exec c s) := by
  cases c with
  | cxlMemRequest => exact absurd rfl (hm _ _ _ _)
  | accessDisposed => exact absurd rfl (ha _ _)
  | routeDecision | telltaleReceive | commitDeadline | spareSelectorMove | automaticPowerControl | groupCreate |
    joined | groupLeave | groupClose | mirrorRecordWrite | birsp | birspTimeout | winRegister | winRevoke |
    descriptorEccError | collStep | localSegmentRead | downReceive | directReceive | creditReceive | doneReceive |
    departReceive | collHeartbeat | msend | mrecv | probe | recvClaimed | cancel | matchResume | bounceCopyDone |
    atomicopErrorCompletion | fenceDeadline | intentReceive | grantReceive | noticeReceive | packetAdmit |
    retransmitTimerExpiry | giveupExpiry | contextIdleClose | tombstoneExpiry | cleatRead | cleatWrite | cleatStallEnd
    | pairLoRead | ackFrameReceive | identFrameReceive | frameBoundary | tickMarkerReceive | cfgParityError |
    fenceComplete | fenceTimeout | selfTestVerdict | keyPendingEffect | hwmPersisted | zcmdGo | fwImageCheckEnd |
    clusterReload | clusterReloadComplete | reloadTimeout | dumpComplete | dumpLimitExpiry | dumpHostCopyEnd |
    descriptorFetch | completionWrite | ctrSet | ctrAdd | ctrRead | chainArm | chainDisarm | chainEntryBegin |
    chainFiringComplete | triggerCounterChange | journalFrameReceive | syncDoneReceive | takeoverReceive |
    errorInjectionRaise | postComplete | nop | put | putSignal | get | atomic | serviceDrainComplete | drainLimit |
    weightsInForce =>
    dsimp only [exec, execRouteDecision, execTelltaleReceive, execCommitDeadline, execSpareSelectorMove,
      execAutomaticPowerControl, execGroupCreate, execJoined, execGroupLeave, execGroupClose, execMirrorRecordWrite,
      execBirsp, execBirspTimeout, execWinRegister, execWinRevoke, execDescriptorEccError, execCollStep,
      execLocalSegmentRead, execDownReceive, execDirectReceive, execCreditReceive, execDoneReceive, execDepartReceive,
      execCollHeartbeat, execMsend, execMrecv, execProbe, execRecvClaimed, execCancel, execMatchResume,
      execBounceCopyDone, execAtomicopErrorCompletion, execFenceDeadline, execIntentReceive, execGrantReceive,
      execNoticeReceive, execPacketAdmit, execRetransmitTimerExpiry, execGiveupExpiry, execContextIdleClose,
      execTombstoneExpiry, execCleatRead, execCleatWrite, execCleatStallEnd, execPairLoRead, execAckFrameReceive,
      execIdentFrameReceive, execFrameBoundary, execTickMarkerReceive, execCfgParityError, execFenceComplete,
      execFenceTimeout, execSelfTestVerdict, execKeyPendingEffect, execHwmPersisted, execZcmdGo, execFwImageCheckEnd,
      execClusterReload, execClusterReloadComplete, execReloadTimeout, execDumpComplete, execDumpLimitExpiry,
      execDumpHostCopyEnd, execDescriptorFetch, execCompletionWrite, execCtrSet, execCtrAdd, execCtrRead,
      execChainArm, execChainDisarm, execChainEntryBegin, execChainFiringComplete, execTriggerCounterChange,
      execJournalFrameReceive, execSyncDoneReceive, execTakeoverReceive, execErrorInjectionRaise, execPostComplete,
      execNop, execPut, execPutSignal, execGet, execAtomic, execServiceDrainComplete, execDrainLimit,
      execWeightsInForce]
    repeat' split
    all_goals exact answers_next _
  | _ =>
    repeat' apply answers_ite
    all_goals exact answers_next _

/-- A request to the pool stops only where its line lies beyond the pool. -/
theorem exec_cxlMemRequest_cases (port : Nat) (kind : CxlKind) (dpa : Nat) (data : Bytes) (s : State) :
    Answers (exec (.cxlMemRequest port kind dpa data) s) ∨
      ∃ off, exec (.cxlMemRequest port kind dpa data) s = .fault (.poolHole off) ∧ s.poolSize < off + 64 := by
  dsimp only [exec, execCxlMemRequest]
  split
  · exact .inl (answers_next _)
  split
  · exact .inl (answers_next _)
  split
  · exact .inl (answers_next _)
  split
  · next hbeyond => exact .inr ⟨_, rfl, hbeyond⟩
  · exact .inl (answers_next _)

/-- An access stops only where it has bytes beyond the pool. -/
theorem exec_accessDisposed_cases (access : Nat) (data : Bytes) (s : State) :
    Answers (exec (.accessDisposed access data) s) ∨
      ∃ u a b off, exec (.accessDisposed access data) s = .fault (.poolHole off) ∧ s.findAccess access = some (u, a) ∧
        b.id = access ∧ (s.wakeCleat u a).accessHole b = some off := by
  dsimp only [exec, execAccessDisposed]
  split
  · exact .inl (answers_next _)
  next u a hfound =>
  split
  · exact .inl (answers_next _)
  split
  · exact .inl (answers_next _)
  next b hb =>
  split
  · exact .inl (answers_next _)
  split
  · exact .inl (answers_next _)
  split
  · next off hhole => exact .inr ⟨u, a, b, off, rfl, hfound, by simpa using List.find?_some hb, hhole⟩
  · exact .inl (answers_next _)

/-- Settles O7: the outcome of every other command is built of next states by choices and lookups. -/
theorem commandsNeverStopButBeyondPool : Obligations.CommandsNeverStopButBeyondPool := by
  unfold Obligations.CommandsNeverStopButBeyondPool
  intro c s
  by_cases hm : ∃ port kind dpa data, c = .cxlMemRequest port kind dpa data
  · obtain ⟨port, kind, dpa, data, rfl⟩ := hm
    rcases exec_cxlMemRequest_cases port kind dpa data s with hnext | ⟨off, hfault, hbeyond⟩
    · exact .inl hnext
    · exact .inr (.inl ⟨port, kind, dpa, data, off, rfl, hfault, hbeyond⟩)
  by_cases ha : ∃ access data, c = .accessDisposed access data
  · obtain ⟨access, data, rfl⟩ := ha
    rcases exec_accessDisposed_cases access data s with hnext | ⟨u, a, b, off, hfault, hrest⟩
    · exact .inl hnext
    · exact .inr (.inr ⟨access, data, u, a, b, off, rfl, hfault, hrest⟩)
  · exact .inl (exec_answers c s (fun _ _ _ _ e => hm ⟨_, _, _, _, e⟩) fun _ _ e => ha ⟨_, _, e⟩)

/-! The pool's bytes. -/

theorem poolWrite_wf : ∀ (b : Bytes) (t : Tab Byte) (off : Nat), Tab.wf poolD t = true → Tab.wf poolD (poolWrite t off b) = true
  | [], _, _, h => h
  | _ :: b, _, off, h => poolWrite_wf b _ (off + 1) (Tab.wf_set h _ _)

/-- A byte outside the range written reads as before. -/
theorem poolWrite_get_outside : ∀ (b : Bytes) (t : Tab Byte) {off o : Nat}, o < off ∨ off + b.length ≤ o →
    Tab.get poolD (poolWrite t off b) o = Tab.get poolD t o
  | [], _, _, _, _ => rfl
  | x :: b, t, off, o, h => by
    rw [List.length_cons] at h
    rw [poolWrite, poolWrite_get_outside b _ (by omega), tab_get_set_ne (by omega)]

/-- A byte of the range reads the byte written there. -/
theorem poolWrite_get_inside : ∀ (b : Bytes) (t : Tab Byte) (off : Nat), Tab.wf poolD t = true → ∀ i (hi : i < b.length),
    Tab.get poolD (poolWrite t off b) (off + i) = b[i]
  | x :: b, t, off, h, 0, _ => by
    rw [poolWrite, poolWrite_get_outside b _ (by omega), Nat.add_zero, tab_get_set h]
    rfl
  | x :: b, t, off, h, i + 1, hi => by
    rw [poolWrite, show off + (i + 1) = off + 1 + i by omega, poolWrite_get_inside b _ _ (Tab.wf_set h _ _) i (Nat.lt_of_succ_lt_succ hi)]
    rfl

theorem State.poolPut_get (s : State) (off o n : Nat) (b : Bytes) : (s.poolPut off b).poolGet o n =
    (List.range n).map fun i => Tab.get poolD (poolWrite s.mem.pool off b) (o + i) := rfl

/-- Settles O50: each byte of the range is written once, in turn, and no byte outside it is. -/
theorem poolReadsWhatWasWritten : Obligations.PoolReadsWhatWasWritten := by
  unfold Obligations.PoolReadsWhatWasWritten
  intro s off b h
  refine ⟨?_, fun o n hout => ?_, poolWrite_wf b _ off h⟩
  · refine List.ext_getElem (by simp [State.poolPut_get]) fun i hi hb => ?_
    simp only [State.poolPut_get, List.getElem_map, List.getElem_range]
    exact poolWrite_get_inside b _ off h i hb
  · refine List.map_congr_left fun i hi => poolWrite_get_outside b _ ?_
    have := List.mem_range.mp hi
    omega

/-! The state after reset. -/

theorem State.reset_get (p : PageRef) (off : Nat) : State.reset.get p off = (regDefault (p.addr + off)).toNat := rfl

theorem State.reset_fatal : State.reset.fatal = false := by decide +kernel

theorem State.reset_poolGet (off n : Nat) : State.reset.poolGet off n = zeros n := by
  simp [State.poolGet, State.reset, Tab.get, Tab.find, poolD, zeros]

/-- Settles O3: nothing is listed after reset, so that everything reads its default. -/
theorem resetIsSound : Obligations.ResetIsSound := by
  unfold Obligations.ResetIsSound
  exact ⟨rfl, rfl, rfl, rfl, rfl, State.reset_fatal, rfl, rfl, State.reset_get, State.reset_poolGet⟩

end Sys2Proof.Machine

/-! Module power, presence and supervision (R36 to R53, R594, R597, R598, R607): each command where its guard holds. -/

namespace Sys2Proof.Machine

@[simp] theorem State.setPwr_pwr (s : State) (b : Nat) (v : Bool) : (s.setPwr b v).pwr = s.pwr := rfl

/-- Settles O8: each command's guard holds, and a sample within every limit raises no event. -/
theorem presenceAndPinsComplete : Obligations.PresenceAndPinsComplete := by
  unfold Obligations.PresenceAndPinsComplete
  intro s
  refine ⟨fun low ha => ?_, fun low ha => ?_, rfl, rfl, fun ha hm => ?_, fun ha hm => ?_, fun ha hskew => ?_,
    fun ms ha hen hlow => ?_, fun ms ha hen hlow => ?_, fun b ha hreq => ?_, fun r ha hmc hdie hopt hflow hin p u hp hu => ?_⟩
  · simp [exec, execStage2Mate, ha]
  · simp [exec, execStage2Mate, ha]
  · simp [exec, execPresenceDebounced, ha, hm]
  · simp [exec, execPresenceDebounced, ha, hm]
  · simp [exec, execPrsntSkewTimeout, ha, hskew]
  · simp [exec, execMainEnAssert, ha, hen, hlow]
  · simp [exec, execMainEnAssert, ha, hen, Nat.not_lt.mpr hlow]
  · simp [exec, execAttnReq, ha, hreq]
  · subst hp
    have hwarn : ¬ (95 ≤ r.dieMax ∨ 70 ≤ r.opteMax) := by omega
    have hcrit : ¬ (105 ≤ r.dieMax ∨ 78 ≤ r.opteMax) := by omega
    simp -implicitDefEqProofs [exec, execThermalSample, ha, hmc, hwarn, hcrit, Nat.not_lt.mpr hflow, Nat.not_lt.mpr hin, hu]

@[simp] theorem State.setPwr_tick (s : State) (b : Nat) (v : Bool) : (s.setPwr b v).tick = s.tick := rfl
@[simp] theorem State.setPwr_psto (s : State) (b : Nat) (v : Bool) : (s.setPwr b v).psto = s.psto := rfl

/-! What a reset of the main domain and a boot leave (R594 R609). -/

/-- Persisted retirements change registers and lanes alone. -/
theorem State.applyRetired_kept (s : State) : (s.applyRetired.pwr, s.applyRetired.psto) = (s.pwr, s.psto) := by
  unfold State.applyRetired
  refine (foldl_reading (fun t : State => (t.pwr, t.psto)) (fun t e => ?_) _ _).trans
    (foldl_reading (fun t : State => (t.pwr, t.psto)) (fun t u => ?_) _ _)
  · split
    · split
      · rfl
      · rfl
    · rfl
  · dsimp only
    split
    · rfl
    · rfl

theorem State.applyRetired_pwr (s : State) : s.applyRetired.pwr = s.pwr := (Prod.mk.inj s.applyRetired_kept).1
theorem State.applyRetired_psto (s : State) : s.applyRetired.psto = s.psto := (Prod.mk.inj s.applyRetired_kept).2

/-- A boot changes registers alone. -/
theorem State.mcBoot_kept (s : State) : (s.mcBoot.pwr, s.mcBoot.psto) = (s.pwr, s.psto) := by
  unfold State.mcBoot
  dsimp only
  split
  · rfl
  · split
    · rw [State.fput_pwr, State.fput_pwr, State.fput_psto, State.fput_psto]
    · rw [State.bump_pwr, State.bput_pwr, State.fput_pwr, State.bump_psto, State.bput_psto, State.fput_psto]

theorem State.mcBoot_pwr (s : State) : s.mcBoot.pwr = s.pwr := (Prod.mk.inj s.mcBoot_kept).1
theorem State.mcBoot_psto (s : State) : s.mcBoot.psto = s.psto := (Prod.mk.inj s.mcBoot_kept).2

theorem State.mainReset_psto (s : State) : s.mainReset.psto = s.psto := by
  unfold State.mainReset
  dsimp only
  rw [State.applyRetired_psto, State.put_psto, State.bput_psto, foldl_reading State.psto fun t u => State.put_psto ..]
  rfl

theorem exec_hotSwapClose {s : State} (h : s.canClose = true) : exec .hotSwapClose s = .next
    { ((s.mainReset.setPwr 5 true).setPwr 6 false).setPwr 7 false with
      pwr := { s.mainReset.pwr with main := true, ramp := true, closePermit := false } } := by
  simp -implicitDefEqProofs [exec, execHotSwapClose, h]

/-- The state that the auxiliary power-up builds before the marks are loaded (R594 R123). -/
theorem exec_auxiliaryPowerUp {s : State} (h : s.pwr.aux = false) : ∃ u : State,
    exec .auxiliaryPowerUp s = .next u.loadHwms.applyRetired.mcBoot ∧
      u.pwr = { State.reset.pwr with matedA := s.pwr.matedA, matedB := s.pwr.matedB } ∧ u.psto = s.psto := by
  refine ⟨_, if_neg (by simp [h]), ?_, ?_⟩
  · rw [State.bput_pwr, State.setPwr_pwr, State.setPwr_pwr]
  · rw [State.bput_psto, State.setPwr_psto, State.setPwr_psto]

/-- Settles O9: the steps run one branch each, and neither reset touches the persistent store. -/
theorem powerUpSequenceCompletes : Obligations.PowerUpSequenceCompletes := by
  unfold Obligations.PowerUpSequenceCompletes
  intro s
  refine ⟨fun hclose => ⟨_, exec_hotSwapClose hclose, rfl, rfl, rfl, ?_, ?_⟩, fun hmain hgood => ?_,
    fun n hn hmain hgood hlock hlo hhi hne => ?_, fun hn hmain hgood hlock => ?_, fun hn hmain hgood hlock => ?_,
    fun failed hmain hn hdone hbad => ?_, fun ha => ?_⟩
  · simp only [State.setPwr_psto, State.mainReset_psto]
  · dsimp only
  · simp -implicitDefEqProofs [exec, execMainGood, hmain, hgood]
  · simp -implicitDefEqProofs [exec, execPowerOnStep, hn, hmain, hgood, hlock, hlo, Nat.lt_succ_of_lt hhi, hne, Nat.ne_of_lt hhi]
  · simp -implicitDefEqProofs [exec, execPowerOnStep, hn, hmain, hgood, hlock]
  · simp -implicitDefEqProofs [exec, execPowerOnStep, hn, hmain, hgood, hlock]
  · have hguard : (s.pwr.main && decide (s.fget (glbPg 0) 0x48 11 8 = 7) && !s.bget (glbPg 0) 0x48 31) = true := by
      simp [hmain, hn, hdone]
    dsimp only [exec, execPostComplete]
    rw [if_pos hguard, if_neg]
    intro hany
    obtain ⟨c, hc, hin⟩ := List.any_eq_true.mp hany
    have hout := List.all_eq_true.mp hbad c hc
    cases hp : pageOfCode c with
    | none => simp [hp] at hin
    | some p => simp_all
  · obtain ⟨u, hu, hpwr, hpsto⟩ := exec_auxiliaryPowerUp ha
    refine ⟨_, hu, ?_⟩
    rw [State.mcBoot_pwr, State.mcBoot_psto, State.applyRetired_pwr, State.applyRetired_psto, State.loadHwms]
    rw [hpwr, hpsto]
    exact ⟨rfl, rfl, rfl, rfl, rfl⟩

/-- Settles O10: each row opens the switch where its guard holds; only the record it names differs. -/
theorem powerDownCommandsComplete : Obligations.PowerDownCommandsComplete := by
  unfold Obligations.PowerDownCommandsComplete
  intro s ha hmain
  refine ⟨fun hb => ⟨_, ?_, rfl⟩, fun hb => ⟨_, ?_, rfl⟩, fun hen => ?_, ⟨_, rfl, ?_⟩, ⟨_, rfl, ?_⟩, ⟨_, rfl, ?_⟩,
    ⟨_, rfl, ?_⟩, fun hcrit => ?_, fun hn hlock => ?_, fun hramp => ?_, fun hramp => ?_, fun hdrain hover => ?_,
    exec_leak false ha, exec_leak true ha⟩
  · simp -implicitDefEqProofs [exec, execPresenceLoss, ha, hmain, hb]
  · simp -implicitDefEqProofs [exec, execPresenceLoss, ha, hmain, hb]
  · simp -implicitDefEqProofs [exec, execMainEnDeassert, ha, hmain, hen]
  · simp -implicitDefEqProofs [exec, execUnderVoltage, State.railOff, hmain]
  · simp -implicitDefEqProofs [exec, execOverVoltage, State.railOff, hmain]
  · simp -implicitDefEqProofs [exec, execAuxRailLoss, ha, hmain]
  · simp -implicitDefEqProofs [exec, execTemperatureTrip, ha, hmain]
  · simp -implicitDefEqProofs [exec, execCritPowerOff, hmain, hcrit]
  · simp -implicitDefEqProofs [exec, execPllLockTimeout, hmain, hn, hlock]
  · simp -implicitDefEqProofs [exec, execRailOutOfLimits, hmain, hramp]
  · simp -implicitDefEqProofs [exec, execRailOutOfLimits, ha, hmain, hramp]
  · simp -implicitDefEqProofs [exec, execGlbDrainEnd, hmain, hdrain, hover]

end Sys2Proof.Machine

/-! The tick, the link layer, the lanes and the laser diodes, and the routing table (chapters 03, 06 to 09): each command where its
guard holds. -/

namespace Sys2Proof.Machine

/-! Frames that an UP port takes (R166 R168 R181). -/

@[simp] theorem State.bump_none (s : State) (p : PageRef) (n : Nat) : s.bump p n 0 = s := by
  unfold State.bump
  split
  · rfl
  · exact if_pos (.inl rfl)

section FrameUp

variable {s : State} {port : Nat} {frame : Bytes} (h : s.frameUp port frame = true)

include h

theorem State.frameUp_carries : s.carries port = true := by
  simp only [State.frameUp, Bool.and_eq_true] at h
  exact h.1

theorem State.frameUp_good : frCheck frame = .good := by
  simp only [State.frameUp, Bool.and_eq_true, decide_eq_true_eq] at h
  exact h.2.1

/-- Such a frame counts for the session, with its header's reports. -/
theorem State.rxFrame_frameUp : s.rxFrame port frame = (s.takeHeader port frame, true) := by
  simp only [State.frameUp, Bool.and_eq_true, decide_eq_true_eq] at h
  obtain ⟨_, hgood, hexch, hup, hepoch⟩ := h
  simp [State.rxFrame, hgood, hexch, hup, hepoch, b2n]

end FrameUp

/-- Settles O13: the guards of the rows hold, and the marker's frame counts for its session. -/
theorem clockAndTickCommandsComplete : Obligations.ClockAndTickCommandsComplete := by
  unfold Obligations.ClockAndTickCommandsComplete
  intro s
  refine ⟨fun b hmain hmon => ⟨?_, ?_⟩, fun hmain hhold hdue => ?_, fun o a b hrun ha hb => ?_,
    fun port frame arrival hup htype hsession => ?_⟩
  · simp -implicitDefEqProofs [exec, execRefInputGood, hmain, hmon]
  · simp -implicitDefEqProofs [exec, execRefInputLoss, hmain, hmon]
  · simp -implicitDefEqProofs [exec, execHoldoverTimeout, hmain, hhold, hdue]
  · change execTickBoundary o s = _
    rw [execTickBoundary, if_neg (by simp [hrun]), ← ha]
    dsimp only
    rw [← hb]
  · simp -implicitDefEqProofs [exec, execTickMarkerReceive, State.frameUp_carries hup, State.rxFrame_frameUp hup, htype,
      State.frameUp_good hup, hsession]

/-! The links. -/

theorem State.link_updLink {s : State} (h : Tab.wf linkD s.links = true) (p : Nat) (f : Link → Link) :
    (s.updLink p f).link p = f (s.link p) := tab_get_set h _ _

theorem State.updLink_wf {s : State} (h : Tab.wf linkD s.links = true) (p : Nat) (f : Link → Link) :
    Tab.wf linkD (s.updLink p f).links = true := Tab.wf_upd h _ _

section Sequenced

variable {s t : State} {port : Nat} {frame : Bytes} (ht : t = s.takeHeader port frame) (h : s.frameUp port frame = true)
  (hsession : (t.link port).session = true) (hnext : wrapSub 12 (frSeq frame) (t.link port).rxNext = 0) (id : Option Nat)

include ht h hsession hnext

/-- The next DATA frame of the session is accepted (R167). -/
theorem State.rxSeq_data (htype : frType frame = frData) : s.rxSeq port frame id = t.acceptData port frame false id := by
  subst ht
  simp [State.rxSeq, State.rxFrame_frameUp h, State.frameUp_good h, htype, hsession, hnext]

/-- The next LANY frame of the session brings its message (R192). -/
theorem State.rxSeq_lany (htype : frType frame = frLany) (hlany : t.isLany port = true) (hsub : beAt (frBody frame) 0 1 ≠ 2) :
    s.rxSeq port frame id =
      (t.updLink port fun l => { l with rxNext := wrapAdd 12 l.rxNext 1, nakAt := none, unreported := true }).updLink port
        fun l => { l with lanyIn := l.lanyIn ++ [frBody frame] } := by
  subst ht
  have hkind : frLany ≠ frData := by decide
  have hport : ∀ f, State.isLany ((s.takeHeader port frame).updLink port f) port = true := fun _ => hlany
  simp [State.rxSeq, State.rxFrame_frameUp h, State.frameUp_good h, htype, hsession, hnext, hkind, hport, hsub]

end Sequenced

/-- Settles O33: with the guards gone, a sequenced frame is the one case that needs its frame's header. -/
theorem linkCommandsComplete : Obligations.LinkCommandsComplete := by
  unfold Obligations.LinkCommandsComplete
  intro s port frame
  refine ⟨fun hc hexch hdown => ?_, fun buf hc hbuf => ⟨fun hpart => ?_, fun hwhole => ?_⟩,
    fun t ht hup hsession => ⟨fun htype hnext id => State.rxSeq_data ht hup hsession hnext id htype,
      fun htype hnext hlany hsub hwf id => ?_, fun htype => ?_⟩,
    fun hc hgood htype => ?_, fun hc hexch => ?_, fun under t hc hend => ?_, fun hc hup hreplay => ?_,
    fun hc hup hdue => ?_, fun hc hmode herr => ?_, fun hp hsession hdown hhold => ?_⟩
  · simp -implicitDefEqProofs [exec, execPortUp, hc, hexch, hdown]
  · simp -implicitDefEqProofs [exec, execDataFrameReceive, hc, ← hbuf, hpart]
  · simp -implicitDefEqProofs [exec, execDataFrameReceive, hc, ← hbuf, hwhole]
  · rw [State.rxSeq_lany ht hup hsession hnext id htype hlany hsub, State.link_updLink (State.updLink_wf hwf ..),
      State.link_updLink hwf]
    exact ⟨rfl, rfl⟩
  · subst ht
    simp -implicitDefEqProofs [exec, execAckFrameReceive, State.frameUp_carries hup, State.rxFrame_frameUp hup, htype,
      State.frameUp_good hup, hsession]
  · simp -implicitDefEqProofs [exec, execIdentFrameReceive, hc, hgood, htype]
  · simp -implicitDefEqProofs [exec, execIdentResendTimer, hc, hexch]
  · simp -implicitDefEqProofs [exec, execFrameBoundary, hc, hend]
  · simp -implicitDefEqProofs [exec, execReplayTimerExpiry, hc, hup, hreplay]
  · simp -implicitDefEqProofs [exec, execEmptyAckTimer, hc, hup, hdue]
  · simp -implicitDefEqProofs [exec, execErrorWindowExceeded, State.windowExceeded, hc, hmode, Nat.max_le.mp herr]
  · simp -implicitDefEqProofs [exec, execHoldExpiry, hp, hsession, hdown, hhold]

/-- Both lanes of the port propose a bond of both (R138). -/
theorem State.peerBond_both {s : State} {port : Nat} (h0 : (s.lane port 0).peerProp = 3) (h1 : (s.lane port 1).peerProp = 3) :
    [0, 1].foldl (fun m l => if bit 3 l then Nat.lor m (s.lane port l).peerProp else m) 0 = 3 := by
  simp only [List.foldl_cons, List.foldl_nil, h0, h1]
  decide

/-- Settles O31: a lane within range whose state and times meet its row's guard. -/
theorem laneCommandsComplete : Obligations.LaneCommandsComplete := by
  unfold Obligations.LaneCommandsComplete
  intro s port lane hp hl
  refine ⟨fun ltf hok hoff hfailed => ?_, fun u hzero hprop hstep hu => ?_, fun skew hzero hprop hbond hskew => ?_,
    fun skew hzero hprop hbond hskew h0 h1 => ?_, fun hst hrun => ?_, fun hst hready hsw hlate => ?_,
    fun hst hsw hlate => ?_, fun hst hrun => ?_, fun errors bits hst hlate => ?_, fun hst hlate => ?_,
    fun hon hclear hrun => ?_, fun hrun => ?_, fun hon hclear hrun => ?_, ?_⟩
  · simp -implicitDefEqProofs [exec, execLtfReceive, hp, hl, hok, hoff, hfailed]
  · subst hu
    exact if_pos ⟨hp, hzero, hprop, hstep⟩
  · simp -implicitDefEqProofs [exec, execBondFormed, hp, hzero, hprop, hbond, hskew]
  · have hpeer := State.peerBond_both h0 h1
    simp -implicitDefEqProofs only [exec, execBondFormed, hprop, hpeer]
    rw [if_pos ⟨hp, hzero, by decide, hbond⟩, if_neg (by omega)]
    rfl
  · simp -implicitDefEqProofs [exec, execLaneQualified, hp, hl, hst, hrun]
  · simp -implicitDefEqProofs [exec, execTrainTimeout, hp, hl, hst, hready, hsw, hlate]
  · simp -implicitDefEqProofs [exec, execStepTimeout, hp, hl, hst, hsw, hlate]
  · simp -implicitDefEqProofs [exec, execLaneErrorBurst, hp, hl, hst, Nat.max_le.mp hrun]
  · simp -implicitDefEqProofs [exec, execLaneTestEnd, hp, hl, hst, hlate]
  · simp -implicitDefEqProofs [exec, execLaneTestTimeout, hp, hl, hst, hlate]
  · simp -implicitDefEqProofs [exec, execLosAssert, State.losOn, hp, hl, hon, hclear, hrun]
  · simp -implicitDefEqProofs [exec, execLosClear, hp, hl, hrun]
  · simp -implicitDefEqProofs [exec, execLolAssert, State.lolOn, hp, hl, hon, hclear, hrun]
  · simp -implicitDefEqProofs [exec, execLolClear, hp, hl]

/-- Settles O32: the diode that lights the wavelength is the command's, and its run is due. -/
theorem opticsCommandsComplete : Obligations.OpticsCommandsComplete := by
  unfold Obligations.OpticsCommandsComplete
  intro s k w hk hw
  refine ⟨fun d set reached pout out old new hd hworks hmc hdue hout hold hnew => ?_, fun d reached got t hgot ht hle => ?_,
    fun hauto hshort hfree hlong => ?_, fun t pout far hact hdue hfar u hu => ⟨fun hnear => ?_, fun hbeyond => ?_⟩⟩
  · have hlit : s.litDiode k w = d := hd.symm
    have hwave : d / 2 = w := by
      subst hd
      split <;> omega
    have hrange : d < 8 := by omega
    subst hout hold hnew
    change execAutomaticPowerControl k d set reached pout s = _
    simp only [execAutomaticPowerControl, hwave]
    rw [if_pos]
    · rfl
    · refine ⟨hk, hrange, hlit, hworks, by simp [hmc], ?_⟩
      split
      · next t ht => exact decide_eq_true (hdue t ht)
      · rfl
  · subst hgot ht
    exact if_neg (Nat.not_lt.mpr hle)
  · simp -implicitDefEqProofs [exec, execShortfallLasting, hk, hw, hauto, hshort, hfree, hlong]
  · subst hu hfar
    simp -implicitDefEqProofs [-Nat.reducePow, exec, execSpareSelectorMove, hact, hk, hw, hdue, hnear, biasOff]
  · subst hu hfar
    simp -implicitDefEqProofs [-Nat.reducePow, exec, execSpareSelectorMove, hact, hk, hw, hdue, Nat.not_le.mpr hbeyond, biasOff]

/-- Settles O34: the guards of the rows hold, and a telltale counts for its session. -/
theorem routingCommandsComplete : Obligations.RoutingCommandsComplete := by
  unfold Obligations.RoutingCommandsComplete
  intro s
  refine ⟨fun tile input vc e he hload => ?_, rfl, fun tile row victim ht hrow hon => ⟨?_, ?_⟩,
    fun q ofs v hon hreach halign hmay hcopy harmed hmask => ?_, fun hcopy hbank => ?_, fun hcopy hbank => ?_,
    fun c hc hdue himm => ⟨fun hopen => ?_, fun hopen => ?_⟩, fun port frame t d b hp hup htype ht hb hdims => ?_,
    fun tile ht => ⟨?_, fun hon => ?_⟩⟩
  · simp -implicitDefEqProofs only [exec, execRouteDecision, he, hload]
    rfl
  · simp -implicitDefEqProofs [exec, execPacketBufferEccError, ht, hrow, hon]
  · simp -implicitDefEqProofs [exec, execPacketBufferEccError, ht, hrow, hon]
  · simp -implicitDefEqProofs [exec, execRouteTableWindowWrite, hon, hreach, halign, hmay, hcopy, harmed, hmask]
  · simp -implicitDefEqProofs [exec, execCopyComplete, hcopy, hbank]
  · simp -implicitDefEqProofs [exec, execCopyComplete, hcopy, hbank]
  · simp -implicitDefEqProofs [exec, execCommitDeadline, State.deadlineCommit, hc, hdue, himm, hopen]
  · simp -implicitDefEqProofs [exec, execCommitDeadline, State.deadlineCommit, hc, hdue, himm, hopen]
  · subst ht hb
    change execTelltaleReceive port frame s = _
    simp -implicitDefEqProofs only [execTelltaleReceive, hp, State.rxFrame_frameUp hup, htype, State.frameUp_good hup, hdims]
    rfl
  · simp -implicitDefEqProofs [exec, execRouteReplicaReload, Nat.not_le.mpr ht]
  · simp -implicitDefEqProofs [exec, execRouteReplicaReload, Nat.not_le.mpr ht, hon]

end Sys2Proof.Machine

/-! Wiluth and remote memory access (chapters 10 and 11): the rows of the transport, and the descriptors that begin. -/

namespace Sys2Proof.Machine

/-! Wiluth (R274 to R304). -/

/-- A packet of a row's kind reaches a unit that works. -/
theorem State.arrive_taken {s : State} {pkt : Bytes} (h : s.works (xptPg (s.xptOf pkt) 0) = true) {ok : Bool} (hok : ok = true) :
    s.arrive pkt ok = (s.rxWiluth pkt).settle := by
  simp [State.arrive, h, hok]

/-- Settles O36: each row's own test of the packet holds. -/
theorem transportReceiveCommandsComplete : Obligations.TransportReceiveCommandsComplete := by
  unfold Obligations.TransportReceiveCommandsComplete
  intro s
  refine ⟨fun pkt hw => ⟨fun h4 h5 h7 hgap => ?_, fun h4 => ?_, fun h5 => ?_, fun h7 => ?_, fun hgap => ?_⟩,
    fun unit p t hw hturn ht => ⟨fun hop => ?_, fun hop => ?_, fun hop => ?_⟩, fun unit p t hw hp => ?_, fun unit p t hw hp => ?_⟩
  · exact congrArg _ (State.arrive_taken hw (by simp [h4, h5, h7, hgap]))
  · exact congrArg _ (State.arrive_taken hw (decide_eq_true h4))
  · exact congrArg _ (State.arrive_taken hw (decide_eq_true h5))
  · exact congrArg _ (State.arrive_taken hw (decide_eq_true h7))
  · exact congrArg _ (State.arrive_taken hw hgap)
  · subst ht
    simp -implicitDefEqProofs [exec, execIntentReceive, hw, hturn, hop]
  · subst ht
    simp -implicitDefEqProofs [exec, execIntentReceive, hw, hturn, hop]
  · subst ht
    simp -implicitDefEqProofs [exec, execIntentReceive, hw, hturn, Nat.lt_asymm hop, Nat.ne_of_gt hop]
  · simp -implicitDefEqProofs [exec, execGrantReceive, hw, hp]
  · simp -implicitDefEqProofs [exec, execNoticeReceive, hw, hp]

/-- Settles O37: each timer has run out, and the packet served next is toward a peer with or without a route. -/
theorem transportTimerCommandsComplete : Obligations.TransportTimerCommandsComplete := by
  unfold Obligations.TransportTimerCommandsComplete
  intro s loc rem
  refine ⟨fun seq p hp hw => ⟨fun hexp => ?_, fun hold hheld => ?_, fun hspent hexp hheld => ?_⟩,
    fun h htx hw hidle hflush hlong => ?_, fun c g t hc htomb hlate => ?_, fun since hmem hlate => ?_,
    fun unit data e t hw ht hnext => ⟨fun hroute => ?_, fun hroute => ?_⟩⟩
  · simp -implicitDefEqProofs [exec, execRetransmitTimerExpiry, hp, hw, hexp]
  · simp -implicitDefEqProofs [exec, execGiveupExpiry, hp, hw, hold, hheld]
  · simp -implicitDefEqProofs [exec, execGiveupExpiry, hp, hw, hspent, hexp, hheld]
  · simp -implicitDefEqProofs [exec, execContextIdleClose, htx, hw, hidle, hflush, hlong]
  · simp -implicitDefEqProofs [exec, execTombstoneExpiry, hc, htomb, hlate]
  · refine if_pos (List.any_eq_true.mpr ⟨_, hmem, ?_⟩)
    simp [hlate]
  · subst ht
    simp -implicitDefEqProofs [exec, execPacketAdmit, hw, hnext, hroute]
  · subst ht
    simp -implicitDefEqProofs [exec, execPacketAdmit, hw, hnext, hroute]

/-! Descriptors that begin (R299 R304 R452 R536). -/

/-- A message that nothing stands in the way of starts in the state with its transmit half open. -/
theorem State.launch_go {s t : State} {v loc rem eager : Nat} {d : Desc} {announced : Bool} (go : State → State)
    (hgo : s.canStart v loc rem eager announced = .go) (hopen : s.openTx loc rem = some t) :
    s.launch v d loc rem eager announced go = go (t.beginDesc v d) := by
  simp only [State.launch, hgo, hopen]

/-- What an atomic sends once its operand image is known. -/
def State.sendAtomic (s : State) (v : Nat) (d : Desc) (data : Bytes) : State :=
  let b := d.bytes
  let unit := if bit (dRflags b) 4 then 16 else 8
  let hdr := s.rmaHdr v b opAtomic (dRflags b) (dWofs b / unit * unit)
  let m := s.newMsg (s.dLoc v) (dRem b) (msgOf v d.num (if bit (dRflags b) 6 then .fetch else .atomic) data.length hdr
    (dLaddr b) d.keys false)
  m.1.pushReq (reqOf v (s.dLoc v) (dRem b) m.2 (msgPkt hdr 1 (flFirst + flLast) m.2 0) none data.length data true)

section Atomic

variable {s t : State} {v : Nat} {d : Desc} (hgo : s.canStart v (s.dLoc v) (dRem d.bytes) 1 false = .go)
  (hopen : s.openTx (s.dLoc v) (dRem d.bytes) = some t) (operand : Bytes)

include hgo hopen

/-- An operand of one word stands in the descriptor. -/
theorem State.startAtomic_immediate (hwide : bit (dRflags d.bytes) 4 = false) (hcas : dRflags d.bytes % 16 ≠ 2) :
    s.startAtomic v d operand = (t.beginDesc v d).sendAtomic v d (slice d.bytes 0x38 8) := by
  rw [State.startAtomic, State.launch_go _ hgo hopen]
  dsimp only
  rw [if_neg (by simp [hwide, hcas])]
  rfl

/-- A wider operand is read from host memory. -/
theorem State.startAtomic_read {w : State} (hread : bit (dRflags d.bytes) 4 = true ∨ dRflags d.bytes % 16 = 2)
    (hok : (t.beginDesc v d).viRead v (leAt d.bytes 0x30 8) (operandLen (dRflags d.bytes)) (some d.keys) = .ok w) :
    s.startAtomic v d operand =
      (w.hostTxn (xptStop (viPort v / 2)) v 0 false (operandLen (dRflags d.bytes))).sendAtomic v d
        (padTo operand (operandLen (dRflags d.bytes))) := by
  rw [State.startAtomic, State.launch_go _ hgo hopen]
  dsimp only
  rw [if_pos hread, hok]
  rfl

end Atomic

/-- Settles O38: nothing stands in a message's way, so that the descriptor begins in the state with its half open. -/
theorem rmaDescriptorsComplete : Obligations.RmaDescriptorsComplete := by
  unfold Obligations.RmaDescriptorsComplete
  intro s t u v q d b hb hu
  subst hb hu
  refine ⟨fun hd => ?_, fun hd hlen => ?_, fun hd hlen hgo hopen => ?_, fun hd hlen hgo hopen => ?_,
    fun hd hlen hgo hopen => ?_, fun hd hlen => ?_, fun m hdr hd hlen hgo hopen hh hm => ?_,
    fun o m hdr unit hd hwide hcas hgo hopen hunit hh hm => ?_,
    fun o m hdr unit w₀ w data hd hread hgo hopen hok hw hdata hunit hh hm => ?_, fun i t hd hturn hreg ht => ?_,
    fun hd hturn hrev => ?_⟩
  · simp -implicitDefEqProofs [exec, execNop, hd, State.runDesc]
  · simp -implicitDefEqProofs [exec, execPut, hd, hlen, State.runDesc]
  · simp -implicitDefEqProofs [exec, execPut, hd, hlen, State.startPut, State.launch_go _ hgo hopen]
  · simp -implicitDefEqProofs [exec, execPutSignal, hd, hlen, State.startPut, State.launch_go _ hgo hopen]
  · simp -implicitDefEqProofs [exec, execPutSignal, hd, hlen, State.startOnlySignal, State.launch_go _ hgo hopen]
  · simp -implicitDefEqProofs [exec, execGet, hd, hlen, State.runDesc]
  · subst hh hm
    simp -implicitDefEqProofs [exec, execGet, hd, hlen, State.startGet, State.launch_go _ hgo hopen]
  · subst hh hm hunit
    simp -implicitDefEqProofs [exec, execAtomic, hd, State.startAtomic_immediate hgo hopen o hwide hcas, State.sendAtomic, hwide]
  · subst hh hm hunit hdata hw
    simp -implicitDefEqProofs [exec, execAtomic, hd, State.startAtomic_read hgo hopen o hread hok, State.sendAtomic]
  · subst ht
    simp -implicitDefEqProofs [exec, execWinRegister, hd, hturn, State.runDesc, hreg]
  · simp -implicitDefEqProofs [exec, execWinRevoke, hd, hturn, hrev]

end Sys2Proof.Machine

/-! What the rings hand to the memory window units, the matching units and the collective units, and the descriptors of matching and
of groups (chapters 11 to 13). -/

namespace Sys2Proof.Machine

/-! What an XPT unit hands on (R286 R469). -/

/-- A packet that finds a free slot on the rings is handled in the state that its handing over leaves. -/
theorem State.handPresented_handed {s t : State} {u stop : Nat} {sel : Bytes → Bool} {p : Bytes} {tgt : Bytes → Nat}
    (h : s.hands u sel stop p t) (htgt : tgt p = stop) (f : State → Bytes → State) : s.handPresented u sel tgt f = f t p := by
  obtain ⟨hfind, r, hhand, ht⟩ := h
  subst htgt ht
  simp only [State.handPresented, hfind, hhand, if_true]

section Data

variable {s t : State} {u : Nat} {p : Bytes} {op : Nat → Bool} (hw : s.works (xptPg u 0) = true)

include hw

theorem State.onMwu_handed (h : s.hands u (fun p => decide (pkType p = 1 ∧ agKind (pkLoc p) = 0) && op (pkOpcode p))
    (mwuStop (mwuOfVi (pkVi p))) p t) : s.onMwu u op = t.rxRma p := by
  rw [State.onMwu, if_neg (by simp [hw]), State.handPresented_handed h rfl]

theorem State.onData_taken (h : s.takePresented u (fun p => decide (pkType p = 1 ∧ agKind (pkLoc p) = 0) && op (pkOpcode p)) =
    some (p, t)) (f : State → Bytes → State) : s.onData u op f = f t p := by
  simp only [State.onData, hw, h]
  rfl

end Data

/-- Settles O39: a packet of each opcode is handed on or taken; an access is found, ready, and has its slot and its place. -/
theorem memoryWindowCommandsComplete : Obligations.MemoryWindowCommandsComplete := by
  unfold Obligations.MemoryWindowCommandsComplete
  intro s
  refine ⟨fun unit p t op hw h => ⟨?_, ?_, ?_, ?_⟩, fun unit p t op hw h => ⟨?_, ?_⟩,
    fun id data u a b t hid hw ht hb hready hslot hhole => ?_, fun id u a ps hid hps hready hop => ?_,
    fun w a t k ha hwin hdue hle => ?_, fun w row part p k hp hpart hk hwin hw => ⟨?_, fun t ht hpois hown => ?_⟩⟩
  · rintro rfl
    exact congrArg _ (State.onMwu_handed hw h)
  · rintro rfl
    exact congrArg _ (State.onMwu_handed hw h)
  · rintro rfl
    exact congrArg _ (State.onMwu_handed hw h)
  · rintro rfl
    exact congrArg _ (State.onMwu_handed hw h)
  · rintro rfl
    exact congrArg _ (State.onData_taken hw h _)
  · rintro rfl
    exact congrArg _ (State.onData_taken hw h _)
  · subst ht
    simp -implicitDefEqProofs [exec, execAccessDisposed, hid, hw, hb, hready, hslot, hhole]
  · simp -implicitDefEqProofs [exec, execAtomicopErrorCompletion, hid, hps, hready, hop, State.sendAtomicOp]
  · simp -implicitDefEqProofs [exec, execFenceDeadline, ha, hwin, hdue, hle]
  · subst hp hk
    simp -implicitDefEqProofs [-Nat.reducePow, exec, execDescriptorEccError, hpart, Nat.not_le.mpr hwin, hw]
  · subst hp hk ht
    simp -implicitDefEqProofs [-Nat.reducePow, exec, execDescriptorEccError, hpart, Nat.not_le.mpr hwin, hw, hpois, hown]

/-! Two-sided matching (R346 to R381). -/

/-- Settles O40: each descriptor is at the front of its queue, and what it looks for is there or not. -/
theorem matchDescriptorsComplete : Obligations.MatchDescriptorsComplete := by
  unfold Obligations.MatchDescriptorsComplete
  intro s u v q d b hb hu
  subst hb hu
  refine ⟨fun t w n hd hn hw hgo hopen => ?_, fun e hd hpois hfind => ?_, fun hd hpois hfind hroom hall => ?_, fun hd => ?_,
    fun h e hd hpois hh hfind => ?_, fun r t hd hpois hfind ht => ?_, fun hd hnone => ?_, fun hd hpois => ?_⟩
  · subst hn hw
    simp -implicitDefEqProofs [exec, execMsend, hd, State.launch_go _ hgo hopen]
  · simp -implicitDefEqProofs [exec, execMrecv, hd, hpois, State.post, hfind]
  · simp -implicitDefEqProofs [exec, execMrecv, hd, hpois, State.post, hfind, Nat.not_le.mpr hroom, Nat.not_le.mpr hall]
  · simp -implicitDefEqProofs [exec, execProbe, hd]
  · subst hh
    simp -implicitDefEqProofs only [exec, execRecvClaimed, hd, hpois, hfind]
    rfl
  · subst ht
    simp -implicitDefEqProofs [exec, execCancel, hd, hpois, hfind]
  · have hfind : (if (s.beginDesc v d).poisoned v then none else ((s.beginDesc v d).mtch v).posted.find?
        (fun r => decide (r.cookie = leAt d.bytes 0x30 8))) = none := by
      rcases hnone with hpois | hnone
      · exact if_pos hpois
      · rw [hnone, ite_self]
    simp -implicitDefEqProofs only [exec, execCancel, hd]
    rw [hfind]
  · simp -implicitDefEqProofs [exec, execMatchResume, hd, hpois]

/-- Settles O41: the packet is handed on, the copy waits with its data, and the entry is a unit's. -/
theorem matchArrivalCommandsComplete : Obligations.MatchArrivalCommandsComplete := by
  unfold Obligations.MatchArrivalCommandsComplete
  intro s
  refine ⟨fun unit p t op hw h => ⟨?_, ?_⟩, fun v copy x t u n y hfind hslots hdata hpois hwrite ht hplace hy => ⟨fun hsecond => ?_, fun hsecond => ?_⟩,
    fun v row hv hw => ⟨?_, ?_⟩⟩
  · rintro rfl
    refine congrArg _ (Eq.trans (if_neg (by simp [hw])) (State.handPresented_handed h rfl _))
  · rintro rfl
    refine congrArg _ (Eq.trans (if_neg (by simp [hw])) (State.handPresented_handed h rfl _))
  · subst ht hy
    simp -implicitDefEqProofs [exec, execBounceCopyDone, hfind, hslots, hdata, hpois, hwrite, hplace, hsecond]
  · subst ht hy
    simp -implicitDefEqProofs [exec, execBounceCopyDone, hfind, hslots, hdata, hpois, hwrite, hplace, hsecond]
  · simp -implicitDefEqProofs [exec, execMatchEccError, Nat.not_le.mpr hv, hw]
  · simp -implicitDefEqProofs [exec, execMatchEccError, Nat.not_le.mpr hv, hw]

/-! Groups (R382 to R423). -/

/-- Settles O42: an engine may run firmware's task, the descriptor is at the front, and the VI is a member of its group. -/
theorem groupDescriptorsComplete : Obligations.GroupDescriptorsComplete := by
  unfold Obligations.GroupDescriptorsComplete
  intro s u v q d hu
  subst hu
  refine ⟨fun n t₀ t table tree entries hsvc hd hn hlo hhi hread ht hent htab htree hroot hslots => ?_, fun g j hd hg => ?_,
    fun g j hd hg => ?_, fun g j p hd hg hp hroom hvalid => ?_, fun g hst hlate => ?_, fun g hst hlate => ?_,
    fun g row hg hw => ⟨?_, ?_⟩⟩
  · subst hn ht hent
    have hwide : (List.range tree.length).any (fun i => decide (64 < (treeSlots (decodeElems 4 (leAt d.bytes 0x20 3)
        (padTo table (4 * leAt d.bytes 0x20 3))) tree i (fun _ => 0)).length)) = false := by
      simpa using hslots
    simp -implicitDefEqProofs [exec, execGroupCreate, hsvc, hd, Nat.ne_of_gt hlo, Nat.not_lt.mpr hhi, hread, htab, htree, hroot,
      hwide]
  · simp -implicitDefEqProofs [exec, execGroupLeave, hd, hg]
  · simp -implicitDefEqProofs [exec, execGroupClose, hd, hg]
  · subst hp
    simp -implicitDefEqProofs [exec, execCollStep, hd, hg, Nat.not_le.mpr hroom, hvalid]
  · exact if_pos ⟨hst, hlate⟩
  · exact if_pos ⟨hst, hlate⟩
  · simp -implicitDefEqProofs [exec, execCollEccError, Nat.not_le.mpr hg, hw]
  · simp -implicitDefEqProofs [exec, execCollEccError, Nat.not_le.mpr hg, hw]

section Collective

variable {s t : State} {unit : Nat} {p : Bytes} {op : Bytes → Bool}

theorem State.onColl_taken (h : s.collTakes unit op p t) (f : State → Bytes → State) : s.onColl unit op f = (f t p).settle :=
  (if_neg (by simp [h.1])).trans (State.handPresented_handed h.2 rfl _)

/-- A well-formed GCTL packet of a group whose record is in use reaches its row's meaning (R386). -/
theorem State.onGctl_taken {sub : Nat} (hop : ∀ p, op p = (isGctl sub p ||
      (decide (sub = 7 ∧ pkOpcode p = 0x38) && decide (beAt (pkPayload p) 0 1 = 0 ∨ 7 < beAt (pkPayload p) 0 1))))
    (h : s.collTakes unit op p t) (hknown : t.gctlKnown (pkGroup p) (Gctl.parse (pkPayload p))) (hform : gctlFormed p = true)
    (f : State → Nat → Gctl → Bytes → State) :
    s.onGctl unit sub f = ((f t.svcTask (pkGroup p) (Gctl.parse (pkPayload p)) p).disposePkt p).settle := by
  obtain ⟨hfree, hquar, hctag, hcreator⟩ := hknown
  obtain rfl : op = _ := funext hop
  rw [State.onGctl, State.onColl_taken h]
  simp only [hfree, hquar, hctag, hcreator, hform, ne_eq, not_true_eq_false, or_false, if_false, Bool.not_true]
  rfl

end Collective

/-- Outside CLOSE a row takes the packets of its own SUB alone. -/
theorem isGctl_alone {sub : Nat} (h : sub ≠ 7) (p : Bytes) : isGctl sub p = (isGctl sub p ||
    (decide (sub = 7 ∧ pkOpcode p = 0x38) && decide (beAt (pkPayload p) 0 1 = 0 ∨ 7 < beAt (pkPayload p) 0 1))) := by
  simp [h]

/-- Settles O43: the packet is handed on to its row, whose own test of it holds. -/
theorem groupControlCommandsComplete : Obligations.GroupControlCommandsComplete := by
  unfold Obligations.GroupControlCommandsComplete
  intro s t w unit g p c hc hg hform hw
  subst hc hg hw
  refine ⟨fun index ht hg hst hfit => ?_, fun index ht hg hst => ?_, fun e f ht hknown he hnew hin hf => ?_,
    fun root places ht hknown hst => ?_, fun ht hknown => ?_, fun u ht hknown hslots hu => ?_,
    fun u ht hknown hslots hu => ?_, fun ht hknown hst => ?_, fun ht hknown => ?_⟩
  · refine congrArg _ ((State.onColl_taken ht _).trans ?_)
    simp [hg, hform, hst, hfit]
  · refine congrArg _ ((State.onColl_taken ht _).trans ?_)
    simp [hg, hform, hst]
  · subst hf
    simp -implicitDefEqProofs only [exec, execJoined]
    rw [State.onGctl_taken (isGctl_alone (by decide)) ht hknown hform]
    have hold : e.answers.any (fun a => decide (a.1 = pkRouter p)) = false := by simpa using hnew
    simp -implicitDefEqProofs only [he, hold, hin]
    rfl
  · simp -implicitDefEqProofs only [exec, execGctlCommit]
    rw [State.onGctl_taken (isGctl_alone (by decide)) ht hknown hform, if_pos hst]
  · simp -implicitDefEqProofs only [exec, execAbort]
    rw [State.onGctl_taken (isGctl_alone (by decide)) ht hknown hform]
  · subst hu
    simp -implicitDefEqProofs only [exec, execRepair]
    rw [State.onGctl_taken (isGctl_alone (by decide)) ht hknown hform]
    simp -implicitDefEqProofs [hslots]
  · subst hu
    simp -implicitDefEqProofs only [exec, execRepair]
    rw [State.onGctl_taken (isGctl_alone (by decide)) ht hknown hform]
    simp -implicitDefEqProofs [hslots]
  · simp -implicitDefEqProofs only [exec, execRepaired]
    rw [State.onGctl_taken (isGctl_alone (by decide)) ht hknown hform]
    simp -implicitDefEqProofs [hst]
  · simp -implicitDefEqProofs only [exec, execGctlClose]
    rw [State.onGctl_taken (fun p => ?_) ht hknown hform]
    simp [isGctl]

/-! The packets of collective steps (R397 to R418). -/

section Neighbour

variable {t : State} {p : Bytes} (hlive : (t.group (pkGroup p)).state = gLive)

include hlive

/-- A child's packet is handled with the child heard (R403). -/
theorem State.fromNeighbour_child {j : Nat} (hchild : (t.group (pkGroup p)).childOf (pkRouter p) = some j)
    (f : State → Nat → Nat → Bytes → State) : t.fromNeighbour true f p =
      (f (t.updSlot (pkGroup p) j (fun e => { e with heard := t.nowTick })) (pkGroup p) j p).disposePkt p := by
  simp [State.fromNeighbour, hlive, hchild]

/-- A parent's packet is handled with the parent heard (R403). -/
theorem State.fromNeighbour_parent {l : Nat} (hparent : (t.group (pkGroup p)).parent = some (pkRouter p, l))
    (f : State → Nat → Nat → Bytes → State) : t.fromNeighbour false f p =
      (f (t.updGroup (pkGroup p) (fun x => { x with heard := t.nowTick })) (pkGroup p) 0 p).disposePkt p := by
  simp [State.fromNeighbour, hlive, hparent]

end Neighbour

/-- A packet of the next segment parts of a child's slot joins its step (R398 R399). -/
theorem State.takeUp_part {u : State} {g j k : Nat} {p : Bytes} (hk : k = nearest 8 (u.group g).doneNext (pkStep p))
    (hnew : (u.group g).doneNext ≤ k) (hheld : (match (u.group g).step k with
      | some st => !(st.partsOf j (pkSeg p)).isEmpty
      | none => false) ≠ decide (pkFirstElem p = 0)) :
    u.takeUp g j p = (u.updStep g k (fun e => { e with
      parts := e.parts ++ [{ slot := j, seg := pkSeg p, contrib := pkContrib p, first := pkFirstElem p, data := pkPayload p,
                             whole := pkLastPkt p, lastSeg := pkLastSeg p }] })).run g := by
  subst hk
  exact (if_neg (Nat.not_lt.mpr hnew)).trans (if_neg hheld)

/-- Settles O44: the packet is a neighbour's of a LIVE group, well formed, and its step is not over. -/
theorem collectiveReceiveCommandsComplete : Obligations.CollectiveReceiveCommandsComplete := by
  unfold Obligations.CollectiveReceiveCommandsComplete
  intro s t unit g p b hg hb hlive
  subst hg hb
  refine ⟨fun j u q ht hj hu hq hlen hvalid => ?_, fun j u k ht hj hu hk hop hnew hheld => ?_,
    fun l u k q ht hl hu hk hq hlen hnew => ?_, fun u q k i ht hr hu hk hq hlen hi => ?_, fun l ht hl hlen hdir => ?_,
    fun j ht hj hlen hdir => ?_, fun l u k ht hl hu hk hlen hnew hend => ?_, fun os rs r l ht hchild hlen hcause hl => ?_,
    fun os rs ht hchild hlen hcause hroot => ?_,
    fun os rs router lost w₁ w₂ ht hchild hlen hcause hroot hr hlost hw₁ hw₂ => ?_, fun l u ht hl hu hlen => ?_⟩
  · subst hu hq
    simp -implicitDefEqProofs only [exec, execStepOpenReceive, State.onStep]
    rw [State.onColl_taken ht, State.fromNeighbour_child hlive hj, if_neg (by simp [hlen, hvalid])]
  · subst hu
    have hrow : collReserved p = false := by simp [collReserved, hop]
    simp -implicitDefEqProofs only [exec, execUpReceive]
    rw [State.onColl_taken ht, if_pos (by simp [hrow]), State.fromNeighbour_child hlive hj, State.takeUp_part hk hnew hheld]
  · subst hu hk
    simp -implicitDefEqProofs only [exec, execDownReceive, State.onStep]
    rw [State.onColl_taken ht, State.fromNeighbour_parent hlive hl]
    simp [hq, hlen, Nat.not_lt.mpr hnew]
  · subst hu hk hi
    simp -implicitDefEqProofs only [exec, execDirectReceive]
    rw [State.onColl_taken ht, if_neg (by simp [hlive, hr])]
    simp [hq, hlen]
  · simp -implicitDefEqProofs only [exec, execCreditReceive]
    rw [State.onColl_taken ht]
    simp [hlive, hl, hlen, hdir]
  · simp -implicitDefEqProofs only [exec, execCreditReceive]
    rw [State.onColl_taken ht]
    simp [hlive, hj, hlen, hdir]
  · subst hu hk
    simp -implicitDefEqProofs only [exec, execDoneReceive, State.onStep]
    rw [State.onColl_taken ht, State.fromNeighbour_parent hlive hl]
    simp [hlen, Nat.not_lt.mpr hnew, hend]
  · simp -implicitDefEqProofs only [exec, execDepartReceive]
    rw [State.onColl_taken ht]
    simp [hlive, hchild, hlen, Nat.not_lt.mpr hcause, hl, State.passDepart, gLive, gRepairWait]
  · simp -implicitDefEqProofs only [exec, execDepartReceive]
    rw [State.onColl_taken ht]
    simp [hlive, hchild, hlen, Nat.lt_asymm hcause, hcause, hroot]
  · subst hr hlost hw₁ hw₂
    simp -implicitDefEqProofs only [exec, execDepartReceive]
    rw [State.onColl_taken ht]
    simp [hlive, hchild, hlen, hcause, hroot]
  · subst hu
    simp -implicitDefEqProofs only [exec, execEpochReceive, State.onStep]
    rw [State.onColl_taken ht, State.fromNeighbour_parent hlive hl, if_neg (by simp [hlen])]

/-- Settles O45: the member's turn has come, and of the waiting steps one is overdue. -/
theorem collectiveLocalCommandsComplete : Obligations.CollectiveLocalCommandsComplete := by
  unfold Obligations.CollectiveLocalCommandsComplete
  intro s g j hlive
  refine ⟨fun m q data u₀ u t n hturn hroom hexc hshaper hn hread hu ht => ?_,
    fun e st hj he hkind hst hopen hdone htakes hlate => ?_, fun r l st hj hl hst hopen hdone hlate => ?_⟩
  · subst hn hu ht
    simp -implicitDefEqProofs [exec, execLocalSegmentRead, hlive, hturn, Nat.not_le.mpr hroom, hexc, hshaper, hread]
  · subst he
    have hwaits : (s.group g).steps.any (fun e => e.isOpen && e.done.isNone && ((s.group g).slot j).takes e.k &&
        decide (max ((s.group g).slot j).heard e.started + s.hbTicks g ≤ s.nowTick)) = true :=
      List.any_eq_true.mpr ⟨st, hst, by rw [hopen, hdone, htakes, decide_eq_true hlate]; rfl⟩
    simp -implicitDefEqProofs only [exec, execCollHeartbeat]
    rw [if_neg (not_not_intro hlive), if_pos hj, if_pos ⟨hkind, hwaits⟩]
  · have hwaits : (s.group g).steps.any (fun e => e.isOpen && e.done.isNone && true &&
        decide (max (s.group g).heard e.started + s.hbTicks g ≤ s.nowTick)) = true :=
      List.any_eq_true.mpr ⟨st, hst, by rw [hopen, hdone, decide_eq_true hlate]; rfl⟩
    simp -implicitDefEqProofs only [exec, execCollHeartbeat]
    rw [if_neg (not_not_intro hlive), if_neg (Nat.not_lt.mpr hj), hl]
    exact if_pos hwaits

end Sys2Proof.Machine

/-! Host ports and VIs, the memory of the fabric, firmware, trigger counters, cleats and dumps (chapters 14 to 17, 19 and 21): each
command where its guard holds. -/

namespace Sys2Proof.Machine

/-! Host ports, VIs and their queues (R424 to R463, R537). -/

/-- Settles O46: the port is powered; a link that comes up differs from new settings by STAT and its event. -/
theorem hostPortCommandsComplete : Obligations.HostPortCommandsComplete := by
  unfold Obligations.HostPortCommandsComplete
  intro s port hp
  refine ⟨fun t ht => ?_, ?_, ?_, fun hup => ?_, fun cfg c cxl width rate stat feat ha hc hcxl hwidth hrate hstat hfeat =>
    ⟨fun hdown => ?_, fun hup => ?_⟩, ?_, fun fn base len => ?_⟩
  · subst ht
    simp -implicitDefEqProofs [exec, execPerst, hp]
  · simp -implicitDefEqProofs [exec, execPfFlr, hp]
  · simp -implicitDefEqProofs [exec, execVfEnableClear, hp]
  · simp -implicitDefEqProofs [exec, execHostLinkDown, hp, hup]
  · subst hc hcxl hwidth hrate hstat hfeat
    simp -implicitDefEqProofs [-Nat.reducePow, exec, execHostLinkUp, hp, ha, hdown]
  · subst hc hcxl hwidth hrate hstat hfeat
    simp -implicitDefEqProofs [-Nat.reducePow, exec, execHostLinkUp, hp, ha, hup]
  · simp -implicitDefEqProofs [exec, execCompletionTimeout, hp]
  · simp -implicitDefEqProofs [exec, execAtsInvalidate, hp]

/-- Settles O47: the VI is a host's, its port has power, and its state is its row's. -/
theorem viCommandsComplete : Obligations.ViCommandsComplete := by
  unfold Obligations.ViCommandsComplete
  intro s v hv
  refine ⟨fun hp hst => ⟨?_, ?_⟩, fun t hw hst hlink hvf hfn ht => ⟨fun hen => ?_, fun hen => ?_⟩, fun hw hst => ?_⟩
  · simp -implicitDefEqProofs [exec, execVfFlr, Nat.not_le.mpr hv, hp, hst]
  · simp -implicitDefEqProofs [exec, execVfBusMasterClear, Nat.not_le.mpr hv, hp, hst]
  · subst ht
    simp -implicitDefEqProofs [exec, execEnablingEnd, Nat.not_le.mpr hv, hw, hst, hlink, hvf, Nat.not_lt.mpr hfn, hen]
  · subst ht
    simp -implicitDefEqProofs [exec, execEnablingEnd, Nat.not_le.mpr hv, hw, hst, hlink, hvf, Nat.not_lt.mpr hfn, hen]
  · simp -implicitDefEqProofs [exec, execViStopEnd, Nat.not_le.mpr hv, hw, hst]

/-- A doorbell that reaches an ON VI outside the fatal state is counted, and then has its own meaning (R432 R447 R555). -/
theorem State.doorbell_taken {s t : State} {v q : Nat} (ht : t = s.bump (hostPg (viPort v) 0) 4 1) (hv : v < 4096) (hq : q < 64)
    (hw : s.works (hostPg (viPort v) 0) = true) (hon : t.viState v = viOn) (hfatal : t.fatal = false) (f : State → State) :
    s.doorbell v q f = f t := by
  subst ht
  rw [State.doorbell, if_neg (by simp [Nat.not_le.mpr hv, Nat.not_le.mpr hq, hw])]
  exact if_neg (by simp [hon, hfatal])

/-- Settles O48: the doorbell reaches its queue, and the fetch and the write have their turn. -/
theorem queueCommandsComplete : Obligations.QueueCommandsComplete := by
  unfold Obligations.QueueCommandsComplete
  intro s t v q ht
  refine ⟨fun w c hv hq hw hon hfatal hctl hc htail hhead => ?_, fun w c hv hq hw hon hfatal hctl hc herr hbad => ?_,
    fun w c hv hq hw hon hfatal hctl hc hhead => ?_, fun w hv hq hw hon hfatal hctl hbit => ⟨fun hint hsome => ?_, fun hnone => ?_⟩,
    fun port data left hp hfatal hturn hnext => ?_, fun w u hwait hw hwrite hu hlive => ?_⟩
  · subst hc
    simp -implicitDefEqProofs only [exec, execDbTail]
    rw [State.doorbell_taken ht hv hq hw hon hfatal, if_neg (by simp [hctl]), if_neg (by omega)]
  · subst hc
    simp -implicitDefEqProofs only [exec, execDbTail]
    rw [State.doorbell_taken ht hv hq hw hon hfatal, if_neg (by simp [hctl]), if_pos hbad, if_pos herr]
  · subst hc
    simp -implicitDefEqProofs only [exec, execDbHead]
    rw [State.doorbell_taken ht hv hq hw hon hfatal, if_neg (by simp [hctl]), if_neg (Nat.not_lt.mpr hhead)]
  · simp -implicitDefEqProofs only [exec, execDbArm]
    rw [State.doorbell_taken ht hv hq hw hon hfatal, if_neg (by simp [hctl, hbit]), if_pos (by simp [hint, hsome])]
  · simp -implicitDefEqProofs only [exec, execDbArm]
    rw [State.doorbell_taken ht hv hq hw hon hfatal, if_neg (by simp [hctl, hbit]), if_neg (by rcases hnone with h | h <;> simp [h])]
  · simp -implicitDefEqProofs [exec, execDescriptorFetch, hp, hfatal, hturn, hnext]
  · subst hu
    simp -implicitDefEqProofs [exec, execCompletionWrite, hwait, hw, hwrite, hlive]

/-! The memory of the fabric and firmware (R482 to R497, R608 to R611). -/

/-- Settles O49: the request is within the window or beyond it, and the port owes its snoop an answer that has been asked. -/
theorem fabricMemoryCommandsComplete : Obligations.FabricMemoryCommandsComplete := by
  unfold Obligations.FabricMemoryCommandsComplete
  intro s port line
  refine ⟨fun kind dpa data off hw hon hin hpois hoff hpool => ?_, fun kind dpa data hw hon hout => ?_,
    fun x hx howed hsent => ⟨fun u hu => ?_, fun data u hdata hu => ?_, fun k t u hk hlate ht hu => ?_⟩⟩
  · subst hoff
    simp -implicitDefEqProofs [-Nat.reducePow, exec, execCxlMemRequest, hw, hon, Nat.not_le.mpr hin, hpois, Nat.not_lt.mpr hpool]
  · simp -implicitDefEqProofs [-Nat.reducePow, exec, execCxlMemRequest, hw, hon, hout]
  · subst hu
    simp -implicitDefEqProofs only [exec, execBirsp, hx, howed, hsent]
    rfl
  · subst hu
    simp -implicitDefEqProofs only [exec, execBirsp, hx, howed, hsent, List.isEmpty_eq_false_iff.mpr hdata]
    rfl
  · subst hk ht hu
    simp -implicitDefEqProofs only [exec, execBirspTimeout, hx, howed, hsent, hlate]
    rfl

/-- Settles O51: the activation's verdict, the buddy's state and the count of bad engines decide each row's branch. -/
theorem firmwareCommandsComplete : Obligations.FirmwareCommandsComplete := by
  unfold Obligations.FirmwareCommandsComplete
  intro s kind c a
  refine ⟨fun ha hnew haux hmc => ⟨fun hbad => ?_, fun hgood hk => ?_, fun hgood hk => ?_⟩,
    fun ha hfatal hbegun hc hidle => ⟨fun hst => ?_, fun hst hbuddy hodd => ?_⟩,
    fun failed start bank told tested bad hr hfatal htested hbad => ⟨fun hsome => ?_, fun u hall hu => ?_⟩,
    fun start bank hr hlate => ?_, fun image len b i haux hrun hlen hb hi => ⟨_, if_neg (by simp [haux, hrun]), ?_⟩⟩
  · simp -implicitDefEqProofs [exec, execFwImageCheckEnd, ha, hnew, haux, hmc, hbad]
  · subst hk
    simp -implicitDefEqProofs [exec, execFwImageCheckEnd, ha, hnew, haux, hmc, hgood]
  · simp -implicitDefEqProofs [exec, execFwImageCheckEnd, ha, hnew, haux, hmc, hgood, hk]
  · simp -implicitDefEqProofs [exec, execClusterReload, ha, hfatal, hbegun, hc, hidle, hst]
  · simp -implicitDefEqProofs only [exec, execClusterReload, ha]
    rw [if_neg (by simp [hfatal, hbegun, hc, hidle]), if_neg (not_not_intro hst), if_neg]
    rintro (h | ⟨h, hany⟩)
    · exact h hbuddy
    · have heven := hodd h
      simp only [List.all_eq_true, List.any_eq_true, decide_eq_true_eq] at heven hany
      obtain ⟨d, hd, h⟩ := hany
      exact heven d hd h
  · subst htested hbad
    simp -implicitDefEqProofs only [exec, execClusterReloadComplete, hr]
    rw [if_neg (by simp [hfatal]), if_neg hsome]
  · subst htested hbad hu
    simp -implicitDefEqProofs only [exec, execClusterReloadComplete, hr]
    rw [if_neg (by simp [hfatal]), if_pos hall]
  · simp -implicitDefEqProofs [exec, execReloadTimeout, hr, Nat.not_lt.mpr hlate]
  · subst hi hb hlen
    simp only [State.bump_psto, State.bput_psto, State.put_psto]

/-! Trigger counters and chains (R498 to R515). -/

/-- A firing's next entry is not held back by its earlier ones (R506). -/
theorem State.entry_unhindered {s : State} {v : Nat} {c : Chain}
    (h : (s.vi v).descs.all (fun d => decide (d.firing ≠ some c.firing) || (!c.orderAll && d.begun)) = true) :
    ¬ (s.vi v).descs.any (fun d => decide (d.firing = some c.firing) && (c.orderAll || !d.begun)) = true := by
  rw [List.any_eq_true]
  rintro ⟨d, hd, hheld⟩
  obtain ⟨hmine, hheld⟩ := Bool.and_eq_true_iff.mp hheld
  have hfree := List.all_eq_true.mp h d hd
  simp only [ne_eq, of_decide_eq_true hmine, not_true_eq_false, decide_false, Bool.false_or, Bool.and_eq_true,
    Bool.not_eq_true'] at hfree
  simp [hfree] at hheld

/-- Settles O52: the counters and chains are changed as the descriptor begins, and an entry of a firing is well formed. -/
theorem triggerCommandsComplete : Obligations.TriggerCommandsComplete := by
  unfold Obligations.TriggerCommandsComplete
  intro s u v q slot d hu
  subst hu
  refine ⟨fun hd => ?_, fun hd => ?_, fun t hd hwrite => ?_, fun list t hd harm => ?_, fun hd hst haddr => ?_,
    fun c b e t w hv hon hfatal hc hst hserves hfree hb ht hcq hok hw => ?_,
    fun f t hf ht => ⟨fun hbad => ?_, fun c hok hdone => ?_⟩, fun c x r hp hx => ?_, fun e he hw => ⟨?_, fun hnone => ?_⟩⟩
  · simp -implicitDefEqProofs [exec, execCtrSet, hd, State.runDesc]
  · simp -implicitDefEqProofs [exec, execCtrAdd, hd, State.runDesc]
  · simp -implicitDefEqProofs [exec, execCtrRead, hd, State.runDesc, hwrite]
  · simp -implicitDefEqProofs [exec, execChainArm, hd, State.runDesc, harm]
  · simp -implicitDefEqProofs [exec, execChainDisarm, hd, State.runDesc, hst, haddr]
  · subst hc ht hw
    simp -implicitDefEqProofs only [exec, execChainEntryBegin]
    rw [if_neg (by simp [Nat.not_le.mpr hv, hon, hfatal, hst, hserves]), if_neg (State.entry_unhindered hfree), hb]
    simp -implicitDefEqProofs only [hcq, hok, if_true, State.fresh]
  · subst ht
    simp -implicitDefEqProofs only [exec, execChainFiringComplete, hf]
    rcases hbad with h | h
    · simp -implicitDefEqProofs only [h]
    · cases hok : f.ok
      · rfl
      · simp -implicitDefEqProofs only [h]
  · subst ht
    simp -implicitDefEqProofs only [exec, execChainFiringComplete, hf, hok, hdone]
  · simp -implicitDefEqProofs [exec, execTriggerCounterChange, hp, hx]
  · simp -implicitDefEqProofs [exec, execEngineWatchdog, Nat.not_le.mpr he, hw]
  · simp -implicitDefEqProofs [exec, execEngineWatchdog, Nat.not_le.mpr he, hw, State.watchdogStop, hnone]

/-! Cleats and the ends of a dump (R517 R521 R556 to R561). -/

theorem State.cleatWord_aligned {s : State} {o a k : Nat} (h : s.cleatWord o a = .cleat k) : a % 4 = 0 := by
  by_contra hodd
  simp [State.cleatWord, hodd] at h

/-- What a copy of a dump to host port h may do: it only writes host memory, within `room` bytes of its buffer at `addr`. -/
def State.CopiesTo (h addr room : Nat) (s t : State) : Prop :=
  t.regs = s.regs ∧ t.relia = s.relia ∧ ∃ outs, t.out = s.out ++ outs ∧
    ∀ x ∈ outs, ∃ at' b, x = Out.hostWrite h (addr + at') 0 b ∧ at' + b.length ≤ room

section CopiesTo

variable {h addr room : Nat} {s t u : State}

theorem State.CopiesTo.refl : State.CopiesTo h addr room s s := ⟨rfl, rfl, [], (List.append_nil _).symm, by simp⟩

theorem State.CopiesTo.trans (h₁ : State.CopiesTo h addr room s t) (h₂ : State.CopiesTo h addr room t u) :
    State.CopiesTo h addr room s u := by
  obtain ⟨hregs₁, hrelia₁, outs₁, hout₁, hin₁⟩ := h₁
  obtain ⟨hregs₂, hrelia₂, outs₂, hout₂, hin₂⟩ := h₂
  refine ⟨hregs₂.trans hregs₁, hrelia₂.trans hrelia₁, outs₁ ++ outs₂, by rw [hout₂, hout₁, List.append_assoc], fun x hx => ?_⟩
  rcases List.mem_append.mp hx with hx | hx
  · exact hin₁ x hx
  · exact hin₂ x hx

/-- A write is made where it fits. -/
theorem State.CopiesTo.write (at' : Nat) (b : Bytes) : State.CopiesTo h addr room s
    (if room < at' + b.length then s else s.emit (.hostWrite h (addr + at') 0 b)) := by
  split
  · exact .refl
  · next hfit => exact ⟨rfl, rfl, [_], rfl, fun x hx => ⟨at', b, List.mem_singleton.mp hx, Nat.not_lt.mp hfit⟩⟩

/-- Each section of a die is written where it fits. -/
theorem State.CopiesTo.copySecs (base : Nat) (l : List DumpSec) :
    State.CopiesTo h addr room s (s.copySecs h addr base room l).2 := by
  refine List.foldlRecOn (motive := fun a : List DumpSec × State => State.CopiesTo h addr room s a.2) l _ .refl fun a ha x _ => ?_
  split
  · exact ha
  · have hwrite := State.CopiesTo.write (h := h) (addr := addr) (room := room) (s := a.2) (base + x.off) x.data
    split
    · exact ha
    · next hfit =>
      rw [if_neg hfit, ← Nat.add_assoc] at hwrite
      exact ha.trans hwrite

end CopiesTo

/-- The copy of a finished dump to a port whose link is up (R561). -/
theorem exec_dumpHostCopyEnd {s : State} {d : DumpRun} (gap : Nat) (hd : s.relia.dump = some d) (hdone : d.done = true)
    (hup : s.bget (hostPg (s.fget (glbPg 5) 0x4C 23 20) 0) 0x44 31 = true) : ∃ t : State,
    exec (.dumpHostCopyEnd gap) s = .next (if d.live then t else t.bput (glbPg 5) 0x40 29 true) ∧
      State.CopiesTo (s.fget (glbPg 5) 0x4C 23 20) (s.get64 (glbPg 5) 0x50) (s.fget (glbPg 5) 0x58 15 0 * 2 ^ 20)
        { s with relia := { s.relia with dump := none } } t := by
  simp -implicitDefEqProofs only [exec, execDumpHostCopyEnd, hd]
  rw [if_neg (by simp [hdone])]
  have hopen : ¬ (!s.bget (hostPg (s.fget (glbPg 5) 0x4C 23 20) 0) 0x44 31) = true := by simp [hup]
  refine ⟨_, (if_neg hopen).trans rfl, ?_⟩
  exact (State.CopiesTo.copySecs _ _).trans ((State.CopiesTo.copySecs _ _).trans
    ((State.CopiesTo.write _ _).trans (State.CopiesTo.write _ _)))

/-- Settles O53: the word is a cleat's and its slot free or not; a copy of a dump writes within the buffer. -/
theorem cleatAndDumpCommandsComplete : Obligations.CleatAndDumpCommandsComplete := by
  unfold Obligations.CleatAndDumpCommandsComplete
  intro s p o a k ho
  subst ho
  refine ⟨fun hreach hword => ?_, fun hodd => ⟨if_pos hodd, fun w => if_pos hodd⟩, fun id x hx hlate => ?_, fun d holes hd hrun => ?_,
    fun d hd hrun hlate => ?_, fun d h gap hd hdone hh => ⟨fun hdown => ?_, fun hup => ?_⟩⟩
  · have halign := State.cleatWord_aligned hword
    refine ⟨fun t v hfree hread => ?_, fun t hfree hread => ?_, fun hfull => ?_, fun w => ?_⟩
    · simp -implicitDefEqProofs [exec, execCleatRead, halign, hreach, hword, State.cleatReadFrom, hfree, hread]
    · simp -implicitDefEqProofs [exec, execCleatRead, halign, hreach, hword, State.cleatReadFrom, hfree, hread]
    · simp -implicitDefEqProofs [exec, execCleatRead, halign, hreach, hword, State.cleatReadFrom, hfull]
    · simp -implicitDefEqProofs [exec, execCleatWrite, halign, hreach, hword, State.cleatWriteFrom]
  · simp -implicitDefEqProofs [exec, execCleatStallEnd, hx, hlate]
  · simp -implicitDefEqProofs [exec, execDumpComplete, hd, hrun]
  · simp -implicitDefEqProofs [exec, execDumpLimitExpiry, hd, hrun, Nat.not_lt.mpr hlate]
  · subst hh
    simp -implicitDefEqProofs only [exec, execDumpHostCopyEnd, hd]
    rw [if_neg (by simp [hdone])]
    have hclosed : (!s.bget (hostPg (s.fget (glbPg 5) 0x4C 23 20) 0) 0x44 31) = true := by simp [hdown]
    exact if_pos hclosed
  · subst hh
    obtain ⟨t, ht, hregs, hrelia, outs, hout, hin⟩ := exec_dumpHostCopyEnd gap hd hdone hup
    refine ⟨_, outs, ht, ?_, ?_, fun hlive hwf => ?_, hin⟩
    · rw [apply_ite State.relia, State.bput_relia, ite_self, hrelia]
    · rw [apply_ite State.out, State.bput_out, ite_self, hout]
    · rw [if_neg (by simp [hlive]), State.bget_bput (by rw [hregs]; exact hwf) (by decide)]

end Sys2Proof.Machine

/-! The Lanyard, service and detected errors, the critical commands (chapters 05, 19 and 21), and the registers that the commands on
pins, detectors and copies leave alone. -/

namespace Sys2Proof.Machine

/-! The Lanyard, service and detected errors (chapter 19, R594 to R606). -/

/-- A module whose pair state is SYNCING or PAIRED keeps a journal (R565). -/
theorem State.journals_of {s : State} (h : s.lanyState = laSyncing ∨ s.lanyState = laPaired) : s.journals = true :=
  decide_eq_true h

/-- Settles O54: the frame is the twin's, the twin's silence is long enough, and the share's turn has come. -/
theorem lanyardCommandsComplete : Obligations.LanyardCommandsComplete := by
  unfold Obligations.LanyardCommandsComplete
  intro s port
  refine ⟨fun f t ht htwin hfrozen => ?_, fun f t ht htwin => ?_, fun f t ht htwin hfatal hst => ?_, fun hst hlate => ?_,
    fun c hc hst hcov hlate => ?_, fun c ps m t hc hst hfatal hm hsome hlow hlate hlen ht => ?_⟩
  · simp -implicitDefEqProofs [exec, execJournalFrameReceive, ht, htwin, hfrozen]
  · simp -implicitDefEqProofs [exec, execSyncDoneReceive, ht, htwin]
  · simp -implicitDefEqProofs [exec, execTakeoverReceive, ht, htwin, hfatal, hst]
  · simp -implicitDefEqProofs [exec, execTwinLost, State.journals_of hst, hlate]
  · simp -implicitDefEqProofs [exec, execShareUncovered, hc, State.journals_of hst, hcov, hlate]
  · subst hm ht
    have hlower : s.lany.mirror.any (fun e => decide (e.1 < c) && !e.2.isEmpty) = false := by
      rw [List.any_eq_false]
      intro e he hbelow
      have hin := List.all_eq_true.mp hlow e he
      simp only [Bool.and_eq_true, Bool.or_eq_true, decide_eq_true_eq, Bool.not_eq_true'] at hbelow hin
      obtain ⟨hlt, hne⟩ := hbelow
      rcases hin with hle | hemp
      · omega
      · simp [hemp] at hne
    simp -implicitDefEqProofs only [exec, execContextAdoption]
    rw [if_neg]
    simp only [hlower]
    simp [Nat.not_le.mpr hc, hst, hfatal, hsome, hlate, hlen]

/-- Settles O55: the controller's state, the page's and the unit's meet each row's guard. -/
theorem serviceAndErrorCommandsComplete : Obligations.ServiceAndErrorCommandsComplete := by
  unfold Obligations.ServiceAndErrorCommandsComplete
  intro s
  refine ⟨fun ha hdue => ?_, fun ha hmc => ?_, fun ha hmc => ?_, fun page p hp hpow => ?_, fun hmain hst hdrained => ?_,
    fun page q p hq hp hpow hover htold => ?_, fun page p hp hpow => ?_, fun e c he hw => ?_, fun t e ht hw => ?_,
    fun k e hk hw => ?_, fun k row c hk hw => ?_, fun row hpow => ⟨?_, fun hfatal => ?_⟩, fun row c hmain => if_pos hmain,
    fun port row seq hp hr hw => ⟨?_, ?_⟩, fun port kind hp hw hk => ?_⟩
  · simp -implicitDefEqProofs [exec, execMcReset, ha, hdue]
  · simp -implicitDefEqProofs [exec, execMcWatchdog, ha, hmc]
  · simp -implicitDefEqProofs [exec, execMcResetComplete, ha, hmc]
  · simp -implicitDefEqProofs [exec, execServiceDrainComplete, hp, hpow]
  · simp -implicitDefEqProofs only [exec, execGlbDrainEnd]
    exact if_pos ⟨hmain, hst, .inl hdrained⟩
  · subst hp
    simp -implicitDefEqProofs only [exec, execDrainLimit, hq]
    exact if_pos ⟨hpow, hover, htold⟩
  · simp -implicitDefEqProofs [exec, execCfgParityError, hp, hpow]
  · simp -implicitDefEqProofs [exec, execEngineMemoryEccError, Nat.not_le.mpr he, hw]
  · simp -implicitDefEqProofs [exec, execBusLaneParityError, Nat.not_le.mpr ht, hw]
  · simp -implicitDefEqProofs [exec, execRingHopParityError, Nat.not_le.mpr hk, hw]
  · simp -implicitDefEqProofs [exec, execHbmEccError, Nat.not_le.mpr hk, hw]
  · simp -implicitDefEqProofs [exec, execRoutingUnitEccError, hpow]
  · simp -implicitDefEqProofs [exec, execRoutingUnitEccError, hpow, hfatal]
  · simp -implicitDefEqProofs [exec, execReplayBufferEccError, Nat.not_le.mpr hp, Nat.not_le.mpr hr, hw]
  · simp -implicitDefEqProofs [exec, execReplayBufferEccError, Nat.not_le.mpr hp, Nat.not_le.mpr hr, hw]
  · simp -implicitDefEqProofs only [exec, execPcieErrorDetected]
    rw [if_neg (by simp only [hw, hk, Nat.not_le.mpr hp]; simp)]

/-! Registers that the commands on pins, detectors and copies leave alone. -/

/-- A register that both outcomes of a choice leave alone. -/
theorem get_of_ite {c : Prop} [Decidable c] {a b t : State} {q : PageRef} {o n : Nat}
    (h : (if c then .next a else .next b : Host.Outcome State Fault Refusal) = .next t) (ha : a.get q o = n)
    (hb : b.get q o = n) : t.get q o = n := by
  split at h
  · exact Host.Outcome.next.inj h ▸ ha
  · exact Host.Outcome.next.inj h ▸ hb

section Registers

variable {s : State} {p q : PageRef} {o : Nat}

theorem State.get_raise_ne (hbit : p.addr + 0x10 ≠ q.addr + o) (hcount : p.addr + 0x1C ≠ q.addr + o) (b : Nat) :
    (s.raise p b).get q o = s.get q o := by
  rw [State.get_congr (State.raise_regs s p b), State.satAdd, State.get_fput_ne hcount, State.get_bput_ne hbit]

theorem State.get_setPwr_ne (h : (mgmtPg 3).addr + 0x40 ≠ q.addr + o) (b : Nat) (v : Bool) :
    (s.setPwr b v).get q o = s.get q o := State.get_bput_ne h b v

theorem State.setShadow_regs (s : State) (off : Nat) (w : Word) : (s.setShadow off w).regs = s.regs := by
  unfold State.setShadow
  split
  · rfl
  · rfl

end Registers

/-- Settles O60: every write of these commands is to a register named, and the rest of what they do is outside the registers. -/
theorem pinCommandsTouchNamedRegisters : Obligations.PinCommandsTouchNamedRegisters := by
  unfold Obligations.PinCommandsTouchNamedRegisters
  intro s t port lane x q o b
  refine ⟨fun h hq => ?_, fun h => ?_, fun h => ?_, fun h hq hg => ?_, fun h hq => ?_, fun h hctl hstat => ?_,
    fun v h hbit hcount => ?_⟩
  · have hset (r : State) (i : Nat) (v : Bool) : (r.setPwr i v).get q o = r.get q o := State.get_setPwr_ne hq.symm i v
    rcases h with h | h | h | h | h
    · refine get_of_ite h ?_ rfl
      split
      · exact hset ..
      · rfl
    · exact get_of_ite h (hset ..) rfl
    · exact get_of_ite h (hset ..) rfl
    · exact get_of_ite h (hset ..) rfl
    · exact get_of_ite h (hset ..) rfl
  · rcases h with h | h | h | h
    · exact Host.Outcome.next.inj h ▸ rfl
    · simp -implicitDefEqProofs only [exec, execRouteReplicaReload, true_or, if_true] at h
      exact get_of_ite h rfl rfl
    · exact get_of_ite h rfl rfl
    · exact get_of_ite h rfl rfl
  · simp -implicitDefEqProofs only [exec, execWeightsInForce] at h
    split at h
    · exact get_of_ite h rfl rfl
    · exact Host.Outcome.next.inj h ▸ rfl
  · refine get_of_ite h ?_ rfl
    exact (State.get_fput_ne hg.symm ..).trans (State.get_setPwr_ne hq.symm ..)
  · rcases h with h | h
    · exact get_of_ite h (State.get_bput_ne hq.symm ..) rfl
    · exact get_of_ite h ((State.get_bput_ne hq.symm ..).trans rfl) rfl
  · refine get_of_ite h ?_ rfl
    exact (State.get_bput_ne hctl.symm ..).trans (State.get_bput_ne hstat.symm ..)
  · have hraise (i : Nat) : (s.raise routePg i).get q o = s.get q o := State.get_raise_ne hbit.symm hcount.symm i
    simp -implicitDefEqProofs only [exec, execRouteTableWindowWrite] at h
    split at h
    · exact Host.Outcome.next.inj h ▸ rfl
    split at h
    · exact Host.Outcome.next.inj h ▸ hraise 0
    split at h
    · exact Host.Outcome.next.inj h ▸ hraise 1
    split at h
    · exact Host.Outcome.next.inj h ▸ hraise 23
    exact get_of_ite h rfl (State.get_congr (State.setShadow_regs ..) q o)

/-! What the critical commands' effects leave alone. -/

theorem State.raise_lany (s : State) (p : PageRef) (b : Nat) : (s.raise p b).lany = s.lany := by
  simp -implicitDefEqProofs only [State.raise, apply_ite State.lany, State.event_lany, State.satAdd_lany, State.bput_lany, ite_self]

theorem State.sendLany_lany (s : State) (sub arg : Nat) (body : Bytes) : (s.sendLany sub arg body).lany = s.lany := by
  unfold State.sendLany
  split
  · rfl
  · rfl

theorem State.setViState_vis (s : State) (v st : Nat) : (s.setViState v st).vis = s.vis := by
  simp -implicitDefEqProofs only [State.setViState, State.record3, State.record, State.mirrorOut, State.keepRec]
  split
  · rfl
  · split
    · rfl
    · rfl

/-- Settles O27: no check of the command refuses it, and what it writes afterwards leaves its own setting alone. -/
theorem criticalCommandsTakeEffect : Obligations.CriticalCommandsTakeEffect := by
  unfold Obligations.CriticalCommandsTakeEffect
  intro s f
  refine ⟨fun c hempty => if_pos hempty, fun c hkey => if_neg hkey, fun hcommit hcopy hcid himm hcheck => ?_,
    fun p u hp hnamed hclu hu hok => ?_, fun v hv hnone hwin hquota hwf => ?_, fun hvi hdest => ?_,
    fun kind hk hkind hbank hobj hidle path => ?_, fun h q hh hq => ?_, rfl, fun hser hst => ?_,
    fun k c hk hidle hrun herase hrole hzero hc => ?_, fun c hf hempty => ?_, fun t st hw => ?_, fun p hp => ?_, fun p hp => ?_,
    fun hbusy hdump => ?_⟩
  · rw [State.doRouteCommit, if_neg (by simp [hcommit, hcopy]), if_neg hcid]
    simp -implicitDefEqProofs only [himm, hcheck, ne_eq, not_true_eq_false, Bool.false_and, Bool.false_eq_true, if_false,
      State.nowTick, State.put_tick, State.fput_tick, State.bput_tick]
    exact ⟨trivial, trivial, _, _, rfl⟩
  · subst hu
    simp -implicitDefEqProofs [State.doSvcState, hp, hnamed, hclu, hok]
  · subst hv
    rw [State.doViCreate, if_neg (not_not_intro hnone), if_neg (by simp [hwin, hquota])]
    refine ⟨rfl, ?_⟩
    simp -implicitDefEqProofs only [State.chg_vis, State.setViState_vis, State.updVi, State.put_vis, State.resetRegs_vis, Tab.upd]
    rw [tab_get_set hwf]
    rfl
  · simp -implicitDefEqProofs [State.doViDestroy, hvi, hdest]
  · subst hk
    rw [State.doFwActivate, if_neg, if_neg (by simp [hidle])]
    · exact ⟨rfl, tab_get_set_listed (d := fun _ => none) (Option.some_ne_none _) s.fw.act⟩
    · rintro (⟨h1, h2⟩ | h | ⟨h2, hbad⟩)
      · exact hkind.elim h1 h2
      · exact absurd hbank (Nat.not_le.mpr h)
      · exact hbad (hobj h2)
  · simp -implicitDefEqProofs [State.doCleatRelease, hh, hq]
  · have hmay : ¬ (s.lanyState = laUnpaired ∨ s.lanyState = laTaken ∨ (s.lanyState = laSyncing ∧ s.lany.syncDone = false)) := by
      rcases hst with h | h <;> simp [h, laUnpaired, laTaken, laSyncing, laPaired, laLost]
    rw [State.doFailover, if_neg (not_not_intro hser), if_neg hmay]
    simp -implicitDefEqProofs only [State.event_lany, State.raise_lany, State.fput_lany, State.sendLany_lany]
    exact ⟨trivial, trivial, trivial⟩
  · subst hk hc
    have hpar : ¬ (12 < zp f 6 1 ∨ (oInst (zObj f) = 0 ∧ (zp f 4 2 ≠ 0 ∨ zp f 6 1 ≠ 1))) := by omega
    rw [State.doKeyUpdate, if_neg (by simp [hidle]), if_neg (by simp [herase]), if_neg (by simp [hpar])]
    simp -implicitDefEqProofs only [hrun, if_true, State.chg_psto, State.bput_psto, State.fput_psto, herase, decide_false]
    exact ⟨trivial, tab_get_set_listed (d := fun _ => none) (Option.some_ne_none _) s.psto.keyPend⟩
  · subst hf
    simp -implicitDefEqProofs [State.zLoad, hempty]
  · simp -implicitDefEqProofs only [State.doTickElect, hw]
  · simp -implicitDefEqProofs [State.doOwnerChange, hp]
  · simp -implicitDefEqProofs only [State.doRegWriteKeyed, hp]
  · simp -implicitDefEqProofs [State.doDumpTrigger, hbusy, hdump]

end Sys2Proof.Machine
